-- ==== Sys2Proof/Word.lean ====
section
/-! DEFINITION. The word types of the register space. -/
namespace Sys2Proof

/-- A 32-bit register word (00_scope.md R7, R9). -/
abbrev Word := BitVec 32
abbrev Byte := BitVec 8

end Sys2Proof
end

