-- ==== Sys2Proof/Syntax.lean ====
section
/-! DEFINITION. The commands of spec/opcode_table.json, one constructor per row, and the plain data they carry. -/
namespace Sys2Proof

/-- The initiator of a register access (02_pages_and_gazetteer.md R46). An access of the test port counts as one of
the QSPI host (log entry 10). -/
inductive Ini where
  | qspi
  | ring (addr : Nat)
  deriving DecidableEq, Repr

/-- One reading of a modulator, in metering codes of its channel before any correction (R242); ovl: the modulator was
overloaded during the output period, and neg that the excursion was below the range (R229). -/
structure Samp where
  raw : Int
  ovl : Bool
  neg : Bool := false
  deriving DecidableEq, Repr

/-- The readings of one local slot: class 0 (current) and class 1 (VOUT), and the raw levels of its SHORT_MID and SHORT_VOUT
comparators at that moment (03_slot_hardware.md R84). -/
structure SlotSamp where
  slot : Nat
  i : Samp
  v : Samp
  shMid : Bool := false
  shVout : Bool := false
  deriving DecidableEq, Repr

/-- The readings of one die at a control sample or a frame boundary. -/
structure DieSamp where
  die : Nat
  bus : Samp
  slots : List SlotSamp
  deriving DecidableEq, Repr

/-- The five kinds of terrace message (07_terraces.md R185, codes of R206). -/
inductive MsgKind where
  | restrain | cleared | lockout | release | upstreamOpen
  deriving DecidableEq, Repr

/-- A terrace message (R186). -/
structure Msg where
  kind : MsgKind
  srcAddr : Nat
  srcSlot : Nat
  srcLevel : Nat
  tgtAddr : Nat
  tgtSlot : Nat
  incident : Nat
  hops : Nat
  deriving DecidableEq, Repr

/-- The three trigger sources (08_belvedere_conversion.md R219). -/
inductive TrigSrc where
  | meridian | trig | software
  deriving DecidableEq, Repr

/-- What one slot showed when it is re-adopted (15_reset_states_modes.md R438): the card pin, and the third and fourth
control samples. -/
structure AdoptIn where
  slot : Nat
  present : Bool
  enh : Bool
  bus3 : Samp
  s3 : SlotSamp
  bus4 : Samp
  s4 : SlotSamp
  deriving DecidableEq, Repr

/-- The kind of a normal frame (11_ceane_ring.md R321). -/
inductive FType where
  | read | write | response | stream | event | enumerate | gap | time
  deriving DecidableEq, Repr

/-- What a receiver took off its lane for one item (11_ceane_ring.md R318): the running disparity before the first code group, true
for positive, and the 10-bit code groups, bits abcdei fghj with a the most significant. -/
structure Line where
  pos : Bool := false
  groups : List Nat
  deriving DecidableEq, Repr

/-- A normal frame (R320, R321): the header fields and the payload bytes. -/
structure Frame where
  ftype : FType
  bcast : Bool := false
  wrap : Bool := false
  lseq : Nat := 0
  dest : Nat := 0
  src : Nat := 0
  tag : Nat := 0
  epoch : Nat := 0
  ttl : Nat := 255
  addr : Nat := 0
  code : Nat := 0
  len : Nat := 0
  xseq : Nat := 0
  payload : List Nat := []
  deriving DecidableEq, Repr

/-- A route beyond the part's own link (11_ceane_ring.md R329): the pair on which it leaves, the weights of the links after the first,
the junction crossings, and whether the primary way crosses a failed link, so that an urgent frame takes the other (R331). -/
structure Route where
  pair : Nat := 0
  links : List Nat := []
  cross : Nat := 0
  failed : Bool := false
  deriving DecidableEq, Repr

/-- The routes of the part by system address; an address not listed has none. The part learns them from outside (log entry 11). -/
abbrev Routes := List (Nat × Route)

/-- The accesses of a command to pages of follower dies that get no Trellis response in time (02_pages_and_gazetteer.md R33): the
word address, and, for a write, whether it took effect at the follower die all the same. -/
abbrev Late := List (Nat × Bool)

/-- The commands of the block: one constructor per row of spec/opcode_table.json, in the table's order. An operand named ini is the initiator of a write; slot is a package slot, d a die, p a ring port (0 A, 1 B, 2 C, 3 D), pair 0 for RINGAB and 1 for RINGCD. -/
inductive Instr where
  /-- SUPPLY_LOSS, R430. -/
  | supplyLoss
  /-- POR_DELAY_EXPIRY, R430. -/
  | porDelayExpiry
  /-- BOOT_COMPLETE, R432. -/
  | bootComplete (dies : Nat) (refA refB strap : Bool) (grat : List (List Nat))
  /-- BOOT_RETRY, R433. -/
  | bootRetry (dies : Nat) (refA refB : Bool)
  /-- RESET_N_LOW, R434. -/
  | resetNLow
  /-- SOFTWARE_WARM_RESET, R434. -/
  | softwareWarmReset (ini : Ini)
  /-- WATCHDOG_EXPIRY, R434. -/
  | watchdogExpiry (d : Nat)
  /-- WARM_RETURN, R439. -/
  | warmReturn (grat : List (List Nat)) (ad : List AdoptIn)
  /-- TRELLIS_SILENCE, R440. -/
  | trellisSilence (d : Nat)
  /-- DIE_REJOIN_ATTEMPT, R440. -/
  | dieRejoinAttempt (d : Nat) (ok : Bool) (ad : List AdoptIn)
  /-- OFF_N_FALL, R442. -/
  | offNFall
  /-- OFF_N_RISE, R136. -/
  | offNRise
  /-- THERMAL_SHUTDOWN, R171. -/
  | thermalShutdown (d sensors : Nat)
  /-- THERMAL_RESTART, R172. -/
  | thermalRestart (d : Nat) (grat : List Nat)
  /-- REFCLK_LOSS, R26. -/
  | refclkLoss (b : Bool)
  /-- REFCLK_RETURN, R28. -/
  | refclkReturn (b : Bool)
  /-- RETURN_A, R27. -/
  | returnA (ini : Ini)
  /-- REGISTER_WRITE, R14. -/
  | registerWrite (ini : Ini) (addr : Nat) (v : Word) (late : Late := [])
  /-- PAGE_LOCK_WRITE, R45. -/
  | pageLockWrite (ini : Ini) (page : Nat) (v : Word) (start : Nat)
  /-- AUTO_RELOCK, R47. -/
  | autoRelock (page : Nat)
  /-- RELOCK, R38. -/
  | relock (ini : Ini) (page : Nat)
  /-- SOFT_RESET, R39. -/
  | softReset (ini : Ini) (page : Nat)
  /-- SOFT_RESET_DONE, R39. -/
  | softResetDone (page : Nat)
  /-- EVT_STAT_CLEAR, R42. -/
  | evtStatClear (ini : Ini) (page : Nat) (mask hw : Word)
  /-- EVT_FORCE, R44. -/
  | evtForce (ini : Ini) (page : Nat) (mask : Word)
  /-- EVT_COUNT_WRITE, R43. -/
  | evtCountWrite (ini : Ini) (page : Nat) (hw : Word)
  /-- SHADOW_LO_READ, R49. -/
  | shadowLoRead (ini : Ini) (addr : Nat)
  /-- RS_READ, R49. -/
  | rsRead (ini : Ini) (addr : Nat)
  /-- WIDE_LO_WRITE, R51. -/
  | wideLoWrite (ini : Ini) (addr : Nat) (v : Word)
  /-- WIDE_HI_WRITE, R51. -/
  | wideHiWrite (ini : Ini) (addr : Nat) (v : Word)
  /-- PUMP_FAILOVER, R390. -/
  | pumpFailover (d : Nat)
  /-- PUMP_RESTART_DONE, R78. -/
  | pumpRestartDone (d : Nat)
  /-- SPARE_PUMP_EXERCISE, R445. -/
  | sparePumpExercise (d : Nat) (fell : Bool)
  /-- RAW_OUTPUT_RISE, R188. -/
  | rawOutputRise (slot copy : Nat)
  /-- RAW_OUTPUT_FALL, R189. -/
  | rawOutputFall (slot copy : Nat) (lone : Bool)
  /-- FAST_TRIP, R126. -/
  | fastTrip (slot copies : Nat)
  /-- INSTANT_TRIP, R126. -/
  | instantTrip (slot copies : Nat)
  /-- TRIP_CAUSE_SETTLE, R126. -/
  | tripCauseSettle (slot : Nat)
  /-- LIMIT_ENTER, R86. -/
  | limitEnter (slot : Nat)
  /-- FAULT_TIMER_RESET, R87. -/
  | faultTimerReset (slot : Nat)
  /-- LIMIT_TIMER_EXPIRY, R87. -/
  | limitTimerExpiry (slot : Nat)
  /-- REVERSE_BLOCK, R88. -/
  | reverseBlock (slot : Nat)
  /-- REVERSE_BLOCK_CLEAR, R88. -/
  | reverseBlockClear (slot : Nat)
  /-- PULLDOWN_RELEASE, R96. -/
  | pulldownRelease (slot : Nat) (gateB : Bool)
  /-- SLOT_ENABLE, R99. -/
  | slotEnable (ini : Ini) (slot : Nat)
  /-- SLOT_DISABLE, R99. -/
  | slotDisable (ini : Ini) (slot : Nat)
  /-- STOP, R115. -/
  | stop (ini : Ini) (slot : Nat)
  /-- STOP_NOW, R99. -/
  | stopNow (ini : Ini) (slot : Nat)
  /-- GO, R119. -/
  | go (ini : Ini) (slot : Nat)
  /-- TRIP, R137. -/
  | trip (ini : Ini) (slot : Nat)
  /-- CLEAR, R137. -/
  | clear (ini : Ini) (slot : Nat)
  /-- RESET_COUNT, R137. -/
  | resetCount (ini : Ini) (slot : Nat)
  /-- EWARN_LEAD_EXPIRY, R115. -/
  | ewarnLeadExpiry (slot : Nat)
  /-- CARD_SEATED, R101. edge: PRES_N goes low, which begins the count; without it, the count has run out. -/
  | cardSeated (slot : Nat) (edge : Bool := false)
  /-- CARD_REMOVAL, R101. edge: PRES_N goes high, which begins the count; without it, the count has run out. -/
  | cardRemoval (slot : Nat) (edge : Bool := false)
  /-- PRECHECK_1_PASS, R102. -/
  | precheck1Pass (slot : Nat)
  /-- SHORT_VERDICT, R103. -/
  | shortVerdict (slot : Nat)
  /-- PRECHECK_2_PASS, R104. -/
  | precheck2Pass (slot : Nat)
  /-- PASS_ELEMENT_A_SHORT, R106. -/
  | passElementAShort (slot : Nat)
  /-- SPARE_GATE_TIMEOUT, R104. -/
  | spareGateTimeout (slot : Nat)
  /-- SPARE_ENH_DONE, R143. -/
  | spareEnhDone (slot : Nat)
  /-- CHARGING_START, R107. -/
  | chargingStart (slot : Nat)
  /-- LEARNING_WINDOW_END, R110. -/
  | learningWindowEnd (slot : Nat)
  /-- INSERTION_PAUSE, R111. -/
  | insertionPause (slot : Nat)
  /-- INSERT_TIMEOUT, R111. -/
  | insertTimeout (slot : Nat)
  /-- HANDOVER_TIMEOUT, R111. -/
  | handoverTimeout (slot : Nat)
  /-- INSERTION_DONE, R112. -/
  | insertionDone (slot : Nat)
  /-- PG_RELEASE, R113. -/
  | pgRelease (slot : Nat)
  /-- EWARN_BUS_END, R116. -/
  | ewarnBusEnd (d : Nat)
  /-- CONTROL_SAMPLE, R213. -/
  | controlSample (r : DieSamp)
  /-- TOC_CFG_WRITE, R130. -/
  | tocCfgWrite (ini : Ini) (slot : Nat) (v : Word)
  /-- TOC_PT_WRITE, R130. -/
  | tocPtWrite (ini : Ini) (slot i : Nat) (v : Word)
  /-- STUCK_CURRENT_VERDICT, R134. -/
  | stuckCurrentVerdict (slot : Nat)
  /-- TRIP_DWELL_END, R138. -/
  | tripDwellEnd (slot : Nat)
  /-- COOLDOWN_EXPIRY, R139. -/
  | cooldownExpiry (slot : Nat)
  /-- STABLE_TIME_EXPIRY, R141. -/
  | stableTimeExpiry (slot : Nat)
  /-- REMEMBER_EXPIRY, R142. -/
  | rememberExpiry (slot : Nat)
  /-- SNAPSHOT_COMPLETE, R147. -/
  | snapshotComplete (d buf : Nat)
  /-- SNAPSHOT_SAVED, R424. -/
  | snapshotSaved (d buf : Nat)
  /-- THERMAL_MODEL_UPDATE, R159. -/
  | thermalModelUpdate (d : Nat)
  /-- TFET_STALE, R165. -/
  | tfetStale (slot : Nat)
  /-- GRAT_READMIT, R169. -/
  | gratReadmit (ini : Ini) (d mask : Nat)
  /-- SURVEY_STEP_END, R227. -/
  | surveyStepEnd (d : Nat) (r : Samp)
  /-- SURVEY_SCAN_END, R226. -/
  | surveyScanEnd (d arbA arbB : Nat)
  /-- RESTRAIN_RECEIVE, R190. -/
  | restrainReceive (m : Msg)
  /-- CLEARED_RECEIVE, R190. -/
  | clearedReceive (m : Msg)
  /-- LOCKOUT_RECEIVE, R143. -/
  | lockoutReceive (m : Msg)
  /-- RELEASE_RECEIVE, R143. -/
  | releaseReceive (m : Msg)
  /-- UPSTREAM_OPEN_RECEIVE, R135. -/
  | upstreamOpenReceive (m : Msg)
  /-- MESSAGE_COPY_REPEAT, R185. -/
  | messageCopyRepeat (slot : Nat)
  /-- WAIT_EXPIRY, R191. -/
  | waitExpiry (slot : Nat)
  /-- HOLD_EXPIRY, R191. -/
  | holdExpiry (slot : Nat)
  /-- ENTRY_STALE, R190. -/
  | entryStale (slot srcAddr srcSlot : Nat)
  /-- TERR_DISABLE, R202. -/
  | terrDisable (ini : Ini)
  /-- FRAME_BOUNDARY, R216. -/
  | frameBoundary (rs : List DieSamp)
  /-- TRIG_PULSE, R220. -/
  | trigPulse (low : Bool) (width : Nat)
  /-- SOFTWARE_TRIGGER, R219. -/
  | softwareTrigger (ini : Ini)
  /-- TRIGGER_DELAY_END, R221. -/
  | triggerDelayEnd (src : TrigSrc)
  /-- OPEN_WIRE_START, R232. -/
  | openWireStart (ini : Ini) (d : Nat) (v : Word)
  /-- OPEN_WIRE_DONE, R234. -/
  | openWireDone (d : Nat)
  /-- QUEUE_POP, R252. -/
  | queuePop (ini : Ini)
  /-- QUEUE_PEEK, R253. -/
  | queuePeek (ini : Ini)
  /-- STREAM_FLUSH_TIMEOUT, R255. -/
  | streamFlushTimeout
  /-- STREAM_RECEIVE, R256. -/
  | streamReceive (src seq : Nat) (entries : List (BitVec 64))
  /-- ENERGY_CLEAR, R261. -/
  | energyClear (ini : Ini) (slot : Nat)
  /-- FULL_CALIBRATION, R264. -/
  | fullCalibration (ini : Ini) (d : Nat)
  /-- FULL_CALIBRATION_DONE, R264. -/
  | fullCalibrationDone (d : Nat) (pairs : List (Int × Int))
  /-- ROLL_ONCE, R266. -/
  | rollOnce (ini : Ini) (d : Nat)
  /-- ROLLING_STEP_START, R265. -/
  | rollingStepStart (d : Nat)
  /-- ROLLING_PARALLEL_END, R265. -/
  | rollingParallelEnd (d : Nat)
  /-- SELF_CAL_DONE, R263. -/
  | selfCalDone (d : Nat) (zs fs : Int)
  /-- LOOP_PERIOD, R278. -/
  | loopPeriod (d : Nat) (errs : List (Nat × Nat × Nat))
  /-- DAC_WRITE, R287. -/
  | dacWrite (d ctx : Nat)
  /-- FB_LOST, R292. -/
  | fbLost (slot : Nat)
  /-- COMMIT, R294. -/
  | commit (ini : Ini) (d ctx : Nat) (errs : List (Nat × Nat) := [])
  /-- CLR_CNT, R310. -/
  | clrCnt (ini : Ini) (d ctx : Nat)
  /-- CLR_MAX, R279. -/
  | clrMax (ini : Ini) (d : Nat)
  /-- PARITY_SCAN, R297. -/
  | parityScan (d : Nat) (errs : List (Nat × Nat × Nat))
  /-- LANE_REQUEST_DONE, R298. -/
  | laneRequestDone (d : Nat)
  /-- TEST_ARM, R302. -/
  | testArm (ini : Ini) (d : Nat)
  /-- TEST_STOP, R302. -/
  | testStop (ini : Ini) (d : Nat)
  /-- TEST_DELAY_END, R302. -/
  | testDelayEnd (d : Nat)
  /-- TEST_END, R302. -/
  | testEnd (d : Nat)
  /-- CAP_ARM, R304. -/
  | capArm (ini : Ini) (d : Nat)
  /-- CAP_FORCE, R304. -/
  | capForce (ini : Ini) (d : Nat)
  /-- CAP_ABORT, R304. -/
  | capAbort (ini : Ini) (d : Nat)
  /-- CAP_DONE, R304. -/
  | capDone (d : Nat)
  /-- LINK_ALIGN, R328. -/
  | linkAlign (p : Nat)
  /-- LINK_UP, R328. -/
  | linkUp (p : Nat) (routes : Routes)
  /-- LINK_RELOCK, R328. -/
  | linkRelock (p : Nat) (routes : Routes)
  /-- LINK_FAILED, R328. -/
  | linkFailed (p cause : Nat) (routes : Routes)
  /-- LINK_RETRY, R328. -/
  | linkRetry (p : Nat)
  /-- NORMAL_FRAME_RECEIVE, R322. routes: those that hold once the frame tells of a wrap elsewhere (R330). -/
  | normalFrameReceive (p : Nat) (rx : Line) (routes : Option Routes := none)
  /-- URGENT_FRAME_RECEIVE, R325. -/
  | urgentFrameReceive (p : Nat) (rx : Line)
  /-- ACK_RECEIVE, R326. -/
  | ackReceive (p : Nat) (rx : Line)
  /-- NAK_RECEIVE, R327. -/
  | nakReceive (p : Nat) (rx : Line)
  /-- RESYNC_RECEIVE, R331. -/
  | resyncReceive (p : Nat) (rx : Line)
  /-- REPLAY_TIMEOUT, R327. -/
  | replayTimeout (p : Nat)
  /-- CLAIM_RECEIVE, R332. ttl: the frame's TTL, as in the rows after it. -/
  | claimReceive (p pri uid src : Nat) (ttl : Nat := 255)
  /-- COUNT_RECEIVE, R333. -/
  | countReceive (p pos : Nat) (ttl : Nat := 255)
  /-- JOIN_REQ_RECEIVE, R333. -/
  | joinReqReceive (p uid pos : Nat) (req : Option Nat) (pin : Bool) (ttl : Nat := 255)
  /-- ASSIGN_RECEIVE, R333. -/
  | assignReceive (p uid node ring : Nat) (refuse : Option Nat) (routes : Routes) (ttl : Nat := 255)
  /-- GAP_SEND, R334. -/
  | gapSend (pair : Nat)
  /-- GAP_RECEIVE, R334. -/
  | gapReceive (p members collect window keeper : Nat) (ttl : Nat := 255) (xseq : Nat := 0)
  /-- GAP_WINDOW_START, R334. -/
  | gapWindowStart (pair : Nat) (routes : Routes)
  /-- GAP_LOST, R335. -/
  | gapLost (pair : Nat)
  /-- JOIN, R341. -/
  | join (ini : Ini) (pair : Nat)
  /-- LEAVE, R343. -/
  | leave (ini : Ini) (pair : Nat)
  /-- LEAVE_DRAIN_DONE, R343. -/
  | leaveDrainDone (pair : Nat)
  /-- ISSUE, R344. -/
  | issue (ini : Ini) (v : Word)
  /-- CPL_POP, R345. -/
  | cplPop (ini : Ini)
  /-- XACT_TIMEOUT, R346. -/
  | xactTimeout (tag : Nat)
  /-- TMO_CFG_WRITE, R346. -/
  | tmoCfgWrite (ini : Ini) (v : Word)
  /-- REQUEST_SERVE, R347. -/
  | requestServe (late : Late := [])
  /-- BUSY_RESEND, R347. -/
  | busyResend (tag : Nat)
  /-- PPS_IN_EDGE, R363. -/
  | ppsInEdge (falling : Bool) (c : Nat)
  /-- PPS_IN_LOST, R363. -/
  | ppsInLost
  /-- TOD_COMMIT, R363. -/
  | todCommit (ini : Ini) (v : Word)
  /-- TIME_PROBE_SEND, R364. -/
  | timeProbeSend (p t1 : Nat)
  /-- PROBE_RECEIVE, R364. -/
  | probeReceive (p t1 t2 t3 steps state quality : Nat) (ok : Bool)
  /-- ECHO_RECEIVE, R364. -/
  | echoReceive (p t1 t2 t3 t4 steps state quality : Nat) (ok : Bool) (routes : Routes)
  /-- TAPPED_PROBE, R366. -/
  | tappedProbe (p t1 t2 steps state quality : Nat) (ok : Bool)
  /-- TIME_SOURCE_LOST, R369. -/
  | timeSourceLost
  /-- ARM, R371. -/
  | arm (ini : Ini)
  /-- DISARM, R371. -/
  | disarm (ini : Ini)
  /-- REACQUIRE, R369. -/
  | reacquire (ini : Ini)
  /-- TRAIN, R368. -/
  | train (ini : Ini)
  /-- TMR_CFG_WRITE, R375. -/
  | tmrCfgWrite (ini : Ini) (n : Nat) (v : Word)
  /-- TIMER_FIRE, R375. -/
  | timerFire (n : Nat)
  /-- PPS_OUT_PULSE, R376. -/
  | ppsOutPulse
  /-- HOST_PROBE, R377. -/
  | hostProbe (ini : Ini) (v : Word) (t1 : Nat)
  /-- HOST_PROBE_RECEIVE, R377. -/
  | hostProbeReceive (p t2 id src : Nat) (ok : Bool)
  /-- TXS_POP, R377. -/
  | txsPop (ini : Ini)
  /-- APPROVE, R385. -/
  | approve (ini : Ini) (v : Word)
  /-- DECLINE, R385. -/
  | decline (ini : Ini) (v : Word)
  /-- RESTORE_ROLE, R386. -/
  | restoreRole (ini : Ini) (v : Word)
  /-- READMIT_CMP, R387. -/
  | readmitCmp (ini : Ini) (v : Word)
  /-- MOVE_LEAD, R392. -/
  | moveLead (ini : Ini) (v : Word)
  /-- FAIL_MOD, R388. -/
  | failMod (ini : Ini) (v : Word)
  /-- RESET_WEAR, R393. -/
  | resetWear (ini : Ini) (v : Word)
  /-- MOD_SWAP_PARALLEL_END, R388. -/
  | modSwapParallelEnd (d : Nat) (ok : Bool) (diff : Int)
  /-- LEAD_HANDOVER_DONE, R392. -/
  | leadHandoverDone
  /-- WEAR_SAVE, R393. -/
  | wearSave
  /-- SAVE, R411. -/
  | save (ini : Ini)
  /-- OPEN_STAGE, R412. -/
  | openStage (ini : Ini)
  /-- STAGE_WINDOW_WRITE, R404. -/
  | stageWindowWrite (ini : Ini) (addr : Nat) (v : Word)
  /-- COMMIT_STAGE, R412. -/
  | commitStage (ini : Ini)
  /-- ABORT, R412. -/
  | abort (ini : Ini)
  /-- SAVE_DONE, R413. -/
  | saveDone (ok : Bool)
  /-- FERAM_ROW_WRITE, R402. -/
  | feramRowWrite (d : Nat) (fails : Nat)
  /-- COALESCE_FLUSH, R423. -/
  | coalesceFlush (d : Nat)
  /-- LOG_READ, R421. -/
  | logRead (ini : Ini)
  /-- LOG_CLEAR, R422. -/
  | logClear (ini : Ini) (mask : Nat)
  /-- MODE_REQUEST, R446. -/
  | modeRequest (ini : Ini) (v : Word)
  /-- WRITE, R460. -/
  | write (mode3 : Bool) (addr : Nat) (ws : List Word) (late : Late := [])
  /-- READ, R460. -/
  | read (mode3 : Bool) (addr n : Nat) (late : Late := [])
  /-- WIDTH_RESET, R460. -/
  | widthReset (mode3 : Bool)
  /-- CMD_ERR, R460. -/
  | cmdErr (mode3 : Bool)
  /-- FRAME_ERR, R461. -/
  | frameErr (mode3 wr : Bool) (addr : Nat) (ws : List Word) (late : Late := [])
  /-- REGACCESS, R466. -/
  | regaccess (wr : Bool) (addr : Nat) (v : Word) (late : Late := [])
  /-- TEST_INSTRUCTION_LOAD, R467. -/
  | testInstructionLoad (code : Nat)
  /-- LIMIT_RELEASE, R80. -/
  | limitRelease (slot : Nat)
  /-- GATE_BELOW_1V, R189. left10: the gate has so far only fallen below 10.0 V, which ends its enhancement (R82). -/
  | gateBelow1v (slot : Nat) (gateB : Bool) (left10 : Bool := false)
  /-- RESET_N_RISE, R439. -/
  | resetNRise
  deriving DecidableEq, Repr

end Sys2Proof
end

