-- ==== Sys2Proof/Decode.lean ====
section
/-! DEFINITION. The command that a word spells by the table's bits: no row of spec/opcode_table.json gives bits, so no word spells a command. -/
namespace Sys2Proof

/-- The commands of this block come as events and register accesses, not as words: none. -/
def decodeTableWord (_nbits _w : Nat) : Option Instr := none

end Sys2Proof
end

