-- ==== Sys2Proof/Config.lean ====
section
/-! DEFINITION. The values the spec leaves open: opaque constants without a body, so that no proof can see what they are (notes/assumptions/7.md). -/
namespace Sys2Proof

/-- Whether a quotient that is not whole is rounded up, at a place where the spec names no rounding; the first argument
numbers the place, the second is the exact value (log entry 7). -/
opaque Config.roundUp : Nat → Rat → Bool

/-- The generator's sine value for a phase and an amplitude, known only within 2^-16 of the amplitude (R301). -/
opaque Config.sine : Nat → Nat → Int

/-- The update length of the thermal-model lane, known only to be at most 1,600 cycles (R298). -/
opaque Config.updCyc : Nat → Nat

/-- A free word, taken with a counter of State. -/
opaque Config.freeWord : Nat → Nat

end Sys2Proof
end

