-- ==== Sys2Proof/Machine/Bits.lean ====
section
/-! DEFINITION. Bit fields of a word, the sparse maps that State is built from, rounding, and the fixed-point exponential and logarithm. -/
namespace Sys2Proof

/-- The value of bits [hi:lo] of a word, as a number (R8: both ends belong to the range). -/
def fld (w : Word) (hi lo : Nat) : Nat := w.toNat / 2 ^ lo % 2 ^ (hi + 1 - lo)

/-- Bit n of a word. -/
def bit (w : Word) (n : Nat) : Bool := fld w n n == 1

/-- The word with bits [hi:lo] replaced by v modulo the field's width. -/
def setFld (w : Word) (hi lo v : Nat) : Word :=
  let m := 2 ^ (hi + 1 - lo)
  BitVec.ofNat 32 (w.toNat - (w.toNat / 2 ^ lo % m) * 2 ^ lo + (v % m) * 2 ^ lo)

def setBit (w : Word) (n : Nat) (b : Bool) : Word := setFld w n n (if b then 1 else 0)

/-- The word built of (low bit, value) pairs that do not overlap. -/
def mkWord (l : List (Nat × Nat)) : Word :=
  BitVec.ofNat 32 (l.foldl (fun a p => a + p.2 * 2 ^ p.1) 0)

def b2n (b : Bool) : Nat := if b then 1 else 0

/-- Bit k of a natural number used as a mask. -/
def nbit (m k : Nat) : Bool := m / 2 ^ k % 2 == 1

def setNbit (m k : Nat) (b : Bool) : Nat :=
  if nbit m k == b then m else if b then m + 2 ^ k else m - 2 ^ k

/-- The indices below n whose bit is set in a mask, rising. -/
def maskList (m n : Nat) : List Nat := (List.range n).filter (nbit m)

def maskOf (l : List Nat) : Nat := l.foldl (fun a k => a + 2 ^ k) 0

/-- The number of bits set among the low n bits. -/
def popCount (m n : Nat) : Nat := (maskList m n).length

/-- A number read as two's complement in the given width. -/
def toSigned (width v : Nat) : Int :=
  let v := v % 2 ^ width
  if v < 2 ^ (width - 1) then (v : Int) else (v : Int) - 2 ^ width

/-- The two's complement code of an integer in the given width (wrapping). -/
def ofSigned (width : Nat) (v : Int) : Nat := (v % (2 ^ width : Int)).toNat

def clampI (lo hi v : Int) : Int := if v < lo then lo else if hi < v then hi else v

/-- A number saturating at a limit. -/
def sat (limit v : Nat) : Nat := if limit < v then limit else v

/-- A quotient rounded up. -/
def cdiv (a b : Nat) : Nat := (a + b - 1) / b

/-! Sparse maps: a list of keys and values, a missing key reading as the default. -/

/-- The value at a key: the first entry of that key, else the default. -/
def mget {α : Type} (d : α) (m : List (Nat × α)) (k : Nat) : α :=
  match m.find? (fun e => e.1 == k) with
  | some e => e.2
  | none => d

/-- Insert before the first larger key. -/
def minsert {α : Type} (k : Nat) (v : α) : List (Nat × α) → List (Nat × α)
  | [] => [(k, v)]
  | e :: r => if k < e.1 then (k, v) :: e :: r else e :: minsert k v r

/-- The map with a key set; a key set to the default is not listed. -/
def mset {α : Type} [DecidableEq α] (d : α) (m : List (Nat × α)) (k : Nat) (v : α) : List (Nat × α) :=
  let rest := m.filter (fun e => !(e.1 == k))
  if v = d then rest else minsert k v rest

/-- The canonical form: keys strictly rising. -/
def mkeysRising {α : Type} : List (Nat × α) → Bool
  | [] => true
  | [_] => true
  | a :: b :: r => decide (a.1 < b.1) && mkeysRising (b :: r)

/-- The canonical form: no entry equals the default. -/
def mnoDefault {α : Type} [DecidableEq α] (d : α) (m : List (Nat × α)) : Bool :=
  m.all (fun e => !decide (e.2 = d))

def mwf {α : Type} [DecidableEq α] (d : α) (m : List (Nat × α)) : Bool := mkeysRising m && mnoDefault d m

/-- Element n of a list, or the default. -/
def lget {α : Type} (d : α) (l : List α) (n : Nat) : α := l.getD n d

/-- The list with element n replaced (unchanged beyond its end). -/
def lset {α : Type} (l : List α) (n : Nat) (v : α) : List α := l.set n v

/-! Time in CORE cycles of 5 ns (01_the_part.md R23). -/
def US : Nat := 200
def MS : Nat := 200000
def SEC : Nat := 200000000

/-! ## Rounding, and the fixed-point functions -/

/-- A whole number next to an exact value: the value itself when whole, else one of its two neighbours, freely chosen. -/
def openRound (place : Nat) (q : Rat) : Int :=
  if q.den = 1 then q.num else if Config.roundUp place q then q.floor + 1 else q.floor

/-- Rounding to the nearest whole number, ties toward plus infinity (R159). -/
def roundHalfUp (q : Rat) : Int := (q + 1 / 2).floor

/-- Rounding to the nearest whole number, ties to even. -/
def roundHalfEven (q : Rat) : Int :=
  let f := q.floor
  let r := q - f
  if r < 1 / 2 then f else if 1 / 2 < r then f + 1 else if f % 2 == 0 then f else f + 1

/-- Rounding to the nearest whole number, ties away from zero. -/
def roundHalfAway (q : Rat) : Int := if q < 0 then - ((-q) + 1 / 2).floor else (q + 1 / 2).floor

/-- Rounding to the nearest whole number where the spec does not say which way a tie goes. -/
def roundNear (place : Nat) (q : Rat) : Int :=
  let f := q.floor
  let r := q - f
  if r < 1 / 2 then f else if 1 / 2 < r then f + 1 else if Config.roundUp place q then f + 1 else f

/-! Fixed-point exponential and logarithm, in units of 2^-64 (notes/assumptions/18.md). -/

/-- The sum of x^k / k! for k up to n, x and the result in units of 2^-64. -/
def expSum (x : Nat) : Nat → Nat → Nat → Nat
  | 0, _, _ => 0
  | n + 1, k, term => term + expSum x n (k + 1) (term * x / 2 ^ 64 / k)

/-- e^(-num/den) in units of 2^-64. -/
def expNeg (num den : Nat) : Nat := 2 ^ 128 / expSum (num * 2 ^ 64 / den) 48 1 (2 ^ 64)

/-- The sum of y^(2k+1) / (2k+1), y and the result in units of 2^-64, over n terms; y2 is the square of y. -/
def lnSum (y2 : Int) : Nat → Nat → Int → Int
  | 0, _, _ => 0
  | n + 1, k, p => p / k + lnSum y2 n (k + 2) (p * y2 / 2 ^ 64)

/-- The natural logarithm of m / 2^64 for m between 2^63 and 2^65, in units of 2^-64. -/
def lnNear (m : Nat) : Int :=
  let y : Int := ((m : Int) - 2 ^ 64) * 2 ^ 64 / ((m : Int) + 2 ^ 64)
  2 * lnSum (y * y / 2 ^ 64) 40 1 y

/-- The natural logarithm of num / den, in units of 2^-64: the argument is brought near 1 by powers of two. -/
def lnFix (num den : Nat) : Int :=
  let e : Int := (Nat.log2 num : Int) - Nat.log2 den
  let m := if 0 ≤ e then num * 2 ^ 64 / (den * 2 ^ e.toNat) else num * 2 ^ 64 * 2 ^ (-e).toNat / den
  lnNear m + e * 12786308645202655660

end Sys2Proof
end

