-- ==== Sys2Proof/Machine/State.lean ====
section
/-! DEFINITION. The state of the block as plain data, the state after reset, and the reasons a step can stop. -/
namespace Sys2Proof.Machine

/-! ## The slot -/

/-- The slot states of 04_insertion.md R98. -/
inductive SM where
  | off | empty | seated | waiting | charging | on | tripped | cooldown | latched | holdthru | lockout
  deriving DecidableEq, Repr

/-- The drive paths of 03_slot_hardware.md R79, with the LIMIT path shown by Slot.limit (R96). -/
inductive Path where
  | hard | holdOff | soft | dac | enhance
  deriving DecidableEq, Repr

/-- One gate driver (R79, R96): the path that acts, the lower path that takes over when a pull-down releases (R80), whether the
gate-source voltage is below 1 V and since when, when the pull-down started, the enhanced bit of R82 and since when. -/
structure Gate where
  path : Path := .holdOff
  next : Option Path := none
  low : Bool := true
  lowAt : Nat := 0
  pullAt : Nat := 0
  enh : Bool := false
  enhAt : Nat := 0
  deriving DecidableEq, Repr

/-- A SHORT comparator (R84): the output, the raw level and since when it has held; the output follows a raw level that has held
for 1 µs. -/
structure Filt where
  out : Bool := false
  raw : Bool := false
  since : Nat := 0
  deriving DecidableEq, Repr

/-- The terrace sub-states of 07_terraces.md R191. -/
inductive Sub where
  | idle | wait | hold
  deriving DecidableEq, Repr

/-- A restraint entry (R190). -/
structure Entry where
  src : Nat
  slot : Nat
  incident : Nat
  at_ : Nat
  deriving DecidableEq, Repr

/-- The terrace state of a slot (R186 to R196). -/
structure Terr where
  sub : Sub := .idle
  incident : Nat := 0
  out : Bool := false
  entries : List Entry := []
  lockList : List (Nat × Nat) := []
  waitAt : Nat := 0
  holdAt : Nat := 0
  lastSrc : Nat × Nat := (0, 0)
  openAt : Option Nat := none
  openCnt : Nat := 0
  reach0 : Nat := 0
  reach1 : Nat := 0
  deriving DecidableEq, Repr

/-- The 50 ns window of a duplicated comparator (03_slot_hardware.md R85, 05_trips_and_retries.md R126): the copies
that asserted in it (bit 0 copy A, bit 1 copy B) and the CORE cycle in which it ends. -/
structure Win where
  copies : Nat
  winEnd : Nat
  deriving DecidableEq, Repr

/-- What a trip leaves for its record, its stuck-current check and its dwell (R126, R134, R138, R150). -/
structure TripInfo where
  due : Bool := false
  copies : Nat := 0
  restrain : Bool := false
  buf : Nat := 255
  iCode : Nat := 0
  vCode : Nat := 0
  sampled : Bool := true
  tj : Int := 0
  abort : Nat := 0
  downAddr : Nat := 0
  downSlot : Nat := 0
  time : Nat := 0
  unsync : Bool := false
  kept : Bool := false
  hard : Bool := true
  pullAt : Nat := 0
  check : Bool := false
  stuckN : Nat := 0
  stuckHi : Nat := 0
  latch : Bool := false
  removed : Bool := false
  st : SM := .off
  cause : Nat := 0
  detail : Nat := 0
  unsettled : Option Bool := none
  deriving DecidableEq, Repr

/-- Retry count and timers (R139 to R143); deadlines in CORE cycles. -/
structure Retry where
  cnt : Nat := 0
  cool : Option Nat := none
  busOv : Bool := false
  busOkAt : Option Nat := none
  remember : Option Nat := none
  stable : Option Nat := none
  deriving DecidableEq, Repr

/-- The insertion in progress (04_insertion.md R101 to R112). waited: the wait of pre-check step 1 has set its event (R102);
nearAt: since when VOUT has stayed within 1.0 V of the bus in that step (R103); five: VOUT has reached 5 % of the bus in the
learning window. Sums are over the samples of the learning window. -/
structure Ins where
  stepAt : Nat := 0
  waited : Bool := false
  nearAt : Option Nat := none
  goDone : Bool := false
  swapPending : Bool := false
  spareEnh : Bool := false
  spareAt : Nat := 0
  armed : Bool := true
  firstAt : Option Nat := none
  timer : Nat := 0
  chargeAt : Nat := 0
  n : Nat := 0
  busEntry : Nat := 0
  five : Bool := false
  winDone : Bool := false
  used : Nat := 0
  ss : Int := 0
  vv : Int := 0
  sv : Int := 0
  is_ : Int := 0
  iv : Int := 0
  k8 : Nat := 8
  abort : Nat := 0
  doneN : Nat := 0
  testOn : Bool := false
  handAt : Nat := 0
  deriving DecidableEq, Repr

/-- One pass element's thermal-model state set (06_thermal.md R157 to R163): stage rises in mK, the running mean of the
dissipation in W, the cycle counter's trough, peak and arm in m°C, and whether the stages take the first sample after a
return (R162). -/
structure Elem where
  rise : List Nat := [0, 0, 0, 0]
  psum : Rat := 0
  pn : Nat := 0
  started : Bool := false
  trough : Int := 0
  peak : Int := 0
  armed : Bool := false
  reload : Bool := false
  cycles : Nat := 0
  deriving DecidableEq, Repr

/-- The thermistor reading of a slot (R164, R165), in 0.1 °C, and whether its last result was good. -/
structure Tfet where
  seen : Bool := false
  at_ : Nat := 0
  temp : Int := 0
  good : Bool := false
  bad : Bool := false
  wasValid : Bool := false
  wasAbove : Bool := true
  deriving DecidableEq, Repr

/-- The control-decimator view of a slot (08_belvedere_conversion.md R213): latest codes, flags, samples since the
modulators started, samples since the last with OVR, and the history that learning, snapshots and open-wire tests use, newest
first. -/
structure Ctl where
  started : Nat := 0
  startAt : Nat := 0
  iCode : Int := 0
  vCode : Nat := 0
  iOvr : Bool := false
  vOvr : Bool := false
  iSet : Nat := 0
  vSet : Nat := 0
  iClean : Nat := 0
  vClean : Nat := 0
  at_ : Nat := 0
  hist : List (Int × Nat × Bool × Bool) := []
  deriving DecidableEq, Repr

/-- Consecutive-sample counts and accumulators of the computed trips (05_trips_and_retries.md R128 to R133). due: the CORE cycle
in which the TIMED trip falls. -/
structure Prot where
  acc : Rat := 0
  due : Option Nat := none
  uv : Nat := 0
  ov : Nat := 0
  pgOkAt : Option Nat := none
  pgLow : Nat := 0
  ptHeld : List (Nat × Word) := []
  deriving DecidableEq, Repr

/-- Metering of a slot (09_results_calibration.md R257 to R261): the energy in units of 1 / 2^32 µJ, frames, flagged
frames; the SETTLING results still to come after a start (fresh), and per channel after an over-range or a test; and the last frame
accumulated: its CORE cycle, its energy and whether it was flagged (R261). -/
structure Meter where
  energy : Int := 0
  frames : Nat := 0
  flagged : Nat := 0
  iSet : Nat := 0
  vSet : Nat := 0
  iOvr : Bool := false
  vOvr : Bool := false
  openI : Bool := false
  openV : Bool := false
  openT : Bool := false
  fresh : Nat := 0
  subI : Bool := false
  subV : Bool := false
  accAt : Option Nat := none
  accE : Int := 0
  accF : Bool := false
  deriving DecidableEq, Repr

/-- Wear counters of a slot kept by the Nursery (13_nursery.md R393). -/
structure Wear where
  inserts : Nat := 0
  trips : Nat := 0
  disagree : Nat := 0
  warned : Nat := 0
  deriving DecidableEq, Repr

/-- A slot. raw and deg hold one bit for each comparator copy, raw and deglitched: 0 FAST_A, 1 FAST_B, 2 INST_A, 3 INST_B; rawAt
says when each raw output rose (R84). presN: the raw PRES_N input, true for low, and since when it has held (R91, R101); pres:
the card as the counts of R101 leave it. revAt: when the reverse-current block began (R88). -/
structure Slot where
  st : SM := .off
  prev : SM := .off
  step : Nat := 0
  offPend : Option Nat := none
  offWarn : Bool := false
  upWarn : Bool := false
  openWarn : Bool := false
  gA : Gate := {}
  gB : Gate := {}
  role : Bool := false
  raw : Nat := 0
  deg : Nat := 0
  degAt : Nat := 0
  rawAt : List Nat := [0, 0, 0, 0]
  winF : Option Win := none
  winI : Option Win := none
  lone : List Nat := [0, 0, 0, 0]
  pendDg : Option Nat := none
  shM : Filt := {}
  shV : Filt := {}
  presN : Bool := false
  presAt : Nat := 0
  pres : Bool := false
  limit : Bool := false
  faultAt : Option Nat := none
  limOffAt : Option Nat := none
  revBlock : Bool := false
  revAt : Nat := 0
  pg : Bool := false
  held : SM := .off
  htLatch : Bool := false
  htOff : Bool := false
  trip : TripInfo := {}
  retry : Retry := {}
  ins : Ins := {}
  eA : Elem := {}
  eB : Elem := {}
  tfet : Tfet := {}
  ctl : Ctl := {}
  prot : Prot := {}
  terr : Terr := {}
  meter : Meter := {}
  wear : Wear := {}
  deriving DecidableEq, Repr

/-! ## The die -/

/-- The state of one die: 15_reset_states_modes.md R430. -/
inductive DieMode where
  | normal | fault | thermal
  deriving DecidableEq, Repr

/-- An event record before its bytes are laid out (14_config_store_log.md R414). time is in units of 2^-32 ns. -/
structure Rec where
  time : Nat
  block : Nat
  inst : Nat
  code : Nat
  seq : Nat
  data : List Nat
  merged : Nat := 0
  kept : Bool := false
  held : Bool := false
  unsync : Bool := false
  at_ : Nat := 0
  deriving DecidableEq, Repr

/-- A trip-waveform snapshot (05_trips_and_retries.md R147, R149). -/
structure Snap where
  slot : Nat
  cause : Nat
  detail : Nat
  time : Nat
  seq : Nat
  shunt : Nat
  samples : List (Nat × Nat)
  post : Nat
  full : Bool
  fullAt : Nat := 0
  deriving DecidableEq, Repr

/-- The log of a die (14_config_store_log.md R174, R418 to R424): records waiting their row write, records held while
FeRAM writes are blocked, the coalesced record, and positions. -/
structure DieLog where
  queue : List Rec := []
  held : List Rec := []
  coal : Option Rec := none
  seq : Nat := 0
  next : Nat := 0
  count : Nat := 0
  oldest : Nat := 0
  snapSlot : Nat := 0
  snapAt : Option Nat := none
  drops : Nat := 0
  deriving DecidableEq, Repr

/-- The graticule of a die (06_thermal.md R166 to R169), temperatures in units of 2^-16 °C above -64 °C. -/
structure Grat where
  valid : Nat := 511
  temps : List Nat := List.replicate 9 5832704
  flags : List Bool := [false, false, false, false, false, false, false, false, false]
  streaks : List Nat := [0, 0, 0, 0, 0, 0, 0, 0, 0]
  passes : List Nat := [0, 0, 0, 0, 0, 0, 0, 0, 0]
  scanned : Bool := true
  degraded : Bool := false
  blocked : Bool := false
  outside : Bool := false
  wasHigh : Bool := false
  deriving DecidableEq, Repr

/-- A repeated copy of a terrace message still to be sent (R185). -/
structure Copy where
  slot : Nat
  msg : Msg
  isLocal : Bool
  left : Nat
  due : Nat
  gap : Nat
  deriving DecidableEq, Repr

/-- A received terrace message whose repeated copies have no further effect (R186). -/
structure Heard where
  kind : MsgKind
  addr : Nat
  slot : Nat
  tgt : Nat
  incident : Nat
  at_ : Nat
  deriving DecidableEq, Repr

/-- What the block has sent. bad: a copy known to be corrupt, which ends with EOF_BAD or an inverted check (R322, R325); rxOk: the bit
of the IDLE sets of a port changed (R319); wktDrv: the level of WKT_DRV_AB or WKT_DRV_CD changed (R340); ppsOut: the leading
edge of a pulse of PPS_OUT, low or high, and its width in µs (R376). -/
inductive Out where
  | terrLocal (m : Msg)
  | urgent (port : Nat) (m : Msg) (bad : Bool := false)
  | frame (port : Nat) (f : Frame) (bad : Bool := false)
  | ack (port seq : Nat)
  | nak (port seq : Nat)
  | resync (port seq uid : Nat)
  | rxOk (port : Nat) (v : Bool)
  | wktDrv (pair : Nat) (v : Bool)
  | ppsOut (low : Bool) (us : Nat)
  deriving DecidableEq, Repr

/-- The charge pumps and references of a die (R78, R390, R389, R445). -/
structure Power where
  pumpRun : Nat := 0
  pumpFailed : Nat := 0
  stopped : Bool := false
  restarting : Bool := false
  vcpLow : Bool := false
  exAt : Nat := 0
  exFrom : Option Nat := none
  refUse : Nat := 0
  refFailed : Nat := 0
  refScans : Nat := 0
  refArb : Nat × Nat := (8388608, 8388608)
  refSwap : Bool := false
  deriving DecidableEq, Repr

/-! ## Belvedere conversion and calibration -/

/-- A modulator of a die (13_nursery.md R388, R397): its state 0 SPARE, 1 SERVING, 2 STAND_IN, 3 FAILED, consecutive
calibration failures, last drift in ppm, summed drift, and adopted Zs and Fs in 1/256 code. -/
structure Modl where
  state : Nat := 1
  fails : Nat := 0
  drift : Int := 0
  driftSum : Nat := 0
  zs : Int := 0
  fs : Int := 1610612736
  selfCal : Bool := false
  deriving DecidableEq, Repr

/-- A parallel run that will hand a channel to a spare (R388). -/
structure SwapRun where
  idx : Nat
  from_ : Nat
  spare : Nat
  at_ : Nat
  handing : Bool := false
  diff : Int := 0
  deriving DecidableEq, Repr

/-- A rolling calibration round (09_results_calibration.md R265): modulators still to come, the modulator in the step,
the spare standing in, the phase of the step, and when the phase began. -/
structure Roll where
  once : Bool
  left : List Nat
  mod : Nat := 63
  idx : Nat := 0
  spare : Option Nat := none
  phase : Nat := 0
  at_ : Nat := 0
  handing : Bool := false
  deriving DecidableEq, Repr

/-- A value that an open-wire test took (R233): local slot, pin, the value in codes, and whether it carried OVR. -/
abbrev OpenVal := Nat × Nat × Rat × Bool

/-- An open-wire test (08_belvedere_conversion.md R232, R233): the local slots tested on each pin, those skipped, the
current, the test frame that runs (0 before the first, 3 after the second) and when it began, the values with the current sourced and
sunk, the survey step of a TFET test that runs (1 sourced, 2 sunk) and the thermistors done. -/
structure OpenRun where
  auto : Bool
  sense : Nat
  vout : Nat
  tfet : Nat
  skip : Nat
  current : Nat
  frame : Nat := 0
  at_ : Nat := 0
  src : List OpenVal := []
  snk : List OpenVal := []
  tStep : Nat := 0
  tDone : Nat := 0
  deriving DecidableEq, Repr

/-- The conversion subsystem of a die. queue holds each entry with the CORE cycle in which it entered (R255); survUser and survPair are
the user factors, and Zs and Fs, at the start of the survey step (R245). userNow holds the user-factor words in force by page offset (R245); map gives
the modulator of each channel index of R262. -/
structure Belv where
  mods : List Modl := List.replicate 33 ({} : Modl) ++ List.replicate 3 ({ state := 0 } : Modl) ++ [({} : Modl), ({ state := 0 } : Modl)]
  map : List Nat := List.range 33 ++ [36]
  adopt : List (Nat × Int × Int) := []
  userNow : List (Nat × Word) := []
  temp : Int := 5832704
  survCh : Nat := 21
  survEff : Nat := 0x7FE00000
  survAt : Nat := 0
  survUser : Nat × Nat := (0, 1073741824)
  survPair : Int × Int := (0, 1610612736)
  refDiff : Nat := 8388608
  refOvr : Bool := false
  selfTest : Nat := 0
  queue : List (BitVec 64 × Nat) := []
  fullAt : Option Nat := none
  roll : Option Roll := none
  rollWait : Bool := false
  rounds : Nat := 0
  swap : Option SwapRun := none
  swapQ : List Nat := []
  openRun : Option OpenRun := none
  openReq : Option OpenRun := none
  autoSlot : Nat := 0
  autoCnt : Nat := 0
  busCode : Nat := 0
  busOvr : Bool := false
  busSet : Nat := 0
  busN : Nat := 0
  busLow : Nat := 0
  busWarn : Bool := false
  busOkAt : Option Nat := none
  mSet : Nat := 0
  mFresh : Nat := 0
  mOvr : Bool := false
  deriving DecidableEq, Repr

/-! ## The Contour engine -/

/-- A loop context (10_contour_engine.md R273 to R297). ref is the Q1.46 accumulator; states are the two 48-bit states
of each section; lim, kb, kv and safe are the words in force; prof, dv and sfrac are the profile planned at binding (R282);
bad lists the bank words that failed their parity check, those of the edit bank from 0x100; mapDue: the Nursery maps a spare as
soon as the context is unbound (R274, R391). -/
structure Ctx where
  bound : Bool := false
  slot : Nat := 0
  fallback : Bool := false
  armed : Bool := false
  consec : Nat := 0
  disc : Bool := false
  commitPend : Bool := false
  failed : Bool := false
  code : Int := 0
  applied : Int := 0
  out : Option Int := none
  outAt : Nat := 0
  perAt : Nat := 0
  rate : Nat := 1
  secs : Nat := 1
  first : Bool := true
  ref : Int := 0
  refHit : Bool := false
  pos : Rat := 0
  vFrom : Nat := 0
  vTo : Nat := 0
  prof : Nat := 0
  dv : Nat := 0
  sfrac : Nat := 0
  k8 : Nat := 8
  armN : Nat := 0
  sameN : Nat := 0
  lastFb : Nat := 0
  fbAt : Nat := 0
  lostSet : Bool := false
  frozenSet : Bool := false
  supOff : Bool := false
  states : List (Int × Int) := [(0, 0), (0, 0), (0, 0), (0, 0), (0, 0), (0, 0), (0, 0), (0, 0)]
  lim : Word := 0
  kb : Word := 0
  kv : Word := 0
  safe : Word := 0
  bad : List Nat := []
  mapDue : Bool := false
  deriving DecidableEq, Repr

/-- The test-signal generator (R299 to R302). -/
structure TestGen where
  armed : Bool := false
  running : Bool := false
  delay : Nat := 0
  end_ : Nat := 0
  step : Nat := 0
  left : Nat := 0
  phase : Nat := 0
  lfsr : Nat := 0
  bits : Nat := 0
  hold : Nat := 0
  out : Int := 0
  seqs : Nat := 0
  per : Nat := 0
  inj : Bool := false
  firstInj : Bool := false
  seqOver : Bool := false
  deriving DecidableEq, Repr

/-- The capture (R303, R304): state 0 IDLE, 1 PRE, 2 POST, 3 DONE. lastIdx, lastNs and lastK are the first word's index, the time and
the number of words of the last computed period. -/
structure Capture where
  state : Nat := 0
  partial_ : Bool := false
  first : Nat := 0
  trigWord : Nat := 0
  len : Nat := 0
  idx : Nat := 0
  count : Nat := 0
  skip : Nat := 0
  left : Nat := 0
  force : Bool := false
  lastIdx : Nat := 0
  lastNs : Nat := 0
  lastK : Nat := 0
  deriving DecidableEq, Repr

/-- A request of the thermal-model lane (R298). -/
inductive LaneReq where
  | fit (slot : Nat)
  | tau (slot stage : Nat)
  deriving DecidableEq, Repr

structure Engine where
  ctxs : List Ctx := List.replicate 18 {}
  map : List Nat := List.range 16
  lane : List LaneReq := []
  laneN : Nat := 0
  laneAt : Nat := 0
  lanePeriod : Nat := 0
  tick : Nat := 0
  tickLen : Nat := 0
  cfgNow : Word := 0x81
  test : TestGen := {}
  cap : Capture := {}
  deriving DecidableEq, Repr

/-- A die. apart is its Meridian counter copy while it is off the Trellis (R17, R361): the count and the CORE cycle at which it
left, and the rate at which the copy runs on; none while the copy follows the counter of the lead die. -/
structure Die where
  mode : DieMode := .normal
  present : Bool := true
  apart : Option (Nat × Nat × Int) := none
  thermTime : Nat := 0
  thermRestart : Bool := true
  thermMask : Nat := 0
  faultAt : Nat := 0
  attempts : Nat := 0
  pow : Power := {}
  grat : Grat := {}
  log : DieLog := {}
  snaps : List (Option Snap) := [none, none, none, none]
  last : List (Option Snap) := [none, none, none, none]
  belv : Belv := {}
  eng : Engine := {}
  rowMap : List (Nat × Nat) := []
  rowWear : List (Nat × Nat) := []
  rowsUsed : Nat := 0
  remaps : Nat := 0
  fails : Nat := 0
  deriving DecidableEq, Repr

/-! ## The ring -/

/-- A ring port (11_ceane_ring.md R327 to R329; 12_meridian_time.md R364): link 0 DISABLED, 1 SEEK, 2 ALIGN, 3 UP,
4 FAILED; stamps in ns, delays in ps. kept: link words and TIME frames that a gap window holds back (R334); busyTo: the CORE cycle to
which the lane sends the normal frames it has been given; rxRec: the accepted numbers on record (R331); okWas: RX_OK as last sent. -/
structure Port where
  link : Nat := 0
  since : Nat := 0
  kept : List Out := []
  busyTo : Nat := 0
  rxRec : Nat := 0
  okWas : Bool := false
  wrapped : Bool := false
  unwrapDue : Bool := false
  tx : List Frame := []
  waiting : List Frame := []
  txSeq : Nat := 0
  rxSeq : Nat := 0
  uid : Option Nat := none
  tries : Nat := 0
  oldAt : Nat := 0
  holdTx : Bool := false
  delays : List Int := []
  heardAt : Option Nat := none
  nbSteps : Nat := 255
  nbState : Nat := 0
  nbQual : Nat := 0
  theta : Int := 0
  probeT1 : Option Nat := none
  probeAt : Option Nat := none
  nbAt : Option Nat := none
  deriving DecidableEq, Repr

/-- A numbering request (R333): unique ID, position, requested number and whether it is pinned. -/
structure JReq where
  uid : Nat
  pos : Nat
  req : Option Nat
  pin : Bool
  deriving DecidableEq, Repr

/-- A port pair (R317, R330 to R343): join 0 OUT, 1 LISTEN, 2 WAIT_GAP, 3 IN; members and collect are 128-bit masks. served: the
start of the window has been acted on; ringWrap: frames tell of a wrap on the ring (R330), and wrapSeen: they did since the last
window; drv: the level of WKT_DRV (R340). -/
structure Pair where
  join : Nat := 0
  joined : Bool := false
  keeper : Bool := false
  refused : Bool := false
  wicketOpen : Bool := false
  ringId : Nat := 0
  node : Nat := 0
  prevNode : Option Nat := none
  keeperAddr : Option Nat := none
  elected : Bool := false
  members : Nat := 0
  collect : Nat := 0
  size : Nat := 0
  nextMembers : Nat := 0
  lastGap : Nat := 0
  nextGap : Nat := 0
  window : Option Nat := none
  served : Bool := false
  ringWrap : Bool := false
  wrapSeen : Bool := false
  drv : Bool := false
  leaving : Bool := false
  drained : Bool := false
  claimSent : Bool := false
  pos : Option Nat := none
  taken : List (Nat × Nat) := []
  forming : Bool := false
  expect : Option Nat := none
  reqs : List JReq := []
  gapSeq : Nat := 0
  deriving DecidableEq, Repr

/-! ## Meridian time -/

/-- A scheduled timer (12_meridian_time.md R375); start in ns, k the number of the next occurrence. -/
structure Tmr where
  active : Bool := false
  late : Bool := false
  lateNow : Bool := false
  setAt : Nat := 0
  unsync : Bool := false
  start : Nat := 0
  period : Nat := 0
  k : Nat := 0
  fires : Nat := 0
  deriving DecidableEq, Repr

/-- Asymmetry training (R368). -/
structure Train where
  port : Nat
  left : Nat
  edges : List Int
  at_ : Nat
  deriving DecidableEq, Repr

/-- Meridian time (R358 to R377). count is in units of 2^-32 ns; rate and integ in 2^-32 ns for each CORE cycle;
st 0 ACQUIRING, 1 LOCKED, 2 HOLDOVER, 3 REFUSED. -/
structure Mer where
  count : Nat := 0
  rate : Int := 0
  integ : Int := 0
  st : Nat := 0
  cause : Nat := 0
  armed : Bool := true
  fit : List (Int × Int) := []
  fitDone : Bool := false
  port : Option Nat := none
  newSrc : Bool := false
  lastAt : Nat := 0
  offset : Int := 0
  holdAt : Nat := 0
  refLost : Bool := false
  ppsLast : Option Nat := none
  ppsAt : Nat := 0
  label : Nat := 0
  tod : Option Nat := none
  timers : List Tmr := List.replicate 16 {}
  txs : List (Nat × Nat × Nat) := []
  train : Option Train := none
  trainStat : Nat := 0
  ppsNext : Nat := 0
  deriving DecidableEq, Repr

/-! ## Transactions, Nursery, configuration, frames and the package -/

/-- A transaction tag (11_ceane_ring.md R344 to R346): st 0 free, 1 outstanding, 2 awaiting its pop; lost: it was
outstanding when the lead role moved, and ends with TIMEOUT only (R392). -/
structure Tag where
  st : Nat := 0
  epoch : Nat := 0
  wr : Bool := false
  bcast : Bool := false
  dest : Nat := 0
  addr : Nat := 0
  words : Nat := 0
  user : Nat := 0
  data : List Word := []
  sentAt : Nat := 0
  busyAt : Option Nat := none
  retries : Nat := 0
  lost : Bool := false
  deriving DecidableEq, Repr

/-- A completion (R345). -/
structure Cpl where
  tag : Nat
  status : Nat
  epoch : Nat
  user : Nat
  retries : Nat
  dest : Nat
  data : List Word
  deriving DecidableEq, Repr

/-- Transactions (11_ceane_ring.md R344 to R347). tq: the target queue, each request with the CORE cycle in which its frame reached the
part (02_pages_and_gazetteer.md R45); recent: the requests served last. -/
structure Xact where
  tags : List Tag := List.replicate 64 {}
  cpl : List Cpl := []
  addrSet : Bool := false
  tq : List (Nat × Frame) := []
  recent : List (Nat × Nat × Nat) := []
  deriving DecidableEq, Repr

/-- A Nursery request (13_nursery.md R385). -/
structure NReq where
  kind : Nat
  die : Nat
  inst : Nat
  sub : Nat
  deriving DecidableEq, Repr

/-- A save in progress (14_config_store_log.md R411, R413): op 1 SAVE, 2 COMMIT; the image bytes. -/
structure Save where
  op : Nat
  copy : Nat
  image : List Nat
  seq : Nat
  records : Nat
  deriving DecidableEq, Repr

structure Cfg where
  selected : Nat := 0
  die : Nat := 0
  seq : Nat := 0
  defaulted : Bool := true
  strap : Bool := false
  applied : Nat := 0
  skipped : Nat := 0
  rejCount : Nat := 0
  rejFirst : Nat := 0
  stage : Option (List (Nat × Byte)) := none
  stageCopy : Nat := 0
  save : Option Save := none
  repair : List (Nat × Nat) := []
  result : Nat := 0
  deriving DecidableEq, Repr

/-- Frames and triggers (08_belvedere_conversion.md R216 to R225). bAt: the CORE cycle of the last hardware boundary. -/
structure Frames where
  run : Bool := true
  num : Nat := 0
  started : Bool := false
  startAt : Nat := 0
  bAt : Option Nat := none
  nextAt : Nat := 0
  osr : Nat := 4
  idle : Bool := false
  settle : Nat := 0
  pendMer : Option Nat := none
  pendTrig : Option Nat := none
  pendSw : Option Nat := none
  selNow : Bool := false
  selNext : Bool := false
  snapNow : Bool := false
  snapNext : Bool := false
  selOnly : Bool := false
  bSrc : Nat := 0
  bTrim : Bool := false
  load : Option Nat := none
  deriving DecidableEq, Repr

/-- The package result port and streams (09_results_calibration.md R251 to R256). -/
structure QPort where
  turn : Nat := 0
  taken : Nat := 0
  commit : Option Nat := none
  asm : List (BitVec 64) := []
  asmAt : Nat := 0
  asmDest : Nat := 0
  seq : Nat := 0
  rxq : List (BitVec 64 × Nat) := []
  senders : List (Nat × Nat) := []
  deriving DecidableEq, Repr

/-- The package states of 15_reset_states_modes.md R430. -/
inductive Phase where
  | powerOff | por | boot | run | warm
  deriving DecidableEq, Repr

inductive Part where
  | kq2032 | kq4064 | kq8128
  deriving DecidableEq, Repr

/-- What the factory fixed in the part: its kind, stepping, unique ID and factory image (log entry 4). -/
structure Ident where
  part : Part := .kq8128
  stepping : Nat := 1
  uid : Nat := 0
  factValid : Nat := 255
  factCopy : Nat := 0
  testTemp : Nat := 250
  fact : List (Nat × Word) := []
  refFinal : List (Nat × Nat) := []
  deriving DecidableEq, Repr

/-- Package power, reset, clocks and pins (R26 to R28, R434, R442). retAt: when RESET_N rose, or, in BOOT, the last
attempt; warmAt and warmHeld: time of entry to the first warm reset and slots then in HOLDTHRU; epoch: the CORE cycle
of the clock epoch (R24). late: the accesses of the command being taken that get no Trellis response in time (R33). -/
structure Pkg where
  phase : Phase := .run
  since : Nat := 0
  cause : Nat := 0
  warmCount : Nat := 0
  rstLow : Bool := false
  retAt : Nat := 0
  warmAt : Nat := 0
  warmHeld : Nat := 0
  offLow : Bool := false
  offAt : Nat := 0
  offCyc : Nat := 0
  offTrips : Nat := 0
  offCount : Nat := 0
  refA : Bool := true
  refB : Bool := true
  refUse : Bool := false
  refLost : Bool := false
  pllLocked : Bool := true
  lead : Nat := 0
  hand : Option Nat := none
  handLost : Bool := false
  gen : Nat := 1
  sumWas : Bool := false
  evSeq : Nat := 0
  faultWas : Nat := 0
  ewWas : Nat := 0
  dirtyWas : Bool := false
  mode : Nat := 1
  modeReq : Option Nat := none
  testInstr : Nat := 2
  testHold : Bool := false
  width : Nat := 0
  mode3 : Bool := false
  dr : Nat := 0
  wearAt : Nat := 0
  epoch : Nat := 0
  late : Late := []
  deriving DecidableEq, Repr

/-- What every page with a header keeps (02_pages_and_gazetteer.md R34 to R47): lock 0 LOCKED, 1 ARMED, 2 UNLOCKED. hot holds
the event bits set in the CORE cycle of the command, or of the word of a frame, that is being taken: each counts once (R43). -/
structure Page where
  evt : Word := 0
  count : Nat := 0
  hot : Word := 0
  lock : Nat := 0
  ini : Ini := .qspi
  armAt : Nat := 0
  lastWr : Nat := 0
  soft : Option Nat := none
  stale : Bool := false
  deriving DecidableEq, Repr

/-- The state of the block. regs holds the register words that differ from their reset word, by byte address; pages,
slots and dies hold what differs from a fresh page, slot or die; feram holds the FeRAM bytes that are not 0, at
0x80000 for each die plus the byte offset; capt the capture words that are not 0, at 0x40000 for each die plus 4 for
each word; outbox is the model's own record of the outputs, oldest first, each with its CORE cycle; shadow the shadow words that are not 0 and fresh the RS words that are fresh, at 2^24 for the ring copy plus
the byte address. later: the commands that a condition of higher rank in their CORE cycle put off to the next one (R100). -/
structure State where
  now : Nat
  ident : Ident
  pkg : Pkg
  regs : List (Nat × Word)
  pages : List (Nat × Page)
  slots : List (Nat × Slot)
  dies : List (Nat × Die)
  frames : Frames
  qport : QPort
  ports : List Port
  pairAB : Pair
  pairCD : Pair
  routes : Routes
  mer : Mer
  xact : Xact
  nurs : List NReq
  cfg : Cfg
  feram : List Host.Cell
  capt : List (Nat × Word)
  shadow : List (Nat × Word)
  fresh : List (Nat × Bool)
  copies : List Copy
  heard : List Heard
  outbox : List (Nat × Out)
  rsp : List Word
  free : Nat
  later : List Instr
  pending : List Instr
  deriving DecidableEq, Repr

/-- The reasons for a fault. No command raises one: every condition the spec calls a fault is a state of the block. -/
inductive Fault where
  /-- Raised by no command; it stands so that the type has a member. Safe. -/
  | none
  deriving DecidableEq, Repr

/-- The reasons for a refusal. -/
inductive Refusal where
  /-- Raised by exec for a command that has no meaning yet. Safe: nothing is claimed of it. -/
  | notModelled (mnemonic : String)
  deriving DecidableEq, Repr

/-- The CFG_DEFAULTED record that the lead die writes at entry to RUN when neither copy is valid (R410, R417). -/
def resetRecord : Rec :=
  { time := 0, block := 9, inst := 0, code := 0x0002, seq := 0, data := [0, 3, 0, 0, 0, 0, 0, 0, 0, 0, 0, 0], unsync := true }

/-- The block at entry to RUN after power-on with the configuration defaulted and the AUTOSTART strap low
(00_scope.md R12, log entry 5). The first frame boundary is the next one on the grid of R217. -/
def State.reset : State where
  now := 0
  ident := {}
  pkg := {}
  regs := []
  pages := [(0x00E, { evt := 1, count := 1 })]
  slots := []
  dies := [(0, { log := { queue := [resetRecord], seq := 1 } })]
  frames := { nextAt := 40960 }
  qport := {}
  ports := [{}, {}, {}, {}]
  pairAB := { join := 1 }
  pairCD := {}
  routes := []
  mer := { ppsNext := 1 }
  xact := {}
  nurs := []
  cfg := {}
  feram := []
  capt := []
  shadow := []
  fresh := []
  copies := []
  heard := []
  outbox := []
  rsp := []
  free := 0
  later := []
  pending := []

end Sys2Proof.Machine
end

