-- ==== Sys2Proof/Machine/RegTable.lean ====
section
/-! DEFINITION. The address map of 02_pages_and_gazetteer.md R31, and the register tables of every page: offsets, access codes, locks, writable fields with their encodings, and the words after power-on (00_scope.md R12, R482). -/
namespace Sys2Proof.Machine

/-- The block types of R36. -/
inductive Blk where
  | gaz | pkg | mode | clk | host | xact | ring | mer | terr | nurs | cfg | log
  | die | belv | queue | cont | fact | slot | capt | feram
  deriving DecidableEq, Repr

/-- A decoded address: block, instance, byte offset in the page or window (R31). -/
structure Loc where
  blk : Blk
  inst : Nat
  off : Nat
  deriving DecidableEq, Repr

/-! ## Page bases (R31) -/
def pkgB : Nat := 0x4000
def modeB : Nat := 0x5000
def clkB : Nat := 0x6000
def hostB : Nat := 0x7000
def xactB : Nat := 0x8000
def ringB (pair : Nat) : Nat := 0x9000 + 0x1000 * pair
def merB : Nat := 0xB000
def terrB : Nat := 0xC000
def nursB : Nat := 0xD000
def cfgB : Nat := 0xE000
def logB : Nat := 0xF000
def dieB (d : Nat) : Nat := 0x10000 + 0x1000 * d
def belvB (d : Nat) : Nat := 0x20000 + 0x2000 * d
def queueB : Nat := 0x30000
def contB (d : Nat) : Nat := 0x40000 + 0x4000 * d
def factB (d : Nat) : Nat := 0x80000 + 0x2000 * d
def slotB (s : Nat) : Nat := 0x100000 + 0x1000 * s
def captB : Nat := 0x200000
def feramB (d : Nat) : Nat := 0x400000 + 0x80000 * d

/-- The number of a page: address bits [23:12] of its base (R45). -/
def pageNo (base : Nat) : Nat := base / 4096

/-- The blocks of the package pages from 0x00_4000 to 0x00_FFFF, in order (R31). -/
def pkgPages : List Blk := [.pkg, .mode, .clk, .host, .xact, .ring, .ring, .mer, .terr, .nurs, .cfg, .log]

/-- The page or window an address lies in; none where R31 leaves the address unmapped. -/
def locate (a : Nat) : Option Loc :=
  if a < 0x4000 then some ⟨.gaz, 0, a⟩
  else if a < 0x10000 then
    let k := a / 4096
    some ⟨pkgPages.getD (k - 4) .pkg, if k == 10 then 1 else 0, a % 4096⟩
  else if a < 0x18000 then some ⟨.die, a / 0x1000 - 0x10, a % 0x1000⟩
  else if a < 0x20000 then none
  else if a < 0x30000 then some ⟨.belv, a / 0x2000 - 0x10, a % 0x2000⟩
  else if a < 0x31000 then some ⟨.queue, 0, a - 0x30000⟩
  else if a < 0x40000 then none
  else if a < 0x60000 then some ⟨.cont, a / 0x4000 - 0x10, a % 0x4000⟩
  else if a < 0x80000 then none
  else if a < 0x90000 then some ⟨.fact, a / 0x2000 - 0x40, a % 0x2000⟩
  else if a < 0x100000 then none
  else if a < 0x180000 then some ⟨.slot, a / 0x1000 - 0x100, a % 0x1000⟩
  else if a < 0x200000 then none
  else if a < 0x400000 then some ⟨.capt, 0, a - 0x200000⟩
  else if a < 0x800000 then some ⟨.feram, 0, a - 0x400000⟩
  else none

/-- The base address of a located page. -/
def Loc.base (l : Loc) : Nat :=
  match l.blk with
  | .gaz => 0 | .pkg => pkgB | .mode => modeB | .clk => clkB | .host => hostB | .xact => xactB
  | .ring => ringB l.inst | .mer => merB | .terr => terrB | .nurs => nursB | .cfg => cfgB | .log => logB
  | .die => dieB l.inst | .belv => belvB l.inst | .queue => queueB | .cont => contB l.inst
  | .fact => factB l.inst | .slot => slotB l.inst | .capt => captB | .feram => feramB 0

/-- The page number of a located page. -/
def Loc.page (l : Loc) : Nat := pageNo l.base

/-- Whether a block carries the common page header (R32). -/
def Blk.header : Blk → Bool
  | .gaz | .capt | .feram => false
  | _ => true

/-- PAGE_CAP.LOCKABLE (R37): the page holds locked registers. -/
def Blk.lockable : Blk → Bool
  | .slot | .die | .terr | .cont | .xact | .ring | .mer | .nurs | .cfg | .log | .mode => true
  | _ => false

/-- PAGE_CAP.SHADOWED (R37): the page holds 64-bit values read under R49. -/
def Blk.shadowed : Blk → Bool
  | .pkg | .slot | .belv | .queue | .cont | .xact | .mer | .log => true
  | _ => false

/-- The block type codes of R36. -/
def Blk.code : Blk → Nat
  | .gaz => 1 | .pkg => 2 | .mode => 3 | .clk => 4 | .host => 5 | .xact => 6 | .ring => 7 | .mer => 8
  | .terr => 9 | .nurs => 0xA | .cfg => 0xB | .log => 0xC | .die => 0x10 | .belv => 0x11 | .queue => 0x12
  | .cont => 0x13 | .fact => 0x14 | .slot => 0x20 | .capt => 0x30 | .feram => 0x31

/-! ## Register rows -/

/-- The encodings a writable field accepts (R14). -/
inductive Dom where
  | any
  | rng (lo hi : Nat)
  | zrng (lo hi : Nat)
  | srng (width : Nat) (lo hi : Int)
  deriving DecidableEq, Repr

/-- Whether a value is an encoding of the field. -/
def Dom.ok (d : Dom) (v : Nat) : Bool :=
  match d with
  | .any => true
  | .rng lo hi => decide (lo ≤ v) && decide (v ≤ hi)
  | .zrng lo hi => v == 0 || (decide (lo ≤ v) && decide (v ≤ hi))
  | .srng w lo hi => decide (lo ≤ toSigned w v) && decide (toSigned w v ≤ hi)

/-- A writable field: bits [hi:lo] and its encodings. -/
structure Fld where
  hi : Nat
  lo : Nat
  dom : Dom := .any
  deriving DecidableEq, Repr

/-- The access codes of R9. -/
inductive Acc where
  | ro | rw | w1c | w1s | wo | rp | rs
  deriving DecidableEq, Repr

/-- A row: cnt registers from off, stride bytes apart, with their access, lock mark, words after power-on (the last
word standing for all further registers), writable fields, and whether the Reset column reads cfg. -/
structure Row where
  off : Nat
  cnt : Nat := 1
  stride : Nat := 4
  acc : Acc
  locked : Bool := false
  cfg : Bool := false
  words : List Nat := [0]
  flds : List Fld := []
  deriving DecidableEq, Repr

def f (hi lo : Nat) : Fld := { hi := hi, lo := lo }
def fr (hi lo a b : Nat) : Fld := { hi := hi, lo := lo, dom := .rng a b }
def fz (hi lo a b : Nat) : Fld := { hi := hi, lo := lo, dom := .zrng a b }
def fs (hi lo : Nat) (a b : Int) : Fld := { hi := hi, lo := lo, dom := .srng (hi + 1 - lo) a b }

/-- A locked RW register loaded from the configuration. -/
def lk (off word : Nat) (flds : List Fld) : Row :=
  { off := off, acc := .rw, locked := true, cfg := true, words := [word], flds := flds }
/-- An RW register loaded from the configuration. -/
def rw (off word : Nat) (flds : List Fld) : Row :=
  { off := off, acc := .rw, cfg := true, words := [word], flds := flds }
/-- An RW register with a fixed reset word of 0. -/
def rw0 (off : Nat) (flds : List Fld) : Row := { off := off, acc := .rw, flds := flds }
def ro (off : Nat) : Row := { off := off, acc := .ro }
def rs (off : Nat) : Row := { off := off, acc := .rs }
def act (off : Nat) : Row := { off := off, acc := .w1s }
def actL (off : Nat) : Row := { off := off, acc := .w1s, locked := true }
def wo (off : Nat) : Row := { off := off, acc := .wo }
/-- cnt copies of a row. -/
def Row.times (r : Row) (cnt stride : Nat) : Row := { r with cnt := cnt, stride := stride }

/-- The common page header (R34). PAGE_CTRL, EVT_STAT, EVT_FORCE, EVT_COUNT and PAGE_LOCK are written by rules of their own. -/
def hdrRows : List Row :=
  [ ro 0x00, ro 0x04, { off := 0x08, acc := .rw, cfg := true, flds := [f 0 0] }, ro 0x0C,
    { off := 0x10, acc := .w1c }, rw 0x14 0 [f 31 29, f 23 0], wo 0x18, rw0 0x1C [], wo 0x20 ]

/-- PKG (R66, R67). -/
def pkgRows : List Row :=
  [ ro 0x40, ro 0x44, rs 0x48, ro 0x4C, ro 0x50, ro 0x54, ro 0x58, ro 0x5C, ro 0x60, rs 0x64, (ro 0x80).times 7 4,
    rw 0x9C 0 [f 3 0], rw 0xA0 0 [f 31 31, f 13 0] ]

/-- MODE (R450, R451). -/
def modeRows : List Row :=
  [ rw 0x40 1 [f 2 0], ro 0x44, rw 0x48 0 [f 4 0], ro 0x4C, { off := 0x50, acc := .wo, locked := true }, ro 0x54, ro 0x58 ]

/-- CLK (R452). -/
def clkRows : List Row := [ ro 0x40, act 0x44, ro 0x48 ]

/-- HOST (R463, R464). -/
def hostRows : List Row := [ rw0 0x40 [fr 1 0 0 2], ro 0x44, ro 0x48, ro 0x4C ]

/-- XACT (R351, R352). -/
def xactRows : List Row :=
  [ rw0 0x40 [f 31 31, f 13 0], rw0 0x44 [f 23 0], wo 0x48, ro 0x4C, ro 0x50,
    rw 0x54 2000 [f 31 24, fr 19 0 10 1000000], ro 0x58, ro 0x5C, { off := 0x60, acc := .rp }, rs 0x64, ro 0x68, ro 0x6C,
    ro 0x70, lk 0x80 0 [f 31 31, f 7 0], ro 0x84, ro 0x88, (lk 0xA0 0 [f 29 16, f 13 0]).times 8 4,
    (rw0 0x100 [f 31 0]).times 64 4, (rs 0x200).times 64 4 ]

/-- RINGAB and RINGCD (R354, R355). -/
def ringRows (pair : Nat) : List Row :=
  [ lk 0x40 (if pair == 0 then 0x8021 else 0x8020) [f 31 31, f 30 24, f 22 16, f 15 8, f 5 5, f 4 4, if pair == 0 then fr 1 0 0 1 else fz 1 0 2 3],
    act 0x44, rw 0x48 10 [fr 7 0 1 100], ro 0x4C, ro 0x50, ro 0x54, ro 0x58, ro 0x5C, ro 0x60, ro 0x64, (ro 0x70).times 4 4 ] ++
  (if pair == 0 then [] else [(lk 0x80 0 [f 31 0]).times 4 4])

/-- MER (R379 to R381). -/
def merRows : List Row :=
  [ lk 0x40 0 [f 31 31, f 10 10, f 9 8], rw 0x44 8 [fr 12 0 1 8000], lk 0x48 1000 [fr 29 0 100 1000000000],
    lk 0x4C 0x06020A04 [f 27 24, f 19 16, f 11 8, f 3 0], { off := 0x50, acc := .w1s }, act 0x54, ro 0x58, ro 0x5C,
    ro 0x60, ro 0x64, ro 0x68, ro 0x6C, ro 0x70, rs 0x74, rs 0x78, rw0 0x80 [f 31 0], rw0 0x84 [f 15 0],
    rw 0x88 0 [f 31 31, f 30 30, f 15 0], ro 0x8C, ro 0x90,
    rw 0x94 0x000186A0 [f 31 31, f 30 30, fr 29 28 0 2, f 24 24, f 23 20, fr 18 0 1 500000],
    rw 0x98 0 [fs 31 0 (-500000000) 499999999], wo 0xA0, { off := 0xA4, acc := .rp }, rs 0xA8, rs 0xAC, ro 0xB0,
    (ro 0xC0).times 4 16, (rs 0xC4).times 4 16, (rs 0xC8).times 4 16, (rs 0xCC).times 4 16, (ro 0x100).times 4 16,
    (lk 0x104 0 [f 15 0]).times 4 16, (ro 0x108).times 4 16, (ro 0x10C).times 4 16, rw 0x140 64 [fr 7 0 4 255], ro 0x144,
    (rw 0x200 0 [fr 29 0 0 999999999]).times 16 32, (rw 0x204 0 [f 31 0]).times 16 32, (rw 0x208 0 [f 15 0]).times 16 32,
    (rw 0x20C 0 [fz 31 0 1000 4294967295]).times 16 32, (rw 0x210 0 [f 31 31, f 0 0]).times 16 32,
    (ro 0x214).times 16 32, (ro 0x218).times 16 32 ]

/-- TERR (R203). -/
def terrRows : List Row :=
  [ { off := 0x44, cnt := 7, acc := .rw, locked := true, cfg := true,
      words := [0x00640050, 0x00C80050, 0x012C0050, 0x01900050, 0x01F40050, 0x02580050, 0x02BC0050],
      flds := [fr 25 16 1 1000, fr 8 0 20 400] }, ro 0x60, ro 0x64, ro 0x68, ro 0x6C ]

/-- NURS (R395, R396). -/
def nursRows : List Row :=
  [ lk 0x40 0 [f 7 7, f 4 4, f 3 3, f 2 2, f 1 1, f 0 0], lk 0x44 3 [fr 3 0 1 15], lk 0x48 2000 [fr 15 0 10 20000],
    lk 0x4C 25 [fr 7 0 5 120], rw 0x50 60 [fr 11 0 10 3600], ro 0x54, { off := 0x58, acc := .wo, locked := true }, ro 0x5C,
    ro 0x60, rw0 0x70 [f 6 0], (ro 0x74).times 5 4, rw 0x90 0 [f 31 0], rw 0x94 0 [f 31 0], rw 0x98 0 [f 31 0], (ro 0xA0).times 8 4 ]

/-- CFG (R426). -/
def cfgRows : List Row := [ ro 0x40, ro 0x44, actL 0x48, ro 0x4C, ro 0x50, ro 0x54, (ro 0x80).times 8 4 ]

/-- LOG (R428). -/
def logRows : List Row :=
  [ rw 0x40 1000 [f 31 31, fr 13 0 1 10000], rw0 0x44 [f 31 31, f 18 16, f 11 0], ro 0x48, (rs 0x4C).times 7 4, actL 0x70,
    (ro 0x80).times 8 8, (ro 0x84).times 8 8 ]

/-- DIE (R122, R156, R179, R180). -/
def dieRows : List Row :=
  [ rw 0x200 0x0007005A [f 18 18, f 17 17, f 16 16, fr 9 0 90 800], ro 0x204, ro 0x210, ro 0x214, ro 0x220, ro 0x224,
    lk 0x228 0x8000086E [f 31 31, fr 12 8 2 31, fz 7 0 40 140], act 0x22C, ro 0x230, ro 0x234, (ro 0x240).times 9 4 ]

/-- BELV (R238 to R240, R270, R397). Offsets 0x40 to 0x6F are one set of registers for the package (R224). -/
def belvRows : List Row :=
  [ rw 0x40 0x40 [f 8 8, fr 6 4 0 6, f 1 1],
    rw 0x44 0 [f 23 16, f 11 8, f 4 4, f 2 2, f 1 1, f 0 0], rw 0x48 0 [f 15 0], rw 0x4C 0 [f 15 0], rw 0x50 0 [f 15 0],
    rw 0x54 0xFFFF0001 [fr 31 16 1 65535, fr 15 0 1 65535], wo 0x58, ro 0x5C, ro 0x60, ro 0x64, ro 0x68,
    rw 0x100 0 [f 31 0], ro 0x104, ro 0x108, ro 0x110, ro 0x114, ro 0x118, ro 0x11C, ro 0x120, ro 0x124,
    rw0 0x130 [f 31 16, fr 5 4 0 2, f 2 2, f 1 1, f 0 0], rw 0x134 0x00191432 [fr 25 24 0 2, fr 23 16 1 250, fr 15 8 1 255, fr 7 0 1 255],
    ro 0x138, (ro 0x200).times 32 4, (ro 0x300).times 33 4,
    rw 0x400 0 [f 31 31, f 16 0], rw 0x404 0x40000000 [f 31 0], rw 0x408 0 [f 31 0], rw 0x40C 0 [f 0 0], rw 0x410 0 [f 31 0],
    ro 0x414, ro 0x420, rs 0x424, rw 0x440 0 [f 1 1, f 0 0], act 0x444, ro 0x448,
    (rw 0x500 0 [f 31 0]).times 65 8, (rw 0x504 0x40000000 [fr 31 0 0x20000000 0x80000000]).times 65 8,
    (ro 0x780).times 38 8, (ro 0x784).times 38 8, (ro 0x900).times 34 4, (ro 0x980).times 38 4, ro 0xA20,
    (ro 0x1000).times 256 16, (rs 0x1004).times 256 16, (rs 0x1008).times 256 16 ]

/-- QUEUE (R269). -/
def queueRows : List Row :=
  [ { off := 0x40, acc := .rp }, rs 0x44, rs 0x48, ro 0x50, rs 0x54, rs 0x58, rw 0x60 1 [f 31 31, f 27 16, fr 5 0 1 63],
    ro 0x64, ro 0x68, rw 0x70 50 [f 31 31, f 29 16, fr 7 0 1 255], ro 0x74, ro 0x78, ro 0x7C ]

/-- CONT (R307 to R313). The default words of section 0 of each bank follow R482; the other sections pass through. -/
def contRows : List Row :=
  [ lk 0x40 0x81 [fr 7 4 1 8, f 1 0], ro 0x44, ro 0x48, act 0x4C, (ro 0x50).times 4 4, ro 0x60, ro 0x64, ro 0x80, ro 0x84,
    (lk 0x100 0x0500C010 [f 31 24, f 15 12, f 8 8, fr 7 4 1 8, f 2 2, f 1 0]).times 18 64,
    (lk 0x104 0x01FF0200 [fs 25 16 (-511) 511, fs 9 0 (-512) 510]).times 18 64,
    (lk 0x108 0x04000000 [fr 31 0 0 0x20000000]).times 18 64,
    (lk 0x10C 0x10000000 [fz 31 24 4 255, fr 18 16 0 5, f 11 8]).times 18 64,
    (lk 0x110 0 [f 31 0]).times 18 64, (lk 0x114 10 [f 9 0]).times 18 64, (actL 0x118).times 18 64,
    (ro 0x11C).times 18 64, (ro 0x120).times 18 64, (ro 0x124).times 18 64, (ro 0x128).times 18 64, (rs 0x12C).times 18 64,
    (rs 0x130).times 18 64, (rs 0x134).times 18 64,
    lk 0x600 0 [fr 25 24 0 1, f 23 20, fr 19 16 7 15, fr 12 8 0 17, f 3 3, fr 2 0 0 3], lk 0x604 0 [fr 31 0 0 0x40000000], actL 0x608, ro 0x60C,
    rw 0x610 1 [fr 15 0 1 32767], rw 0x614 1 [fr 15 0 1 32767], rw 0x618 1 [fr 23 0 1 16777215], rw 0x61C 0 [f 15 0],
    (rw 0x640 0 [f 31 16, f 15 0]).times 16 4,
    rw 0x680 0x00010200 [f 30 28, f 23 16, fr 11 8 1 15, fr 4 0 0 17], rw 0x684 0 [f 12 0], rw 0x688 0x04000000 [fr 31 0 1 0x7FFFFFFF],
    act 0x68C, ro 0x690, ro 0x694, ro 0x698, rs 0x69C, rs 0x6A0 ]

/-- The word after power-on of one word of a coefficient bank, at a byte offset in the bank (R311, R482). -/
def bankDefault (o : Nat) : Nat :=
  let k := o / 32 % 8
  match o % 32 with
  | 0 => if k == 0 then 0x08041893 else 0x10000000
  | 4 => if k == 0 then 0xF8000000 else 0
  | 12 => if k == 0 then 0xF0000000 else 0
  | 20 => if k == 0 then 1 else 0
  | _ => 0

/-- The writable fields of a bank word; none at the reserved offsets +0x18 and +0x1C (R311). -/
def bankFields (o : Nat) : Option (List Fld) :=
  if o % 32 == 20 then some [f 0 0] else if o % 32 < 20 then some [f 31 0] else none

/-- FACT (R271). -/
def factRows : List Row := [ ro 0x40, ro 0x44, (ro 0x100).times 65 16, (ro 0x104).times 65 16, (ro 0x108).times 65 16 ]

/-- SLOT (R94, R118, R152, R176, R205, R272). -/
def slotRows : List Row :=
  [ ro 0x40, ro 0x80, rs 0x84, rs 0x88, rs 0x8C, rs 0x90, rs 0x94, ro 0xA0, rs 0xA4, rs 0xA8, rs 0xAC, rs 0xB0, act 0xB4,
    lk 0x100 0x22 [fr 5 4 0 3, f 1 1, f 0 0], lk 0x104 0x3E8 [fr 23 0 50 100000], lk 0x108 0x00320032 [fr 23 16 10 200, fr 7 0 10 250],
    lk 0x10C 0x0A19 [fr 23 8 1 10000, fr 7 0 5 150], lk 0x110 0x040A [fr 15 8 2 16, fr 7 0 2 50], ro 0x114, ro 0x118,
    wo 0x140, lk 0x144 0x5A0A8A40 [fr 30 24 50 98, fr 23 16 1 255, f 15 15, f 14 14, f 13 13, f 12 8, fr 7 4 1 8, fr 1 0 0 2],
    lk 0x148 0x00640032 [fr 31 16 1 10000, fr 15 0 1 65535], lk 0x14C 0x00A003E8 [fr 31 28 0 10, fr 27 20 0 100, fr 15 0 1 65535],
    lk 0x150 0x07D0000A [fr 31 16 1 65535, fr 15 0 1 65535], ro 0x154, ro 0x158, ro 0x15C, ro 0x160,
    lk 0x180 0x07D00001 [fr 31 16 100 10000, fr 1 0 0 2], lk 0x184 0x000F4240 [fr 23 0 10 16777215], lk 0x188 0x3E8 [f 15 0], ro 0x18C,
    { off := 0x190, cnt := 8, acc := .rw, locked := true, cfg := true,
      words := [0x09989680, 0x0C3D0900, 0x1016E360, 0x1807A120, 0x20030D40, 0x3000EA60, 0x400061A8, 0x50002EE0],
      flds := [fr 31 24 9 255, fr 23 0 10 16777215] },
    lk 0x1B0 0x500A0352 [fz 31 24 50 95, fr 23 16 1 255, fz 9 0 100 950],
    lk 0x1B4 0x03E81312 [fr 31 16 1 65535, fr 13 12 0 2, f 11 8, f 4 4, f 1 1],
    lk 0x1B8 0x003C0078 [fr 31 16 1 65535, fr 9 0 0 600], ro 0x1BC, ro 0x1C0, ro 0x1C4, ro 0x1C8, rs 0x1CC, rs 0x1D0,
    lk 0x200 0x01F40004 [fr 31 16 1 65535, fr 2 0 1 4], lk 0x204 0x0D6B64D8 [fr 31 16 2000 6000, fr 15 8 25 150, fs 7 0 (-40) 25],
    lk 0x208 0x9664 [fr 15 8 50 200, fr 7 0 0 199], ro 0x20C, ro 0x210, ro 0x214,
    { off := 0x220, cnt := 4, stride := 8, acc := .rw, locked := true, cfg := true, words := [0x64, 0x190, 0x3E8, 0x7D0], flds := [fr 15 0 1 65535] },
    { off := 0x224, cnt := 4, stride := 8, acc := .rw, locked := true, cfg := true, words := [0x32, 0x3E8, 0x4E20, 0x30D40], flds := [fr 23 0 1 16777215] },
    lk 0x280 0 [f 2 0], lk 0x284 0 [f 31 31, f 30 30, f 26 24, f 22 16, f 13 0], lk 0x288 0 [f 31 31, f 30 30, f 26 24, f 22 16, f 13 0],
    ro 0x28C, ro 0x290, ro 0x294 ]

/-- The block-specific rows of a page. -/
def rowsOf (b : Blk) (inst : Nat) : List Row :=
  match b with
  | .pkg => pkgRows | .mode => modeRows | .clk => clkRows | .host => hostRows | .xact => xactRows | .ring => ringRows inst
  | .mer => merRows | .terr => terrRows | .nurs => nursRows | .cfg => cfgRows | .log => logRows | .die => dieRows
  | .belv => belvRows | .queue => queueRows | .cont => contRows | .fact => factRows | .slot => slotRows
  | .gaz | .capt | .feram => []

/-- Whether an offset is a register of the row. -/
def Row.hit (r : Row) (o : Nat) : Bool :=
  decide (r.off ≤ o) && (o - r.off) % r.stride == 0 && decide ((o - r.off) / r.stride < r.cnt)

/-- The row of an offset, in a page with a header or a coefficient bank; none at a reserved offset. -/
def rowAt (l : Loc) : Option Row :=
  if !l.blk.header then none
  else if l.off < 0x40 then hdrRows.find? (fun r => r.hit l.off)
  else if l.blk == .cont && decide (0x1000 ≤ l.off) && decide (l.off < 0x2200) then
    (bankFields (l.off - 0x1000)).map (fun fl => { off := l.off, acc := .rw, cfg := true, words := [bankDefault (l.off - 0x1000)], flds := fl })
  else if l.blk == .cont && decide (0x2200 ≤ l.off) && decide (l.off < 0x3400) then
    (bankFields (l.off - 0x2200)).map (fun _ => { off := l.off, acc := .ro, words := [bankDefault (l.off - 0x2200)] })
  else if l.blk == .cont && decide (0x3400 ≤ l.off) && decide (l.off < 0x3D00) then
    some { off := l.off, acc := if l.off % 8 == 0 then .ro else .rs }
  else (rowsOf l.blk l.inst).find? (fun r => r.hit l.off)

/-- The word of a row after power-on (R12, R482). -/
def Row.word (r : Row) (o : Nat) : Word :=
  BitVec.ofNat 32 (r.words.getD ((o - r.off) / r.stride) (r.words.getLastD 0))

/-- The PAGE_CTRL words of R482: ENABLE is 1 on the TERR and CONT pages and 0 on the SLOT pages; the other pages
cannot be disabled (R39). -/
def ctrlDefault (b : Blk) : Word := if b == .slot then 0 else 1

/-- The word of a register after power-on with the configuration defaulted. -/
def resetWord (a : Nat) : Word :=
  match locate a with
  | none => 0
  | some l =>
    if l.off == 8 && l.blk.header then ctrlDefault l.blk
    else match rowAt l with
      | none => 0
      | some r => r.word l.off

end Sys2Proof.Machine
end

