-- ==== Sys2Proof/Machine/Ops.lean ====
section
/-! DEFINITION. The named operations over State: registers, pages and their events, slots, dies, time, the event log, the Gazetteer generation and the Nursery's shared effects. -/
namespace Sys2Proof.Machine

/-! ## Homes -/

def State.slot (s : State) (n : Nat) : Slot := mget {} s.slots n
def State.setSlot (s : State) (n : Nat) (v : Slot) : State := { s with slots := mset {} s.slots n v }
def State.modSlot (s : State) (n : Nat) (g : Slot → Slot) : State := s.setSlot n (g (s.slot n))
def State.die (s : State) (d : Nat) : Die := mget {} s.dies d
def State.setDie (s : State) (d : Nat) (v : Die) : State := { s with dies := mset {} s.dies d v }
def State.modDie (s : State) (d : Nat) (g : Die → Die) : State := s.setDie d (g (s.die d))
def State.page (s : State) (p : Nat) : Page := mget {} s.pages p
def State.setPage (s : State) (p : Nat) (v : Page) : State := { s with pages := mset {} s.pages p v }
def State.modPage (s : State) (p : Nat) (g : Page → Page) : State := s.setPage p (g (s.page p))

/-- The word a register holds: the listed word, else its word after power-on. -/
def State.reg (s : State) (a : Nat) : Word := mget (resetWord a) s.regs a
def State.setReg (s : State) (a : Nat) (v : Word) : State := { s with regs := mset (resetWord a) s.regs a v }
/-- A field of a register. -/
def State.rf (s : State) (a hi lo : Nat) : Nat := fld (s.reg a) hi lo
def State.setRf (s : State) (a hi lo v : Nat) : State := s.setReg a (setFld (s.reg a) hi lo v)
/-- Add to a field of a register, saturating. -/
def State.addSat (s : State) (a hi lo n : Nat) : State :=
  s.setRf a hi lo (sat (2 ^ (hi + 1 - lo) - 1) (s.rf a hi lo + n))
/-- Add to a field of a register, wrapping. -/
def State.addWrap (s : State) (a hi lo n : Nat) : State := s.setRf a hi lo (s.rf a hi lo + n)

def State.modPkg (s : State) (g : Pkg → Pkg) : State := { s with pkg := g s.pkg }

/-- Fold a change over a list. -/
def State.each {α : Type} (s : State) (l : List α) (g : α → State → State) : State := l.foldl (fun s x => g x s) s

/-! ## Dies and slots of the part (R1, R5, R18) -/

def Part.dies : Part → Nat
  | .kq2032 => 2 | .kq4064 => 4 | .kq8128 => 8
def Part.code : Part → Nat
  | .kq2032 => 0x2032 | .kq4064 => 0x4064 | .kq8128 => 0x8128

def dieOf (n : Nat) : Nat := n / 16
def localOf (n : Nat) : Nat := n % 16
def slotOf (d n : Nat) : Nat := 16 * d + n
def slotsOf (d : Nat) : List Nat := (List.range 16).map (slotOf d)

def State.fitted (s : State) (d : Nat) : Bool := decide (d < s.ident.part.dies)
/-- The die's bit of DIES_PRESENT (R33, R58). -/
def State.present (s : State) (d : Nat) : Bool := s.fitted d && (s.die d).present
def State.presentDies (s : State) : List Nat := (List.range 8).filter s.present
def State.presentMask (s : State) : Nat := maskOf s.presentDies
/-- Whether a slot exists on a present die. -/
def State.slotHere (s : State) (n : Nat) : Bool := decide (n < 128) && s.present (dieOf n)
/-- Whether the part is in RUN and the die serves its blocks. -/
def State.runs (s : State) (d : Nat) : Bool := s.pkg.phase == .run && s.present d && (s.die d).mode == .normal
def State.inRun (s : State) : Bool := s.pkg.phase == .run
/-- Whether a lead die is in place: it drives the package outputs and acts on their inputs (R19). -/
def State.leadIn (s : State) : Bool := s.runs s.pkg.lead

/-! ## Page events (R41 to R44) -/

/-- Set event bits of a page: each bit counts once in a CORE cycle, saturating at 0xFFFF (R42, R43). -/
def Page.set (p : Page) (bits : List Nat) : Page :=
  let m := BitVec.ofNat 32 (maskOf bits.dedup)
  { p with evt := p.evt ||| m, hot := p.hot ||| m, count := sat 65535 (p.count + (bits.dedup.filter (fun b => !bit p.hot b)).length) }
/-- The CORE cycle of a command, or of one word of a frame, is over: the next events count again (R43). -/
def State.cool (s : State) : State := { s with pages := s.pages.map (fun e => (e.1, { e.2 with hot := 0 })) }
def State.evt (s : State) (page : Nat) (bits : List Nat) : State := s.modPage page (·.set bits)
def State.evtSlot (s : State) (n : Nat) (bits : List Nat) : State := s.evt (pageNo (slotB n)) bits
def State.evtDie (s : State) (d : Nat) (bits : List Nat) : State := s.evt (pageNo (dieB d)) bits
def State.evtBelv (s : State) (d : Nat) (bits : List Nat) : State := s.evt (pageNo (belvB d)) bits
def State.evtCont (s : State) (d : Nat) (bits : List Nat) : State := s.evt (pageNo (contB d)) bits
/-- The event bit of a refused action (R41). -/
def State.reject (s : State) (page : Nat) : State := s.evt page [31]

/-! ## Time (R23, R358) -/

/-- 2^32 parts of one nanosecond. -/
def NS : Nat := 2 ^ 32
def billion : Nat := 1000000000
/-- Meridian time now, in whole nanoseconds. -/
def State.nowNs (s : State) : Nat := s.mer.count / NS
/-- Seconds and nanoseconds of a count in units of 2^-32 ns. -/
def secOf (count : Nat) : Nat := count / NS / billion
def nsOf (count : Nat) : Nat := count / NS % billion
/-- Whether Meridian is not LOCKED (R414 FLAGS.UNSYNC). -/
def State.unsync (s : State) : Bool := s.mer.st != 1

/-- The Meridian counter copy of a die (R17, R360): the part's counter, or, while the die is off the Trellis, the count it left
with, run on at the rate of that moment (R373). -/
def State.count (s : State) (d : Nat) : Nat :=
  match (s.die d).apart with
  | none => s.mer.count
  | some (c, t, r) => ((c : Int) + (s.now - t : Nat) * (5 * NS + r)).toNat
/-- The copy of a die that leaves the Trellis runs on by itself. -/
def State.setApart (s : State) (d : Nat) : State := s.modDie d (fun x => { x with apart := some (s.count d, s.now, s.mer.rate) })
/-- The copy of a die that rejoins follows the lead die's counter again (R22, R361). -/
def State.align (s : State) (d : Nat) : State := s.modDie d (fun x => { x with apart := none })

/-- Bytes of a number, little-endian. -/
def le : Nat → Nat → List Nat
  | 0, _ => []
  | n + 1, v => v % 256 :: le n (v / 256)
def leInt (n : Nat) (v : Int) : List Nat := le n (ofSigned (8 * n) v)
/-- The number that little-endian bytes hold. -/
def unle : List Nat → Nat
  | [] => 0
  | b :: r => b + 256 * unle r

/-- One CORE cycle with no command (log entry 1): time and the Meridian counter advance (R23, R359). -/
def State.tick (s : State) : State :=
  { s with now := s.now + 1, mer := { s.mer with count := ((s.mer.count : Int) + 5 * NS + s.mer.rate).toNat } }

/-! ## The event log (R174, R414 to R423) -/

/-- Whether the die may not write its FeRAM: R173, and outside RUN (R435). -/
def State.feramBlocked (s : State) (d : Nat) : Bool :=
  (s.die d).grat.blocked || s.pkg.phase != .run || (s.die d).mode != .normal

/-- Hand a record to the FeRAM writer, or hold or drop it while writes are blocked (R174, R418). -/
def State.logPut (s : State) (d : Nat) (r : Rec) : State :=
  let l := (s.die d).log
  let r := { r with seq := l.seq }
  let next := (l.seq + 1) % 65536
  if s.feramBlocked d then
    if l.held.length < 32 then
      let s' := s.modDie d (fun x => { x with log := { x.log with seq := next, held := x.log.held ++ [{ r with held := true }] } })
      if l.held.isEmpty then s'.evtDie d [17] else s'
    else
      (s.modDie d (fun x => { x with log := { x.log with seq := next, drops := sat 65535 (x.log.drops + 1) } })).evtDie d [16]
  else s.modDie d (fun x => { x with log := { x.log with seq := next, queue := x.log.queue ++ [r] } })

/-- Write the coalesced record that waits, if any (R423). -/
def State.logFlush (s : State) (d : Nat) : State :=
  match (s.die d).log.coal with
  | none => s
  | some r => (s.modDie d (fun x => { x with log := { x.log with coal := none } })).logPut d r

/-- The codes that are never held or merged (R423). -/
def neverHeld (code : Nat) : Bool :=
  code / 256 == 0 || code / 256 == 6 || (decide (0x0201 ≤ code) && decide (code ≤ 0x0211))

/-- Add a record to a die's log, coalescing it under R423. -/
def State.logAdd (s : State) (d : Nat) (r : Rec) : State :=
  let w := s.rf (logB + 0x40) 13 0 * MS
  if s.rf (logB + 0x40) 31 31 == 1 && !neverHeld r.code then
    match (s.die d).log.coal with
    | some c =>
      if c.block == r.block && c.inst == r.inst && c.code == r.code && decide (s.now < c.at_ + w) then
        let c := { c with merged := c.merged + 1 }
        let s := s.modDie d (fun x => { x with log := { x.log with coal := some c } })
        if c.merged == 255 then s.logFlush d else s
      else (s.logFlush d).modDie d (fun x => { x with log := { x.log with coal := some r } })
    | none => s.modDie d (fun x => { x with log := { x.log with coal := some r } })
  else (s.logFlush d).logPut d r

/-- A record of the present time (R414). data: DATA bytes 16 to 27. -/
def State.mkRec (s : State) (block inst code : Nat) (data : List Nat) : Rec :=
  { time := s.mer.count, block := block, inst := inst, code := code, seq := 0, data := (data ++ List.replicate 12 0).take 12,
    unsync := s.unsync, at_ := s.now }
/-- Write a record of a die, stamped from that die's counter copy (R360, R414). -/
def State.log (s : State) (d block inst code : Nat) (data : List Nat) : State :=
  s.logAdd d { s.mkRec block inst code data with time := s.count d }
/-- A record of a package block, held by the lead die (R414). -/
def State.logLead (s : State) (block inst code : Nat) (data : List Nat) : State := s.log s.pkg.lead block inst code data
/-- A record of a slot, held by its die. -/
def State.logSlot (s : State) (n code : Nat) (data : List Nat) : State := s.log (dieOf n) 16 n code data

/-! ## The Gazetteer generation (R64) -/

/-- Rebuild the Gazetteer: GENERATION counts from 0xFFFF_FFFF to 1, and GAZ_CHANGED is set. -/
def State.gazRebuild (s : State) : State :=
  let g := if s.pkg.gen == 0xFFFFFFFF then 1 else s.pkg.gen + 1
  { s with pkg := { s.pkg with gen := g } }.evt (pageNo pkgB) [1]

/-! ## Nursery effects (R385, R393, R394, R399) -/

/-- A Nursery record (R399). -/
def State.nursRec (s : State) (code kind d inst sub failed spare : Nat) (v : Int) : State :=
  s.logLead 8 0 code ([kind, d, inst, sub, failed, spare] ++ leInt 4 v)

/-- A spare is taken into use (R394). -/
def State.swap (s : State) (kind d inst sub failed spare : Nat) (v : Int) : State :=
  (((s.addSat (nursB + 0x60) 15 0 1).nursRec 0x0600 kind d inst sub failed spare v).evt (pageNo nursB) [0]).gazRebuild

/-- A criterion is met with no spare left. -/
def State.exhausted (s : State) (kind d inst sub failed : Nat) : State :=
  (s.nursRec 0x0603 kind d inst sub failed 0 0).evt (pageNo nursB) [2]

/-- Place a request in the Nursery queue (R385): one of the same identity is merged, one that finds 16 waiting is dropped. -/
def State.nursReq (s : State) (kind d inst sub : Nat) : State :=
  let r : NReq := { kind := kind, die := d, inst := inst, sub := sub }
  if s.nurs.contains r then s
  else if 16 ≤ s.nurs.length then s.evt (pageNo nursB) [4]
  else ({ s with nurs := s.nurs ++ [r] }.evt (pageNo nursB) [1]).nursRec 0x0601 kind d inst sub 0 0 0

/-- Remove a request without a record (R385, withdrawal). -/
def State.nursDrop (s : State) (kind d inst sub : Nat) : State :=
  { s with nurs := s.nurs.filter (fun r => !(r == ({ kind := kind, die := d, inst := inst, sub := sub } : NReq))) }

/-- Whether a kind's policy bit is APPROVE (R385). -/
def State.approve (s : State) (kind : Nat) : Bool := s.rf (nursB + 0x40) kind kind == 1

/-- A wear warning when a counter first reaches its threshold (R393, R399). which: 0 TCYC_A, 1 TCYC_B, 2 INSERTS, 3 TRIPS. -/
def State.wearWarn (s : State) (n which cnt : Nat) : State :=
  let th := s.reg (nursB + (if which ≤ 1 then 0x90 else if which == 2 then 0x94 else 0x98))
  if th.toNat != 0 && decide (th.toNat ≤ cnt) && !nbit (s.slot n).wear.warned which then
    ((s.modSlot n (fun x => { x with wear := { x.wear with warned := setNbit x.wear.warned which true } })).logLead 8 0 0x0604
      ([0x0F, dieOf n, n, which, 0, 0] ++ le 4 cnt)).evt (pageNo nursB) [3]
  else s

def sat32 : Nat := 0xFFFFFFFF

/-- Count an insertion, a trip or a thermal cycle of a slot (R393). -/
def State.wearAdd (s : State) (n which : Nat) : State :=
  let s := s.modSlot n (fun x =>
    match which with
    | 0 => { x with eA := { x.eA with cycles := sat sat32 (x.eA.cycles + 1) } }
    | 1 => { x with eB := { x.eB with cycles := sat sat32 (x.eB.cycles + 1) } }
    | 2 => { x with wear := { x.wear with inserts := sat sat32 (x.wear.inserts + 1) } }
    | _ => { x with wear := { x.wear with trips := sat sat32 (x.wear.trips + 1) } })
  let x := s.slot n
  s.wearWarn n which (match which with
    | 0 => x.eA.cycles | 1 => x.eB.cycles | 2 => x.wear.inserts | _ => x.wear.trips)

/-! ## CRCs (R59, R414) -/

/-- One bit step of the reflected CRC-32C. -/
def crcStep (c : Nat) : Nat := if c % 2 == 1 then (c / 2) ^^^ 0x82F63B78 else c / 2
def crcByte (c b : Nat) : Nat :=
  crcStep (crcStep (crcStep (crcStep (crcStep (crcStep (crcStep (crcStep (c ^^^ b))))))))
/-- CRC-32C of bytes (R59). -/
def crc32c (bytes : List Nat) : Nat := (bytes.foldl crcByte 0xFFFFFFFF) ^^^ 0xFFFFFFFF

def crc16Step (c : Nat) : Nat := if 0x8000 ≤ c then ((c * 2) % 65536) ^^^ 0x1021 else c * 2
def crc16Byte (c b : Nat) : Nat :=
  crc16Step (crc16Step (crc16Step (crc16Step (crc16Step (crc16Step (crc16Step (crc16Step (c ^^^ (b * 256)))))))))
/-- CRC-16/CCITT of bytes (R414). -/
def crc16 (bytes : List Nat) : Nat := bytes.foldl crc16Byte 0xFFFF

/-- The 32 bytes of a record (R414). -/
def Rec.bytes (d : Nat) (r : Rec) : List Nat :=
  let body := le 6 (secOf r.time) ++ le 4 (nsOf r.time) ++ le 2 (d * 8192 + r.block * 256 + r.inst % 256) ++ le 2 r.code
    ++ le 2 r.seq ++ r.data ++ le 2 (r.merged * 256 + b2n r.kept * 8 + b2n r.held * 4 + b2n r.unsync * 2)
  body ++ le 2 (crc16 body)

/-! ## FeRAM (R401): physical bytes, sparse, an unlisted byte reading 0 -/

/-- The bytes of an instance of memory at addresses a, a + 1, … -/
def State.feramByte (s : State) (a : Nat) : Byte := mget 0 s.feram a
def writeBytes : List Nat → Nat → List Host.Cell → List Host.Cell
  | [], _, m => m
  | b :: r, a, m => writeBytes r (a + 1) (mset 0 m a (BitVec.ofNat 8 b))
def State.feramWrite (s : State) (a : Nat) (bytes : List Nat) : State := { s with feram := writeBytes bytes a s.feram }
def State.feramRead (s : State) (a n : Nat) : List Nat := (List.range n).map (fun i => (s.feramByte (a + i)).toNat)

/-- The die offset of the log (R401). -/
def logBase (d : Nat) : Nat := if d < 2 then 0x15000 else 0x1000
/-- The die offset and number of the snapshot slots (R401). -/
def snapBase (d : Nat) : Nat := if d < 2 then 0x35000 else 0x21000
def snapSlots (d : Nat) : Nat := if d < 2 then 2 else 7
/-- The die offset of a configuration copy, 0 A and 1 B (R401). -/
def copyBase (c : Nat) : Nat := if c == 0 then 0x4000 else 0xC000

/-- The physical byte offset of a logical byte after row remapping (R402): spare rows lie from 0x3_F000. -/
def State.physOff (s : State) (d o : Nat) : Nat :=
  match (s.die d).rowMap.find? (fun e => e.1 == o / 64) with
  | some e => 0x3F000 + e.2 * 64 + o % 64
  | none => o
def State.logicalByte (s : State) (d o : Nat) : Nat := (s.feramByte (0x80000 * d + s.physOff d o)).toNat
def State.logicalRead (s : State) (d o n : Nat) : List Nat := (List.range n).map (fun i => s.logicalByte d (o + i))
/-- Store bytes at a logical offset. -/
def State.logicalWrite (s : State) (d : Nat) : Nat → List Nat → State
  | _, [] => s
  | o, b :: r => ({ s with feram := mset 0 s.feram (0x80000 * d + s.physOff d o) (BitVec.ofNat 8 b) }).logicalWrite d (o + 1) r

end Sys2Proof.Machine
end

