-- ==== Sys2Proof/Machine/Image.lean ====
section
/-! DEFINITION. The configuration image: its layout, its validity and its records (14_config_store_log.md R405 to R408). -/
namespace Sys2Proof.Machine

/-- A record of an image (R406). -/
structure ImgRec where
  addr : Nat
  flags : Nat
  value : Nat
  deriving DecidableEq, Repr

def byteAt (b : List Nat) (i : Nat) : Nat := b.getD i 0
/-- n bytes from offset i, little-endian. -/
def numAt (b : List Nat) (i n : Nat) : Nat := unle ((b.drop i).take n)

def imgMagic : Nat := 0x4746434B
def imgCount (b : List Nat) : Nat := numAt b 6 2
def imgSeq (b : List Nat) : Nat := numAt b 12 4

/-- The status of an image's checks, 0 when every one passes, in the order of R427 (R405, R407). A reserved header
byte that is not 0 counts as BAD_FORMAT (R427). -/
def imgStatus (part uid : Nat) (b : List Nat) : Nat :=
  let n := imgCount b
  if numAt b 0 4 != imgMagic then 6
  else if numAt b 4 2 != 0x0100 || numAt b 18 2 != 0 || numAt b 28 4 != 0 then 7
  else if numAt b 8 4 != 36 + 8 * n || decide (32768 < numAt b 8 4) then 8
  else if numAt b (32 + 8 * n) 4 != crc32c (b.take (32 + 8 * n)) then 9
  else if !(numAt b 16 2 == part || numAt b 16 2 == 0xFFFF) || !(numAt b 20 8 == 0 || numAt b 20 8 == uid) then 10
  else if imgSeq b == 0 || imgSeq b == 0xFFFFFFFF then 11
  else 0

/-- Whether a copy is valid under R407, which does not look at the reserved header bytes. -/
def imgValid (part uid : Nat) (b : List Nat) : Bool :=
  let n := imgCount b
  numAt b 0 4 == imgMagic && numAt b 4 2 == 0x0100 && numAt b 8 4 == 36 + 8 * n && decide (numAt b 8 4 ≤ 32768) &&
  decide (1 ≤ imgSeq b) && decide (imgSeq b ≤ 0xFFFFFFFE) &&
  numAt b (32 + 8 * n) 4 == crc32c (b.take (32 + 8 * n)) &&
  (numAt b 16 2 == part || numAt b 16 2 == 0xFFFF) && (numAt b 20 8 == 0 || numAt b 20 8 == uid)

/-- The records of an image, in order. -/
def imgRecs (b : List Nat) : List ImgRec :=
  (List.range (imgCount b)).map (fun i => ⟨numAt b (32 + 8 * i) 3, byteAt b (35 + 8 * i), numAt b (36 + 8 * i) 4⟩)

/-- The bytes of an image (R405, R406). -/
def mkImage (part seq : Nat) (rs : List ImgRec) : List Nat :=
  let body := le 4 imgMagic ++ le 2 0x0100 ++ le 2 rs.length ++ le 4 (36 + 8 * rs.length) ++ le 4 seq ++ le 2 part ++ le 2 0
    ++ le 8 0 ++ le 4 0 ++ rs.flatMap (fun r => le 3 r.addr ++ [r.flags] ++ le 4 r.value)
  body ++ le 4 (crc32c body)

/-- The header and, where the header is that of an image, the whole image of a copy on a die; the rest of the region is
not read. -/
def State.copyBytes (s : State) (d c : Nat) : List Nat :=
  let h := s.logicalRead d (copyBase c) 32
  if numAt h 0 4 == imgMagic then s.logicalRead d (copyBase c) (sat 32768 (36 + 8 * imgCount h)) else h

/-- Whether a copy on a present die is valid (R407, R408). -/
def State.copyValid (s : State) (d c : Nat) : Bool :=
  s.present d && imgValid s.ident.part.code s.ident.uid (s.copyBytes d c)

/-- The die a copy is read from: die 0, else die 1 (R408). -/
def State.copyDie (s : State) (c : Nat) : Option Nat :=
  if s.copyValid 0 c then some 0 else if s.copyValid 1 c then some 1 else none

/-- The newest valid copy: the higher SEQUENCE, copy A when equal (R408). -/
def State.newest (s : State) : Option (Nat × Nat) :=
  match s.copyDie 0, s.copyDie 1 with
  | none, none => none
  | some d, none => some (0, d)
  | none, some d => some (1, d)
  | some d, some e => if imgSeq (s.copyBytes d 0) < imgSeq (s.copyBytes e 1) then some (1, e) else some (0, d)

/-- The value the selected image holds for a register of an instance, the last record that names it winning. -/
def State.imageValue (s : State) (addr base0 : Nat) (off : Nat) : Option Nat :=
  if s.cfg.selected == 0 then none
  else
    ((imgRecs (s.copyBytes s.cfg.die (s.cfg.selected - 1))).filter
      (fun r => (r.flags == 0 && r.addr == addr) || (r.flags == 128 && r.addr == base0 + off))).getLast?.map (·.value)

end Sys2Proof.Machine
end

