-- ==== Sys2Proof/Machine/Flags.lean ====
section
/-! DEFINITION. The computed conditions of the block: the interrupt summary, EWARN_N, FAULT_N, MODE_DIRTY, and the modes' presets. -/
namespace Sys2Proof.Machine

/-! ## Interrupts (R52 to R54) -/

/-- Whether a page requests an interrupt (R52). -/
def State.pageReq (s : State) (p : Nat) : Bool := (s.page p).evt &&& s.reg (p * 4096 + 0x14) != 0

/-- The die that serves a page, where that is not the lead die (R18): RINGAB die 0, RINGCD die 1. -/
def pageDie (p : Nat) : Option Nat :=
  if 0x100 ≤ p && p < 0x180 then some ((p - 0x100) / 16)
  else if 0x10 ≤ p && p < 0x18 then some (p - 0x10)
  else if 0x20 ≤ p && p < 0x30 then some ((p - 0x20) / 2)
  else if 0x40 ≤ p && p < 0x60 then some ((p - 0x40) / 4)
  else if p == pageNo (ringB 0) then some 0
  else if p == pageNo (ringB 1) then some 1
  else none

/-- The group of a page in SUM_GROUP: 0 package, 1 die, 2 slot (R53); none for a page that raises no interrupt. -/
def pageGroup (p : Nat) : Option Nat :=
  if (4 ≤ p && p < 16) || p == 0x30 then some 0
  else if 0x100 ≤ p && p < 0x180 then some 2
  else if (0x10 ≤ p && p < 0x18) || (0x20 ≤ p && p < 0x30) || (0x40 ≤ p && p < 0x60) then some 1
  else none

/-- Whether a page's request shows in the summary: a summary bit of an absent die reads 0 (R52). -/
def State.pageShows (s : State) (p : Nat) : Bool :=
  (match pageDie p with
   | some d => s.present d
   | none => true) && s.pageReq p

/-- SUM_GROUP as three bits (R53). A page that never held an event requests nothing, so the listed pages suffice. -/
def State.sumGroup (s : State) : Nat :=
  maskOf ((List.range 3).filter (fun g => s.pages.any (fun e => pageGroup e.1 == some g && s.pageShows e.1)))

def sumPkgPages : List Nat := [4, 5, 6, 7, 8, 9, 10, 11, 12, 13, 14, 15, 0x30]
/-- SUM_PKG (R52). -/
def State.sumPkg (s : State) : Nat :=
  maskOf ((List.range 13).filter (fun i => s.pageShows (sumPkgPages.getD i 0)))
/-- SUM_DIE (R52). -/
def State.sumDie (s : State) : Nat :=
  maskOf ((List.range 24).filter (fun i =>
    let d := i % 8
    s.pageShows (if i < 8 then 0x10 + d else if i < 16 then 0x20 + 2 * d else 0x40 + 4 * d)))
/-- SUM_SLOTk (R52). -/
def State.sumSlot (s : State) (k : Nat) : Nat :=
  maskOf ((List.range 32).filter (fun n => s.pageShows (0x100 + 32 * k + n)))

/-- Whether any enabled group is non-zero (R54). -/
def State.groupOn (s : State) : Bool := s.sumGroup &&& (s.rf (pkgB + 0x9C) 3 1) != 0
/-- IRQ_N asserted (R53); high impedance outside RUN (R443) and while no lead die drives it (R19). -/
def State.irqN (s : State) : Bool := s.leadIn && s.rf (pkgB + 0x9C) 0 0 == 1 && s.groupOn

/-! ## EWARN_N (R116, R115, R443) -/

def State.anySlot (s : State) (d : Nat) (g : Slot → Bool) : Bool :=
  s.slots.any (fun e => e.1 / 16 == d && g e.2)

/-- The active sources of a die, masked by EWARN_CFG: [0] BUS, [1] UPSTREAM, [2] OFF_LEAD. -/
def State.ewarnSrc (s : State) (d : Nat) : Nat :=
  let c := dieB d + 0x200
  b2n ((s.die d).belv.busWarn && s.rf c 16 16 == 1) +
  2 * b2n (s.anySlot d (fun x => x.upWarn || x.openWarn) && s.rf c 17 17 == 1) +
  4 * b2n (s.anySlot d (·.offWarn) && s.rf c 18 18 == 1)

/-- EWARN_N asserted: low without supplies, through POR and BOOT and in DIE-THERMAL; kept through a warm reset and a
DIE-FAULT (R90, R443). -/
def State.ewarn (s : State) (d : Nat) : Bool :=
  match s.pkg.phase with
  | .powerOff | .por | .boot => true
  | .warm => if (s.die d).mode == .thermal then true else nbit s.pkg.ewWas d
  | .run =>
    match (s.die d).mode with
    | .thermal => true
    | .fault => nbit s.pkg.ewWas d
    | .normal => s.ewarnSrc d != 0

/-! ## FAULT_N (R145, R146) -/

/-- Whether a slot holds FAULT_N: LATCHED with FAULT_EN, or LATCHED after a stuck-current verdict. -/
def State.slotFault (s : State) (n : Nat) : Bool :=
  let x := s.slot n
  (x.st == .latched || (x.st == .holdthru && x.htLatch)) &&
    (s.rf (slotB n + 0x1B4) 1 1 == 1 || (x.st == .latched && s.rf (slotB n + 0x1C4) 15 8 == 7))

/-- FAULT_STAT.LATCHED_SLOTS of a die. -/
def State.latchedMask (s : State) (d : Nat) : Nat :=
  maskOf ((List.range 16).filter (fun i => s.slots.any (fun e => e.1 == slotOf d i && s.slotFault e.1)))

/-- Whether a die pulls FAULT_N low. -/
def State.fault (s : State) (d : Nat) : Bool :=
  match s.pkg.phase with
  | .powerOff | .por | .boot => false
  | _ => (s.die d).mode == .thermal || s.slots.any (fun e => e.1 / 16 == d && s.slotFault e.1)

/-! ## Operating modes (R444, R447) -/

/-- The values a mode loads. -/
structure Preset where
  osr : Nat
  idle : Nat
  dg : Nat
  rate : Nat
  sec : Nat
  roll : Nat
  coal : Nat
  opts : Nat
  deriving DecidableEq, Repr

def preset : Nat → Preset
  | 0 => ⟨6, 1, 2, 3, 8, 0, 0, 0⟩
  | 1 => ⟨4, 0, 2, 1, 8, 0, 0, 0⟩
  | 2 => ⟨6, 0, 3, 2, 8, 0, 0, 0⟩
  | 3 => ⟨0, 0, 0, 0, 4, 0, 0, 0⟩
  | 4 => ⟨2, 0, 2, 0, 8, 0, 0, 0⟩
  | 5 => ⟨4, 0, 3, 2, 8, 0, 0, 7⟩
  | 6 => ⟨5, 0, 2, 2, 8, 0, 1, 0⟩
  | _ => ⟨4, 0, 2, 1, 8, 1, 0, 24⟩

/-- Whether, among the registers of one kind on present dies, a field differs from its preset. dflt is the field's value
in a register that is not listed, total the number of such registers. -/
def State.differs (s : State) (isReg : Nat → Bool) (get : Word → Nat) (dflt want total : Nat) : Bool :=
  let es := s.regs.filter (fun e => isReg e.1)
  es.any (fun e => get e.2 != want) || (dflt != want && decide (es.length < total))

/-- DIRTY_SRC (R447, R451). -/
def State.dirtySrc (s : State) : Nat :=
  let p := preset s.pkg.mode
  let ds := s.presentDies.length
  let on (a base stride lo : Nat) : Bool := decide (base ≤ a) && decide (a < base + 8 * stride) && (a - base) % stride == lo && s.present ((a - base) / stride)
  maskOf ((List.range 6).filter (fun g =>
    match g with
    | 0 => s.rf (belvB 0 + 0x40) 6 4 != p.osr || s.rf (belvB 0 + 0x40) 8 8 != p.idle
    | 1 => s.differs (fun a => decide (slotB 0 ≤ a) && decide (a < slotB 128) && (a % 4096 == 0x100) && s.present ((a - slotB 0) / 65536))
             (fun w => fld w 5 4) 2 p.dg (16 * ds)
    | 2 => s.differs (fun a => on a (contB 0) 0x4000 0x40) (fun w => fld w 7 0) 0x81 (p.sec * 16 + p.rate) ds
    | 3 => s.differs (fun a => on a (belvB 0) 0x2000 0x440) (fun w => fld w 1 1) 0 p.roll ds
    | 4 => s.rf (logB + 0x40) 31 31 != p.coal
    | _ => s.rf (modeB + 0x48) 4 0 != p.opts))

def State.dirty (s : State) : Bool := s.dirtySrc != 0

/-- Whether a test-port instruction holds the slots (R467). -/
def holdsSlots (instr : Nat) : Bool := instr == 0 || instr == 3 || instr == 4 || instr == 8 || instr == 9

/-- OFF_N as the slots see it: the pin, or a test instruction (R442, R467). -/
def State.offN (s : State) : Bool := s.pkg.offLow || s.pkg.testHold

/-- The margin M of R161, in °C. -/
def State.margin (s : State) : Int := if s.pkg.mode == 6 then 15 else 0

end Sys2Proof.Machine
end

