-- ==== Sys2Proof/Machine/Line.lean ====
section
/-! DEFINITION. The characters of a ring lane (11_ceane_ring.md R318 to R326): the 8b/10b code with its running disparity, the layout of normal frames, urgent frames and link words, their checks, and what a receiver makes of the code groups it took off the line. -/
namespace Sys2Proof
open Machine

/-! ## The line code (R318, log entry 53) -/

/-- A character of a lane: a data byte, a control character by its byte (32 y + x for Kx.y), or a code violation. -/
inductive Chr where
  | data (b : Nat)
  | ctl (b : Nat)
  | viol
  deriving DecidableEq, Repr

/-- The control characters of R318. -/
def kIdle : Nat := 0xBC
def kSof : Nat := 0xFB
def kEof : Nat := 0xFD
def kEofBad : Nat := 0xFE
def kLink : Nat := 0xF7
/-- The control character that starts an urgent frame of a kind. -/
def kUrgent : MsgKind → Nat
  | .restrain => 0x1C | .cleared => 0x5C | .lockout => 0x7C | .release => 0x9C | .upstreamOpen => 0xDC
/-- The kind of urgent frame that a control character starts. -/
def urgentKind (b : Nat) : Option MsgKind :=
  [MsgKind.restrain, .cleared, .lockout, .release, .upstreamOpen].find? (fun k => kUrgent k == b)

/-- The six-bit blocks abcdei of x = 0 to 31 at negative running disparity. -/
def code6 (x : Nat) : Nat :=
  [0b100111, 0b011101, 0b101101, 0b110001, 0b110101, 0b101001, 0b011001, 0b111000,
   0b111001, 0b100101, 0b010101, 0b110100, 0b001101, 0b101100, 0b011100, 0b010111,
   0b011011, 0b100011, 0b010011, 0b110010, 0b001011, 0b101010, 0b011010, 0b111010,
   0b110011, 0b100110, 0b010110, 0b110110, 0b001110, 0b101110, 0b011110, 0b101011].getD x 0
/-- The four-bit blocks fghj of y = 0 to 7 at negative running disparity, of data and of control characters. -/
def code4 (y : Nat) : Nat := [0b1011, 0b1001, 0b0101, 0b1100, 0b1101, 0b1010, 0b0110, 0b1110].getD y 0
def code4k (y : Nat) : Nat := [0b1011, 0b0110, 0b1010, 0b1100, 0b1101, 0b0101, 0b1001, 0b0111].getD y 0

/-- The six-bit block of a character at a running disparity (true for positive), and the disparity after it. -/
def enc6 (pos k28 : Bool) (x : Nat) : Nat × Bool :=
  let c := if k28 then 0b001111 else code6 x
  let odd := popCount c 6 != 3
  (if pos && (odd || x == 7) then 63 - c else c, pos != odd)

/-- The four-bit block, and the disparity after it. y = 7 has an alternate form that keeps runs of equal bits short. -/
def enc4 (pos k : Bool) (x y : Nat) : Nat × Bool :=
  let alt := y == 7 && (if pos then x == 11 || x == 13 || x == 14 else x == 17 || x == 18 || x == 20)
  let c := if k then code4k y else if alt then 0b0111 else code4 y
  let odd := popCount c 4 != 2
  (if pos && (k || odd || y == 3) then 15 - c else c, pos != odd)

/-- The code group of a character at a running disparity, and the disparity after it; none for a code violation. -/
def encChr (pos : Bool) : Chr → Option (Nat × Bool)
  | .viol => none
  | .data b =>
    let a := enc6 pos false (b % 32)
    let c := enc4 a.2 false (b % 32) (b / 32 % 8)
    some (a.1 * 16 + c.1, c.2)
  | .ctl b =>
    let a := enc6 pos (b % 32 == 28) (b % 32)
    let c := enc4 a.2 true (b % 32) (b / 32 % 8)
    some (a.1 * 16 + c.1, c.2)

/-- The values of x that have a control character besides K28: those of Kx.7. -/
def kSeven (x : Nat) : Bool := x == 23 || x == 27 || x == 29 || x == 30

/-- The character of a code group at a running disparity, and the disparity after it. A group that is not in the code, or that
breaks the running disparity, is a code violation; the disparity after one follows its own bits (log entry 53). -/
def decChr (pos : Bool) (g : Nat) : Chr × Bool :=
  let a := g / 16
  let c := g % 16
  let odd := popCount g 10
  let bad : Chr × Bool := (.viol, if odd == 5 then pos else decide (5 < odd))
  if a == (enc6 pos true 28).1 then
    let mid := (enc6 pos true 28).2
    match (List.range 8).find? (fun y => (enc4 mid true 28 y).1 == c) with
    | some y => (.ctl (32 * y + 28), (enc4 mid true 28 y).2)
    | none => bad
  else match (List.range 32).find? (fun x => (enc6 pos false x).1 == a) with
    | none => bad
    | some x =>
      let mid := (enc6 pos false x).2
      match (List.range 8).find? (fun y => (enc4 mid false x y).1 == c) with
      | some y => (.data (32 * y + x), (enc4 mid false x y).2)
      | none =>
        if kSeven x && (enc4 mid true x 7).1 == c then (.ctl (224 + x), (enc4 mid true x 7).2) else bad

/-- The code groups of characters; a code violation has none. -/
def encLine (pos : Bool) : List Chr → List Nat
  | [] => []
  | c :: r => match encChr pos c with
    | some e => e.1 :: encLine e.2 r
    | none => encLine pos r

/-- The characters of code groups. -/
def decLine (pos : Bool) : List Nat → List Chr
  | [] => []
  | g :: r => (decChr pos g).1 :: decLine (decChr pos g).2 r

/-- The characters a receiver took off its lane. -/
def Line.chars (l : Line) : List Chr := decLine l.pos l.groups
/-- The line that carries characters, from negative running disparity. -/
def lineOf (l : List Chr) : Line := { pos := false, groups := encLine false l }

/-! ## Normal frames (R320, R321) -/

/-- TYPE of a normal frame (R321). -/
def FType.code : FType → Nat
  | .read => 1 | .write => 2 | .response => 3 | .event => 4 | .stream => 5 | .time => 6 | .enumerate => 7 | .gap => 8
def FType.ofCode (n : Nat) : Option FType :=
  [FType.read, .write, .response, .event, .stream, .time, .enumerate, .gap].find? (fun t => t.code == n)

/-- The 16 header bytes (R320). -/
def Frame.header (f : Frame) : List Nat :=
  [f.ftype.code * 16 + b2n f.bcast * 8 + b2n f.wrap * 4, f.lseq % 256] ++ le 2 f.dest ++ le 2 f.src ++
    [f.tag % 64 + f.epoch % 4 * 64, f.ttl % 256] ++ le 3 f.addr ++ [f.code % 256] ++ le 2 f.len ++ le 2 f.xseq
/-- The bytes between SOF and EOF: header, payload and check, the CRC-32C of R59, least significant byte first. -/
def Frame.bytes (f : Frame) : List Nat := f.header ++ f.payload ++ le 4 (crc32c (f.header ++ f.payload))
/-- The characters of a normal frame; a copy known to be corrupt ends with EOF_BAD (R318, R322). -/
def Frame.chars (f : Frame) (bad : Bool) : List Chr :=
  [.ctl kSof] ++ f.bytes.map .data ++ [.ctl (if bad then kEofBad else kEof)]
/-- The characters a normal frame and the IDLE set after it take on the lane (R320). -/
def Frame.size (f : Frame) : Nat := 24 + f.payload.length

/-- The frame that header and payload bytes spell; none where TYPE is not one of R321 or LEN does not fit the payload. -/
def frameOf (b : List Nat) : Option Frame :=
  let at_ (i n : Nat) : Nat := unle ((b.drop i).take n)
  match FType.ofCode (at_ 0 1 / 16) with
  | none => none
  | some t =>
    let pl := b.drop 16
    let len := at_ 12 2
    if b.length < 16 || (if t == .read then !pl.isEmpty else pl.length != len) then none
    else some
      { ftype := t, bcast := nbit (at_ 0 1) 3, wrap := nbit (at_ 0 1) 2, lseq := at_ 1 1, dest := at_ 2 2 % 16384, src := at_ 4 2 % 16384
        tag := at_ 6 1 % 64, epoch := at_ 6 1 / 64, ttl := at_ 7 1, addr := at_ 8 3, code := at_ 11 1, len := len, xseq := at_ 14 2, payload := pl }

/-- A link word's length after its first character (R326). -/
def wordRest : List Chr → Nat
  | .data 0x30 :: _ => 11
  | _ => 3
/-- The characters without the items that may start inside a normal frame or between frames: urgent frames, link words and IDLE
sets, of which the elastic buffer may have deleted or repeated some (R319, R324). n characters of such an item are to come. -/
def bare : Nat → List Chr → List Chr
  | _, [] => []
  | n + 1, _ :: r => bare n r
  | 0, .ctl b :: r =>
    if (urgentKind b).isSome then bare 7 r else if b == kLink then bare (wordRest r) r else if b == kIdle then bare 1 r else .ctl b :: bare 0 r
  | 0, c :: r => c :: bare 0 r

/-- The code violations among characters. -/
def violations (l : List Chr) : Nat := (l.filter (fun c => decide (c = .viol))).length
/-- The bytes of data characters; none where one is no data. -/
def dataOf : List Chr → Option (List Nat)
  | [] => some []
  | .data b :: r => (dataOf r).map (b :: ·)
  | _ :: _ => none

/-- A normal frame as received: the fields where the header could be read, whether it is intact, whether it ended with EOF_BAD, and
what it adds to ERRORS (R320, R322, R355). -/
structure RxFrame where
  f : Option Frame := none
  ok : Bool := false
  bad : Bool := false
  errors : Nat := 0
  deriving DecidableEq, Repr

/-- What a receiver makes of a normal frame. -/
def Line.frame (l : Line) : RxFrame :=
  let cs := bare 0 l.chars
  let v := violations cs
  let body := (cs.drop 1).dropLast
  let bad := cs.getLast? == some (.ctl kEofBad)
  let ends := cs.head? == some (.ctl kSof) && (bad || cs.getLast? == some (.ctl kEof))
  match dataOf body with
  | some b =>
    let n := b.length - 4
    let crc := decide (20 ≤ b.length) && unle (b.drop n) == crc32c (b.take n)
    let f := frameOf (b.take n)
    { f := f, ok := ends && !bad && crc && f.isSome, bad := bad, errors := if v != 0 then v else if crc && ends then 0 else 1 }
  | none =>
    -- the header alone decides where a cut-through copy goes
    let f := (dataOf (body.take 16)).bind (fun h => frameOf (h.take 12 ++ (if (FType.ofCode (h.headD 0 / 16)) == some .read then (h.drop 12).take 2 else [0, 0]) ++ h.drop 14))
    { f := f, ok := false, bad := bad, errors := v }

/-! ## Urgent frames (R323) -/

/-- One step of the check with polynomial x^4 + x + 1, most significant bit first. -/
def crc4Step (c : Nat) (b : Bool) : Nat :=
  let fb := (nbit c 3) != b
  (c * 2 % 16) ^^^ (if fb then 3 else 0)
/-- UCHK over U[55:4]. -/
def uchk (u : Nat) : Nat := ((List.range 52).map (fun i => nbit u (55 - i))).foldl crc4Step 0
/-- The word U of a message, with its check. -/
def Msg.word (m : Msg) : Nat :=
  let inc := match m.kind with | .restrain | .cleared => m.incident % 16 | _ => 0
  let u := m.tgtAddr % 16384 * 2 ^ 42 + m.srcAddr % 16384 * 2 ^ 28 + m.tgtSlot % 128 * 2 ^ 21 + m.srcSlot % 128 * 2 ^ 14 + m.srcLevel % 8 * 2 ^ 11 +
    inc * 2 ^ 7 + m.hops % 8 * 2 ^ 4
  u + uchk u
/-- The eight characters of an urgent frame; a copy known to be corrupt carries its check inverted (R325). -/
def Msg.chars (m : Msg) (bad : Bool) : List Chr :=
  let u := if bad then m.word ^^^ 15 else m.word
  .ctl (kUrgent m.kind) :: (le 7 u).reverse.map .data
/-- The message of a kind and a word U. -/
def msgOf (k : MsgKind) (u : Nat) : Msg :=
  { kind := k, tgtAddr := u / 2 ^ 42 % 16384, srcAddr := u / 2 ^ 28 % 16384, tgtSlot := u / 2 ^ 21 % 128, srcSlot := u / 2 ^ 14 % 128
    srcLevel := u / 2 ^ 11 % 8, incident := u / 2 ^ 7 % 16, hops := u / 2 ^ 4 % 8 }

/-- An urgent frame as received: the message where it could be read, and whether it is intact. The last character alone may be a
code violation without any field being lost. -/
def Line.urgent (l : Line) : Option (Msg × Bool) :=
  match l.chars with
  | .ctl b :: r =>
    match urgentKind b, dataOf (r.take 6), r.drop 6 with
    | some k, some d, [.data z] =>
      let u := unle (d ++ [z]).reverse
      some (msgOf k u, uchk u == u % 16)
    | some k, some d, [_] => some (msgOf k (unle (d ++ [0]).reverse), false)
    | _, _, _ => none
  | _ => none

/-! ## Link words (R326) -/

inductive LWord where
  | ack (seq : Nat)
  | nak (seq : Nat)
  | resync (seq uid : Nat)
  deriving DecidableEq, Repr

/-- The data bytes of a link word before its check. -/
def LWord.bytes : LWord → List Nat
  | .ack n => [0x10, n % 256]
  | .nak n => [0x20, n % 256]
  | .resync n u => [0x30, n % 256] ++ le 8 u
/-- The check byte: the bitwise inverse of the XOR of the data bytes before it. -/
def wordCheck (b : List Nat) : Nat := 255 - b.foldl (· ^^^ ·) 0
def LWord.chars (w : LWord) : List Chr := .ctl kLink :: (w.bytes ++ [wordCheck w.bytes]).map .data

/-- The link word that a line carries; none for one with a bad check or a code violation, which is ignored. -/
def Line.word (l : Line) : Option LWord :=
  match l.chars with
  | .ctl b :: r =>
    if b != kLink then none
    else match dataOf r with
      | some d =>
        let n := d.length - 1
        if unle (d.drop n) != wordCheck (d.take n) then none
        else match d.take n with
          | [0x10, q] => some (.ack q)
          | [0x20, q] => some (.nak q)
          | 0x30 :: q :: u => if u.length == 8 then some (.resync q (unle u)) else none
          | _ => none
      | none => none
  | _ => none

/-! ## The order of a lane (R319, R324) -/

/-- The IDLE ordered set: K28.5, then a byte whose bit 0 is RX_OK (R319). -/
def idleSet (rxOk : Bool) : List Chr := [.ctl kIdle, .data (b2n rxOk)]

/-- What waits at an outgoing lane: the rest of an inserted item or IDLE set that has begun, urgent frames, link words, the rest of
the normal frame in progress, new normal frames; owed: an IDLE set must come before the next normal frame. -/
structure Lane where
  rest : List Chr := []
  urgents : List (List Chr) := []
  words : List (List Chr) := []
  cur : List Chr := []
  frames : List (List Chr) := []
  owed : Bool := false
  deriving DecidableEq, Repr

/-- The next character of a lane, by the order of R324. An item that has begun is not interrupted, but for the normal frame. -/
def Lane.next (rxOk : Bool) (l : Lane) : Chr × Lane :=
  match l.rest, l.urgents, l.words, l.cur with
  | c :: r, _, _, _ => (c, { l with rest := r })
  | [], (c :: r) :: us, _, _ => (c, { l with rest := r, urgents := us })
  | [], _, (c :: r) :: ws, _ => (c, { l with rest := r, words := ws })
  | [], _, _, c :: r => (c, { l with cur := r, owed := r.isEmpty })
  | [], _, _, [] =>
    match l.frames, l.owed with
    | (c :: r) :: fs, false => (c, { l with cur := r, frames := fs })
    | _, _ => (.ctl kIdle, { l with rest := [.data (b2n rxOk)], owed := false })

end Sys2Proof
end

