-- ==== Sys2Proof/Machine/Link.lean ====
section
/-! DEFINITION. Addresses of the part on its rings, and the sending of normal and urgent frames (11_ceane_ring.md). -/
namespace Sys2Proof.Machine

def State.pair (s : State) (k : Nat) : Pair := if k == 0 then s.pairAB else s.pairCD
def State.setPair (s : State) (k : Nat) (v : Pair) : State := if k == 0 then { s with pairAB := v } else { s with pairCD := v }
def State.modPair (s : State) (k : Nat) (g : Pair → Pair) : State := s.setPair k (g (s.pair k))
def State.port (s : State) (p : Nat) : Port := lget {} s.ports p
def State.setPort (s : State) (p : Nat) (v : Port) : State := { s with ports := lset s.ports p v }
def State.modPort (s : State) (p : Nat) (g : Port → Port) : State := s.setPort p (g (s.port p))
def State.emit (s : State) (o : Out) : State := { s with outbox := s.outbox ++ [(s.now, o)] }

/-- PAIR_CFG.MODE of a pair: 0 UNUSED, 1 RING, 2 REDUNDANT, 3 CHILD (R317). -/
def State.pairMode (s : State) (k : Nat) : Nat := s.rf (ringB k + 0x40) 1 0

/-- PKG.SYS_ADDR.VALID: the address is assigned on the A/B ring, or, with die 0 away, on a redundant C/D ring. -/
def State.sysValid (s : State) : Bool := s.pairAB.joined || (s.pairCD.joined && s.pairMode 1 == 2)
/-- PKG.SYS_ADDR.ADDRESS (R336): RING_ID × 128 + NODE; a redundant ring carries the same address (R338). -/
def State.sysAddr (s : State) : Nat :=
  if s.pairAB.joined then s.pairAB.ringId * 128 + s.pairAB.node
  else if s.sysValid then s.pairCD.ringId * 128 + s.pairCD.node else 0
/-- The ring of a junction's child pair (R337). -/
def State.childRing (s : State) : Nat := s.rf (ringB 1 + 0x40) 22 16
/-- Whether an address is one of the part's own (R325, R337). -/
def State.isOwn (s : State) (a : Nat) : Bool :=
  (s.sysValid && a == s.sysAddr) || (s.pairMode 1 == 3 && s.pairCD.wicketOpen && a == s.childRing * 128)

/-- Whether a ring is reached through the child pair (R337): bit R of DOWN_MASK. -/
def State.isDown (s : State) (ring : Nat) : Bool := s.rf (ringB 1 + 0x80 + 4 * (ring / 32)) (ring % 32) (ring % 32) == 1

/-- The pair on which a normal frame to an address leaves the part (R337, R338); none where no ring holds the node. -/
def State.outPair (s : State) (dest : Nat) : Option Nat :=
  if s.pairMode 1 == 3 then some (if s.isDown (dest / 128) || dest / 128 == s.childRing then 1 else 0)
  else if s.pairMode 1 == 2 then
    if s.pairAB.joined && nbit s.pairAB.members (dest % 128) then some 0
    else if s.pairCD.joined && nbit s.pairCD.members (dest % 128) then some 1
    else none
  else some 0

/-- Whether a gap window is open on the pair (R334). -/
def State.inWindow (s : State) (k : Nat) : Bool :=
  match (s.pair k).window with
  | some w => decide (w ≤ s.nowNs) && decide (s.nowNs < w + 2000)
  | none => false

/-- The CORE cycles that n characters take on a lane: 20/3 ns each (R318). -/
def charCyc (n : Nat) : Nat := cdiv (4 * n) 3

/-- Whether an item of n characters that starts at a CORE cycle on a pair's lane clears the gap window: it ends before the window
starts, or starts after its end (R334). -/
def State.clearsWindow (s : State) (k start n : Nat) : Bool :=
  match (s.pair k).window with
  | none => true
  | some w =>
    let t := s.nowNs + (start - s.now) * 5
    decide (t + charCyc n * 5 ≤ w) || decide (w + 2000 ≤ t)

/-- Send a link word or a TIME frame of n characters, or keep it back for a gap window (R334, 12_meridian_time.md R364). -/
def State.sendItem (s : State) (i n : Nat) (o : Out) : State :=
  if s.clearsWindow (i / 2) s.now n then s.emit o else s.modPort i (fun p => { p with kept := p.kept ++ [o] })
/-- Send a link word of a port (R326). -/
def State.linkWord (s : State) (i : Nat) (w : LWord) : State :=
  match w with
  | .ack q => s.sendItem i 4 (.ack i q)
  | .nak q => s.sendItem i 4 (.nak i q)
  | .resync q u => s.sendItem i 12 (.resync i q u)

/-- Start the normal frames that wait at a port, as long as its replay buffer holds fewer than eight and they clear the gap window
(R327, R334). -/
def State.pumpPort (s : State) : Nat → List Frame → Port → List Out → Port × List Out
  | _, [], p, o => ({ p with waiting := [] }, o)
  | i, f :: r, p, o =>
    let start := Nat.max s.now p.busyTo
    if decide (p.tx.length < 8) && s.clearsWindow (i / 2) start f.size then
      let f := { f with lseq := p.txSeq }
      State.pumpPort s i r { p with tx := p.tx ++ [f], txSeq := (p.txSeq + 1) % 256, busyTo := start + charCyc f.size } (o ++ [.frame i f])
    else ({ p with waiting := f :: r }, o)

/-- The characters of an output on a lane. -/
def Out.size : Out → Nat
  | .ack .. | .nak .. => 4
  | .resync .. => 12
  | .frame _ f _ => f.size
  | _ => 0

/-- Whether a port may send what waits: its link is UP and no gap window is open. -/
def State.mayPump (s : State) (i : Nat) : Bool := (s.port i).link == 3 && !s.inWindow (i / 2)
/-- What a gap window kept back at a port and now clears it (R334). -/
def State.cleared (s : State) (i : Nat) : List Out := (s.port i).kept.takeWhile (fun o => s.clearsWindow (i / 2) s.now o.size)
/-- Start what may start at a port: what a gap window kept back, then, unless it awaits RESYNC, the frames that wait. -/
def State.pump (s : State) (i : Nat) : State :=
  if s.mayPump i then
    let p := s.port i
    let c := s.cleared i
    let r := if p.holdTx then (p, []) else s.pumpPort i p.waiting p []
    { (s.setPort i { r.1 with kept := p.kept.drop c.length, oldAt := if p.tx.isEmpty then s.now else p.oldAt }) with
      outbox := s.outbox ++ (c ++ r.2).map (fun o => (s.now, o)) }
  else s

/-- Queue a normal frame at a port. TIME frames are not replayed (R327). -/
def State.sendPort (s : State) (i : Nat) (f : Frame) : State :=
  if f.ftype == .time then (if (s.port i).link == 3 then s.sendItem i f.size (.frame i f) else s)
  else (s.modPort i (fun p => { p with waiting := p.waiting ++ [f] })).pump i

/-- Send a normal frame in the primary direction of a pair, or, where its B or D port wraps, in the counter direction
with WRAP set (R316, R330). A pair whose Wicket is closed carries nothing. -/
def State.sendPair (s : State) (k : Nat) (f : Frame) : State :=
  if !(s.pair k).wicketOpen then s
  else if (s.port (2 * k + 1)).wrapped then s.sendPort (2 * k) { f with wrap := true }
  else s.sendPort (2 * k + 1) f

/-- Send a normal frame to its destination; the Boolean says that a route exists. -/
def State.sendFrame (s : State) (f : Frame) : State × Bool :=
  match s.outPair f.dest with
  | some k => if (s.pair k).joined || (k == 1 && s.pairMode 1 == 3) then (s.sendPair k f, true) else (s, false)
  | none => (s, false)

/-- The weight of a port's link (R329), from the mean delay in ps; 1 until the delay is measured. The field is 1 to 15. -/
def State.weight (s : State) (i : Nat) : Nat :=
  let d := (s.port i).delays
  if d.isEmpty then 1
  else
    let m : Int := d.foldl (· + ·) 0 / d.length
    sat 15 (1 + cdiv ((m - 10000).toNat) 40000)

/-- The current route to an address (log entry 11). -/
def State.routeTo (s : State) (a : Nat) : Option Route := (s.routes.find? (fun r => r.1 == a)).map (·.2)
/-- The port on which an urgent frame to an address leaves a pair (R331): the primary port, or the other where that port wraps or the
primary way crosses a failed link. -/
def State.urgentPort (s : State) (k a : Nat) : Nat :=
  let failed := match s.routeTo a with | some r => r.pair == k && r.failed | none => false
  if (s.port (2 * k + 1)).wrapped || failed then 2 * k else 2 * k + 1
/-- The hop count of the current route to an address (R199, R329): the weights of its links, the part's own first, plus 1 for each
junction crossing. -/
def State.hops (s : State) (a : Nat) : Option Nat :=
  (s.routeTo a).map (fun r => s.weight (s.urgentPort r.pair a) + r.links.foldl (· + ·) 0 + r.cross)

/-- Send one copy of an urgent frame (R331, R338), on both rings of a redundant pair. The sender spends the weight of the link it
sends on (R186). -/
def State.sendUrgent (s : State) (m : Msg) : State :=
  let go (k : Nat) (s : State) : State :=
    let i := s.urgentPort k m.tgtAddr
    if (s.pair k).joined || (k == 1 && s.pairMode 1 == 3 && s.pairCD.wicketOpen) then s.emit (.urgent i { m with hops := m.hops - s.weight i }) else s
  if s.pairMode 1 == 2 then go 1 (go 0 s)
  else go ((s.outPair m.tgtAddr).getD 0) s

/-! ## What a lane carries (R318, R319, R324) -/

/-- What an output adds to the lane of a port. -/
def Out.onLane (p : Nat) (o : Out) (l : Lane) : Lane :=
  match o with
  | .urgent q m bad => if q == p then { l with urgents := l.urgents ++ [m.chars bad] } else l
  | .frame q f bad => if q == p then { l with frames := l.frames ++ [f.chars bad] } else l
  | .ack q n => if q == p then { l with words := l.words ++ [(LWord.ack n).chars] } else l
  | .nak q n => if q == p then { l with words := l.words ++ [(LWord.nak n).chars] } else l
  | .resync q n u => if q == p then { l with words := l.words ++ [(LWord.resync n u).chars] } else l
  | _ => l
/-- RX_OK of a port's IDLE sets after an output. -/
def Out.okAfter (p : Nat) (ok : Bool) : Out → Bool
  | .rxOk q v => if q == p then v else ok
  | _ => ok

/-- The first n characters of a lane from character number i on. Character i starts at CORE cycle 4 i / 3, and takes account of what
the part sent up to then. -/
def laneRun (p : Nat) : Nat → Nat → Bool → Lane → List (Nat × Out) → List Chr
  | 0, _, _, _, _ => []
  | n + 1, i, ok, l, out =>
    let now := out.takeWhile (fun e => decide (3 * e.1 ≤ 4 * i))
    let l := now.foldl (fun l e => e.2.onLane p l) l
    let ok := now.foldl (fun ok e => e.2.okAfter p ok) ok
    let c := l.next ok
    c.1 :: laneRun p n (i + 1) ok c.2 (out.drop now.length)
/-- The first n characters that the lane of a port has sent since CORE cycle 0. -/
def State.laneChars (s : State) (p n : Nat) : List Chr := laneRun p n 0 false {} s.outbox
/-- The same as code groups, from negative running disparity. -/
def State.laneGroups (s : State) (p n : Nat) : List Nat := encLine false (s.laneChars p n)

/-- RX_OK of a port: its receiver is in ALIGN or UP (R319, R328). -/
def State.rxOk (s : State) (p : Nat) : Bool := (s.port p).link == 2 || (s.port p).link == 3
/-- WKT_DRV_AB and WKT_DRV_CD (R340): driven exactly while the Wicket of a pair on fibre is open. -/
def State.wktDrv (s : State) (k : Nat) : Bool := s.rf (ringB k + 0x40) 4 4 == 1 && (s.pair k).wicketOpen

/-- The EVENT frame of R54: SUM_GROUP, SUM_PKG, SUM_DIE and SUM_SLOT0 to SUM_SLOT3 to RING_NOTIFY.DEST; XSEQ counts
the EVENT frames sent (R321). -/
def State.sendEvent (s : State) : State :=
  let w := [s.sumGroup, s.sumPkg, s.sumDie, s.sumSlot 0, s.sumSlot 1, s.sumSlot 2, s.sumSlot 3]
  let dest := s.rf (pkgB + 0xA0) 13 0
  let f : Frame := { ftype := .event, dest := dest, src := s.sysAddr, len := 28, xseq := s.pkg.evSeq, payload := w.flatMap (le 4) }
  let s := { s with pkg := { s.pkg with evSeq := (s.pkg.evSeq + 1) % 65536 } }
  if s.isOwn dest then s else (s.sendFrame f).1

end Sys2Proof.Machine
end

