-- ==== Sys2Proof/Machine/Operands.lean ====
section
/-! DEFINITION. The values that commands bring and the registers that scale them: corrected results, control samples, shunt and bus voltages, temperatures, thresholds. -/
namespace Sys2Proof.Machine

/-! ## Corrections (R242 to R246) -/

/-- Temperatures of the graticule are in units of 2^-16 °C above -64 °C (R210). -/
def gratC (t : Int) : Rat := (t : Rat) / 65536 - 64

/-- A temperature in 0.1 °C; the rounding is open (place 1). -/
def deciC (t : Int) : Int := openRound 1 (gratC t * 10)

/-- The channel indices of R262: class 0, class 1, VBUS_A, survey. -/
def chI (n : Nat) : Nat := n
def chV (n : Nat) : Nat := 16 + n
def chBus : Nat := 32
def chS (n : Nat) : Nat := 33 + n

/-- The modulator that serves a channel index of a die. -/
def Belv.modOf (b : Belv) (ch : Nat) : Nat := b.map.getD (if ch < 33 then ch else 33) 0
def Belv.modl (b : Belv) (m : Nat) : Modl := b.mods.getD m {}

/-- Step 1 of R242: the self-calibration of the serving modulator, Zs and Fs in 1/256 code. -/
def Modl.corr (m : Modl) (raw : Int) : Rat := ((raw : Rat) - m.zs / 256) * 6291456 / ((m.fs - m.zs : Int) / 256)

/-- Step 2 of R242 with the factors of FACT[d] and T as DIE[d].TEMP shows it, in 0.1 °C (R244); where the die's factory data is not valid, Of 0, Gf 1 and Kf 0 (R262). -/
def State.factCorr (s : State) (d ch : Nat) (r : Rat) : Rat :=
  if !nbit s.ident.factValid d then r else
  let o := toSigned 32 (mget 0 s.ident.fact (factB d + 0x100 + 16 * ch)).toNat
  let g := (mget 0x40000000 s.ident.fact (factB d + 0x104 + 16 * ch)).toNat
  let k : Int := if 54 ≤ ch && ch ≤ 62 then 0 else toSigned 16 (mget 0 s.ident.fact (factB d + 0x108 + 16 * ch)).toNat
  (r - (o : Rat) / 256) * ((g : Rat) / 2 ^ 30) * (1 + (k : Rat) / 10000000 * ((deciC (s.die d).belv.temp : Rat) / 10 - 25))

/-- The user factors in force for a channel (R242 step 3, R245). -/
def State.userNow (s : State) (d off : Nat) (dflt : Word) : Nat := (mget dflt (s.die d).belv.userNow off).toNat
def State.userCorr (s : State) (d ch : Nat) (r : Rat) : Rat :=
  let o := toSigned 32 (s.userNow d (0x500 + 8 * ch) 0)
  let g := s.userNow d (0x504 + 8 * ch) 0x40000000
  (r - (o : Rat) / 256) * ((g : Rat) / 2 ^ 30)

/-- Steps 1 and 2 of a reading on a channel. -/
def State.fact2 (s : State) (d ch : Nat) (raw : Int) : Rat :=
  let b := (s.die d).belv
  s.factCorr d ch ((b.modl (b.modOf ch)).corr raw)

/-- A code within its range and whether it carries OVR: beyond the range it is clamped, and a reading whose period covers an overload
takes the extreme code, by the sign of the excursion (R229). -/
def clampOvr (lo hi c : Int) (x : Samp) : Int × Bool :=
  if c < lo then (lo, true) else if hi < c then (hi, true) else if x.ovl then (if x.neg then lo else hi, true) else (c, false)

/-- The readings of a die in channel order, one for each local slot that has one (R249). -/
def inOrder (r : DieSamp) : List SlotSamp := (List.range 16).filterMap (fun i => r.slots.find? (fun x => x.slot == i))

/-- A control sample of a channel (R246): the code and whether it carries OVR (R229). -/
def State.ctlCode (s : State) (d ch : Nat) (x : Samp) : Int × Bool :=
  let c := roundHalfEven (s.fact2 d ch x.raw / 256)
  let lo : Int := if ch < 16 then -32768 else 0
  let hi : Int := if ch < 16 then 32767 else 65535
  clampOvr lo hi c x

/-- A metering or survey result of a channel (R242, R243, R229): the code and whether it carries OVR. -/
def State.resCode (s : State) (d ch : Nat) (x : Samp) : Int × Bool :=
  let c := roundHalfEven (s.userCorr d ch (s.fact2 d ch x.raw))
  let lo : Int := if ch < 16 then -8388608 else 0
  let hi : Int := if ch < 16 then 8388607 else 16777215
  clampOvr lo hi c x

/-! ## Voltages of control codes (R209) -/

/-- The shunt voltage of a class 0 control code, in mV. -/
def shuntMv (c : Int) : Rat := (c : Rat) * 100 / 32768
/-- The voltage of a class 1 control code, in V. -/
def voltV (c : Nat) : Rat := (c : Rat) * 1024 / 655360

/-- The latest VBUS_A control code of a slot's die. -/
def State.busCode (s : State) (n : Nat) : Nat := (s.die (dieOf n)).belv.busCode
def State.busV (s : State) (n : Nat) : Rat := voltV (s.busCode n)
def State.voutV (s : State) (n : Nat) : Rat := voltV (s.slot n).ctl.vCode

/-! ## Slot settings -/

def State.sf (s : State) (n off hi lo : Nat) : Nat := s.rf (slotB n + off) hi lo
def State.enabled (s : State) (n : Nat) : Bool := s.sf n 8 0 0 == 1
/-- BACKUP: pass element B is fitted (R71). -/
def State.backup (s : State) (n : Nat) : Bool := s.sf n 0x100 0 0 == 1
/-- ROLE: element B works (R83); A where B is not fitted. -/
def State.workB (s : State) (n : Nat) : Bool := (s.slot n).role && s.backup n
def State.level (s : State) (n : Nat) : Nat := s.sf n 0x280 2 0
def State.profile (s : State) (n : Nat) : Nat := s.sf n 0x144 1 0
/-- VOUT at or above pct % of VBUS_A, by the latest control codes. -/
def voutAbove (v bus pct : Nat) : Bool := decide (bus * pct ≤ v * 100)
/-- VBUS_A below WARN_TH, in 0.1 V (R107, R116). -/
def State.busBelowWarn (s : State) (d : Nat) : Bool :=
  decide (voltV (s.die d).belv.busCode * 10 < s.rf (dieB d + 0x200) 9 0)

/-- Whether a channel of a slot is flagged OPEN (R234): 0 SENSE, 1 VOUT, 2 TFET. -/
def State.openFlag (s : State) (n pin : Nat) : Bool :=
  let b := belvB (dieOf n)
  let i := localOf n
  match pin with
  | 0 => s.rf (b + 0x120) i i == 1
  | 1 => s.rf (b + 0x120) (16 + i) (16 + i) == 1
  | _ => s.rf (b + 0x124) i i == 1

/-- The latest values of a slot read 0, with VALID 0 (R259). -/
def State.valuesZero (s : State) (n : Nat) : State :=
  [0x80, 0x84, 0x88, 0x8C, 0x90, 0x94].foldl (fun s o => s.setReg (slotB n + o) 0) s

/-! ## Die temperature (R166 to R168, R173) -/

def Grat.validTemps (g : Grat) : List Nat := (maskList g.valid 9).map (fun i => g.temps.getD i 0)
/-- The die temperature, the maximum of the valid sensors, in 2^-16 °C above -64 °C. -/
def Grat.max (g : Grat) : Nat := g.validTemps.foldl Nat.max 0

/-! ## The thermal model's temperatures (R157 to R165) -/

/-- Whether the last TFET result is older than 50 ms, or none exists (R165, R177). -/
def State.tfetOld (s : State) (n : Nat) : Bool :=
  let t := (s.slot n).tfet
  !t.seen || decide (t.at_ + 50 * MS < s.now)
/-- TFET valid under R165. -/
def State.tfetValid (s : State) (n : Nat) : Bool :=
  let t := (s.slot n).tfet
  t.good && !t.bad && !s.tfetOld n && !s.openFlag n 2
/-- The case reference in mK: TFET, or TFET_MAX while TFET is not valid; TFET_MAX is read as a plain 8-bit number, so that its whole
listed range can be set (DEDUCED, log entry 51). temp is in 0.1 °C. -/
def State.caseRef (s : State) (n : Nat) : Int :=
  if s.tfetValid n then (s.slot n).tfet.temp * 100 else ((s.sf n 0x204 15 8 * 1000 : Nat) : Int)
/-- The junction temperature of an element in m°C (R157). -/
def State.tjOf (s : State) (n : Nat) (e : Elem) : Int :=
  s.caseRef n + (((e.rise.take (s.sf n 0x200 2 0)).foldl (· + ·) 0 : Nat) : Int)
/-- TJ in 0.1 °C, saturating (R159); the rounding is open (place 2). -/
def deciTj (t : Int) : Int := clampI (-32768) 32767 (openRound 2 ((t : Rat) / 100))
/-- The elements that are modelled: A, and B when fitted (R157). -/
def State.tjList (s : State) (n : Nat) : List Int :=
  s.tjOf n (s.slot n).eA :: (if s.backup n then [s.tjOf n (s.slot n).eB] else [])
/-- An element at or above TJ_START - M (R161). -/
def State.aboveStart (s : State) (n : Nat) : Bool :=
  (s.tjList n).any (fun t => decide (((s.sf n 0x208 7 0 : Int) - s.margin) * 1000 ≤ t))
/-- An element at or above TJ_TRIP - M (R161). -/
def State.aboveTrip (s : State) (n : Nat) : Bool :=
  (s.tjList n).any (fun t => decide (((s.sf n 0x208 15 8 : Int) - s.margin) * 1000 ≤ t))
/-- TJ of the working element in 0.1 °C (R150). -/
def State.workTj (s : State) (n : Nat) : Int :=
  deciTj (s.tjOf n (if s.workB n then (s.slot n).eB else (s.slot n).eA))

/-- TFET_FAULT when VALID falls, TJ_START_HIT when ABOVE_START rises (R165, R178), on the slots given. -/
def State.thEdges (s : State) (l : List Nat) : State :=
  s.each l (fun n s =>
    let v := s.tfetValid n
    let a := s.aboveStart n
    let x := s.slot n
    let bits := (if x.tfet.wasValid && !v then [5] else []) ++ (if a && !x.tfet.wasAbove then [3] else [])
    let s := s.modSlot n (fun x => { x with tfet := { x.tfet with wasValid := v, wasAbove := a } })
    if bits.isEmpty then s else s.evtSlot n bits)

/-! ## Charge pumps (R78, R107) -/

/-- WAIT_CAUSE.PUMP: the pump restarting, or VCP outside its limits. -/
def Power.waits (p : Power) : Bool := p.stopped || p.restarting || p.vcpLow

end Sys2Proof.Machine
end

