-- ==== Sys2Proof/Machine/Settle.lean ====
section
/-! DEFINITION. What every command leaves in step with the state it changed: the edges of the summary, EWARN_N, FAULT_N, MODE_DIRTY and the test hold. -/
namespace Sys2Proof.Machine

/-- The dies whose level rose from 0 to 1. -/
def roseDies (was : Nat) (now : Nat → Bool) : List Nat := (List.range 8).filter (fun d => now d && !nbit was d)

/-- EWARN_ASSERT when EWARN_N goes low on a serving die (R122). -/
def State.settleEwarn (s : State) : State :=
  let s' := s.each ((roseDies s.pkg.ewWas s.ewarn).filter s.runs) (fun d s => s.evtDie d [23])
  { s' with pkg := { s'.pkg with ewWas := maskOf ((List.range 8).filter s.ewarn) } }

/-- FAULT_ASSERT when a serving die starts to pull FAULT_N low (R156). -/
def State.settleFault (s : State) : State :=
  let s' := s.each ((roseDies s.pkg.faultWas s.fault).filter s.runs) (fun d s => s.evtDie d [21])
  { s' with pkg := { s'.pkg with faultWas := maskOf ((List.range 8).filter s.fault) } }

/-- DIRTY_SET when DIRTY rises in RUN (R447). -/
def State.settleDirty (s : State) : State :=
  let n := s.inRun && s.dirty
  let s' := if n && !s.pkg.dirtyWas then s.evt (pageNo modeB) [1] else s
  { s' with pkg := { s'.pkg with dirtyWas := n } }

/-- The EVENT frame when the enabled groups rise, or when SYS_ADDR becomes VALID while they are non-zero (R54). sumWas
holds whether both held before. -/
def State.settleSummary (s : State) : State :=
  let n := s.leadIn && s.groupOn && s.sysValid
  let s' := if n && !s.pkg.sumWas && s.rf (pkgB + 0xA0) 31 31 == 1 then s.sendEvent else s
  { s' with pkg := { s'.pkg with sumWas := n } }

/-- Whether a port holds something back that it may send now. -/
def State.pumpDue (s : State) (i : Nat) : Bool :=
  s.mayPump i && (!(s.cleared i).isEmpty ||
    (!(s.port i).holdTx && decide ((s.port i).tx.length < 8) && (match (s.port i).waiting with
      | f :: _ => s.clearsWindow (i / 2) (Nat.max s.now (s.port i).busyTo) f.size
      | [] => false)))
/-- The lanes: what a gap window held back goes after its end (R334), RX_OK follows the link states (R319), and WKT_DRV the Wickets
(R340). -/
def State.settleLines (s : State) : State :=
  let s := s.each [0, 1, 2, 3] (fun i s =>
    let s := if s.pumpDue i then s.pump i else s
    if s.rxOk i == (s.port i).okWas then s else (s.modPort i (fun p => { p with okWas := !p.okWas })).emit (.rxOk i (s.rxOk i)))
  s.each [0, 1] (fun k s =>
    if s.wktDrv k == (s.pair k).drv then s else (s.modPair k (fun p => { p with drv := !p.drv })).emit (.wktDrv k (s.wktDrv k)))

/-- All of them, the summary after those that set events, and the lanes after what it sends. It ends the CORE cycle of a command, and of each word of a
frame (R43, R54). -/
def State.settle (s : State) : State := s.settleEwarn.settleFault.settleDirty.settleSummary.settleLines.cool

/-- The outcome of a command: the settled state. No command touches the queue, the time, or what the factory fixed. -/
def done (old new : State) : Host.Outcome State Fault Refusal :=
  .next { new.settle with pending := old.pending, now := old.now, ident := old.ident }

end Sys2Proof.Machine
end

