-- ==== Sys2Proof/Machine/Contour.lean ====
section
/-! DEFINITION. The Contour control engine (10_contour_engine.md): binding, the loop arithmetic, output, test signals, capture, commits and failure. -/
namespace Sys2Proof.Machine

/-! ## Homes -/

def Die.ctx (x : Die) (n : Nat) : Ctx := x.eng.ctxs.getD n {}
def State.ctx (s : State) (d n : Nat) : Ctx := (s.die d).ctx n
def State.modCtx (s : State) (d n : Nat) (g : Ctx → Ctx) : State :=
  s.modDie d (fun x => { x with eng := { x.eng with ctxs := x.eng.ctxs.set n (g (x.ctx n)) } })
def State.modTest (s : State) (d : Nat) (g : TestGen → TestGen) : State :=
  s.modDie d (fun x => { x with eng := { x.eng with test := g x.eng.test } })
def State.modCap (s : State) (d : Nat) (g : Capture → Capture) : State :=
  s.modDie d (fun x => { x with eng := { x.eng with cap := g x.eng.cap } })
/-- The base of a context's registers (R309). -/
def ctxB (d n : Nat) : Nat := contB d + 0x100 + 0x40 * n
/-- A word of a section in the edit bank and in the active bank (R311). -/
def editA (d n k o : Nat) : Nat := contB d + 0x1000 + 0x100 * n + 0x20 * k + o
def activeA (d n k o : Nat) : Nat := contB d + 0x2200 + 0x100 * n + 0x20 * k + o
/-- The context that serves a slot, 31 for none (R273). -/
def State.ctxOf (s : State) (slot : Nat) : Nat := (s.die (dieOf slot)).eng.map.getD (localOf slot) 31
/-- Whether any context of a die is bound. -/
def State.anyBound (s : State) (d : Nat) : Bool := (s.die d).eng.ctxs.any (·.bound)
/-- WAIT_CAUSE.CONTEXT (R107, R275, R297): no working context is available to the slot. -/
def State.noContext (s : State) (slot : Nat) : Bool :=
  let d := dieOf slot
  let c := s.ctxOf slot
  s.rf (contB d + 8) 0 0 == 0 || decide (17 < c) || (s.ctx d c).failed

/-- The profile of a slot's loop: that of the binding while its context is bound (R108, R282), else INS_CFG.PROFILE. -/
def State.loopProfile (s : State) (slot : Nat) : Nat :=
  let c := s.ctx (dieOf slot) (s.ctxOf slot)
  if c.bound && c.slot == localOf slot then c.prof else s.profile slot
/-- Whether a path other than DAC acts on the working gate of a context's slot (R80, R286). -/
def State.disconnected (s : State) (d n : Nat) : Bool :=
  let slot := slotOf d (s.ctx d n).slot
  let x := s.slot slot
  x.limit || (if s.workB slot then x.gB.path else x.gA.path) != .dac
/-- The local slot of a context in a record (R315): the one that MAPn gives it, else the last one it was bound to. -/
def State.ctxSlot (s : State) (d n : Nat) : Nat :=
  ((List.range 16).find? (fun i => (s.die d).eng.map.getD i 31 == n)).getD (s.ctx d n).slot

/-- The divider D of a rate (R276). -/
def rateDiv (r : Nat) : Nat := 2 ^ r

/-! ## Commits (R294, R295) -/

/-- The section words, in the order of R311. -/
def secWords : List Nat := [0, 4, 8, 12, 16, 20]
/-- Copy all eight sections of the edit bank to the active bank. -/
def State.copyBank (s : State) (d n : Nat) : State :=
  s.each (List.range 8) (fun k s => s.each secWords (fun o s => s.setReg (activeA d n k o) (s.reg (editA d n k o))))
/-- Whether a section of a bank, read through g, is an INTEGRATOR. -/
def isInteg (w : Word) : Bool := bit w 0
/-- The check of R295 on the sections the context would compute under SECTIONS. -/
def State.commitOk (s : State) (d n : Nat) : Bool :=
  let ks := (List.range (s.rf (ctxB d n) 7 4)).filter (fun k => isInteg (s.reg (editA d n k 20)))
  decide (ks.length ≤ 1) && ks.all (fun k => s.reg (editA d n k 12) == 0xF0000000 && s.reg (editA d n k 16) == 0)
/-- Replace the active bank: COMMIT_DONE and a record (R294, R315). A word of the edit bank that failed its parity check is copied
with the others, and so is bad in both. -/
def State.commitNow (s : State) (d n : Nat) : State :=
  let s := s.copyBank d n
  let s := s.modCtx d n (fun c =>
    let e := c.bad.filter (fun o => decide (0x100 ≤ o))
    { c with commitPend := false, bad := e ++ e.map (· - 0x100) })
  (s.evtCont d [7]).log d 14 n 0x0302 [n, s.ctxSlot d n]
/-- A write of COMMIT (R294, R295). -/
def State.commitReq (s : State) (d n : Nat) : State :=
  if !s.commitOk d n then s.reject (pageNo (contB d))
  else if (s.ctx d n).bound then s.modCtx d n (fun c => { c with commitPend := true })
  else s.commitNow d n

/-! ## The test generator's end and the capture's end (R302, R304) -/

/-- End the generator with a reason: 1 COMPLETE, 2 STOP, 3 UNBOUND, 4 FALLBACK (R302). -/
def State.testStop (s : State) (d reason : Nat) : State :=
  let t := (s.die d).eng.test
  if t.running || (t.armed && reason == 2) then
    (s.modTest d (fun t => { t with armed := false, running := false, inj := false, end_ := reason, out := 0 })).evtCont d [10]
  else s

/-- The context and the trigger source of the capture. -/
def State.capCtx (s : State) (d : Nat) : Nat := s.rf (contB d + 0x680) 4 0
def State.capSrc (s : State) (d : Nat) : Nat := s.rf (contB d + 0x680) 30 28
/-- The number of signals selected, and the words W of the ring (R303). -/
def State.capK (s : State) (d : Nat) : Nat := popCount (s.rf (contB d + 0x680) 11 8) 4
def State.capW (s : State) (d : Nat) : Nat := 8192 / s.capK d * s.capK d
/-- P of R304. -/
def State.capP (s : State) (d : Nat) : Nat :=
  let k := s.capK d
  Nat.min (s.rf (contB d + 0x684) 12 0 / k * k) (s.capW d - k)

/-- Enter DONE: the oldest valid word and the count (R304). -/
def State.capFinish (s : State) (d : Nat) (part : Bool) : State :=
  let w := s.capW d
  (s.modCap d (fun c =>
    let n := Nat.min c.count w
    { c with state := 3, partial_ := part, len := n, first := if c.count ≤ w then 0 else c.idx })).evtCont d [9]

/-- The trigger at a period: the index of its first word, its time and CAP_TRIG (R304). W - P words are recorded from that
index on, of which stored are there already. -/
def State.capTrigger (s : State) (d idx ns stored : Nat) : State :=
  let s := s.modCap d (fun c => { c with state := 2, trigWord := idx, left := s.capW d - s.capP d - stored, force := false })
  let s := s.setReg (contB d + 0x698) (BitVec.ofNat 32 (nsOf ns))
  let s := s.setReg (contB d + 0x69C) (BitVec.ofNat 32 (secOf ns))
  let s := s.setReg (contB d + 0x6A0) (BitVec.ofNat 32 (secOf ns / 2 ^ 32 % 65536))
  s.evtCont d [8]

/-- A trigger at the last computed period (sources END, OVERRUN and FALLBACK of R304). -/
def State.capLast (s : State) (d : Nat) : State :=
  let c := (s.die d).eng.cap
  s.capTrigger d c.lastIdx c.lastNs c.lastK
/-- Such a trigger that ends the capture where it stands (END and FALLBACK). -/
def State.capEndAt (s : State) (d : Nat) : State := (s.capLast d).capFinish d false

/-! ## Binding (R274, R282, R291) -/

def q46One : Int := 2 ^ 46

/-- The reference of a CURRENT profile, k × ICHG / 80,000 in Q1.46 (R282). -/
def State.currentRef (s : State) (slot k8 : Nat) : Int := (k8 * s.sf slot 0x148 31 16 * 2 ^ 46 / 80000 : Nat)

/-- Bind the context that serves a slot (R274). -/
def State.bindCtx (s : State) (slot : Nat) : State :=
  let d := dieOf slot
  let n := s.ctxOf slot
  let cfg := s.reg (ctxB d n)
  let eng := (s.die d).eng
  let cur := s.profile slot == 2
  let x := s.slot slot
  let s := if (s.ctx d n).commitPend then s.commitNow d n else s
  let s := s.modCtx d n (fun c =>
    { c with
      bound := true, slot := localOf slot, fallback := false, consec := 0, disc := false, code := 0, applied := 0, out := none,
      armed := cur || fld cfg 31 24 == 0, armN := 0,
      rate := if bit cfg 2 then fld cfg 1 0 else fld eng.cfgNow 1 0,
      secs := if bit cfg 2 then fld cfg 7 4 else Nat.min (fld cfg 7 4) (fld eng.cfgNow 7 4),
      first := true, refHit := false, pos := 0, k8 := x.ins.k8,
      vFrom := x.ctl.vCode, vTo := s.busCode slot,
      prof := s.profile slot, dv := s.sf slot 0x148 15 0, sfrac := s.sf slot 0x144 7 4,
      ref := if cur then s.currentRef slot x.ins.k8 else (x.ctl.vCode : Int) * 2 ^ 30,
      sameN := 0, lastFb := 0, fbAt := x.ctl.at_, lostSet := false, frozenSet := false, supOff := false,
      states := List.replicate 8 (0, 0),
      lim := s.reg (ctxB d n + 4), kb := s.reg (ctxB d n + 8), kv := s.reg (ctxB d n + 0x10), safe := s.reg (ctxB d n + 0x14) })
  let t := eng.test
  let s := if t.armed && s.rf (contB d + 0x600) 12 8 == n then
      s.modTest d (fun t =>
        { t with
          armed := false, running := true, delay := s.rf (contB d + 0x61C) 15 0, inj := s.rf (contB d + 0x61C) 15 0 == 0, firstInj := true })
    else s
  s.evtCont d [0]

/-- Map a spare context to the slot that a failed context serves (R391). R399 gives the record no bytes for the words taken from
the image or from the factory defaults (log entry 56). -/
def State.spareMap (s : State) (d n : Nat) : State :=
  let eng := (s.die d).eng
  match (List.range 16).find? (fun i => eng.map.getD i 31 == n) with
  | none => s
  | some i =>
    match [16, 17].find? (fun c => !(s.ctx d c).failed && !eng.map.contains c) with
    | none => s.exhausted 7 d n 0 n
    | some c =>
      let bad := (s.ctx d n).bad
      let s := s.each [0, 4, 8, 12, 16, 20] (fun o s => s.setReg (ctxB d c + o) (s.reg (ctxB d n + o)))
      let s := s.each (List.range 8) (fun k s => s.each secWords (fun o s =>
        let off := 0x20 * k + o
        let e := if bad.contains (0x100 + off) then
            BitVec.ofNat 32 ((s.imageValue (editA d n k o) (contB 0) (0x1000 + 0x100 * n + off)).getD (bankDefault (0x100 * n + off)))
          else s.reg (editA d n k o)
        let a := if bad.contains off then
            BitVec.ofNat 32 ((s.imageValue (editA d n k o) (contB 0) (0x1000 + 0x100 * n + off)).getD (bankDefault (0x100 * n + off)))
          else s.reg (activeA d n k o)
        (s.setReg (editA d c k o) e).setReg (activeA d c k o) a))
      let s := s.modDie d (fun x => { x with eng := { x.eng with map := x.eng.map.set i c } })
      let s := s.commitReq d c
      s.swap 7 d n 0 n c 0

/-- Map a spare for a failed context now, or, while it is bound, at its unbinding (R274, R391). -/
def State.spareGo (s : State) (d n : Nat) : State :=
  if (s.ctx d n).bound then s.modCtx d n (fun c => { c with mapDue := true })
  else (s.modCtx d n (fun c => { c with mapDue := false })).spareMap d n
/-- Report a failed context to the Nursery: mapped under AUTO, requested under APPROVE (R297, R385, R391). -/
def State.ctxReport (s : State) (d n : Nat) : State :=
  if s.approve 7 then s.nursReq 7 d n 0 else s.spareGo d n

/-- Unbind the context of a slot that leaves CHARGING (R274, R302, R304); toOn: for ON. -/
def State.unbindCtx (s : State) (slot : Nat) (toOn : Bool) : State :=
  let d := dieOf slot
  let n := s.ctxOf slot
  if !(s.ctx d n).bound then s else
  let disc := s.disconnected d n
  let s := s.modCtx d n (fun c => { c with bound := false, out := none, disc := disc })
  let s := if (s.ctx d n).commitPend then s.commitNow d n else s
  let s := if (s.die d).eng.test.running && s.rf (contB d + 0x600) 12 8 == n then s.testStop d 3 else s
  let cap := (s.die d).eng.cap
  let s := if s.capCtx d == n then
      if cap.state == 2 then s.capFinish d true
      else if cap.state == 1 && s.capSrc d == 3 && !toOn && cap.count != 0 then s.capEndAt d
      else s
    else s
  if (s.ctx d n).mapDue then s.spareGo d n else s

/-- Fall back: the DAC at SAFE, no more computation in this binding (R290). cause: 0 OVERRUN, 1 PARITY. -/
def State.fallBack (s : State) (d n cause : Nat) : State :=
  let safe := toSigned 10 (fld (s.ctx d n).safe 9 0)
  let disc := s.disconnected d n
  let s := s.modCtx d n (fun c => { c with fallback := true, code := safe, applied := if disc then c.applied else safe, out := none })
  let s := if (s.die d).eng.test.running && s.rf (contB d + 0x600) 12 8 == n then s.testStop d 4 else s
  let cap := (s.die d).eng.cap
  let s := if s.capCtx d == n && cap.state == 1 && s.capSrc d == 7 && cap.count != 0 then s.capEndAt d else s
  (s.evtCont d [2]).log d 14 n 0x0300 [n, s.ctxSlot d n, cause]

/-- A parity error of a context (R297): section sec of the active bank, or sec - 8 of the edit bank; words 0 to 5 are those of R311,
the others the words of its states. A context that serves a slot is reported to the Nursery; an unmapped spare is one spare less
in the Gazetteer (R64). -/
def State.ctxFail (s : State) (d n sec word : Nat) : State :=
  let off := 0x20 * sec + 4 * word
  let was := (s.ctx d n).failed
  let s := s.modCtx d n (fun c => { c with failed := true, bad := if c.bad.contains off || 6 ≤ word then c.bad else c.bad ++ [off] })
  if was then s
  else
    let s := (s.evtCont d [6]).log d 14 n 0x0301 [n, s.ctxSlot d n, sec % 8]
    let s := if (s.ctx d n).bound && !(s.ctx d n).fallback then s.fallBack d n 1 else s
    if (s.die d).eng.map.contains n then s.ctxReport d n else s.gazRebuild
/-- The parity errors that a commit's reads of the edit bank met (R297). -/
def State.editErrs (s : State) (d n : Nat) (errs : List (Nat × Nat)) : State :=
  s.each (errs.filter (fun e => decide (e.1 < 8) && decide (e.2 < 6))) (fun e s => s.ctxFail d n (8 + e.1) e.2)

/-! ## Arithmetic (R280 to R286) -/

def satI (bits : Nat) (v : Int) : Int := clampI (-(2 ^ (bits - 1))) (2 ^ (bits - 1) - 1) v
/-- Saturation at ±2 in Q1.30. -/
def sat2 (v : Int) : Int := satI 32 v
/-- Floor division by a power of two. -/
def shr (v : Int) (n : Nat) : Int := v / 2 ^ n

/-- A section's words: b0, b1, b2, a1, a2 as signed values, and INTEGRATOR. -/
structure Sec where
  b0 : Int
  b1 : Int
  b2 : Int
  a1 : Int
  a2 : Int
  integ : Bool
  deriving DecidableEq, Repr

/-- A saturating sum in the Q5.58 accumulator, and whether it saturated. -/
def accAdd (a b : Int × Bool) : Int × Bool := (satI 64 (a.1 + b.1), a.2 || b.2 || decide (satI 64 (a.1 + b.1) ≠ a.1 + b.1))
def acc (v : Int) : Int × Bool := (v, false)

/-- One section (R283): its output, its new states, and how many of the three saturated. -/
def secStep (c : Sec) (x : Int) (st : Int × Int) : Int × (Int × Int) × Nat :=
  let w := accAdd (acc (c.b0 * x)) (acc (st.1 * 2 ^ 16))
  let y0 := shr w.1 28
  let ys := sat2 y0
  let n1 := accAdd (accAdd (acc (c.b1 * x)) (acc (-(c.a1 * ys)))) (acc (st.2 * 2 ^ 16))
  let n2 := accAdd (acc (c.b2 * x)) (acc (-(c.a2 * ys)))
  (ys, (shr n1.1 16, shr n2.1 16), b2n (w.2 || decide (ys ≠ y0)) + b2n n1.2 + b2n n2.2)

/-- The cascade over the sections computed (R277, R283). -/
def cascade : List Sec → Int → List (Int × Int) → Int × List (Int × Int) × Nat
  | [], x, st => (x, st, 0)
  | _ :: _, x, [] => (x, [], 0)
  | c :: cs, x, t :: ts =>
    let r := secStep c x t
    let q := cascade cs r.1 ts
    (q.1, r.2.1 :: q.2.1, r.2.2 + q.2.2)

def State.sec (s : State) (d n k : Nat) : Sec :=
  let w (o : Nat) : Int := toSigned 32 (s.reg (activeA d n k o)).toNat
  ⟨w 0, w 4, w 8, w 12, w 16, isInteg (s.reg (activeA d n k 20))⟩

/-- The derived dV/dt in Q1.30 from N and the shift (R281), from a history newest first. -/
def dvdt (hist : List (Int × Nat × Bool × Bool)) (started span shift : Nat) : Int :=
  let n := 2 ^ span
  let w := hist.take (n + 1)
  if started < n + 1 || w.length < n + 1 || w.any (·.2.2.2) then 0
  else
    let a : Int := ((w.getD 0 (0, 0, false, false)).2.1 : Int)
    let b : Int := ((w.getD n (0, 0, false, false)).2.1 : Int)
    sat2 ((a - b) * 2 ^ (14 + shift) / 2 ^ span)

/-- The full increment of a ramp per period at k = 8/8 times k8/8, in Q1.46, truncated (R282): DVDT × 10 V/s × T / 102.4 V. -/
def rampInc (k8 dvdtReg div : Nat) : Int := (k8 * dvdtReg * div * 500 * 2 ^ 46 / 8192000000 : Nat)

/-- One step of the reference generator (R282): RAMP, SCURVE or CURRENT. -/
def State.refStep (s : State) (d : Nat) (c : Ctx) (slot : Nat) : Ctx :=
  let bus : Int := ((s.die d).belv.busCode : Int) * 2 ^ 30
  let dv := s.sf slot 0x148 15 0
  let div := rateDiv c.rate
  match c.prof with
  | 2 => { c with ref := s.currentRef slot c.k8 }
  | 1 =>
    if c.refHit then { c with ref := bus }
    else
      -- periods of the nominal ramp, of each rounded end, and of the whole profile, at k = 8/8
      let nom : Rat := ((c.vTo : Rat) - c.vFrom) * 1024 / 655360 / ((c.dv : Rat) * 10) / ((div : Rat) * 5 / 1000000)
      let edge := nom * c.sfrac / 16
      let total := nom + edge
      if total ≤ c.pos then { c with ref := bus, refHit := true }
      else
        let shape := if c.pos < edge then c.pos / edge else if total - c.pos < edge then (total - c.pos) / edge else 1
        let inc := ((c.k8 : Rat) * c.dv * div * 500 * 2 ^ 46 / 8192000000 * shape).floor
        let r := c.ref + inc
        { c with ref := r, pos := c.pos + (c.k8 : Rat) / 8, refHit := decide (bus ≤ r) }
  | _ =>
    if c.refHit then { c with ref := bus }
    else
      let r := c.ref + rampInc c.k8 dv div
      { c with ref := r, refHit := decide (bus ≤ r) }

/-! ## The generator's steps (R299 to R301) -/

/-- The taps of R300, as the bit positions of a register whose newest bit is bit 1. -/
def prbsTaps : Nat → List Nat
  | 7 => [7, 6] | 8 => [8, 6, 5, 4] | 9 => [9, 5] | 10 => [10, 7] | 11 => [11, 9] | 12 => [12, 6, 4, 1]
  | 13 => [13, 4, 3, 1] | 14 => [14, 5, 3, 1] | 15 => [15, 14] | _ => []

/-- Shift the register: the new bit is the XOR of the tapped bits and enters at bit 1; bit k is at 2^(k-1). -/
def prbsShift (n lfsr : Nat) : Nat :=
  let new := ((prbsTaps n).filter (fun t => nbit lfsr (t - 1))).length % 2
  (lfsr * 2 + new) % 2 ^ n

/-- sin θ in units of 2^-60 by its series, from θ² and the term of odd degree k. -/
def sinSeries (xx : Int) : Nat → Nat → Int → Int
  | 0, _, _ => 0
  | f + 1, k, t => t + sinSeries xx f (k + 2) (-(t * xx / 2 ^ 60) / ((k + 1) * (k + 2)))
/-- sin (2π φ / 65,536) in units of 2^-60, from the quarter of the turn that φ lies in; the error is below 2^-40. -/
def sin60 (phase : Nat) : Int :=
  let r := phase % 16384
  let a : Int := 1811004757283262848 * (if phase / 16384 % 2 == 0 then r else 16384 - r : Nat) / 16384
  let v := sinSeries (a * a / 2 ^ 60) 12 1 a
  if phase / 32768 % 2 == 0 then v else -v
/-- The whole numbers that R301 allows for n = AMP × sin (2π φ / 65,536): those within 2^-16 × AMP of it, to the next unit. -/
def sineBand (phase amp : Nat) : Int × Int :=
  let v := (amp : Int) * sin60 phase
  let e : Int := amp * 2 ^ 44
  ((v - e) / 2 ^ 60, -((-(v + e)) / 2 ^ 60))
/-- The generator's sine: a free value within the band of R301. -/
def sineOut (phase amp : Nat) : Int := clampI (sineBand phase amp).1 (sineBand phase amp).2 (Config.sine phase amp)

/-- One step of the generator in a period in which it injects: the injected value and the new generator. -/
def State.testStep (s : State) (d : Nat) (t : TestGen) : TestGen :=
  let c := contB d
  let amp : Nat := (s.reg (c + 0x604)).toNat
  match s.rf (c + 0x600) 2 0 with
  | 1 =>
    let n := s.rf (c + 0x600) 19 16
    let hold := if s.rf (c + 0x600) 23 20 == 0 then 16 else s.rf (c + 0x600) 23 20
    if t.hold == 0 then
      let l := prbsShift n t.lfsr
      let b := t.bits + 1
      let full := b == 2 ^ n - 1
      { t with lfsr := l, bits := if full then 0 else b, seqs := if full then sat 65535 (t.seqs + 1) else t.seqs, hold := hold - 1,
               out := if l % 2 == 1 then (amp : Int) else -(amp : Int) }
    else { t with hold := t.hold - 1 }
  | 2 =>
    let w := s.reg (c + 0x640 + 4 * t.step)
    if t.seqOver || fld w 15 0 == 0 then { t with seqOver := true, out := 0 }
    else
      let out := sineOut t.phase amp
      let ph := (t.phase + fld w 31 16) % 65536
      let per := t.per + 1
      if fld w 15 0 ≤ per then
        let fin := t.step == 15 || s.rf (c + 0x640 + 4 * (t.step + 1)) 15 0 == 0
        { t with out := out, phase := ph, per := 0, step := if fin then t.step else t.step + 1, seqOver := fin }
      else { t with out := out, phase := ph, per := per }
  | 3 =>
    let len := s.rf (c + 0x618) 23 0
    let f0 : Int := s.rf (c + 0x610) 15 0
    let f1 : Int := s.rf (c + 0x614) 15 0
    if t.seqOver then { t with out := 0 }
    else
      let out := sineOut t.phase amp
      let inc := f0 + (f1 - f0) * t.per / len
      { t with out := out, phase := ((t.phase : Int) + inc).toNat % 65536, per := t.per + 1, seqOver := decide (len ≤ t.per + 1) }
  | _ => { t with out := 0 }

/-! ## Capture (R303) -/

/-- Store the selected signals of a period: the words, the index and the count. -/
def State.capStore (s : State) (d : Nat) (ws : List Int) : State :=
  let w := s.capW d
  s.each ws (fun v s =>
    let c := (s.die d).eng.cap
    if c.state == 2 && c.left == 0 then s
    else
      let s := { s with capt := mset 0 s.capt (0x40000 * d + 4 * c.idx) (BitVec.ofNat 32 (ofSigned 32 v)) }
      s.modCap d (fun c => { c with idx := (c.idx + 1) % w, count := c.count + 1, left := if c.state == 2 then c.left - 1 else c.left }))

/-- The capture's part of a computed period (R303, R304). trig: whether the source's condition is met. -/
def State.capPeriod (s : State) (d n : Nat) (first inject lim : Bool) (sig : List Int) : State :=
  let c := (s.die d).eng.cap
  if s.capCtx d != n || !(c.state == 1 || c.state == 2) then s else
  let decim := if s.rf (contB d + 0x680) 23 16 == 0 then 256 else s.rf (contB d + 0x680) 23 16
  let due := c.skip == 0
  let idx := c.idx
  let sel := s.rf (contB d + 0x680) 11 8
  let e := sig.getD 2 0
  let trig := c.state == 1 && (c.force ||
    (match s.capSrc d with
     | 1 => first
     | 2 => inject
     | 4 => lim
     | 6 => decide ((s.reg (contB d + 0x688)).toNat ≤ e.natAbs)
     | _ => false))
  let s := if trig then s.capTrigger d idx (s.count d) 0 else s
  let s := s.modCap d (fun c =>
    { c with skip := if due then decim - 1 else c.skip - 1, lastIdx := idx, lastNs := s.count d, lastK := if due then s.capK d else 0 })
  if due then s.capStore d ((List.range 4).filterMap (fun i => if nbit sel i then some (sig.getD i 0) else none)) else s

/-! ## One loop period of one context (R278 to R286) -/

/-- Compute a context whose period begins now; used is the number of cycles of the tick already spent. The result
carries the cycles then spent. -/
def State.ctxPeriod (s : State) (d n used : Nat) : State × Nat :=
  let s := if (s.ctx d n).commitPend then s.commitNow d n else s
  let s := s.modCtx d n (fun c => { c with lim := s.reg (ctxB d n + 4), kb := s.reg (ctxB d n + 8), kv := s.reg (ctxB d n + 0x10), safe := s.reg (ctxB d n + 0x14) })
  let c := s.ctx d n
  let slot := slotOf d c.slot
  let x := s.slot slot
  let t := (s.die d).eng.test
  let mine := t.running && s.rf (contB d + 0x600) 12 8 == n
  -- the generator: one step for each period of its context, once its delay has run out
  let t' := if mine && t.inj then s.testStep d t else if mine then { t with delay := t.delay - 1 } else t
  let inject := mine && t.inj && !t'.seqOver || (mine && t.inj && !t.seqOver)
  let s := if mine then s.modTest d (fun _ => { t' with firstInj := if t.inj then false else t.firstInj }) else s
  let inj : Int := if inject then t'.out else 0
  let pointB := s.rf (contB d + 0x600) 3 3 == 1
  -- signals
  let cur := c.prof == 2
  let fb := s.rf (ctxB d n + 0xC) 11 8
  let span := s.rf (ctxB d n + 0xC) 18 16
  let dv := dvdt x.ctl.hist x.ctl.started span fb
  let ych : Int := if cur then x.ctl.iCode * 2 ^ 15 else (x.ctl.vCode : Int) * 2 ^ 14
  let y := sat2 (ych + openRound 3 ((toSigned 32 c.kv.toNat : Rat) * dv / 2 ^ 28))
  let c := s.refStep d c slot
  let r := shr c.ref 16
  let e := sat2 (r - y + (if pointB then 0 else inj))
  let q := cascade ((List.range c.secs).map (s.sec d n)) e c.states
  let st := q.2.1 ++ c.states.drop q.2.1.length
  let uu := sat2 (q.1 + (if pointB then inj else 0))
  let umin := toSigned 10 (fld c.lim 9 0) * 2 ^ 21
  let umax := toSigned 10 (fld c.lim 25 16) * 2 ^ 21
  let uc := clampI umin umax uu
  let code := roundHalfEven ((uc : Rat) / 2 ^ 21)
  let ub := if s.disconnected d n then c.applied * 2 ^ 21 else uc
  let bled := match (List.range c.secs).find? (fun k => (s.sec d n k).integ) with
    | none => (st, 0)
    | some k =>
      let o := st.getD k (0, 0)
      let v := accAdd (acc (o.1 * 2 ^ 16)) (acc ((c.kb.toNat : Int) * (ub - uu)))
      (st.set k (shr v.1 16, o.2), b2n v.2)
  let sats := q.2.2 + bled.2
  -- cost (R278)
  let caps := (s.die d).eng.cap
  let recording := s.capCtx d == n && (caps.state == 1 || caps.state == 2) && caps.skip == 0
  let learning := x.st == .charging && !x.ins.winDone
  let cost := 8 + 3 * c.secs + 12 * b2n learning + 4 * b2n inject + (if recording then s.capK d else 0)
  let ready := used + cost
  let s := s.modCtx d n (fun _ => { c with states := bled.1, out := some code, outAt := s.now + ready, perAt := s.now, first := false })
  let s := if sats == 0 then s else (s.addSat (ctxB d n + 0x24) 15 0 sats).evtCont d [5]
  let s := s.setRf (ctxB d n + 0x20) 12 0 (sat 8191 ready)
  let s := s.setRf (ctxB d n + 0x20) 28 16 (Nat.max (s.rf (ctxB d n + 0x20) 28 16) (sat 8191 ready))
  let w (v : Int) : Word := BitVec.ofNat 32 (ofSigned 32 v)
  let s := (((s.setReg (ctxB d n + 0x28) (w r)).setReg (ctxB d n + 0x2C) (w y)).setReg (ctxB d n + 0x30) (w e)).setReg (ctxB d n + 0x34) (w uc)
  let s := s.capPeriod d n c.first (inject && t.firstInj) (decide (uu < umin) || decide (umax < uu)) [r, y, e, uc]
  (s, ready)

/-! ## The commands of the engine -/

/-- The write cycle of a context (R287 to R290): PHASE sixteenths of the period after its start, or, in ASAP, a cycle after its
computation. A code is written to the DAC, which drives the gate where no other path acts (R286). -/
def State.dacWrite (s : State) (d n : Nat) : State :=
  let c := s.ctx d n
  let cfg := s.reg (ctxB d n)
  let phase := if fld cfg 15 12 == 0 then 16 else fld cfg 15 12
  if !c.bound || c.fallback then s
  else match c.out with
  | none => s
  | some code =>
    let disc := s.disconnected d n
    let write (s : State) : State := s.modCtx d n (fun c =>
      { c with code := code, applied := if disc then c.applied else code, out := none, consec := 0 })
    if bit cfg 8 then (if c.outAt < s.now then write s else s)
    else if s.now != c.perAt + phase * 1000 * rateDiv c.rate / 16 then s
    else if c.outAt ≤ s.now then write s
    else
      let s := s.modCtx d n (fun c => { c with out := none, consec := c.consec + 1 })
      let s := (s.addSat (ctxB d n + 0x24) 31 16 1).evtCont d [1]
      let s := if s.capCtx d == n && (s.die d).eng.cap.state == 1 && s.capSrc d == 5 then s.capLast d else s
      if 3 ≤ (s.ctx d n).consec then s.fallBack d n 0 else s

/-- A context whose period begins: in fallback only a pending COMMIT applies (R290, R294); a parity error that its reads meet
fails it (R297); else it computes. -/
def State.ctxDue (s : State) (d n used : Nat) (errs : List (Nat × Nat × Nat)) : State × Nat :=
  let pend := (s.ctx d n).commitPend
  let mine := errs.filter (fun e => e.1 == n && decide (e.2.2 < 10) && (decide (e.2.1 < 8) || (pend && decide (e.2.1 < 16) && decide (e.2.2 < 6))))
  let mine := if (s.ctx d n).fallback then mine.filter (fun e => decide (8 ≤ e.2.1)) else mine
  if mine.isEmpty then (if (s.ctx d n).fallback then (if pend then s.commitNow d n else s, used) else s.ctxPeriod d n used)
  else
    let s := s.each mine (fun e s => s.ctxFail d n e.2.1 e.2.2)
    (if pend then s.commitNow d n else s, used)

/-- LOOP_PERIOD (R278): a tick begins, and the contexts whose periods begin with it are computed in ascending order; a code that
is due at the start of the next period is written first (R287). errs: the parity errors that the tick's reads met: context,
section, word, a section from 8 on being one of the edit bank. -/
def execLoopPeriod (d : Nat) (errs : List (Nat × Nat × Nat)) (s : State) : Host.Outcome State Fault Refusal :=
  done s (
    if !s.runs d || (s.now - s.pkg.epoch) % 1000 != 0 then s else
    let m := (s.now - s.pkg.epoch) / 1000
    let s := s.each (List.range 18) (fun n s => s.dacWrite d n)
    let prev := (s.die d).eng.tickLen
    let s := s.setRf (contB d + 0x48) 10 0 prev
    let s := s.setRf (contB d + 0x48) 26 16 (Nat.max (s.rf (contB d + 0x48) 26 16) prev)
    let due := (List.range 18).filter (fun n => (s.ctx d n).bound && m % rateDiv (s.ctx d n).rate == 0)
    let r := due.foldl (fun (a : State × Nat) n => a.1.ctxDue d n a.2 errs) (s, 24)
    r.1.modDie d (fun x => { x with eng := { x.eng with tick := m, tickLen := sat 2047 r.2 } }))

/-- A software access to a coefficient bank, a state word or CTX_R to CTX_U while the engine computes (R278): the contexts not yet
ready, and the end of the tick's last computation, are 2 cycles later. -/
def State.engStall (s : State) (d off : Nat) : State :=
  let start := s.pkg.epoch + 1000 * (s.die d).eng.tick
  let hits := (decide (0x1000 ≤ off) && decide (off < 0x3D00)) ||
    (decide (0x100 ≤ off) && decide (off < 0x580) && decide (0x28 ≤ off % 0x40) && decide (off % 0x40 < 0x38))
  if !hits || !decide (start + 24 ≤ s.now) || !decide (s.now < start + (s.die d).eng.tickLen) then s
  else
    let s := s.setReg (contB d + 0x64) (s.reg (contB d + 0x64) + 2)
    let s := s.modDie d (fun x => { x with eng := { x.eng with tickLen := sat 2047 (x.eng.tickLen + 2) } })
    s.each ((List.range 18).filter (fun n => (s.ctx d n).perAt == start && decide (s.now < (s.ctx d n).outAt))) (fun n s =>
      let s := s.modCtx d n (fun c => { c with outAt := c.outAt + 2 })
      let ready := sat 8191 ((s.ctx d n).outAt - start)
      let s := s.setRf (ctxB d n + 0x20) 12 0 ready
      s.setRf (ctxB d n + 0x20) 28 16 (Nat.max (s.rf (ctxB d n + 0x20) 28 16) ready))

/-- DAC_WRITE (R287 to R290): the write cycle of a context's period, or, in ASAP, the cycle after its computation. -/
def execDacWrite (d n : Nat) (s : State) : Host.Outcome State Fault Refusal :=
  done s (if s.runs d then s.dacWrite d n else s)

/-- PARITY_SCAN (R297): every 1,024 ticks the active-bank words of each unbound context are checked. -/
def execParityScan (d : Nat) (errs : List (Nat × Nat × Nat)) (s : State) : Host.Outcome State Fault Refusal :=
  done s (
    if !s.runs d || (s.now - s.pkg.epoch) % 1024000 != 0 then s
    else s.each (errs.filter (fun e => decide (e.1 < 18) && decide (e.2.1 < 8) && decide (e.2.2 < 6)))
      (fun e s => if (s.ctx d e.1).bound then s else s.ctxFail d e.1 e.2.1 e.2.2))

/-- COMMIT of the engine (R294, R295), after the page's lock. -/
def State.ctlCommit (s : State) (d n : Nat) : State := s.commitReq d n

/-- CLR_CNT (R310): CTX_CNT and CTX_READY.MAX of a context. -/
def State.clrCnt (s : State) (d n : Nat) : State := (s.setReg (ctxB d n + 0x24) 0).setRf (ctxB d n + 0x20) 28 16 0

/-- CLR_MAX (R279): CYC_STAT.MAX and every CTX_READY.MAX. -/
def State.clrMax (s : State) (d : Nat) : State :=
  (List.range 18).foldl (fun s n => s.setRf (ctxB d n + 0x20) 28 16 0) (s.setRf (contB d + 0x48) 26 16 0)

/-- ARM of the test generator (R302). -/
def State.testArm (s : State) (d : Nat) : State :=
  let t := (s.die d).eng.test
  if t.armed || t.running then s.reject (pageNo (contB d))
  else
    let n := s.rf (contB d + 0x600) 12 8
    let bits := s.rf (contB d + 0x600) 19 16
    let now := s.rf (contB d + 0x600) 25 24 == 0 && (s.ctx d n).bound && !(s.ctx d n).fallback
    let dly := s.rf (contB d + 0x61C) 15 0
    s.modTest d (fun _ => { armed := !now, running := now, delay := dly, inj := now && dly == 0, firstInj := true, lfsr := 2 ^ bits - 1 })

/-- ARM of the capture (R304). -/
def State.capArm (s : State) (d : Nat) : State :=
  let c := (s.die d).eng.cap
  if c.state == 1 || c.state == 2 then s.reject (pageNo (contB d))
  else s.modCap d (fun _ => { state := 1 })
def State.capForce (s : State) (d : Nat) : State :=
  if (s.die d).eng.cap.state == 1 then s.modCap d (fun c => { c with force := true }) else s
def State.capAbort (s : State) (d : Nat) : State := s.modCap d (fun _ => {})

/-- TEST_DELAY_END (R302): the delay periods have passed and injection begins. -/
def execTestDelayEnd (d : Nat) (s : State) : Host.Outcome State Fault Refusal :=
  done s (
    let t := (s.die d).eng.test
    if s.runs d && t.running && !t.inj && t.delay == 0 then s.modTest d (fun t => { t with inj := true }) else s)

/-- TEST_END (R302): the generator ends at the end of its sequence. -/
def execTestEnd (d : Nat) (s : State) : Host.Outcome State Fault Refusal :=
  done s (if s.runs d && (s.die d).eng.test.running && (s.die d).eng.test.seqOver then s.testStop d 1 else s)

/-- CAP_DONE (R304): the words after the trigger are recorded. -/
def execCapDone (d : Nat) (s : State) : Host.Outcome State Fault Refusal :=
  done s (
    let c := (s.die d).eng.cap
    if s.runs d && c.state == 2 && c.left == 0 then s.capFinish d false else s)

/-- A soft reset of CONT (R275). -/
def State.contReset (s : State) (d : Nat) : State :=
  let s := s.modDie d (fun x => { x with eng := { x.eng with
    ctxs := x.eng.ctxs.map (fun c => { c with states := List.replicate 8 (0, 0), consec := 0, fallback := false, armed := false, code := 0, slot := 0, commitPend := false, disc := false }),
    cap := {}, test := {}, tickLen := 0 } })
  (List.range 18).foldl (fun s n => ((s.setReg (ctxB d n + 0x20) 0).setReg (ctxB d n + 0x24) 0)) (s.setReg (contB d + 0x48) 0)

end Sys2Proof.Machine
end

