-- ==== Sys2Proof/Machine/Gates.lean ====
section
/-! DEFINITION. The gates of a slot: the paths its state asks for, pull-downs and their release, and the entry of a slot into a state (03_slot_hardware.md R79 to R96, 04_insertion.md R98 to R113). -/
namespace Sys2Proof.Machine

/-! ## One gate -/

/-- A path that drives a gate up. -/
def Path.isUp : Path → Bool
  | .dac | .enhance => true
  | _ => false

/-- A gate is off exactly when its PATH field reads HOLD_OFF (R96). -/
def Gate.off (g : Gate) : Bool := g.path == .holdOff

/-- A pull-down starts, and no lower path waits any more (R80): HARD ranks above every other path; SOFT above DAC and ENHANCE
only, so that it leaves HARD and HOLD-OFF as they are; a pull-down already acting is not restarted. -/
def Gate.pull (now : Nat) (hard : Bool) (g : Gate) : Gate :=
  match g.path with
  | .hard => { g with next := none }
  | .soft => if hard then { g with path := .hard, next := none, pullAt := now } else { g with next := none }
  | .holdOff => if hard then { g with path := .hard, next := none, pullAt := now } else { g with next := none }
  | _ => { g with path := if hard then .hard else .soft, next := none, pullAt := now }

/-- A gate is driven up through a path; from then on it counts as above 1 V until GATE_BELOW_1V says otherwise. While a HARD or
SOFT pull-down acts, the path waits for its release (R80). -/
def Gate.drive (p : Path) (g : Gate) : Gate :=
  match g.path with
  | .hard | .soft => { g with next := some p }
  | .holdOff => { g with path := p, low := false }
  | _ => { g with path := p }

/-- A pull-down releases: the path that waits takes over in the same CORE cycle, else HOLD-OFF holds the gate (R80, R96). -/
def Gate.release (g : Gate) : Gate :=
  match g.next with
  | some p => { g with path := p, next := none, low := false }
  | none => { g with path := .holdOff }

/-- The gate-source voltage reaches 10.0 V, whatever path drives the gate up, or leaves it (R82). -/
def Gate.enhance (now : Nat) (g : Gate) : Gate := { g with enh := true, enhAt := if g.enh then g.enhAt else now }
def Gate.unenhance (g : Gate) : Gate := { g with enh := false }

/-- A HARD or SOFT pull-down releases once the gate has stayed below 1 V for 1 µs, counted from the later of the
pull-down start and the fall below 1 V (R96). -/
def Gate.mayRelease (now : Nat) (g : Gate) : Bool :=
  (g.path == .hard || g.path == .soft) && g.low && decide (Nat.max g.lowAt g.pullAt + US ≤ now)

/-! ## The gates of a slot -/

/-- The paths that a slot's state asks for on GATEA and GATEB (R83, R104, R105, R112); a slot held through keeps the
gates of ON (R437). -/
def State.wants (s : State) (n : Nat) : Option Path × Option Path :=
  let x := s.slot n
  let b := s.backup n
  let wb := s.workB n
  match x.st with
  | .seated => if x.step == 3 then (none, some .enhance) else (none, none)
  | .waiting => if !b then (none, none) else if wb then (some .enhance, none) else (none, some .enhance)
  | .charging =>
    let w := if x.step == 7 then Path.enhance else Path.dac
    if wb then (some .enhance, some w) else (some w, if b then some .enhance else none)
  | .on => (some .enhance, if b then some .enhance else none)
  | .holdthru =>
    if x.held == .on && x.pres && !x.htLatch && !x.htOff then (some .enhance, if b then some .enhance else none) else (none, none)
  | _ => (none, none)

/-- The slot has a gate driven up in its state, a reverse-current block aside (R123, R88). -/
def State.gateUp (s : State) (n : Nat) : Bool := (s.wants n).1.isSome || (s.wants n).2.isSome

/-- Both gates are off under R96; GATEB without pass element B reads OFF (R71). -/
def State.gatesOff (s : State) (n : Nat) : Bool := (s.slot n).gA.off && (!s.backup n || (s.slot n).gB.off)
/-- Both gates are below 1 V gate-source (R189). -/
def State.gatesLow (s : State) (n : Nat) : Bool := (s.slot n).gA.low && (!s.backup n || (s.slot n).gB.low)

/-- Drive the gates that the slot's state asks for; a reverse-current block holds them off (R88). -/
def State.raiseGates (s : State) (n : Nat) : State :=
  let w := s.wants n
  s.modSlot n (fun x =>
    if x.revBlock then x
    else
      { x with
        gA := (match w.1 with | some p => x.gA.drive p | none => x.gA)
        gB := (match w.2 with | some p => x.gB.drive p | none => x.gB) })

/-- Pull both gates down; the analog limit no longer acts (R80, R86). -/
def State.pullGates (s : State) (n : Nat) (hard : Bool) : State :=
  let b := s.backup n
  s.modSlot n (fun x =>
    { x with
      gA := x.gA.pull s.now hard
      gB := if b then x.gB.pull s.now hard else x.gB
      limit := false
      limOffAt := if x.limit then some s.now else x.limOffAt })

/-- Pull one gate down through the HARD path (R104). -/
def State.pullGate (s : State) (n : Nat) (gateB : Bool) : State :=
  s.modSlot n (fun x => if gateB then { x with gB := x.gB.pull s.now true } else { x with gA := x.gA.pull s.now true })

/-- Whether pass element B is the working element for the analog limit: as ROLE says, but B in pre-check step 2 (R83, R104). -/
def State.limitB (s : State) (n : Nat) : Bool := s.workB n || ((s.slot n).st == .seated && (s.slot n).step == 3)
/-- Whether the gate of the element on which the analog limit acts is driven up (R86). -/
def State.limitUp (s : State) (n : Nat) : Bool := (if s.limitB n then (s.wants n).2 else (s.wants n).1).isSome

/-- The path that GATE_STAT shows for a gate (R96): LIMIT while the analog limit regulates the working gate. -/
def State.pathCode (s : State) (n : Nat) (gateB : Bool) : Nat :=
  let x := s.slot n
  let works := gateB == s.limitB n
  if gateB && !s.backup n then 0
  else
    let g := if gateB then x.gB else x.gA
    if x.limit && works && g.path.isUp then 3
    else match g.path with
      | .hard => 1 | .holdOff => 2 | .soft => 4 | .dac => 5 | .enhance => 6

/-! ## Comparators (R84, R85) -/

/-- The output of a SHORT comparator at a time: its raw level once that has held for 1 µs (R84). -/
def Filt.at_ (f : Filt) (now : Nat) : Bool := if decide (f.since + US ≤ now) then f.raw else f.out
/-- The raw level of a SHORT comparator at a time. -/
def Filt.see (f : Filt) (now : Nat) (level : Bool) : Filt :=
  if level == f.raw then { f with out := f.at_ now } else { out := f.at_ now, raw := level, since := now }
/-- SHORT_VOUT (R84, R102). -/
def State.shortVout (s : State) (n : Nat) : Bool := (s.slot n).shV.at_ s.now

/-- The deglitch of a FAST copy in CORE cycles: the value in force, of R93; a change waits for the raw output to fall (R446). -/
def State.fastDg (s : State) (n : Nat) : Nat := 10 * 2 ^ ((s.slot n).pendDg.getD (s.rf (slotB n + 0x100) 5 4))
/-- The copies of a two-bit mask whose raw outputs have stayed asserted for the deglitch time: INSTANT 50 ns, FAST as DEGLITCH
says (R84, R93). -/
def State.ripe (s : State) (n : Nat) (inst : Bool) (copies : Nat) : Nat :=
  maskOf ((List.range 2).filter (fun c =>
    let k := if inst then 2 + c else c
    nbit copies c && nbit (s.slot n).raw k && decide ((s.slot n).rawAt.getD k 0 + (if inst then 10 else s.fastDg n) ≤ s.now)))

/-- CMP_CNT.EXCLUDED: bit c for copy c (R95). -/
def State.excl (s : State) (n : Nat) : Nat := s.rf (slotB n + 0x118) 27 24
/-- The asserted copies of a mask that are not excluded. -/
def State.inOr (s : State) (n m : Nat) : Nat := m - (m &&& s.excl n)
/-- The raw outputs of R188 and R191, and FAST and INSTANT after deglitch (R85). -/
def State.rawAny (s : State) (n : Nat) : Bool := s.inOr n (s.slot n).raw != 0
def State.rawFast (s : State) (n : Nat) : Bool := s.inOr n (s.slot n).raw % 4 != 0
def State.fastOn (s : State) (n : Nat) : Bool := s.inOr n (s.slot n).deg % 4 != 0
def State.instOn (s : State) (n : Nat) : Bool := s.inOr n (s.slot n).deg / 4 != 0

/-- The cause and DETAIL that the copies of one comparator give (R126): copies is a two-bit mask, inst says INSTANT. -/
def State.classify (s : State) (n : Nat) (inst : Bool) (copies : Nat) : Nat × Nat :=
  let e := if inst then s.excl n / 4 else s.excl n % 4
  let agree := if inst then 2 else 1
  if copies == 3 || e != 0 then (agree, 0)
  else (0x11, (if inst then 3 else 1) + (if copies == 2 then 1 else 0))

/-- Whether the partner of the asserted copies needs no window: both asserted, or the partner excluded (R126). -/
def State.agreed (s : State) (n : Nat) (inst : Bool) (copies : Nat) : Bool :=
  copies == 3 || (if inst then s.excl n / 4 else s.excl n % 4) != 0

/-! ## Leaving HOLD -/

/-- A slot record of R207: the other party's address and slot, the type with the low nibble, the count. -/
def State.terrRec (s : State) (n code addr slot type low cnt : Nat) : State :=
  s.logSlot n code (le 2 addr ++ [slot, type * 16 + low, cnt])

/-- A slot leaves WAIT or HOLD without tripping; from HOLD with STOOD_DOWN and its record, naming the last source (R191, R204,
R207). -/
def State.standDown (s : State) (n : Nat) : State :=
  let t := (s.slot n).terr
  let s := s.modSlot n (fun x => { x with terr := { x.terr with sub := .idle } })
  if t.sub == .hold then (s.evt (pageNo terrB) [0]).terrRec n 0x0240 t.lastSrc.1 t.lastSrc.2 0 0 0 else s

/-! ## Entry into a state -/

/-- The slot as an entry leaves it (R99): PREV_STATE, STEP, PG low in every state but ON (R113), STABLE_TIME started in ON
(R141), the count of PRES_N started in EMPTY (R120), the insertion's counts begun again. -/
def Slot.entered (x : Slot) (st : SM) (step now stable : Nat) (waits : Bool) : Slot :=
  let fresh := st == .waiting && (x.st == .seated || x.st == .lockout)
  { x with
    st := st, prev := x.st, step := step
    presAt := if st == .empty then now else x.presAt
    pg := x.pg && st == .on
    offPend := none
    offWarn := x.offWarn && st == .off
    upWarn := x.upWarn && st == .lockout
    retry := { x.retry with stable := if st == .on then some stable else none }
    prot := { x.prot with uv := 0, pgOkAt := none, pgLow := 0 }
    ins :=
      { x.ins with
        swapPending := false, spareEnh := false, doneN := 0, waited := waits, nearAt := none
        goDone := x.ins.goDone && !(st == .seated && x.st != .seated)
        firstAt := if fresh then none else x.ins.firstAt
        winDone := x.ins.winDone && !fresh
        k8 := if fresh then 8 else x.ins.k8
        armed := !(st == .waiting && x.st == .lockout)
        chargeAt := if st == .charging then now else x.ins.chargeAt } }

/-- What leaving the present state ends: the context's binding on leaving CHARGING (R274), PG on leaving ON (R113), a swap
request (R385). -/
def State.leave (s : State) (n : Nat) (st : SM) : State :=
  let x := s.slot n
  let s := if x.st == .charging && st != .charging then s.unbindCtx n (st == .on) else s
  let s := if x.pg && st != .on then s.evtSlot n [14] else s
  if x.ins.swapPending then s.nursDrop 0 (dieOf n) n 0 else s

/-- Where no gate of the slot is driven up, HOLD is left (R204), the accumulator and the restraint table are cleared (R128,
R190). -/
def State.gatesIdle (s : State) (n : Nat) : State :=
  if s.gateUp n then s
  else
    let s := if (s.slot n).terr.sub == .hold && (s.slot n).st != .tripped then s.standDown n else s
    s.modSlot n (fun x => { x with prot := { x.prot with acc := 0, due := none, ov := 0 }, terr := { x.terr with sub := .idle, entries := [] } })

/-- A slot enters a state (R99): what leaving ends, the slot's entry, the wait of pre-check step 1 reported (R102), and the
gates' idle state. -/
def State.enter (s : State) (n : Nat) (st : SM) (step : Nat) : State :=
  let s := s.leave n st
  let waits := st == .seated && step == 2 && s.shortVout n
  let stable := s.now + s.sf n 0x1B8 31 16 * SEC
  let s := s.modSlot n (fun x => x.entered st step s.now stable waits)
  let s := if waits then s.evtSlot n [16] else s
  s.gatesIdle n

end Sys2Proof.Machine
end

