-- ==== Sys2Proof/Machine/Terrace.lean ====
section
/-! DEFINITION. Terraces (07_terraces.md): targets and reach, messages and their copies, the restraint table, lockout lists. -/
namespace Sys2Proof.Machine

/-! ## Settings -/

/-- TERR.PAGE_CTRL.ENABLE (R202). -/
def State.terrOn (s : State) : Bool := s.rf (terrB + 8) 0 0 == 1
def State.levelCfg (s : State) (level : Nat) : Word := s.reg (terrB + 0x40 + 4 * level)
/-- WAIT and HOLD of a level in CORE cycles (R191, R203); level 0 has none. -/
def State.waitCyc (s : State) (level : Nat) : Nat := if level == 0 then 0 else fld (s.levelCfg level) 8 0
def State.holdCyc (s : State) (level : Nat) : Nat := if level == 0 then 0 else fld (s.levelCfg level) 25 16 * US

/-- Whether a slot takes part in terraces now: TERR enabled, its die serving, not in HOLDTHRU (R201, R202). -/
def State.terrSlot (s : State) (n : Nat) : Bool := s.terrOn && s.runs (dieOf n) && (s.slot n).st != .holdthru
/-- A waiting slot (R182). -/
def State.waiter (s : State) (n : Nat) : Bool := s.terrSlot n && s.level n != 0

/-! ## Targets (R183, R199) -/

/-- TGT0 or TGT1 of a slot. -/
def tgtReg (n k : Nat) : Nat := slotB n + 0x284 + 4 * k
/-- A target word names a slot of this part (R183). -/
def State.tgtLocal (s : State) (w : Word) : Bool := bit w 30 || (s.sysValid && fld w 13 0 == s.sysAddr)
/-- REACH and HOPS of a target word (R199, R206); 15 is shown where there is no route, so a longer route shows 14 (R205, log entry 54). -/
def State.reachOf (s : State) (w : Word) : Nat × Nat :=
  if !bit w 31 then (0, 0)
  else if s.tgtLocal w then (if s.present (dieOf (fld w 22 16)) then (1, 0) else (6, 15))
  else if !s.sysValid then (5, 15)
  else match s.hops (fld w 13 0) with
    | none => (4, 15)
    | some h =>
      if 6 < h then (4, sat 14 h)
      else if s.waitCyc (fld w 26 24) * 5 < 150 + 40 * h then (3, h) else (2, h)

def Terr.reach (t : Terr) (k : Nat) : Nat := if k == 0 then t.reach0 else t.reach1

/-- Recompute the REACH of a slot's targets and report each change (R199, R207). -/
def State.reachSlot (s : State) (n : Nat) : State :=
  s.each [0, 1] (fun k s =>
    let w := s.reg (tgtReg n k)
    let r := (s.reachOf w).1
    if (s.slot n).terr.reach k == r then s
    else
      let s := s.modSlot n (fun x => { x with terr := if k == 0 then { x.terr with reach0 := r } else { x.terr with reach1 := r } })
      (s.evt (pageNo terrB) [6]).terrRec n 0x0246 (if s.tgtLocal w then s.sysAddr else fld w 13 0) (fld w 22 16) 0 r 0)

/-- The slots that name a target, or did. -/
def State.tgtSlots (s : State) : List Nat :=
  ((s.regs.filter (fun e => decide (slotB 0 ≤ e.1) && decide (e.1 < slotB 128) && (e.1 % 4096 == 0x284 || e.1 % 4096 == 0x288))).map
      (fun e => (e.1 - slotB 0) / 4096) ++
    (s.slots.filter (fun e => e.2.terr.reach0 != 0 || e.2.terr.reach1 != 0)).map (·.1)).dedup

/-- Recompute the REACH of every target: after a route, a link weight, the part's address or a present die changed. -/
def State.reachUpdate (s : State) : State := s.each (s.tgtSlots.filter s.slotHere) (fun n s => s.reachSlot n)

/-! ## Sending (R185, R186) -/

def msgCode : MsgKind → Nat
  | .restrain => 1 | .cleared => 2 | .lockout => 3 | .release => 4 | .upstreamOpen => 5
/-- Copies of a message and their spacing in CORE cycles (R185). -/
def msgCopies : MsgKind → Nat × Nat
  | .restrain => (1, 0) | .cleared => (3, US) | _ => (3, 20 * US)

/-- An addressee: system address, slot, and whether it lies in this part. -/
structure Party where
  addr : Nat
  slot : Nat
  isLocal : Bool
  deriving DecidableEq, Repr

/-- The targets a slot sends to: those whose REACH is LOCAL, RING or LATE (R188, R199). -/
def State.parties (s : State) (n : Nat) : List Party :=
  [0, 1].filterMap (fun k =>
    let w := s.reg (tgtReg n k)
    let r := (s.reachOf w).1
    if r == 1 || r == 2 || r == 3 then some ⟨if s.tgtLocal w then s.sysAddr else fld w 13 0, fld w 22 16, s.tgtLocal w⟩ else none)

/-- Whether at least one target is enabled (R188). -/
def State.anyTarget (s : State) (n : Nat) : Bool := [0, 1].any (fun k => bit (s.reg (tgtReg n k)) 31)

/-- Send one copy: across the Trellis, or as an urgent frame (R183, R186); TX_CNT counts it (R203). -/
def State.sendCopy (s : State) (isLocal : Bool) (m : Msg) : State :=
  let s := s.addWrap (terrB + 0x60) 31 0 1
  if isLocal then s.emit (.terrLocal m) else s.sendUrgent m

/-- Send a message to addressees: the first copy at once, the others queued at their spacing (R185). -/
def State.sendMsg (s : State) (n : Nat) (k : MsgKind) (incident : Nat) (dst : List Party) : State :=
  s.each dst (fun p s =>
    let m : Msg := { kind := k, srcAddr := s.sysAddr, srcSlot := n, srcLevel := s.level n, tgtAddr := p.addr, tgtSlot := p.slot, incident := incident, hops := 6 }
    let s := s.sendCopy p.isLocal m
    let c := msgCopies k
    if c.1 == 1 then s
    else { s with copies := s.copies ++ [{ slot := n, msg := m, isLocal := p.isLocal, left := c.1 - 1, due := s.now + c.2, gap := c.2 }] })

/-! ## RESTRAIN and CLEARED (R188, R189) -/

/-- RESTRAIN when the raw output rises (R188). -/
def State.restrain (s : State) (n : Nat) : State :=
  if s.gateUp n && s.terrSlot n && s.anyTarget n && !(s.slot n).terr.out then
    let i := ((s.slot n).terr.incident + 1) % 16
    let s := s.modSlot n (fun x => { x with terr := { x.terr with incident := i, out := true }, trip := { x.trip with restrain := false } })
    let dst := s.parties n
    (s.sendMsg n .restrain i dst).addSat (slotB n + 0x294) 15 0 dst.length
  else s

/-- CLEARED when the raw output is low and, after a trip, both gates are below 1 V (R189). -/
def State.tryCleared (s : State) (n : Nat) : State :=
  let x := s.slot n
  if x.terr.out && s.terrSlot n && !s.rawAny n && (!x.trip.restrain || s.gatesLow n) then
    (s.modSlot n (fun x => { x with terr := { x.terr with out := false } })).sendMsg n .cleared x.terr.incident (s.parties n)
  else s

/-- The raw outputs of a slot may have gone low, by a fall or because a copy is excluded: WAIT and HOLD end (R191), and CLEARED
leaves (R189). -/
def State.rawLow (s : State) (n : Nat) : State :=
  (if !s.rawFast n && (s.slot n).terr.sub != .idle then s.standDown n else s).tryCleared n

/-! ## Sub-states (R190, R191) -/

/-- Enter HOLD and count it (R205). -/
def State.toHold (s : State) (n : Nat) : State :=
  (s.modSlot n (fun x => { x with terr := { x.terr with sub := .hold } })).addSat (slotB n + 0x294) 31 16 1

/-- The raw FAST output of a waiting slot rises: both timers start (R191). -/
def State.startWait (s : State) (n : Nat) : State :=
  if s.waiter n && s.gateUp n && (s.slot n).terr.sub == .idle then
    let l := s.level n
    let s := s.modSlot n (fun x => { x with terr := { x.terr with sub := .wait, waitAt := s.now + s.waitCyc l, holdAt := s.now + s.holdCyc l } })
    if (s.slot n).terr.entries.isEmpty then s else s.toHold n
  else s

/-! ## LOCKOUT, RELEASE and UPSTREAM_OPEN (R194 to R196) -/

/-- The route to a source of a message, as R199 gives it for a target; none where there is no path or more than six hops. -/
def State.route (s : State) (addr slot : Nat) : Option Party :=
  if addr == s.sysAddr then (if s.present (dieOf slot) then some ⟨addr, slot, true⟩ else none)
  else if !s.sysValid then none
  else match s.hops addr with
    | some h => if h ≤ 6 then some ⟨addr, slot, false⟩ else none
    | none => none

/-- A slot trips from HOLD: LOCKOUT to the sources of its entries, which join the lockout list (R194). -/
def State.lockoutSend (s : State) (n : Nat) : State :=
  let dst := ((s.slot n).terr.entries.filterMap (fun e => s.route e.src e.slot))
  if (s.slot n).terr.sub != .hold || dst.isEmpty || !s.terrSlot n then s
  else
    let s := s.sendMsg n .lockout 0 dst
    let s := s.each dst (fun p s =>
      let l := (s.slot n).terr.lockList
      if l.contains (p.addr, p.slot) then s
      else if 8 ≤ l.length then s.evt (pageNo terrB) [5]
      else s.modSlot n (fun x => { x with terr := { x.terr with lockList := l ++ [(p.addr, p.slot)] } }))
    let p := dst.headD ⟨0, 0, false⟩
    (s.evt (pageNo terrB) [2]).terrRec n 0x0241 p.addr p.slot 3 0 dst.length

/-- In ON with PG released, a slot with a lockout list sends RELEASE to it and empties it (R195). -/
def State.releaseSend (s : State) (n : Nat) : State :=
  let x := s.slot n
  if x.terr.lockList.isEmpty || x.st != .on || !x.pg || !s.terrSlot n then s
  else
    let dst := x.terr.lockList.filterMap (fun e => s.route e.1 e.2)
    let s := s.modSlot n (fun x => { x with terr := { x.terr with lockList := [] } })
    if dst.isEmpty then s
    else
      let p := dst.headD ⟨0, 0, false⟩
      ((s.sendMsg n .release 0 dst).evt (pageNo terrB) [1]).terrRec n 0x0242 p.addr p.slot 4 0 dst.length

/-- UPSTREAM_OPEN to the slot's targets (R196). -/
def State.sendOpen (s : State) (n : Nat) : State :=
  let dst := s.parties n
  if dst.isEmpty || !s.terrSlot n then s
  else
    let p := dst.headD ⟨0, 0, false⟩
    let s := s.modSlot n (fun x => { x with terr := { x.terr with openAt := some s.now, openCnt := 0 } })
    (s.sendMsg n .upstreamOpen 0 dst).terrRec n 0x0243 p.addr p.slot 5 0 dst.length

/-- Withdraw an outstanding RESTRAIN without CLEARED and clear the restraint table (R189, R201, R202). -/
def State.withdraw (s : State) (n : Nat) : State :=
  s.modSlot n (fun x => { x with terr := { x.terr with out := false, sub := .idle, entries := [] } })

/-! ## Receipt (R186, R187) -/

/-- The reason of a refusal, 0 for none (R187). -/
def State.refuseReason (s : State) (m : Msg) : Nat :=
  let n := m.tgtSlot
  if !s.terrOn then 1
  else if !s.slotHere n || (s.slot n).st == .off then 2
  else
    let ok := match m.kind with
      | .restrain | .cleared | .upstreamOpen => decide (m.srcLevel < s.level n)
      | .lockout | .release => decide (s.level n < m.srcLevel)
    if ok then 0 else 3

/-- How long a message with the same sender, target and incident counts as a repeated copy (R185, R186; log entry 25). -/
def copySpan : MsgKind → Nat
  | .restrain => US
  | .cleared => 4 * US
  | _ => 60 * US

/-- Whether a message is a repeated copy of one that has arrived. -/
def State.repeated (s : State) (m : Msg) : Bool :=
  s.heard.any (fun h => h.kind == m.kind && h.addr == m.srcAddr && h.slot == m.srcSlot && h.tgt == m.tgtSlot && h.incident == m.incident &&
    decide (s.now ≤ h.at_ + copySpan m.kind))

/-- LOCKOUT has an effect on a slot in the states that R99 and R139 name (R143). -/
def SM.locksOut : SM → Bool
  | .seated | .waiting | .charging | .on | .tripped | .cooldown => true
  | _ => false

end Sys2Proof.Machine
end

