-- ==== Sys2Proof/Machine/Trip.lean ====
section
/-! DEFINITION. Trips (05_trips_and_retries.md): the pull-down start, the settled cause, the trip record, lockout, and the driving up of gates. -/
namespace Sys2Proof.Machine

/-! ## Causes (R123) -/

/-- Whether a cause counts in RETRY_CNT. DIE_THERMAL counts as THERM_RESTART selects. -/
def State.counts (s : State) (n cause : Nat) : Bool :=
  match cause with
  | 1 | 2 | 3 | 4 | 5 | 9 | 0xB | 0xC | 0x11 => true
  | 0xD => (s.die (dieOf n)).thermRestart
  | _ => false

/-- Whether a cause leads to LATCHED at the end of the dwell (R123, R136, R172). -/
def State.latches (s : State) (n cause : Nat) : Bool :=
  match cause with
  | 6 | 7 | 8 | 0x10 => true
  | 0xD => !(s.die (dieOf n)).thermRestart
  | 0xF => s.sf n 0x1B4 4 4 == 0
  | _ => false

/-- The code of a slot state (R98). -/
def SM.code : SM → Nat
  | .off => 0 | .empty => 1 | .seated => 2 | .waiting => 3 | .charging => 4 | .on => 5 | .tripped => 6 | .cooldown => 7
  | .latched => 8 | .holdthru => 9 | .lockout => 10

/-! ## Snapshots (R147, R148) -/

/-- Assign a snapshot buffer with the 2,048 samples before the trip sample, missing ones read 0; none free drops the capture. -/
def State.snapAssign (s : State) (n : Nat) : State :=
  let d := dieOf n
  let x := s.slot n
  match [0, 1, 2, 3].find? (fun b => ((s.die d).snaps.getD b none).isNone) with
  | none =>
    let s := s.modSlot n (fun x => { x with trip := { x.trip with buf := 255 } })
    (s.addSat (dieB d + 0x210) 15 8 1).evtDie d [22]
  | some b =>
    let pre := (x.ctl.hist.take 2048).map (fun h => (ofSigned 16 h.1, h.2.1))
    let sn : Snap := { slot := n, cause := 0, detail := 0, time := x.trip.time, seq := 0, shunt := (s.reg (slotB n + 0x104)).toNat,
                       samples := List.replicate (2048 - pre.length) (0, 0) ++ pre.reverse, post := 0, full := false }
    let s := s.modDie d (fun y => { y with snaps := y.snaps.set b (some sn) })
    s.modSlot n (fun x => { x with trip := { x.trip with buf := b } })

/-- Change the snapshot of a slot's running trip. -/
def State.modSnap (s : State) (n : Nat) (g : Snap → Snap) : State :=
  let b := (s.slot n).trip.buf
  s.modDie (dieOf n) (fun y =>
    match y.snaps.getD b none with
    | some sn => if sn.slot == n then { y with snaps := y.snaps.set b (some (g sn)) } else y
    | none => y)

/-! ## The trip time (R153) -/

def State.setTripTime (s : State) (n : Nat) : State :=
  let c := s.count (dieOf n)
  ((s.setReg (slotB n + 0x1C8) (BitVec.ofNat 32 (nsOf c))).setReg (slotB n + 0x1CC) (BitVec.ofNat 32 (secOf c))).setReg (slotB n + 0x1D0)
    (BitVec.ofNat 32 (secOf c / 2 ^ 32 % 65536))

/-- TRIP_CAUSE (R153). -/
def State.setCause (s : State) (n cause detail stAt next : Nat) : State :=
  s.setReg (slotB n + 0x1C4) (mkWord [(0, cause), (8, detail), (16, stAt), (20, next)])
def State.causeOf (s : State) (n : Nat) : Nat := s.sf n 0x1C4 7 0

/-- The insertion that a trip or another event ends (R111, R119): ABORT_STEP and INS_ABORT. -/
def State.insAbort (s : State) (n step : Nat) : State :=
  (s.modSlot n (fun x => { x with ins := { x.ins with abort := step } })).evtSlot n [18]

/-- What a trip takes down in its first cycle: its data for the record and the checks (R126, R147, R150, R153). -/
def State.takeTrip (s : State) (n : Nat) (hard : Bool) (abort : Nat) : State :=
  let x := s.slot n
  let tj := s.workTj n
  let s := s.modSlot n (fun x => { x with trip :=
    { due := true, copies := s.inOr n x.deg, restrain := x.terr.out, iCode := ofSigned 16 x.ctl.iCode, vCode := x.ctl.vCode, sampled := false,
      tj := tj, abort := abort, time := s.count (dieOf n), unsync := s.unsync, hard := hard, pullAt := s.now, check := true, st := x.st } })
  let s := if abort == 0 then s else s.insAbort n abort
  let s := s.setTripTime n
  let _ := x
  s

/-! ## Pull-down start and settled cause (R126) -/

/-- The pull-down of a trip starts: LOCKOUT from HOLD, both gates, TRIPPED, PG low, the waveform, the trip time. A trip
in CHARGING ends the insertion with ABORT_STEP TRIP unless abort names the step. -/
def State.tripStart (s : State) (n : Nat) (hard : Bool) (abort : Nat) : State :=
  let x := s.slot n
  let s := s.lockoutSend n
  let s := s.takeTrip n hard (if abort == 0 && x.st == .charging then 9 else abort)
  let s := (s.pullGates n hard).enter n .tripped 0
  let s := s.modSlot n (fun x => { x with revBlock := false })
  s.snapAssign n

/-- The cause of a trip is settled: TRIP_CAUSE, the TRIP event, the count of R140 and the wear counter of R393. -/
def State.tripSettle (s : State) (n cause detail : Nat) : State :=
  let t := (s.slot n).trip
  let s := s.setCause n cause detail t.st.code 6
  let s := s.modSlot n (fun x => { x with
    trip := { x.trip with cause := cause, detail := detail, unsettled := none }
    retry := { x.retry with cnt := if s.counts n cause then sat 16 (x.retry.cnt + 1) else x.retry.cnt } })
  let s := s.modSnap n (fun sn => { sn with cause := cause, detail := detail })
  let s := if cause == 0xF then { s with pkg := { s.pkg with offTrips := s.pkg.offTrips + 1 } } else s
  (s.evtSlot n [12]).wearAdd n 3

/-- A trip whose cause is settled at once. -/
def State.trip (s : State) (n : Nat) (hard : Bool) (cause detail abort : Nat) : State := (s.tripStart n hard abort).tripSettle n cause detail

/-- A cause arises: a slot with a gate driven up trips (R123). -/
def State.tripIf (s : State) (n : Nat) (hard : Bool) (cause detail abort : Nat) : State :=
  if s.gateUp n then s.trip n hard cause detail abort else s

/-- The trip of a comparator: settled at once where the copies agree or the partner is excluded, else at the end of
the 50 ns window, which may have passed already (R126, R191). -/
def State.cmpTrip (s : State) (n : Nat) (inst : Bool) (detail : Nat) : State :=
  let w := if inst then (s.slot n).winI else (s.slot n).winF
  match w with
  | none => s.trip n true (if inst then 2 else 1) detail 0
  | some w =>
    if decide (w.winEnd ≤ s.now) then
      let c := s.classify n inst w.copies
      s.trip n true c.1 (if c.1 == 0x11 then c.2 else detail) 0
    else (s.tripStart n true 0).modSlot n (fun x => { x with trip := { x.trip with unsettled := some inst, detail := detail } })

/-- Settle a trip that still waits for its window: with the copies that have asserted. -/
def State.settleTrip (s : State) (n : Nat) : State :=
  let t := (s.slot n).trip
  match t.unsettled with
  | none => s
  | some inst =>
    let c := s.classify n inst (((if inst then (s.slot n).winI else (s.slot n).winF).map (·.copies)).getD 0)
    s.tripSettle n c.1 (if c.1 == 0x11 then c.2 else t.detail)

/-! ## The trip record (R150) -/

/-- Write the trip record, still due, with the next state. -/
def State.tripRecord (s : State) (n next : Nat) : State :=
  let s := s.settleTrip n
  let x := s.slot n
  let t := x.trip
  if !t.due then s
  else
    let d := dieOf n
    let flags := b2n t.restrain * 128 + b2n (t.buf != 255) * 64 + t.copies * 4 + b2n (s.backup n) * 2 + b2n x.role
    let mid := if t.detail == 6 then le 2 t.downAddr ++ [t.downSlot, 0] else le 2 t.iCode ++ le 2 t.vCode
    let data := [t.detail, t.st.code * 16 + next, x.retry.cnt, flags] ++ mid ++ leInt 2 t.tj ++ [t.buf, t.abort]
    let s := s.logFlush d
    let s := s.modSnap n (fun sn => { sn with seq := (s.die d).log.seq })
    let r : Rec := { time := t.time, block := 16, inst := n, code := 0x0200 + t.cause, seq := 0, data := data, kept := t.kept, unsync := t.unsync, at_ := s.now }
    let s := s.logAdd d r
    let s := s.setRf (slotB n + 0x1C4) 23 20 next
    s.modSlot n (fun x => { x with trip := { x.trip with due := false, check := false } })

/-- A trip without a pull-down (R153): its data, cause, events and wear, with no waveform unless asked. -/
def State.quietTrip (s : State) (n cause detail abort : Nat) (snap : Bool) : State :=
  let s := s.takeTrip n true abort
  let s := s.modSlot n (fun x => { x with trip := { x.trip with buf := 255, sampled := true, check := false } })
  let s := if snap then s.snapAssign n else s
  s.tripSettle n cause detail

/-! ## The REMEMBER timer and the count (R137, R142) -/

/-- Clear RETRY_CNT and the REMEMBER timer; COUNT_RESET and its record when the count was not 0 (R137, R141, R150). -/
def State.countReset (s : State) (n : Nat) : State :=
  let c := (s.slot n).retry.cnt
  let s := s.modSlot n (fun x => { x with retry := { x.retry with cnt := 0, remember := none } })
  if c == 0 then s else (s.evtSlot n [6]).logSlot n 0x0233 []

/-- A removal starts the REMEMBER timer, provided RETRY_CNT is above 0; REMEMBER = 0 forgets at once (R142). -/
def State.remember (s : State) (n : Nat) : State :=
  let r := s.sf n 0x1B8 9 0
  if (s.slot n).retry.cnt == 0 then s
  else if r == 0 then s.countReset n
  else s.modSlot n (fun x => { x with retry := { x.retry with remember := some (s.now + r * SEC) } })

/-! ## LATCHED -/

/-- Enter LATCHED (R139, R155). -/
def State.latch (s : State) (n : Nat) : State := (s.enter n .latched 0).evtSlot n [11]

/-! ## LOCKOUT (R143) -/

/-- A LOCKOUT reaches a slot in a state that takes it. -/
def State.lockoutEnter (s : State) (n : Nat) : State :=
  let x := s.slot n
  let up := s.gateUp n
  let s := if x.st == .tripped then s.tripRecord n 10 else s
  let s := s.lockoutSend n
  let s := s.takeTrip n false (if x.st == .charging then 9 else 0)
  let s := if up then s.pullGates n false else s
  let s := s.snapAssign n
  let s := (s.withdraw n).enter n .lockout 0
  let s := s.modSlot n (fun y => { y with
    revBlock := false, upWarn := true, held := x.st
    retry := { y.retry with cool := none, busOv := false, busOkAt := none }
    trip := { y.trip with cause := 0xE, detail := 0, sampled := true, check := false, removed := !y.pres } })
  let s := s.setCause n 0xE 0 x.st.code 10
  let s := s.modSnap n (fun sn => { sn with cause := 0xE })
  let s := s.evtSlot n (if up then [12, 10] else [10])
  (s.wearAdd n 3).tripRecord n 10

/-! ## Disagreements and lone counts (R85, R387) -/

/-- Count a disagreement of a slot (R85, R393). In the hold-through domain the cross-check counts in CMP_CNT alone (R435). -/
def State.disagree (s : State) (n : Nat) : State :=
  if !s.runs (dieOf n) then s.addSat (slotB n + 0x118) 15 0 1
  else ((s.addSat (slotB n + 0x118) 15 0 1).evtSlot n [23]).modSlot n (fun x =>
    { x with wear := { x.wear with disagree := sat sat32 (x.wear.disagree + 1) } })

/-- A copy asserted alone: its lone count, and the criterion of R387. Copies 0 to 3 are FAST A, FAST B, INST A, INST B. -/
def State.loneCount (s : State) (n c : Nat) : State :=
  let s := s.modSlot n (fun x => { x with lone := x.lone.set c (x.lone.getD c 0 + 1) })
  let partner := if c % 2 == 0 then c + 1 else c - 1
  if (s.slot n).lone.getD c 0 < s.rf (nursB + 0x44) 3 0 || nbit (s.excl n) c then s
  else if nbit (s.excl n) partner then s.exhausted 1 (dieOf n) n c c
  else if s.approve 1 then s.nursReq 1 (dieOf n) n c
  else ((s.setRf (slotB n + 0x118) (24 + c) (24 + c) 1).swap 1 (dieOf n) n c c partner 0).rawLow n

/-! ## Driving gates up (R136, R481) -/

/-- The trip of R481: a gate is driven up while a deglitched copy is asserted. -/
def State.upTrip (s : State) (n : Nat) : State :=
  let m := s.inOr n (s.slot n).deg
  if m == 0 || !s.gateUp n then s
  else
    let ci := s.classify n true (m / 4)
    let cf := s.classify n false (m % 4)
    let c := if m / 4 != 0 && ci.1 == 2 then ci
      else if m % 4 != 0 && cf.1 == 1 then cf
      else if m / 4 != 0 then ci else cf
    let s := s.trip n true c.1 c.2 0
    if c.1 == 0x11 then (s.disagree n).loneCount n (c.2 - 1) else s

/-- Take a transition that drives a gate up. While OFF_N is low the slot trips instead, from the state it is in (R136). -/
def State.rise (s : State) (n : Nat) (go : State → State) : State :=
  if s.offN then s.trip n true 0xF 0 0
  else ((go s).raiseGates n).upTrip n

/-! ## Turning off (R99, R115, R139) -/

/-- A slot enters OFF: SOFT on both gates, timers stopped, the record still due written, the lockout list discarded,
the comparators off (R75, R99, R139, R195). -/
def State.goOff (s : State) (n : Nat) : State :=
  let x := s.slot n
  if x.st == .off then s
  else
    let s := if x.st == .tripped then s.tripRecord n 0 else s
    let s := if x.st == .charging then s.insAbort n 11 else s
    let s := (s.pullGates n false).enter n .off 0
    let s := s.modSlot n (fun y => { y with
      raw := 0, deg := 0, winF := none, winI := none, revBlock := false, shM := {}, shV := {}
      retry := { y.retry with cool := none, busOv := false, busOkAt := none, remember := none }
      terr := { y.terr with lockList := [] } })
    (s.setRf (slotB n + 8) 0 0 0).tryCleared n

end Sys2Proof.Machine
end

