-- ==== Sys2Proof/Machine/Order.lean ====
section
/-! DEFINITION. Conditions of one CORE cycle on one slot (04_insertion.md R100, 05_trips_and_retries.md R125): the commands that wait in the queue belong to the cycle of the command that is taken, so a condition of lower rank is put off to the next cycle, or gives way. -/
namespace Sys2Proof.Machine

/-! ## Ranks (R100, R125)

0 OFF_N, 1 INSTANT, 2 FAST, 3 a short verdict, 4 LIMIT_TIMER, 5 SOA, 6 TIMED, 7 CMD.TRIP, 8 LOCKOUT, 9 ENABLE written 0 or
CMD.STOP_NOW, 10 removal, 11 every other transition. The causes that start the HARD pull-down are those up to 7. -/

def rankSoa : Nat := 5
def rankTimed : Nat := 6
def rankLockout : Nat := 8
def rankOff : Nat := 9
def rankRemoval : Nat := 10
def rankOther : Nat := 11

/-- Whether an asserted FAST output of a slot trips it now (R191). -/
def State.fastActs (s : State) (n : Nat) : Bool :=
  let t := (s.slot n).terr
  !s.waiter n || (match t.sub with
    | .idle => true
    | .wait => decide (t.waitAt ≤ s.now) && t.entries.isEmpty
    | .hold => decide (t.holdAt ≤ s.now))

/-- Whether WAIT, or HOLD, of a slot is over with FAST asserted (R191). -/
def State.waitOver (s : State) (n : Nat) : Bool :=
  let t := (s.slot n).terr
  s.waiter n && t.sub == .wait && decide (t.waitAt ≤ s.now) && t.entries.isEmpty && s.fastOn n
def State.holdOver (s : State) (n : Nat) : Bool :=
  s.waiter n && (s.slot n).terr.sub == .hold && decide ((s.slot n).terr.holdAt ≤ s.now) && s.fastOn n

/-- PRES_N has been high for tREM, 50 µs (R101, R117). -/
def Slot.removedBy (x : Slot) (now : Nat) : Bool := !x.presN && decide (x.presAt + 50 * US ≤ now)

/-- Whether the fault timer of a slot has run out (R87). -/
def State.limitDue (s : State) (n : Nat) : Bool :=
  match (s.slot n).faultAt with
  | some t => decide (t + s.rf (slotB n + 0x10C) 23 8 * 10 * US ≤ s.now)
  | none => false

/-- Whether a TIMED trip of a slot falls in this CORE cycle (R128). -/
def State.timedDue (s : State) (n : Nat) : Bool :=
  match (s.slot n).prot.due with
  | some t => decide (t ≤ s.now)
  | none => false

/-- The rank of the condition that a command brings to a slot; none where it brings none. -/
def State.rankOf (s : State) (n : Nat) (c : Instr) : Option Nat :=
  match c with
  | .offNFall => if !s.pkg.offLow && s.gateUp n then some 0 else none
  | .instantTrip m k => if m == n && s.gateUp n && s.inOr n (4 * s.ripe n true k) != 0 then some 1 else none
  | .fastTrip m k => if m == n && s.gateUp n && s.inOr n (s.ripe n false k) != 0 && s.fastActs n then some 2 else none
  | .waitExpiry m => if m == n && s.waitOver n then some 2 else none
  | .holdExpiry m => if m == n && s.holdOver n then some 2 else none
  | .limitTimerExpiry m => if m == n && s.gateUp n && s.limitDue n then some 4 else none
  | .upstreamOpenReceive m =>
    if m.tgtSlot == n && s.gateUp n && !s.repeated { m with kind := .upstreamOpen } && s.refuseReason { m with kind := .upstreamOpen } == 0 then some 3 else none
  | .trip _ m => if m == n && s.gateUp n then some 7 else none
  | .lockoutReceive m => if m.tgtSlot == n && (s.slot n).st.locksOut && s.refuseReason { m with kind := .lockout } == 0 then some 8 else none
  | .slotDisable _ m | .stopNow _ m => if m == n && (s.slot n).st != .off && (s.slot n).st != .holdthru then some 9 else none
  | .cardRemoval m false => if m == n && (s.slot n).removedBy s.now then some 10 else none
  | _ => none

/-- Whether a condition that ranks above k holds for a slot in this CORE cycle. -/
def State.outranked (s : State) (n k : Nat) : Bool :=
  s.pending.any (fun c => match s.rankOf n c with | some r => decide (r < k) | none => false) ||
    (decide (rankTimed < k) && s.timedDue n && s.gateUp n)

/-- Put a command off to the next CORE cycle, in which it is evaluated in the new state (R100). -/
def State.putOff (s : State) (c : Instr) : State := { s with later := s.later ++ [c] }

/-- Act on a slot unless a condition of higher rank holds in this CORE cycle; the command c is then put off. -/
def State.ranked (s : State) (n k : Nat) (c : Instr) (act : State → State) : State := if s.outranked n k then s.putOff c else act s

/-- A trip whose own path is SOFT. A cause that ranks before it gives way to none; where another cause of the cycle calls for the
HARD path, that path acts (R125). rank: the place of the cause, up to which a HARD cause takes the record. -/
def State.softTrip (s : State) (n rank cause detail abort : Nat) : State :=
  if s.outranked n rank then s else s.trip n (s.outranked n rankLockout) cause detail abort

/-! ## The end of a CORE cycle (R128) -/

/-- The slots whose TIMED trip falls in this CORE cycle. -/
def State.timedSlots (s : State) : List Nat := (s.slots.map (·.1)).filter s.timedDue
/-- The TIMED trips of this CORE cycle: each slot whose gates are still driven up trips. -/
def State.timedTrips (s : State) : State :=
  s.each s.timedSlots (fun n s =>
    (s.modSlot n (fun x => { x with prot := { x.prot with due := none } })).tripIf n true 3 0 0)

end Sys2Proof.Machine
end

