-- ==== Sys2Proof/Machine/Access.lean ====
section
/-! DEFINITION. Register access by an initiator: which pages are served, ADDR_ERR, and the page lock (02_pages_and_gazetteer.md R33, R45 to R47). -/
namespace Sys2Proof.Machine

/-- Whether the register space is served at all: in RUN, with the lead die in place (R392, R441, R461). -/
def State.serving (s : State) : Bool := s.inRun && s.pkg.hand.isNone && s.present s.pkg.lead

/-- The die that serves an address, where that is not the lead die (R18); none for a page of the lead die. -/
def Loc.die (l : Loc) : Option Nat :=
  match l.blk with
  | .die | .belv | .cont | .fact | .ring => some l.inst
  | .slot => some (l.inst / 16)
  | .capt => some (l.off / 0x40000)
  | .feram => some (l.off / 0x80000)
  | _ => none

/-- The refusal of an access under R33 and R67: 0 none, 1 UNMAPPED, 2 ABSENT_DIE, 3 TRELLIS_TIMEOUT, for a follower die whose
response does not come in time. -/
def State.refusal (s : State) (a : Nat) : Nat :=
  match locate a with
  | none => 1
  | some l =>
    match l.die with
    | some d => if !s.runs d then 2 else if d != s.pkg.lead && s.pkg.late.any (·.1 == a) then 3 else 0
    | none => 0

/-- Record a refused access: ERR_ADDR and ERR_SRC take the first while ADDR_ERR is clear (R33, R67). -/
def State.addrErr (s : State) (ini : Ini) (a : Nat) (wr : Bool) : State :=
  let p := pageNo pkgB
  let s := if bit (s.page p).evt 0 then s
    else
      let path := match ini with | .qspi => 0 | .ring _ => 1
      let src := match ini with | .qspi => 0 | .ring b => b
      (s.setReg (pkgB + 0x58) (mkWord [(0, a % 0x1000000), (24, s.refusal a), (30, b2n wr), (31, path)])).setReg (pkgB + 0x5C) (BitVec.ofNat 32 src)
  s.evt p [0]

/-- Whether a write recorded as TRELLIS_TIMEOUT took effect at the follower die (R33). -/
def State.lateTook (s : State) (a : Nat) : Bool := s.refusal a == 3 && s.pkg.late.contains (a, true)
/-- Act with the Trellis responses that do not come in time. -/
def State.lately (s : State) (late : Late) (act : State → State) : State :=
  (act (s.modPkg (fun p => { p with late := late }))).modPkg (fun p => { p with late := s.pkg.late })

/-- The XACT page accepts writes from the QSPI host only (R344). -/
def xactBarred (ini : Ini) (a : Nat) : Bool :=
  match ini with
  | .qspi => false
  | .ring _ => a / 4096 == pageNo xactB

/-- Whether a page is unlocked for an initiator (R46). -/
def State.unlockedFor (s : State) (ini : Ini) (p : Nat) : Bool := (s.page p).lock == 2 && (s.page p).ini == ini

/-- A write to a register of a page, other than PAGE_LOCK: it breaks an ARMED page, it counts for the automatic relock,
and a locked register takes it only from the initiator that unlocked the page (R45, R46, R47). -/
def State.pageWrite (s : State) (ini : Ini) (a : Nat) (locked : Bool) (act : State → State) : State :=
  let p := a / 4096
  let armed := (s.page p).lock == 1
  let ok := !locked || s.unlockedFor ini p
  let s := s.modPage p (fun g => { g with lastWr := s.now, lock := if g.lock == 1 then 0 else g.lock })
  let s := if armed || !ok then s.evt p [30] else s
  if ok then act s else s

/-- A register write of an initiator: served, refused under R33, or without effect while nothing is served. The page of
an 8 KiB or 16 KiB block is the one its base names. -/
def State.write (s : State) (ini : Ini) (a : Nat) (locked : Bool) (act : State → State) : State :=
  if !s.serving || xactBarred ini a then s
  else if s.refusal a != 0 then s.addrErr ini a true
  else s.pageWrite ini (((locate a).map (·.base)).getD 0) locked act

/-- A register read of an initiator that has an effect of its own. Outside RUN, and with no die to serve the host, nothing
drives the data (R392, R443); in a hand-over it reads 0. -/
def State.readAt (s : State) (ini : Ini) (a : Nat) (act : State → State) : State :=
  if !s.inRun || (s.pkg.hand.isNone && !s.present s.pkg.lead) then { s with rsp := [] }
  else if !s.serving then { s with rsp := [0] }
  else if s.refusal a != 0 then { s.addrErr ini a false with rsp := [0] }
  else act s

/-- The words that a read answers. -/
def State.answer (s : State) (v : Word) : State := { s with rsp := [v] }

end Sys2Proof.Machine
end

