-- ==== Sys2Proof/Machine/Slots.lean ====
section
/-! DEFINITION. The slot's commands, presence, gates and analog blocks (03_slot_hardware.md R84 to R96, 04_insertion.md R99 to R101, R115, 05_trips_and_retries.md R136 to R142). -/
namespace Sys2Proof.Machine

def slotCmd (n : Nat) : Nat := slotB n + 0x140
def State.rejectSlot (s : State) (n : Nat) : State := s.reject (pageNo (slotB n))

/-- A stopped charge pump restarts before a slot of its die leaves OFF, EMPTY and LATCHED; in STANDBY it stops while
every slot is in one of them (R78). -/
def State.pumpCheck (s : State) (d : Nat) : State :=
  let idle := !(s.anySlot d (fun x => !(x.st == .off || x.st == .empty || x.st == .latched)))
  let p := (s.die d).pow
  if s.pkg.mode == 0 && idle then
    if p.stopped then s else s.modDie d (fun x => { x with pow := { x.pow with stopped := true, restarting := false } })
  else if p.stopped then s.modDie d (fun x => { x with pow := { x.pow with stopped := false, restarting := true } })
  else s

/-! ## Enable and disable (R75, R98, R99) -/

/-- ENABLE written 1: OFF to EMPTY, the comparators armed, the modulators started (R99, R208, R215). -/
def State.enableSlot (s : State) (n : Nat) : State :=
  if (s.slot n).st != .off then s
  else
    let s := s.setRf (slotB n + 8) 0 0 1
    let s := s.enter n .empty 0
    (s.modSlot n (fun x =>
      { x with
        ctl := { x.ctl with started := 0, startAt := s.now, hist := [], iSet := 0, vSet := 0 }
        meter := { x.meter with fresh := 4, iSet := 0, vSet := 0, iOvr := false, vOvr := false } })).pumpCheck (dieOf n)

/-- What the entry to OFF clears beside the slot's own state: the latest values (R259), the OPEN flags (R234), and the
validity of the control samples of the stopped modulators (R208, R239). -/
def State.clearValues (s : State) (n : Nat) : State :=
  let b := belvB (dieOf n)
  let i := localOf n
  let s := s.valuesZero n
  let s := ((s.setRf (b + 0x120) i i 0).setRf (b + 0x120) (16 + i) (16 + i) 0).setRf (b + 0x124) i i 0
  let s := (s.setRf (b + 0x300 + 4 * i) 31 31 0).setRf (b + 0x340 + 4 * i) 31 31 0
  s.modSlot n (fun x => { x with ctl := { x.ctl with started := 0, hist := [] }, meter := { x.meter with openI := false, openV := false } })

/-- ENABLE written 0, or a turn-off that completes: OFF (R99). -/
def State.turnOff (s : State) (n : Nat) : State :=
  if (s.slot n).st == .off then s else ((s.goOff n).clearValues n).pumpCheck (dieOf n)

/-- SLOT_ENABLE (R99). -/
def execSlotEnable (ini : Ini) (n : Nat) (s : State) : Host.Outcome State Fault Refusal :=
  done s (s.write ini (slotB n + 8) false (fun s => s.enableSlot n))

/-- ENABLE written 0, put off where R100 lets another condition of the cycle act first. -/
def State.disableSlot (s : State) (n : Nat) : State := s.ranked n rankOff (.slotDisable .qspi n) (·.turnOff n)

/-- SLOT_DISABLE (R99, R100, R139). -/
def execSlotDisable (ini : Ini) (n : Nat) (s : State) : Host.Outcome State Fault Refusal :=
  done s (s.write ini (slotB n + 8) false (fun s => s.disableSlot n))

/-! ## CMD (R115, R119, R137) -/

/-- CMD.STOP: a graceful turn-off in ON, whose lead time of 0 ends in the next CORE cycle, else as STOP_NOW where the state
defines it (R99, R115). -/
def State.cmdStop (s : State) (n : Nat) : State :=
  let x := s.slot n
  match x.st with
  | .on =>
    if x.offPend.isSome then s
    else
      let s := if x.pg then s.evtSlot n [14] else s
      s.modSlot n (fun x =>
        { x with
          pg := false, offWarn := s.sf n 0x144 14 14 == 1
          offPend := some (s.now + Nat.max 1 (s.sf n 0x14C 31 28 * MS))
          prot := { x.prot with pgOkAt := none } })
  | .seated | .waiting | .charging => s.ranked n rankOther (.stop .qspi n) (·.turnOff n)
  | _ => s.rejectSlot n
/-- CMD.STOP_NOW (R99, R100). -/
def State.cmdStopNow (s : State) (n : Nat) : State :=
  if (s.slot n).st == .off then s.rejectSlot n else s.ranked n rankOff (.stopNow .qspi n) (·.turnOff n)
/-- CMD.GO (R107, R119). -/
def State.cmdGo (s : State) (n : Nat) : State :=
  match (s.slot n).st with
  | .seated | .waiting => s.modSlot n (fun x => { x with ins := { x.ins with goDone := true } })
  | _ => s.rejectSlot n
/-- CMD.TRIP (R137). -/
def State.cmdTrip (s : State) (n : Nat) : State :=
  let x := s.slot n
  if s.gateUp n then s.ranked n 7 (.trip .qspi n) (·.trip n true 0x10 0 0)
  else match x.st with
  | .tripped =>
    let s := s.settleTrip n
    let s := s.setCause n 0x10 0 (s.slot n).trip.st.code 6
    let s := s.modSnap n (fun sn => { sn with cause := 0x10, detail := 0 })
    s.modSlot n (fun x => { x with trip := { x.trip with cause := 0x10, detail := 0 } })
  | .cooldown =>
    let s := s.quietTrip n 0x10 0 0 true
    let s := s.modSlot n (fun x => { x with retry := { x.retry with cool := none, busOv := false, busOkAt := none } })
    ((s.tripRecord n 8).latch n).pumpCheck (dieOf n)
  | _ => s.rejectSlot n

/-- The cooldown is over: a retry from pre-check step 1 (R139). -/
def State.coolOver (s : State) (n : Nat) : State :=
  let s := s.modSlot n (fun x => { x with retry := { x.retry with cool := none, busOv := false, busOkAt := none } })
  if (s.slot n).pres then (((s.enter n .seated 2).evtSlot n [7]).logSlot n 0x0230 []).pumpCheck (dieOf n) else (s.enter n .empty 0).pumpCheck (dieOf n)

/-- The slot leaves LOCKOUT (R143). -/
def State.lockoutLeave (s : State) (n : Nat) : State :=
  let x := s.slot n
  let s := (s.evtSlot n [9]).logSlot n 0x0232 []
  if !x.presN then (s.enter n .empty 0).pumpCheck (dieOf n)
  else if (x.held == .waiting || x.held == .charging || x.held == .on) && !x.trip.removed then
    if s.backup n then
      s.rise n (fun s => (s.enter n .waiting 0).modSlot n (fun x => { x with ins := { x.ins with spareEnh := true, spareAt := s.now, armed := !s.shortVout n } }))
    else (s.enter n .waiting 0).modSlot n (fun x => { x with ins := { x.ins with armed := !s.shortVout n } })
  else s.enter n .seated 2

/-- CMD.CLEAR (R137); the transition gives way under R100. -/
def State.cmdClear (s : State) (n : Nat) : State :=
  match (s.slot n).st with
  | .latched => s.ranked n rankOther (.clear .qspi n) (fun s => ((s.countReset n).logSlot n 0x0231 []).enter n .empty 0)
  | .cooldown => s.ranked n rankOther (.clear .qspi n) (·.coolOver n)
  | .lockout => s.ranked n rankOther (.clear .qspi n) (·.lockoutLeave n)
  | _ => s.rejectSlot n

/-- A write of CMD acts on the highest-ranked bit only: TRIP, STOP_NOW, STOP, CLEAR, RESET_COUNT, GO (R137). -/
def State.cmdWrite (s : State) (n : Nat) (v : Word) : State :=
  if bit v 4 then s.cmdTrip n else if bit v 2 then s.cmdStopNow n else if bit v 1 then s.cmdStop n
  else if bit v 5 then s.cmdClear n else if bit v 6 then s.countReset n else if bit v 3 then s.cmdGo n else s

/-- STOP (R115). -/
def execStop (ini : Ini) (n : Nat) (s : State) : Host.Outcome State Fault Refusal :=
  done s (s.write ini (slotCmd n) false (fun s => s.cmdStop n))
/-- STOP_NOW (R99). -/
def execStopNow (ini : Ini) (n : Nat) (s : State) : Host.Outcome State Fault Refusal :=
  done s (s.write ini (slotCmd n) false (fun s => s.cmdStopNow n))
/-- GO (R119). -/
def execGo (ini : Ini) (n : Nat) (s : State) : Host.Outcome State Fault Refusal :=
  done s (s.write ini (slotCmd n) false (fun s => s.cmdGo n))
/-- TRIP (R137). -/
def execTrip (ini : Ini) (n : Nat) (s : State) : Host.Outcome State Fault Refusal :=
  done s (s.write ini (slotCmd n) false (fun s => s.cmdTrip n))
/-- CLEAR (R137). -/
def execClear (ini : Ini) (n : Nat) (s : State) : Host.Outcome State Fault Refusal :=
  done s (s.write ini (slotCmd n) false (fun s => s.cmdClear n))
/-- RESET_COUNT (R137). -/
def execResetCount (ini : Ini) (n : Nat) (s : State) : Host.Outcome State Fault Refusal :=
  done s (s.write ini (slotCmd n) false (fun s => s.countReset n))

/-- EWARN_LEAD_EXPIRY (R115): step 3 of the graceful turn-off. -/
def execEwarnLeadExpiry (n : Nat) (s : State) : Host.Outcome State Fault Refusal :=
  done s (
    match (s.slot n).offPend with
    | some t =>
      if s.runs (dieOf n) && (s.slot n).st == .on && decide (t ≤ s.now) then s.ranked n rankOther (.ewarnLeadExpiry n) (·.turnOff n) else s
    | none => s)

/-! ## Presence (R101, R142) -/

/-- PRES_N takes a level (R91): true for low, the card pin mated. A change restarts both counts of R101. -/
def State.presEdge (s : State) (n : Nat) (low : Bool) : State :=
  if (s.slot n).presN == low then s else s.modSlot n (fun x => { x with presN := low, presAt := s.now })

/-- PRES_N has been low for PRES_DEB, counted in EMPTY from its entry at the earliest (R101, R120). -/
def State.seatedBy (s : State) (n : Nat) : Bool :=
  (s.slot n).presN && decide ((s.slot n).presAt + s.sf n 0x144 23 16 * MS ≤ s.now)

/-- A card is seated: EMPTY to SEATED, pre-check step 1; the REMEMBER timer stops and the count is kept (R101, R142). -/
def State.cardIn (s : State) (n : Nat) : State :=
  let s' := s.modSlot n (fun x => { x with pres := true })
  if (s.slot n).st != .empty then s'
  else (((s'.modSlot n (fun x => { x with retry := { x.retry with remember := none } })).enter n .seated 2).evtSlot n [20]).pumpCheck (dieOf n)

/-- CARD_SEATED (R101): PRES_N goes low, or its count has run out. -/
def execCardSeated (n : Nat) (edge : Bool) (s : State) : Host.Outcome State Fault Refusal :=
  done s (
    if edge then s.presEdge n true
    else if s.runs (dieOf n) && s.seatedBy n then s.ranked n rankOther (.cardSeated n) (·.cardIn n) else s)

/-- A card is removed (R101, R139, R142, R143, R437). -/
def State.cardOut (s : State) (n : Nat) : State :=
  let x := s.slot n
  let s := s.modSlot n (fun x => { x with pres := false })
  match x.st with
  | .seated | .waiting | .charging | .on =>
    let s := if x.st == .charging then s.insAbort n 10 else s
    let s := (s.pullGates n true).enter n .empty 0
    let s := s.modSlot n (fun x => { x with revBlock := false })
    ((s.evtSlot n [13]).remember n).pumpCheck (dieOf n)
  | .cooldown => (((s.enter n .empty 0).evtSlot n [13]).remember n).pumpCheck (dieOf n)
  | .tripped | .lockout => s.modSlot n (fun x => { x with trip := { x.trip with removed := true } })
  | .holdthru => ((s.pullGates n true).modSlot n (fun x => { x with revBlock := false })).remember n
  | _ => s

/-- CARD_REMOVAL (R100, R101): PRES_N goes high, or has been high for tREM. -/
def execCardRemoval (n : Nat) (edge : Bool) (s : State) : Host.Outcome State Fault Refusal :=
  done s (
    if edge then s.presEdge n false
    else if s.pkg.phase == .powerOff || s.pkg.phase == .por || s.pkg.phase == .boot || !(s.slot n).removedBy s.now then s
    else s.ranked n rankRemoval (.cardRemoval n) (·.cardOut n))

/-! ## Gates (R96, R189) -/

/-- The contributions to EWARN_N that end when both gates are off (R115, R116). -/
def State.warnsEnd (s : State) (n : Nat) : State :=
  if s.gatesOff n then s.modSlot n (fun x => { x with offWarn := x.offWarn && x.st == .on, openWarn := false }) else s

/-- PULLDOWN_RELEASE (R80, R96). -/
def execPulldownRelease (n : Nat) (gateB : Bool) (s : State) : Host.Outcome State Fault Refusal :=
  done s (
    let x := s.slot n
    let g := if gateB then x.gB else x.gA
    if !g.mayRelease s.now || s.pkg.phase == .powerOff then s
    else
      let g := g.release
      (s.modSlot n (fun x => if gateB then { x with gB := g } else { x with gA := g })).warnsEnd n)

/-- GATE_BELOW_1V (R82, R96, R189): a gate's voltage falls below 10.0 V, or below 1 V, when CLEARED may leave. -/
def execGateBelow1v (n : Nat) (gateB left10 : Bool) (s : State) : Host.Outcome State Fault Refusal :=
  done s (
    if s.pkg.phase == .powerOff then s else
    let x := s.slot n
    let g := (if gateB then x.gB else x.gA).unenhance
    let g := if left10 then g else { g with low := true, lowAt := if g.low then g.lowAt else s.now }
    let s := s.modSlot n (fun x => if gateB then { x with gB := g } else { x with gA := g })
    if left10 then s else s.tryCleared n)

/-! ## The analog limit and its fault timer (R86, R87, R144) -/

/-- LIMIT_ENTER (R86): while the working element's gate is driven up, LIMIT_ACTIVE rises and, unless it runs, the fault timer
starts. -/
def execLimitEnter (n : Nat) (s : State) : Host.Outcome State Fault Refusal :=
  done s (
    let x := s.slot n
    if x.limit || !s.limitUp n || x.revBlock then s
    else (s.modSlot n (fun x => { x with limit := true, limOffAt := none, faultAt := some (x.faultAt.getD s.now) })).evtSlot n [22])

/-- LIMIT_RELEASE (R80): the limit releases and the lower path takes over. -/
def execLimitRelease (n : Nat) (s : State) : Host.Outcome State Fault Refusal :=
  done s (if (s.slot n).limit then s.modSlot n (fun x => { x with limit := false, limOffAt := some s.now }) else s)

/-- FAULT_TIMER_RESET (R87): LIMIT_ACTIVE has been 0 for 10 µs; PG_DELAY starts again (R144). -/
def execFaultTimerReset (n : Nat) (s : State) : Host.Outcome State Fault Refusal :=
  done s (
    let x := s.slot n
    match x.limOffAt with
    | some t =>
      if x.faultAt.isSome && !x.limit && decide (t + 10 * US ≤ s.now) then
        s.modSlot n (fun x => { x with faultAt := none, limOffAt := none, prot := { x.prot with pgOkAt := x.prot.pgOkAt.map (fun _ => s.now) } })
      else s
    | none => s)

/-! ## Hold-through trips (R124, R437) -/

/-- A trip of the analog layers in HOLDTHRU: it acts on its path and latches the slot; its record is written at
re-adoption. unsettled: the window of R126 still runs. -/
def State.htTrip (s : State) (n cause : Nat) (unsettled : Option Bool) : State :=
  let s := s.modSlot n (fun x => { x with
    htLatch := true, pg := false
    trip := { due := true, copies := s.inOr n x.deg, sampled := true, iCode := ofSigned 16 x.ctl.iCode, vCode := x.ctl.vCode, tj := s.workTj n,
              time := s.count (dieOf n), unsync := s.unsync, kept := true, hard := true, pullAt := s.now, st := .holdthru, buf := 255,
              cause := cause, detail := 9, unsettled := unsettled } })
  (s.pullGates n true).modSlot n (fun x => { x with revBlock := false })

/-- LIMIT_TIMER_EXPIRY (R87). -/
def execLimitTimerExpiry (n : Nat) (s : State) : Host.Outcome State Fault Refusal :=
  done s (
    if s.limitDue n && s.gateUp n then
      if (s.slot n).st == .holdthru then s.htTrip n 4 none else s.ranked n 4 (.limitTimerExpiry n) (·.trip n true 4 0 0)
    else s)

/-! ## Reverse current (R88) -/

/-- REVERSE_BLOCK (R88). -/
def execReverseBlock (n : Nat) (s : State) : Host.Outcome State Fault Refusal :=
  done s (
    if s.gateUp n && !(s.slot n).revBlock && s.sf n 0x100 1 1 == 1 then
      ((s.pullGates n true).modSlot n (fun x => { x with revBlock := true, revAt := s.now })).evtSlot n [21]
    else s)

/-- REVERSE_BLOCK_CLEAR (R88): the shunt voltage has stayed above −REV_TH / 2 for 50 µs, none of them before the block; each gate
returns to the path of the slot's state. -/
def execReverseBlockClear (n : Nat) (s : State) : Host.Outcome State Fault Refusal :=
  done s (
    if !(s.slot n).revBlock || decide (s.now < (s.slot n).revAt + 50 * US) then s
    else
      let s := s.modSlot n (fun x => { x with revBlock := false })
      if (s.slot n).st == .holdthru then s.raiseGates n
      else if s.gateUp n then s.rise n (fun s => s) else s)

/-! ## Retry timers (R139, R141, R142) -/

/-- COOLDOWN_EXPIRY (R139, R133): a timer that runs on in another state only ends there (R114). -/
def execCooldownExpiry (n : Nat) (s : State) : Host.Outcome State Fault Refusal :=
  done s (
    let r := (s.slot n).retry
    let busOk := !r.busOv || (match r.busOkAt with | some t => decide (t + MS ≤ s.now) | none => false)
    match r.cool with
    | some t =>
      if !s.runs (dieOf n) || !decide (t ≤ s.now) then s
      else if (s.slot n).st == .cooldown then (if busOk then s.ranked n rankOther (.cooldownExpiry n) (·.coolOver n) else s)
      else s.modSlot n (fun x => { x with retry := { x.retry with cool := none } })
    | none => s)

/-- STABLE_TIME_EXPIRY (R141). -/
def execStableTimeExpiry (n : Nat) (s : State) : Host.Outcome State Fault Refusal :=
  done s (
    match (s.slot n).retry.stable with
    | some t =>
      if s.runs (dieOf n) && (s.slot n).st == .on && decide (t ≤ s.now) then
        (s.modSlot n (fun x => { x with retry := { x.retry with stable := none } })).countReset n
      else s
    | none => s)

/-- REMEMBER_EXPIRY (R142). -/
def execRememberExpiry (n : Nat) (s : State) : Host.Outcome State Fault Refusal :=
  done s (
    match (s.slot n).retry.remember with
    | some t => if s.runs (dieOf n) && (s.slot n).st == .empty && decide (t ≤ s.now) then s.countReset n else s
    | none => s)

end Sys2Proof.Machine
end

