-- ==== Sys2Proof/Machine/Trips.lean ====
section
/-! DEFINITION. The comparators' commands, the settling of causes, the stuck-current verdict, the end of the dwell and the timed-overcurrent registers (03_slot_hardware.md R85, 05_trips_and_retries.md R126 to R149). -/
namespace Sys2Proof.Machine

/-- The comparators work: armed since the slot left OFF, and supplied (R99, R442). They need neither the die's logic nor the
Trellis: a die in WARM-RESET or DIE-FAULT keeps them (R30, R435). -/
def State.cmpLive (s : State) (n : Nat) : Bool :=
  (s.slot n).st != .off && (s.pkg.phase == .run || s.pkg.phase == .warm) && s.fitted (dieOf n) && (s.die (dieOf n)).mode != .thermal

/-! ## Windows of the comparators (R85, R387) -/

/-- Both copies asserted within 50 ns: their lone counts are cleared (R387). -/
def State.loneClear (s : State) (n : Nat) (inst : Bool) : State :=
  let b := if inst then 2 else 0
  s.modSlot n (fun x => { x with lone := (x.lone.set b 0).set (b + 1) 0 })

def Slot.win (x : Slot) (inst : Bool) : Option Win := if inst then x.winI else x.winF
def Slot.setWin (x : Slot) (inst : Bool) (w : Option Win) : Slot := if inst then { x with winI := w } else { x with winF := w }

/-- The 50 ns window of a comparator ends (R85, R126): the cause of a trip that waits for it is settled, at once, or, for a
TRIPPED slot whose die's logic is reset, at its re-adoption; a copy still alone is a disagreement. -/
def State.closeWin (s : State) (n : Nat) (inst : Bool) : State :=
  match (s.slot n).win inst with
  | none => s
  | some w =>
    let s := if (s.slot n).trip.unsettled != some inst then s
      else if (s.slot n).st == .holdthru then
        let c := (s.classify n inst w.copies).1
        s.modSlot n (fun x => { x with trip := { x.trip with cause := c, unsettled := none } })
      else if s.runs (dieOf n) then s.settleTrip n
      else s
    let s := s.modSlot n (fun x => x.setWin inst (some { w with winEnd := 0 }))
    if !s.cmpLive n || (w.copies != 1 && w.copies != 2) then s
    else
      let s := s.disagree n
      if s.runs (dieOf n) then s.loneCount n ((if inst then 2 else 0) + (w.copies - 1)) else s

/-! ## Assertion of deglitched outputs (R126, R191) -/

/-- What an asserted comparator does now: at once, or when its WAIT or HOLD allows (R191, R192). It gives way to a cause of the
same CORE cycle that ranks before it (R125). -/
def State.cmpDecide (s : State) (n : Nat) (inst : Bool) : State :=
  let x := s.slot n
  if !s.gateUp n || s.outranked n (if inst then 1 else 2) then s
  else if x.st == .holdthru then
    let w := (x.win inst).getD ⟨3, 0⟩
    if w.winEnd == 0 then s.htTrip n (s.classify n inst w.copies).1 none else s.htTrip n 0x11 (some inst)
  else if inst then s.cmpTrip n true 0
  else if !s.waiter n then s.cmpTrip n false 0
  else match x.terr.sub with
  | .idle => s.cmpTrip n false 0
  | .wait => if decide (x.terr.waitAt ≤ s.now) && x.terr.entries.isEmpty then s.cmpTrip n false 0 else s
  | .hold => if x.terr.holdAt ≤ s.now then (s.evt (pageNo terrB) [3]).trip n true 1 5 0 else s

/-- The copies of a comparator that a mask of four bits holds. -/
def cmpPart (inst : Bool) (m : Nat) : Nat := if inst then m / 4 % 4 else m % 4

/-- Deglitched outputs of FAST or INSTANT copies assert, those of the two-bit mask copies whose raw outputs have stayed asserted
for the deglitch time (R84). -/
def State.cmpAssert (s : State) (n : Nat) (inst : Bool) (copies : Nat) : State :=
  let copies := s.ripe n inst copies
  if !s.cmpLive n || copies == 0 then s else
  let s := match (s.slot n).win inst with
    | some w => if w.winEnd != 0 && decide (w.winEnd < s.now) then s.closeWin n inst else s
    | none => s
  let x := s.slot n
  let deg := x.deg ||| (if inst then copies * 4 else copies)
  let before := cmpPart inst (s.inOr n x.deg)
  let after := cmpPart inst (s.inOr n deg)
  let new := s.inOr n (deg - x.deg)
  let s := s.modSlot n (fun x =>
    { x with
      deg := deg, degAt := s.now
      trip := if x.trip.due && decide (s.now ≤ x.trip.pullAt + 10) then { x.trip with copies := x.trip.copies ||| new } else x.trip })
  if after == 0 || after == before then s
  else
    let w : Win := match x.win inst with
      | some w => if w.winEnd != 0 then { w with copies := w.copies ||| after }
        else if before == 0 then ⟨after, if s.agreed n inst after then 0 else s.now + 10⟩ else w
      | none => ⟨after, if s.agreed n inst after then 0 else s.now + 10⟩
    let s := s.modSlot n (fun x => x.setWin inst (some w))
    let s := if w.copies == 3 then s.loneClear n inst else s
    if before == 0 then s.cmpDecide n inst else s

/-- FAST_TRIP (R126, R191). -/
def execFastTrip (n copies : Nat) (s : State) : Host.Outcome State Fault Refusal := done s (s.cmpAssert n false copies)
/-- INSTANT_TRIP (R126, R191). -/
def execInstantTrip (n copies : Nat) (s : State) : Host.Outcome State Fault Refusal := done s (s.cmpAssert n true copies)

/-- TRIP_CAUSE_SETTLE (R126): the 50 ns window ends. -/
def execTripCauseSettle (n : Nat) (s : State) : Host.Outcome State Fault Refusal :=
  done s (s.each [true, false] (fun inst s =>
    match (s.slot n).win inst with
    | some w => if w.winEnd != 0 && decide (w.winEnd ≤ s.now) then s.closeWin n inst else s
    | none => s))

/-! ## Raw outputs (R188, R189, R191) -/

/-- RAW_OUTPUT_RISE (R188, R191): RESTRAIN leaves, and a waiting slot's timers start on the raw FAST output. -/
def execRawOutputRise (n copy : Nat) (s : State) : Host.Outcome State Fault Refusal :=
  done s (
    if !s.cmpLive n || nbit (s.slot n).raw copy then s
    else
      let any := s.rawAny n
      let fast := s.rawFast n
      let s := s.modSlot n (fun x => { x with raw := setNbit x.raw copy true, rawAt := x.rawAt.set copy s.now })
      let s := if !any && s.rawAny n then s.restrain n else s
      if !fast && s.rawFast n then s.startWait n else s)

/-- RAW_OUTPUT_FALL (R85, R189, R191): a copy's outputs go low; lone says that the partner stays asserted for more than
50 ns. -/
def execRawOutputFall (n copy : Nat) (lone : Bool) (s : State) : Host.Outcome State Fault Refusal :=
  done s (
    if !s.cmpLive n then s
    else
      let inst := decide (2 ≤ copy)
      let both := cmpPart inst (s.slot n).deg == 3 && cmpPart inst (s.excl n) == 0
      let s := if lone && both then s.disagree n else s
      let s := s.modSlot n (fun x => { x with raw := setNbit x.raw copy false, deg := setNbit x.deg copy false })
      let s := s.modSlot n (fun x =>
        match x.win inst with
        | some w => if w.winEnd == 0 && cmpPart inst (s.inOr n x.deg) == 0 then x.setWin inst none else x
        | none => x)
      let s := if s.rawFast n then s else s.modSlot n (fun x => { x with pendDg := none })
      s.rawLow n)

/-! ## The stuck-current check and the dwell (R134, R138, R139) -/

/-- STUCK_CURRENT_VERDICT (R134): all eight samples of the window were at or above 1.0 mV. -/
def execStuckCurrentVerdict (n : Nat) (s : State) : Host.Outcome State Fault Refusal :=
  done s (
    let t := (s.slot n).trip
    if !s.runs (dieOf n) || (s.slot n).st != .tripped || !t.check || t.stuckN < 8 || t.stuckHi < 8 then s
    else
      let s := s.settleTrip n
      let c := if !s.backup n then 6 else if (s.slot n).role then 7 else 8
      let s := s.setCause n c 7 (s.slot n).trip.st.code 6
      let s := s.modSlot n (fun x => { x with trip := { x.trip with cause := c, detail := 7 } })
      let s := s.modSnap n (fun sn => { sn with cause := c, detail := 7 })
      (((s.tripRecord n 8).latch n).sendOpen n).pumpCheck (dieOf n))

/-- The cooldown of R140 and R133 in CORE cycles: COOL_BASE × b^(RETRY_CNT - 1) ms, at most 65,535 ms, for a counted
cause, else COOL_BASE. -/
def State.coolTime (s : State) (n : Nat) : Nat :=
  let base := s.sf n 0x1B4 31 16
  let b := 2 ^ s.sf n 0x1B4 13 12
  let c := (s.slot n).retry.cnt
  if s.counts n (s.slot n).trip.cause then Nat.min (base * b ^ c * MS / b) (65535 * MS) else base * MS

/-- Whether the dwell is over (R138): the window of R134 without a verdict, no RESTRAIN outstanding, OFF_N high for OFF_PIN. -/
def State.dwellOver (s : State) (n : Nat) : Bool :=
  let x := s.slot n
  x.trip.unsettled.isNone && (!x.trip.check || (decide (8 ≤ x.trip.stuckN) && decide (x.trip.stuckHi < x.trip.stuckN))) &&
    !x.terr.out && (x.trip.cause != 0xF || !s.offN)

/-- Leave TRIPPED at the end of the dwell (R139). -/
def State.dwellEnd (s : State) (n : Nat) : State :=
  let x := s.slot n
  if s.latches n x.trip.cause || decide (s.sf n 0x1B4 11 8 < x.retry.cnt) then ((s.tripRecord n 8).latch n).pumpCheck (dieOf n)
  else
    let t := s.now + s.coolTime n
    let s := s.modSlot n (fun x => { x with retry := { x.retry with cool := some t, busOv := x.trip.cause == 0xA, busOkAt := none } })
    if x.trip.removed then (((s.tripRecord n 1).enter n .empty 0).remember n).pumpCheck (dieOf n)
    else (s.tripRecord n 7).enter n .cooldown 0

/-- TRIP_DWELL_END (R138, R139). -/
def execTripDwellEnd (n : Nat) (s : State) : Host.Outcome State Fault Refusal :=
  done s (if s.runs (dieOf n) && (s.slot n).st == .tripped && s.dwellOver n then s.ranked n rankOther (.tripDwellEnd n) (·.dwellEnd n) else s)

/-! ## Timed-overcurrent registers (R130, R153) -/

/-- The word of TOC_PTi written last, held or committed. -/
def State.tocPt (s : State) (n i : Nat) : Word :=
  match (s.slot n).prot.ptHeld.find? (fun e => e.1 == i) with
  | some e => e.2
  | none => s.reg (slotB n + 0x190 + 4 * i)

/-- The ordering rule of R130 on the points written last. -/
def State.tocOrdered (s : State) (n : Nat) : Bool :=
  (List.range 7).all (fun i =>
    let a := s.tocPt n i
    let b := s.tocPt n (i + 1)
    decide (fld a 31 24 < fld b 31 24) && decide (fld b 23 0 ≤ fld a 23 0))

/-- A write of TOC_CFG (R128, R130): it commits the held points and clears the accumulator, or is refused whole. -/
def State.tocCfg (s : State) (n : Nat) (v : Word) : State :=
  let a := slotB n + 0x180
  let p := fld v 31 16
  let m := fld v 1 0
  let pOk := decide (100 ≤ p) && decide (p ≤ 10000)
  let mOk := decide (m ≤ 2)
  let w := mkWord [(16, if pOk then p else s.rf a 31 16), (0, if mOk then m else s.rf a 1 0)]
  if (!pOk && !mOk) || (fld w 1 0 == 2 && !s.tocOrdered n) then s.rejectSlot n
  else
    let s := if pOk && mOk then s else s.rejectSlot n
    let s := s.each (s.slot n).prot.ptHeld (fun e s => s.setReg (slotB n + 0x190 + 4 * e.1) e.2)
    (s.setReg a w).modSlot n (fun x => { x with prot := { x.prot with ptHeld := [], acc := 0 } })

/-- A write of TOC_PTi (R130): held until TOC_CFG is written; a reserved field keeps the value last written. -/
def State.tocPoint (s : State) (n i : Nat) (v : Word) : State :=
  let old := s.tocPt n i
  let mOk := decide (9 ≤ fld v 31 24)
  let tOk := decide (10 ≤ fld v 23 0)
  let w := mkWord [(24, if mOk then fld v 31 24 else fld old 31 24), (0, if tOk then fld v 23 0 else fld old 23 0)]
  let s := if mOk && tOk then s else s.rejectSlot n
  if !mOk && !tOk then s
  else s.modSlot n (fun x => { x with prot := { x.prot with ptHeld := minsert i w (x.prot.ptHeld.filter (fun e => e.1 != i)) } })

/-- TOC_CFG_WRITE (R130). -/
def execTocCfgWrite (ini : Ini) (n : Nat) (v : Word) (s : State) : Host.Outcome State Fault Refusal :=
  done s (s.write ini (slotB n + 0x180) true (fun s => s.tocCfg n v))
/-- TOC_PT_WRITE (R130). -/
def execTocPtWrite (ini : Ini) (n i : Nat) (v : Word) (s : State) : Host.Outcome State Fault Refusal :=
  done s (s.write ini (slotB n + 0x190 + 4 * i) true (fun s => s.tocPoint n i v))

/-! ## Snapshots (R147) -/

/-- SNAPSHOT_COMPLETE (R147): the trip sample and the 2,047 samples after it are recorded. -/
def execSnapshotComplete (d buf : Nat) (s : State) : Host.Outcome State Fault Refusal :=
  done s (
    match (s.die d).snaps.getD buf none with
    | some sn => if s.runs d && decide (2048 ≤ sn.post) then s.modDie d (fun x => { x with snaps := x.snaps.set buf (some { sn with full := true, fullAt := s.now }) }) else s
    | none => s)

end Sys2Proof.Machine
end

