-- ==== Sys2Proof/Machine/TerraceCmd.lean ====
section
/-! DEFINITION. Terrace messages on arrival, the repeated copies, the wait and hold timers, and the disabling of terraces (07_terraces.md R185 to R202). -/
namespace Sys2Proof.Machine

/-! ## Receipt (R186, R187) -/

/-- A refusal: event, count, LAST_REFUSED and a record of the lead die (R187, R203, R207). -/
def State.refuseMsg (s : State) (m : Msg) (reason : Nat) : State :=
  let s := (s.evt (pageNo terrB) [7]).addWrap (terrB + 0x68) 31 0 1
  let s := s.setReg (terrB + 0x6C) (mkWord [(0, m.srcAddr % 16384), (16, m.tgtSlot % 128), (24, msgCode m.kind), (28, reason)])
  s.logLead 7 0 0x0245 (le 2 m.srcAddr ++ [m.srcSlot, msgCode m.kind * 16 + reason, m.tgtSlot])

/-- Remember a message whose copies follow; entries whose time is over are dropped. -/
def State.hear (s : State) (m : Msg) : State :=
  { s with heard := s.heard.filter (fun h => decide (s.now ≤ h.at_ + copySpan h.kind)) ++
      [{ kind := m.kind, addr := m.srcAddr, slot := m.srcSlot, tgt := m.tgtSlot, incident := m.incident, at_ := s.now }] }

def State.modTerr (s : State) (n : Nat) (g : Terr → Terr) : State := s.modSlot n (fun x => { x with terr := g x.terr })

/-- RESTRAIN at a waiting slot with a gate driven up: an entry, and HOLD from WAIT (R190, R191). -/
def State.restrainIn (s : State) (m : Msg) : State :=
  let n := m.tgtSlot
  if !s.gateUp n || !s.waiter n then s
  else
    let l := (s.slot n).terr.entries
    let e : Entry := { src := m.srcAddr, slot := m.srcSlot, incident := m.incident, at_ := s.now }
    let held := l.any (fun x => x.src == e.src && x.slot == e.slot)
    if !held && decide (8 ≤ l.length) then s.evt (pageNo terrB) [5]
    else
      let l := if held then l.map (fun x => if x.src == e.src && x.slot == e.slot then e else x) else l ++ [e]
      let s := s.modTerr n (fun t => { t with entries := l, lastSrc := (m.srcAddr, m.srcSlot) })
      if (s.slot n).terr.sub == .wait then s.toHold n else s

/-- CLEARED: the matching entry goes; in HOLD the last one decides (R190, R191). -/
def State.clearedIn (s : State) (m : Msg) : State :=
  let n := m.tgtSlot
  let t := (s.slot n).terr
  let l := t.entries.filter (fun x => !(x.src == m.srcAddr && x.slot == m.srcSlot && x.incident == m.incident))
  if l.length == t.entries.length then s
  else
    let s := s.modTerr n (fun t => { t with entries := l, lastSrc := (m.srcAddr, m.srcSlot) })
    if l.isEmpty && t.sub == .hold then (if s.fastOn n then s.trip n true 1 0 0 else s.standDown n) else s

/-- LOCKOUT in the states that R99 and R139 name (R143). -/
def State.lockoutIn (s : State) (m : Msg) : State := if (s.slot m.tgtSlot).st.locksOut then s.lockoutEnter m.tgtSlot else s

/-- RELEASE in LOCKOUT (R143). -/
def State.releaseIn (s : State) (m : Msg) : State :=
  if (s.slot m.tgtSlot).st == .lockout then s.lockoutLeave m.tgtSlot else s

/-- UPSTREAM_OPEN: a trip with cause SHORT_A and DETAIL DOWNSTREAM_SHORT, or a record only, as where a cause of the same CORE cycle
ranks before it (R125, R135, R196); it is a source of EWARN_N until both gates are off (R116). -/
def State.upstreamIn (s : State) (m : Msg) : State :=
  let n := m.tgtSlot
  if (s.slot n).st == .holdthru then s
  else if s.gateUp n && !s.outranked n 3 then
    (s.trip n true 6 6 0).modSlot n (fun x => { x with openWarn := true, trip := { x.trip with downAddr := m.srcAddr, downSlot := m.srcSlot } })
  else
    let s := if s.gatesOff n then s else s.modSlot n (fun x => { x with openWarn := true })
    s.terrRec n 0x0244 m.srcAddr m.srcSlot 5 0 0

/-- A terrace message arrives at its target part: refused, a repeated copy, or counted and acted on. A LOCKOUT gives way to the trips
of the same CORE cycle that rank before it (R100). -/
def State.recvTerr (s : State) (m : Msg) : State :=
  if !s.inRun || s.repeated m then s
  else if m.kind == .lockout && s.outranked m.tgtSlot rankLockout then s.putOff (.lockoutReceive m)
  else
    let s := s.hear m
    let r := s.refuseReason m
    if r != 0 then s.refuseMsg m r
    else
      let s := s.addWrap (terrB + 0x64) 31 0 1
      match m.kind with
      | .restrain => s.restrainIn m
      | .cleared => s.clearedIn m
      | .lockout => s.lockoutIn m
      | .release => s.releaseIn m
      | .upstreamOpen => s.upstreamIn m

/-- RESTRAIN_RECEIVE (R190). The row names the kind; the operand's own kind is not read. -/
def execRestrainReceive (m : Msg) (s : State) : Host.Outcome State Fault Refusal := done s (s.recvTerr { m with kind := .restrain })
/-- CLEARED_RECEIVE (R190). -/
def execClearedReceive (m : Msg) (s : State) : Host.Outcome State Fault Refusal := done s (s.recvTerr { m with kind := .cleared })
/-- LOCKOUT_RECEIVE (R143). -/
def execLockoutReceive (m : Msg) (s : State) : Host.Outcome State Fault Refusal := done s (s.recvTerr { m with kind := .lockout })
/-- RELEASE_RECEIVE (R143). -/
def execReleaseReceive (m : Msg) (s : State) : Host.Outcome State Fault Refusal := done s (s.recvTerr { m with kind := .release })
/-- UPSTREAM_OPEN_RECEIVE (R135). -/
def execUpstreamOpenReceive (m : Msg) (s : State) : Host.Outcome State Fault Refusal :=
  done s (s.recvTerr { m with kind := .upstreamOpen })

/-! ## Repeated copies (R185) -/

/-- The copies of a slot that are due leave; one that falls due while the slot sends nothing is dropped (R201, R202). -/
def State.sendDue (s : State) (n : Nat) : State :=
  let due (c : Copy) : Bool := c.slot == n && decide (c.due ≤ s.now)
  let now := s.copies.filter due
  let s' := { s with copies := s.copies.filterMap (fun c =>
    if !due c then some c else if c.left ≤ 1 then none else some { c with left := c.left - 1, due := c.due + c.gap }) }
  if s.terrSlot n then s'.each now (fun c s => s.sendCopy c.isLocal c.msg)
  else { s' with copies := s'.copies.filter (fun c => c.slot != n) }

/-- MESSAGE_COPY_REPEAT (R185). -/
def execMessageCopyRepeat (n : Nat) (s : State) : Host.Outcome State Fault Refusal := done s (if s.inRun then s.sendDue n else s)

/-! ## Timers (R190, R191) -/

/-- WAIT_EXPIRY (R191): the trip of an unrestrained waiting slot, once FAST is asserted. It gives way to a cause of the same CORE
cycle that ranks before it (R125). -/
def execWaitExpiry (n : Nat) (s : State) : Host.Outcome State Fault Refusal :=
  done s (if s.waitOver n && !s.outranked n 2 then s.cmpTrip n false 0 else s)

/-- HOLD_EXPIRY (R191, R194). -/
def execHoldExpiry (n : Nat) (s : State) : Host.Outcome State Fault Refusal :=
  done s (
    if s.holdOver n && !s.outranked n 2 then (s.evt (pageNo terrB) [3]).trip n true 1 5 0 else s)

/-- ENTRY_STALE (R190): an entry as old as HOLD + WAIT goes while the slot is not in HOLD. -/
def execEntryStale (n a k : Nat) (s : State) : Host.Outcome State Fault Refusal :=
  done s (
    let t := (s.slot n).terr
    let l := s.level n
    match t.entries.find? (fun e => e.src == a && e.slot == k) with
    | some e =>
      if s.waiter n && t.sub != .hold && decide (e.at_ + s.holdCyc l + s.waitCyc l ≤ s.now) then
        let s := s.modTerr n (fun t => { t with entries := t.entries.filter (fun x => !(x == e)) })
        (s.evt (pageNo terrB) [4]).terrRec n 0x0247 a k 1 e.incident 0
      else s
    | none => s)

/-! ## TERR.PAGE_CTRL (R202) -/

/-- The slots that hold any terrace state. -/
def State.terrSlots (s : State) : List Nat := (s.slots.filter (fun e => decide (e.2.terr ≠ {}))).map (·.1)

/-- ENABLE written 0: restraints withdrawn, tables and lists cleared, and a slot in WAIT or HOLD decides at once (R202). -/
def State.terrOff (s : State) : State :=
  let s := s.setRf (terrB + 8) 0 0 0
  let s := s.each s.terrSlots (fun n s =>
    let t := (s.slot n).terr
    let s := s.modTerr n (fun t => { t with out := false, entries := [], lockList := [] })
    if t.sub == .idle then s
    else if s.fastOn n then (s.modTerr n (fun t => { t with sub := .idle })).cmpTrip n false 0
    else s.standDown n)
  { s with copies := [] }

/-- TERR_DISABLE (R202). -/
def execTerrDisable (ini : Ini) (s : State) : Host.Outcome State Fault Refusal := done s (s.write ini (terrB + 8) false (·.terrOff))

/-- SOFT_RESET of TERR (R202): refused while a slot waits. -/
def State.terrReset (s : State) : State :=
  if s.slots.any (fun e => e.2.terr.sub != .idle) then s.reject (pageNo terrB)
  else
    let s := s.each s.terrSlots (fun n s => s.modTerr n (fun t => { t with entries := [], lockList := [] }))
    (((s.setReg (terrB + 0x60) 0).setReg (terrB + 0x64) 0).setReg (terrB + 0x68) 0).setReg (terrB + 0x6C) 0

end Sys2Proof.Machine
end

