-- ==== Sys2Proof/Machine/EngineCmd.lean ====
section
/-! DEFINITION. The commands of the Contour engine's registers (10_contour_engine.md R279, R294, R302, R304, R310). -/
namespace Sys2Proof.Machine

/-- A write of CTX_CMD (R294, R310): COMMIT and CLR_CNT. -/
def State.ctxCmd (s : State) (d n : Nat) (v : Word) : State :=
  let s := if bit v 0 then s.ctlCommit d n else s
  if bit v 1 then s.clrCnt d n else s
/-- A write of TEST_CMD (R302): a write of both bits stops. -/
def State.testCmd (s : State) (d : Nat) (v : Word) : State :=
  if bit v 1 then s.testStop d 2 else if bit v 0 then s.testArm d else s
/-- A write of CAP_CMD (R304). -/
def State.capCmd (s : State) (d : Nat) (v : Word) : State :=
  let s := if bit v 2 then s.capAbort d else s
  let s := if bit v 0 then s.capArm d else s
  if bit v 1 then s.capForce d else s

/-- COMMIT (R294). errs: the parity errors, section and word, that the reads of the edit bank met (R297); a bound context reads it at
its next period. -/
def execCommit (ini : Ini) (d n : Nat) (errs : List (Nat × Nat)) (s : State) : Host.Outcome State Fault Refusal :=
  done s (s.write ini (ctxB d n + 0x18) true (fun s =>
    (if s.commitOk d n && !(s.ctx d n).bound then s.editErrs d n errs else s).ctlCommit d n))
/-- CLR_CNT (R310). -/
def execClrCnt (ini : Ini) (d n : Nat) (s : State) : Host.Outcome State Fault Refusal :=
  done s (s.write ini (ctxB d n + 0x18) true (·.clrCnt d n))
/-- CLR_MAX (R279). -/
def execClrMax (ini : Ini) (d : Nat) (s : State) : Host.Outcome State Fault Refusal :=
  done s (s.write ini (contB d + 0x4C) false (·.clrMax d))
/-- TEST_ARM (R302). -/
def execTestArm (ini : Ini) (d : Nat) (s : State) : Host.Outcome State Fault Refusal :=
  done s (s.write ini (contB d + 0x608) true (·.testArm d))
/-- TEST_STOP (R302): accepted whatever the lock state. -/
def execTestStop (ini : Ini) (d : Nat) (s : State) : Host.Outcome State Fault Refusal :=
  done s (s.write ini (contB d + 0x608) false (·.testStop d 2))
/-- CAP_ARM (R304). -/
def execCapArm (ini : Ini) (d : Nat) (s : State) : Host.Outcome State Fault Refusal :=
  done s (s.write ini (contB d + 0x68C) false (·.capArm d))
/-- CAP_FORCE (R304). -/
def execCapForce (ini : Ini) (d : Nat) (s : State) : Host.Outcome State Fault Refusal :=
  done s (s.write ini (contB d + 0x68C) false (·.capForce d))
/-- CAP_ABORT (R304). -/
def execCapAbort (ini : Ini) (d : Nat) (s : State) : Host.Outcome State Fault Refusal :=
  done s (s.write ini (contB d + 0x68C) false (·.capAbort d))

end Sys2Proof.Machine
end

