-- ==== Sys2Proof/Machine/Insertion.lean ====
section
/-! DEFINITION. Insertion (04_insertion.md R102 to R116): the pre-check, its verdicts, the interlocks, charging, learning and the forecast, the handover, PG and EWARN_N. -/
namespace Sys2Proof.Machine

/-! ## Verdicts and the role swap (R103 to R106) -/

/-- A short verdict: a trip on the HARD path where a gate is driven up, else a trip without a pull-down (R123, R153).
open_: the slot tells its upstream targets (R103, R105). -/
def State.verdict (s : State) (n cause abort : Nat) (open_ : Bool) : State :=
  let s := if s.gateUp n then s.trip n true cause 8 abort else (s.quietTrip n cause 8 abort true).enter n .tripped 0
  if open_ then s.sendOpen n else s

/-- The role swap of R106: B becomes the working element and the slot returns to pre-check step 1. -/
def State.roleSwap (s : State) (n : Nat) (approved : Bool) : State :=
  let d := dieOf n
  let s := s.modSlot n (fun x => { x with role := true })
  let s := (s.evtSlot n [17]).logSlot n 0x0221 [1, b2n approved]
  let s := s.swap 0 d n 0 0 1 0
  s.enter n .seated 2

/-- Pass element A is found shorted with B fitted and ROLE 0 (R104, R106): GATEB goes down through the HARD path, while GATEA
stays held off, and the roles swap at once or await approval. -/
def State.foundShortA (s : State) (n : Nat) : State :=
  let s := (s.pullGate n true).modSlot n (fun x => { x with revBlock := false, limit := false, limOffAt := if x.limit then some s.now else x.limOffAt })
  if s.approve 0 then
    let s := s.enter n .seated 0
    (s.modSlot n (fun x => { x with ins := { x.ins with swapPending := true } })).nursReq 0 (dieOf n) n 0
  else s.roleSwap n false

/-- Pre-check step 1 passes: to step 2, or out of the pre-check (R102). -/
def State.stepOnePass (s : State) (n : Nat) : State :=
  if s.backup n && !(s.slot n).role then s.rise n (fun s => s.modSlot n (fun x => { x with step := 3, ins := { x.ins with stepAt := s.now } }))
  else if s.backup n then s.rise n (fun s => s.enter n .waiting 0)
  else s.enter n .waiting 0

/-- PRECHECK_1_PASS (R102): SHORT_VOUT has been 0 for its deglitch time. -/
def execPrecheck1Pass (n : Nat) (s : State) : Host.Outcome State Fault Refusal :=
  done s (
    let x := s.slot n
    if !s.runs (dieOf n) || x.st != .seated || x.step != 2 || s.shortVout n then s
    else s.ranked n rankOther (.precheck1Pass n) (·.stepOnePass n))

/-- SHORT_VERDICT (R103): VOUT has stayed at or above VBUS_A − 1.0 V for tPC1T, 1.0 s, in step 1. -/
def execShortVerdict (n : Nat) (s : State) : Host.Outcome State Fault Refusal :=
  done s (
    let x := s.slot n
    let due := match x.ins.nearAt with | some t => decide (t + SEC ≤ s.now) | none => false
    if !s.runs (dieOf n) || x.st != .seated || x.step != 2 || !due then s
    else s.verdict n (if s.backup n then 8 else 6) 1 (!s.backup n))

/-- PRECHECK_2_PASS (R104): GATEB_ENH is 1 and SHORT_VOUT has stayed 0 for a further tPC2H, 100 µs. -/
def execPrecheck2Pass (n : Nat) (s : State) : Host.Outcome State Fault Refusal :=
  done s (
    let x := s.slot n
    let held := x.gB.enh && decide (x.gB.enhAt + 100 * US ≤ s.now) && !s.shortVout n
    if !s.runs (dieOf n) || x.st != .seated || x.step != 3 || !held then s
    else s.ranked n rankOther (.precheck2Pass n) (·.enter n .waiting 0))

/-- PASS_ELEMENT_A_SHORT (R104, R105, R106): SHORT_VOUT asserts in step 2 or, armed, in WAITING. -/
def execPassElementAShort (n : Nat) (s : State) : Host.Outcome State Fault Refusal :=
  done s (
    let x := s.slot n
    let here := (x.st == .seated && x.step == 3) || (x.st == .waiting && x.ins.armed)
    if !s.runs (dieOf n) || !here then s
    else
      let s := s.modSlot n (fun x => { x with shV := { out := true, raw := true, since := s.now } })
      if !s.backup n then s.verdict n 6 2 true
      else if x.role then s.verdict n 8 2 false
      else s.ranked n rankOther (.passElementAShort n) (·.foundShortA n))

/-- SPARE_GATE_TIMEOUT (R104, R143): the spare gate has not enhanced within tPC2, at most 3 ms (R117). -/
def execSpareGateTimeout (n : Nat) (s : State) : Host.Outcome State Fault Refusal :=
  done s (
    let x := s.slot n
    let pre := x.st == .seated && x.step == 3 && !x.gB.enh && decide (x.ins.stepAt + 3 * MS ≤ s.now)
    let back := x.st == .waiting && x.ins.spareEnh && decide (x.ins.spareAt + 3 * MS ≤ s.now)
    if !s.runs (dieOf n) then s
    else if pre then s.softTrip n rankOther 0xB 8 3
    else if back then s.softTrip n rankOther 0xB 0 3
    else s)

/-- SPARE_ENH_DONE (R82, R143): the GATE_ENH bit of the non-working element rises. -/
def execSpareEnhDone (n : Nat) (s : State) : Host.Outcome State Fault Refusal :=
  done s (
    let wb := s.workB n
    if s.pkg.phase == .powerOff || !s.backup n then s
    else s.modSlot n (fun x =>
      let g := if wb then x.gA else x.gB
      if !g.path.isUp then x
      else
        let x := { x with ins := { x.ins with spareEnh := false } }
        if wb then { x with gA := g.enhance s.now } else { x with gB := g.enhance s.now }))

/-! ## Interlocks (R107) -/

/-- The loop's feedback channel of a slot: true for VOUT, class 1, false for the current, class 0 (R108). -/
def State.fbVolt (s : State) (n : Nat) : Bool := s.loopProfile n != 2

/-- WAIT_CAUSE.FEEDBACK: the feedback channel flagged OVR or OPEN, or without a result for 8 control periods. -/
def State.fbBad (s : State) (n : Nat) : Bool :=
  let x := s.slot n
  (if s.fbVolt n then x.ctl.vOvr || s.openFlag n 1 else x.ctl.iOvr || s.openFlag n 0) || x.ctl.started == 0 ||
    decide (x.ctl.at_ + 5120 ≤ s.now) || (s.die (dieOf n)).belv.fullAt.isSome

/-- INS_STAT.WAIT_CAUSE (R107); the bits live while the slot is in WAITING. -/
def State.waitCause (s : State) (n : Nat) : Nat :=
  let x := s.slot n
  let d := dieOf n
  let g := (s.die d).grat
  let t := x.tfet
  let tOut := decide (t.temp < toSigned 8 (s.sf n 0x204 7 0) * 10) || decide (((s.sf n 0x204 15 8 * 10 : Nat) : Int) < t.temp)
  let bus := s.busCode n
  maskOf ((List.range 11).filter (fun i =>
    match i with
    | 0 => !g.scanned || g.degraded || g.outside
    | 1 => tOut || t.bad || !s.tfetValid n
    | 2 => s.aboveStart n
    | 3 => x.retry.cool.isSome
    | 4 => s.busBelowWarn d || decide (51200 < bus)
    | 5 => (s.die d).pow.waits
    | 6 => s.noContext n
    | 7 => s.sf n 0x144 13 13 == 1 && !x.ins.goDone
    | 8 => x.ins.swapPending
    | 9 => s.fbBad n
    | _ => x.ins.spareEnh))

/-! ## Charging (R108) -/

/-- Enter CHARGING: the insertion counted, the timer started from its full value, the learning window run unless it had
ended, the context bound. -/
def State.startCharging (s : State) (n : Nat) : State :=
  let s := s.enter n .charging (if (s.slot n).ins.winDone then 5 else 4)
  let timer := s.now + s.sf n 0x14C 15 0 * MS
  let bus := s.busCode n
  let s := s.modSlot n (fun x =>
    let y := { x.ins with firstAt := some (x.ins.firstAt.getD s.now), timer := timer, doneN := 0, testOn := false, handAt := 0 }
    { x with ins := if y.winDone then y else { y with busEntry := bus, five := false, n := 0, used := 0, ss := 0, vv := 0, sv := 0, is_ := 0, iv := 0 } })
  (s.wearAdd n 2).bindCtx n

/-- CHARGING_START (R107): every bit of WAIT_CAUSE is 0. -/
def execChargingStart (n : Nat) (s : State) : Host.Outcome State Fault Refusal :=
  done s (
    if s.runs (dieOf n) && (s.slot n).st == .waiting && s.waitCause n == 0 then
      s.ranked n rankOther (.chargingStart n) (·.rise n (fun s => s.startCharging n))
    else s)

/-! ## Learning and the forecast (R110) -/

/-- The fit over the window's samples, as C in farads and G in siemens; none where the fit is singular. The sums are in
control codes: 100 mV / 32768 and 1.5625 mV a code, and 488.28125 V/s / 8 a code of difference over eight samples. -/
def fitOf (x : Ins) (shunt : Nat) : Option (Rat × Rat) :=
  let det := x.ss * x.vv - x.sv * x.sv
  if x.used < 8 || x.ss == 0 || x.vv == 0 || decide (det * 2 ^ 20 < x.ss * x.vv) then none
  else
    let amp : Rat := 100000 / (32768 * shunt)
    let c : Rat := ((x.is_ * x.vv - x.iv * x.sv : Int) : Rat) / det * amp / (15625 / 256)
    let g : Rat := ((x.iv * x.ss - x.is_ * x.sv : Int) : Rat) / det * amp / (1 / 640)
    some (c, if g < 0 then 0 else g)

/-- The forecast of R110 for a candidate k, in m°C: case reference, then P × Σ R (1 - e^(-T/τ)), in exact arithmetic but
for the exponential (log entry 18). -/
def State.forecast (s : State) (n k8 : Nat) (c g : Rat) : Rat :=
  let vbus := s.busV n
  let vout := s.voutV n
  let i0 : Rat := if s.loopProfile n == 2 then (10 * s.sf n 0x148 31 16 : Nat) / s.sf n 0x104 23 0 else c * (10 * s.sf n 0x148 15 0 : Nat)
  let p : Rat := k8 * vbus * i0 / 8 + vbus * vbus * g / 4
  let t : Rat := (if vbus < vout then 0 else vbus - vout) * c * 8 / (k8 * i0)
  let rise : Rat := ((List.range (s.sf n 0x200 2 0)).map (fun i =>
    let tau : Nat := s.sf n (0x224 + 8 * i) 23 0
    let q := t * 100000 / tau
    ((s.sf n (0x220 + 8 * i) 15 0 : Nat) : Rat) * (1 - (expNeg q.num.toNat q.den : Rat) / 2 ^ 64))).foldl (· + ·) 0
  (s.caseRef n : Rat) + p * rise

/-- The largest k from 8/8 down to 1/8 that fits; 0 where none does. -/
def State.chooseK (s : State) (n : Nat) (c g : Rat) : Nat :=
  let lim : Int := ((s.sf n 0x208 15 8 : Int) - s.margin - s.sf n 0x144 12 8) * 1000
  ([8, 7, 6, 5, 4, 3, 2, 1].find? (fun k => decide (s.forecast n k c g ≤ lim))).getD 0

/-- LEARNING_WINDOW_END (R110): the later of two events, VOUT reaching 5 % of the bus at entry and 32 samples. -/
def execLearningWindowEnd (n : Nat) (s : State) : Host.Outcome State Fault Refusal :=
  done s (
    let x := s.slot n
    if !s.runs (dieOf n) || x.st != .charging || x.ins.winDone || x.ins.n < 32 || !x.ins.five then s
    else
      let s := s.modSlot n (fun x => { x with step := if x.step == 4 then 5 else x.step, ins := { x.ins with winDone := true } })
      let s := s.modDie (dieOf n) (fun y => { y with eng := { y.eng with lane := y.eng.lane ++ [.fit n] } })
      let void (s : State) : State := (s.setRf (slotB n + 0x158) 31 31 0).setRf (slotB n + 0x15C) 31 31 0
      match fitOf x.ins (s.sf n 0x104 23 0) with
      | none => void s
      | some (c, g) =>
        if c ≤ 0 then void s
        else
          let cu := sat 0xFFFFFF (openRound 4 (c * 10000000)).toNat
          let gu := sat 0xFFFFFF (openRound 5 (g * 1000000)).toNat
          let s := (s.setReg (slotB n + 0x158) (mkWord [(0, cu), (31, 1)])).setReg (slotB n + 0x15C) (mkWord [(0, gu), (31, 1)])
          if c * 1000000 < (s.sf n 0x150 15 0 : Nat) || ((10 * s.sf n 0x150 31 16 : Nat) : Rat) < c * 1000000 then s.softTrip n rankSoa 5 0 4 else s)

/-- Serve a fit request: the forecast sets k, scales the remaining time, or ends the insertion (R110). -/
def State.serveFit (s : State) (n : Nat) : State :=
  let x := s.slot n
  if x.st != .charging || !x.ins.winDone || s.sf n 0x144 15 15 != 1 || s.sf n 0x158 31 31 != 1 then s
  else match fitOf x.ins (s.sf n 0x104 23 0) with
    | none => s
    | some (c, g) =>
      let k := s.chooseK n c g
      if k == 0 then s.softTrip n rankSoa 5 0 5
      else
        let left := x.ins.timer - s.now
        let s := s.modSlot n (fun x => { x with ins := { x.ins with k8 := k, timer := s.now + (openRound 6 ((left : Rat) * 8 / k)).toNat } })
        s.modCtx (dieOf n) (s.ctxOf n) (fun y => if y.bound then { y with k8 := k } else y)

/-! ## The ends of an insertion (R111, R112) -/

/-- INSERTION_PAUSE (R111): VBUS_A below WARN_TH; the working element goes down through the SOFT path. -/
def execInsertionPause (n : Nat) (s : State) : Host.Outcome State Fault Refusal :=
  done s (
    if !s.runs (dieOf n) || (s.slot n).st != .charging || !s.busBelowWarn (dieOf n) then s
    else s.ranked n rankOther (.insertionPause n) (fun s =>
      let wb := s.workB n
      let s := s.modSlot n (fun x =>
        let x := { x with limit := false, limOffAt := if x.limit then some s.now else x.limOffAt }
        if wb then { x with gB := x.gB.pull s.now false } else { x with gA := x.gA.pull s.now false })
      s.enter n .waiting 0))

/-- INSERT_TIMEOUT (R111): the insertion timer runs out before the completion test is met. -/
def execInsertTimeout (n : Nat) (s : State) : Host.Outcome State Fault Refusal :=
  done s (
    let x := s.slot n
    if s.runs (dieOf n) && x.st == .charging && x.step != 7 && decide (x.ins.timer ≤ s.now) then s.softTrip n rankOther 0xB 0 6 else s)

/-- HANDOVER_TIMEOUT (R111): the handover exceeds tENH, 5 ms (R117). -/
def execHandoverTimeout (n : Nat) (s : State) : Host.Outcome State Fault Refusal :=
  done s (
    let x := s.slot n
    if s.runs (dieOf n) && x.st == .charging && x.step == 7 && decide (x.ins.handAt + 5 * MS ≤ s.now) then s.softTrip n rankOther 0xB 0 7 else s)

/-- A loss or a freeze of the feedback ends the insertion (R293): which 3 FB_LOST, 4 FB_FROZEN. -/
def State.fbEnd (s : State) (n which : Nat) : State :=
  let d := dieOf n
  let s := s.modCtx d (s.ctxOf n) (fun c => if which == 3 then { c with lostSet := true } else { c with frozenSet := true })
  (s.evtCont d [which]).softTrip n rankOther 0xC 0 8

/-- Whether the supervision of R291 and R292 watches a slot's context. -/
def State.supervised (s : State) (n : Nat) : Bool :=
  let c := s.ctx (dieOf n) (s.ctxOf n)
  let x := s.slot n
  x.st == .charging && x.step != 7 && c.bound && c.slot == localOf n && c.armed

/-- FB_LOST (R292): no new sample has completed within 25.6 µs of the last one. -/
def execFbLost (n : Nat) (s : State) : Host.Outcome State Fault Refusal :=
  done s (
    let c := s.ctx (dieOf n) (s.ctxOf n)
    if s.runs (dieOf n) && s.supervised n && decide (c.fbAt + 5120 ≤ s.now) then s.fbEnd n 3 else s)

/-- The insertion ends in ON (R112): INS_DURATION, which wraps at 2^32 µs (log entry 50), and the record. -/
def State.insertionOn (s : State) (n : Nat) : State :=
  let x := s.slot n
  let dur := ((openRound 7 ((s.now - x.ins.firstAt.getD s.now : Nat) / US)).toNat) % 2 ^ 32
  let s := s.enter n .on 0
  let s := s.setReg (slotB n + 0x160) (BitVec.ofNat 32 dur)
  let s := s.modSlot n (fun x => { x with ins := { x.ins with abort := 0 } })
  let c := slotB n + 0x158
  let g := slotB n + 0x15C
  (s.evtSlot n [19]).logSlot n 0x0220
    (le 3 (s.rf c 23 0) ++ [s.rf c 31 31 * 128 + s.rf g 31 31 * 64 + x.ins.k8] ++ le 3 (s.rf g 23 0) ++ [0] ++ le 4 dur)

/-- The gate of the working element. -/
def State.workGate (s : State) (n : Nat) : Gate := if s.workB n then (s.slot n).gB else (s.slot n).gA

/-- The handover starts (R112): the loop exits and the working element is driven through the ENHANCE path; supervision
ends (R293). A gate that the loop has already enhanced ends it in its first cycle. -/
def State.startHandover (s : State) (n : Nat) : State :=
  let s := s.modCtx (dieOf n) (s.ctxOf n) (fun c => { c with out := none, supOff := true })
  let s := (s.modSlot n (fun x => { x with step := 7, ins := { x.ins with handAt := s.now } })).raiseGates n
  if (s.workGate n).enh then s.insertionOn n else s

/-- INSERTION_DONE (R82, R112): the GATE_ENH bit of the working element rises, whatever path drives it up. In the handover that
ends the insertion. -/
def execInsertionDone (n : Nat) (s : State) : Host.Outcome State Fault Refusal :=
  done s (
    let x := s.slot n
    let wb := s.workB n
    if s.pkg.phase == .powerOff || !(s.workGate n).path.isUp then s
    else
      let act (s : State) : State :=
        let s := s.modSlot n (fun x => if wb then { x with gB := x.gB.enhance s.now } else { x with gA := x.gA.enhance s.now })
        if s.runs (dieOf n) && x.st == .charging && x.step == 7 then s.insertionOn n else s
      s.ranked n rankOther (.insertionDone n) act)

/-! ## PG and EWARN_N (R113, R116, R144) -/

/-- PG_RELEASE (R113, R144): VOUT has held for PG_DELAY; a running fault timer withholds the release. -/
def execPgRelease (n : Nat) (s : State) : Host.Outcome State Fault Refusal :=
  done s (
    let x := s.slot n
    match x.prot.pgOkAt with
    | none => s
    | some t =>
      if !s.runs (dieOf n) || x.st != .on || x.pg || x.offPend.isSome || !decide (t + s.sf n 0x14C 27 20 * MS ≤ s.now) then s
      else if x.faultAt.isSome then s.evtSlot n [8]
      else ((s.modSlot n (fun x => { x with pg := true })).evtSlot n [15]).releaseSend n)

/-- EWARN_BUS_END (R116): VBUS_A has stayed at or above WARN_TH + 0.5 V for 1 ms. -/
def execEwarnBusEnd (d : Nat) (s : State) : Host.Outcome State Fault Refusal :=
  done s (
    let b := (s.die d).belv
    match b.busOkAt with
    | some t => if s.runs d && b.busWarn && decide (t + MS ≤ s.now) then s.modDie d (fun x => { x with belv := { x.belv with busWarn := false, busOkAt := none } }) else s
    | none => s)

end Sys2Proof.Machine
end

