-- ==== Sys2Proof/Machine/Sample.lean ====
section
/-! DEFINITION. The control sample (08_belvedere_conversion.md R213) and all that follows it: EWARN_N, the stuck-current window, the computed trips, PG, learning, supervision, the completion test, waveforms and the dissipation of the thermal model. -/
namespace Sys2Proof.Machine

/-! ## Dissipation (R158) -/

/-- The current that the model takes, in A (R158). -/
def State.modelAmps (s : State) (n : Nat) : Rat :=
  let x := s.slot n
  let sh : Rat := (s.sf n 0x104 23 0 : Nat)
  if x.limit then (1000 * s.sf n 0x10C 7 0 : Nat) / sh
  else if x.ctl.iOvr && x.ctl.iCode == 32767 then (2000 * s.sf n 0x108 23 16 : Nat) / sh
  else if x.ctl.iCode ≤ 0 then 0
  else (x.ctl.iCode : Rat) * 100000 / 32768 / sh

/-- The dissipation of a pass element in W (R158): the first matching row of the table. -/
def State.power (s : State) (n : Nat) (elemB : Bool) : Rat :=
  let x := s.slot n
  let g := if elemB then x.gB else x.gA
  let o := if elemB then x.gA else x.gB
  let works := elemB == s.workB n
  let code := s.pathCode n elemB
  let i := s.modelAmps n
  let rds : Rat := (s.sf n 0x200 31 16 : Nat) / 100000
  let rs : Rat := (s.sf n 0x104 23 0 : Nat) / 1000000
  let rds' := if s.backup n && o.enh then rds else 0
  let drop := s.busV n - s.voutV n - i * rs - i * rds'
  let lin := i * (if drop < 0 then 0 else drop)
  let down := code == 1 || code == 4
  if code == 0 || code == 2 || (down && !g.enh) then 0
  else if (works && code == 5) || code == 3 || (works && down && g.enh) || (code == 6 && !g.enh) then lin
  else if g.enh then i * i * rds else 0

/-- Add a sample's dissipation to an element's mean; the first sample after a return raises its stages to R × P (R162). -/
def State.addPower (s : State) (n : Nat) (elemB : Bool) : State :=
  let p := s.power n elemB
  let rs := (List.range 4).map (fun i => s.sf n (0x220 + 8 * i) 15 0)
  let up (e : Elem) : Elem :=
    let e := if e.reload then
        { e with reload := false, rise := (List.range 4).map (fun i =>
            Nat.max (e.rise.getD i 0) (sat 400000 (roundHalfUp ((rs.getD i 0 : Nat) * p)).toNat)) }
      else e
    { e with psum := e.psum + p, pn := e.pn + 1 }
  s.modSlot n (fun x => if elemB then { x with eB := up x.eB } else { x with eA := up x.eA })

/-! ## Timed overcurrent (R128 to R130) -/

/-- The rate r of R130 in 1/µs at a multiple M, from the points (M in eighths, T in µs), in ascending order. -/
def invRate (m : Rat) : List (Nat × Nat) → Rat
  | [] => 0
  | [p] => 1 / p.2
  | p :: q :: r =>
    if m ≤ (p.1 : Rat) / 8 then 1 / p.2
    else if m ≤ (q.1 : Rat) / 8 then 1 / p.2 + (m - p.1 / 8) * ((1 : Rat) / q.2 - 1 / p.2) / (((q.1 : Rat) - p.1) / 8)
    else invRate m (q :: r)

/-- The accumulator after a sample (R128). -/
def State.tocNext (s : State) (n : Nat) : Rat :=
  let x := s.slot n
  let a := x.prot.acc
  let mode := s.sf n 0x180 1 0
  let p : Rat := (s.sf n 0x180 31 16 : Nat)
  let v : Rat := (x.ctl.iCode : Rat) * 10000 / 32768
  let reset := s.sf n 0x188 15 0
  if mode == 0 then 0
  else if p ≤ v then
    let r : Rat := if mode == 1 then 1 / (s.sf n 0x184 23 0 : Nat)
      else invRate (v / p) ((List.range 8).map (fun i => (s.sf n (0x190 + 4 * i) 31 24, s.sf n (0x190 + 4 * i) 23 0)))
    let b := a + 16 / 5 * r
    if 1 ≤ b then 1 else b
  else if p * 19 / 20 ≤ v then a
  else if reset == 0 then 0
  else
    let b := a - 16 / 5 / (1000 * reset : Nat)
    if b < 0 then 0 else b

/-! ## Parts of one slot's sample -/

/-- Whether a running open-wire test frame tests a pin of a slot: 0 SENSE, 1 VOUT (R233, R235). -/
def State.inTest (s : State) (n pin : Nat) : Bool :=
  match (s.die (dieOf n)).belv.openRun with
  | some r => (r.frame == 1 || r.frame == 2) && nbit (if pin == 0 then r.sense else r.vout) (localOf n)
  | none => false

/-- The word of CTLn (R239). -/
def ctlWord (code : Nat) (ovr isOpen settling : Bool) : Word :=
  mkWord [(0, code % 65536), (28, b2n settling), (29, b2n isOpen), (30, b2n ovr), (31, 1)]

/-- Take the sample's codes: CTLn, flags, SETTLING, the history, the SHORT comparators' levels, the wait of pre-check step 1 and
how long VOUT has stayed within 1.0 V (640 codes) of the bus in it (R84, R102, R103, R213, R215, R230, R281). -/
def State.takeSample (s : State) (d : Nat) (r : SlotSamp) : State :=
  let n := slotOf d r.slot
  let x := s.slot n
  let i := s.ctlCode d (chI r.slot) r.i
  let v := s.ctlCode d (chV r.slot) r.v
  let young := decide (x.ctl.started < 2)
  let s := s.setReg (belvB d + 0x300 + 4 * r.slot)
    (ctlWord (ofSigned 16 i.1) i.2 (s.openFlag n 0) (young || (!i.2 && x.ctl.iSet != 0) || s.inTest n 0))
  let s := s.setReg (belvB d + 0x340 + 4 * r.slot)
    (ctlWord v.1.toNat v.2 (s.openFlag n 1) (young || (!v.2 && x.ctl.vSet != 0) || s.inTest n 1))
  let iBad := i.2 || s.openFlag n 0
  let vBad := v.2 || s.openFlag n 1
  let shV := x.shV.see s.now r.shVout
  let short := shV.at_ s.now
  let one := x.st == .seated && x.step == 2
  let near := one && decide (s.busCode n ≤ v.1.toNat + 640)
  let waits := one && short && !x.ins.waited
  let s := if waits then s.evtSlot n [16] else s
  s.modSlot n (fun x =>
    { x with
      shV := shV
      shM := x.shM.see s.now r.shMid
      ins :=
        { x.ins with
          armed := x.ins.armed || !short, waited := x.ins.waited || waits
          nearAt := if near then some (x.ins.nearAt.getD s.now) else none }
      ctl :=
        { x.ctl with
          started := sat 65535 (x.ctl.started + 1)
          iCode := i.1, vCode := v.1.toNat, iOvr := i.2, vOvr := v.2
          iSet := if i.2 then 2 else x.ctl.iSet - 1
          vSet := if v.2 then 2 else x.ctl.vSet - 1
          iClean := if i.2 then 0 else sat 65535 (x.ctl.iClean + 1)
          vClean := if v.2 then 0 else sat 65535 (x.ctl.vClean + 1)
          at_ := s.now
          hist := ((i.1, v.1.toNat, iBad, vBad) :: x.ctl.hist).take 2048 } })

/-- Extend the waveforms of a slot by a sample (R147). -/
def State.recordWave (s : State) (n : Nat) (p : Nat × Nat) : State :=
  if ((s.die (dieOf n)).snaps.any (fun b => match b with | some sn => sn.slot == n && decide (sn.post < 2048) | none => false)) then
    s.modDie (dieOf n) (fun y => { y with snaps := y.snaps.map (fun b => b.map (fun sn =>
      if sn.slot == n && decide (sn.post < 2048) then { sn with samples := sn.samples ++ [p], post := sn.post + 1 } else sn)) })
  else s

/-- The trip sample and the waveforms of a slot (R147). -/
def State.recordSample (s : State) (n : Nat) : State :=
  let x := s.slot n
  let p := (ofSigned 16 x.ctl.iCode, x.ctl.vCode)
  (s.modSlot n (fun x =>
    if x.trip.due && !x.trip.sampled then { x with trip := { x.trip with sampled := true, iCode := p.1, vCode := p.2 } } else x)).recordWave n p
/-- A slot in OFF has no samples (R208): its running waveform takes 0 in their place and completes in its time (log entry 52). -/
def State.recordBlank (s : State) (n : Nat) : State := s.recordWave n (0, 0)

/-- Whether the shunt voltage of the latest sample is at or above 1.0 mV (R134, R196). -/
def Slot.shuntHigh (x : Slot) : Bool := decide (32768 ≤ x.ctl.iCode * 100)

/-- The stuck-current window (R134) and the repeats of UPSTREAM_OPEN (R196). -/
def State.stuckSample (s : State) (n : Nat) : State :=
  let x := s.slot n
  let hi := x.shuntHigh
  let t := x.trip
  if x.st == .tripped then
    if t.check && decide (t.stuckN < 8) && decide (t.pullAt + (if t.hard then 10 * US else MS) ≤ s.now) then
      s.modSlot n (fun x => { x with trip := { x.trip with stuckN := t.stuckN + 1, stuckHi := t.stuckHi + b2n hi } })
    else s
  else if x.st == .latched then
    let c := s.causeOf n
    let det := s.sf n 0x1C4 15 8
    if (c == 6 || c == 7 || c == 8) && (det == 7 || det == 8) then
      let cnt := if hi then sat 8 (x.terr.openCnt + 1) else 0
      let s := s.modSlot n (fun x => { x with terr := { x.terr with openCnt := cnt } })
      let free := match x.terr.openAt with | some t => decide (t + 10 * MS ≤ s.now) | none => true
      if cnt == 8 && free then s.sendOpen n else s
    else s
  else s

/-- A computed trip of a control sample gives way to the causes of the same CORE cycle that rank before it (R125). -/
def State.computedTrip (s : State) (n cause : Nat) : State := if s.outranked n rankTimed then s else s.trip n true cause 0 0

/-- The computed trips: TIMED, which falls in the CORE cycle after the sample, then BUS_OV and VOUT_UV (R128, R132, R133). -/
def State.protSample (s : State) (n : Nat) : State :=
  let bus := s.busCode n
  let th := s.sf n 0x1B0 9 0
  let s := s.modSlot n (fun x =>
    if x.retry.busOv then
      { x with retry := { x.retry with busOkAt := if th == 0 || decide (bus < (th - 10) * 64) then some (x.retry.busOkAt.getD s.now) else none } }
    else x)
  if !s.gateUp n then s
  else
    let acc := if s.inTest n 0 then (s.slot n).prot.acc else s.tocNext n
    let uvTh := s.sf n 0x1B0 31 24
    let on := (s.slot n).st == .on
    let low := uvTh != 0 && decide ((s.slot n).ctl.vCode * 100 < uvTh * bus)
    let hold := s.inTest n 1
    let s := s.modSlot n (fun x =>
      { x with prot :=
        { x.prot with
          acc := acc
          due := if 1 ≤ acc then some (x.prot.due.getD (s.now + 1)) else none
          ov := if th != 0 && decide (th * 64 < bus) then sat 2 (x.prot.ov + 1) else 0
          uv := if !on then 0 else if hold then x.prot.uv else if low then x.prot.uv + 1 else 0 } })
    let p := (s.slot n).prot
    if 2 ≤ p.ov then s.computedTrip n 0xA
    else if p.uv != 0 && decide (cdiv (s.sf n 0x1B0 23 16 * 125) 4 ≤ p.uv) then s.computedTrip n 9
    else s

/-- PG in ON (R113). -/
def State.pgSample (s : State) (n : Nat) : State :=
  let x := s.slot n
  if x.st != .on then s
  else
    let th := s.sf n 0x144 30 24
    let bus := s.busCode n
    let ok := voutAbove x.ctl.vCode bus th
    let low := if voutAbove x.ctl.vCode bus (th - 2) then 0 else sat 2 (x.prot.pgLow + 1)
    let s := s.modSlot n (fun x => { x with prot := { x.prot with pgOkAt := if ok then some (x.prot.pgOkAt.getD s.now) else none, pgLow := low } })
    if x.pg && low == 2 then (s.modSlot n (fun x => { x with pg := false })).evtSlot n [14] else s

/-- The learning window's sums, and whether VOUT has reached 5 % of the bus at entry (R110). -/
def State.learnSample (s : State) (n : Nat) : State :=
  let x := s.slot n
  if x.st != .charging || x.ins.winDone || (decide (32 ≤ x.ins.n) && x.ins.five) then s
  else
    let s := s.modSlot n (fun x => { x with ins := { x.ins with five := x.ins.five || voutAbove x.ctl.vCode x.ins.busEntry 5 } })
    let x := s.slot n
    let w := x.ctl.hist.take 9
    let good := decide (9 ≤ x.ctl.started) && w.length == 9 && !(w.any (·.2.2.2))
    s.modSlot n (fun x =>
      let y := { x.ins with n := x.ins.n + 1 }
      if !good then { x with ins := y }
      else
        let v : Int := x.ctl.vCode
        let sl : Int := v - ((w.getD 8 (0, 0, false, false)).2.1 : Int)
        let i := x.ctl.iCode
        { x with ins := { y with used := y.used + 1, ss := y.ss + sl * sl, vv := y.vv + v * v, sv := y.sv + sl * v, is_ := y.is_ + i * sl, iv := y.iv + i * v } })

/-- Supervision of the bound context on a sample (R291 to R293). -/
def State.superviseSample (s : State) (n : Nat) : State :=
  let d := dieOf n
  let k := s.ctxOf n
  let c := s.ctx d k
  let x := s.slot n
  if x.st != .charging || x.step == 7 || !c.bound || c.slot != localOf n then s
  else
    let volt := s.fbVolt n
    let code := if volt then x.ctl.vCode else ofSigned 16 x.ctl.iCode
    let arm := s.rf (ctxB d k) 31 24 * 64
    let fz := s.rf (ctxB d k + 0xC) 31 24
    if !c.armed then
      let m := if decide (arm ≤ x.ctl.vCode) then c.armN + 1 else 0
      s.modCtx d k (fun c => { c with fbAt := s.now, armN := m, armed := decide (2 ≤ m) })
    else
      let same := if c.sameN != 0 && c.lastFb == code then c.sameN + 1 else 1
      let s := s.modCtx d k (fun c => { c with fbAt := s.now, sameN := same, lastFb := code })
      let vBad := x.ctl.vOvr || s.openFlag n 1
      let lost := (if volt then vBad else x.ctl.iOvr || s.openFlag n 0) || (c.kv != 0 && vBad)
      let frozen := fz != 0 && decide (fz ≤ same)
      if lost then (if frozen then (s.modCtx d k (fun c => { c with frozenSet := true })).evtCont d [4] else s).fbEnd n 3
      else if frozen then s.fbEnd n 4 else s

/-- The completion test (R112). -/
def State.completeSample (s : State) (n : Nat) : State :=
  let x := s.slot n
  let c := s.ctx (dieOf n) (s.ctxOf n)
  if x.st != .charging || x.step == 7 then s
  else
    let above := voutAbove x.ctl.vCode (s.busCode n) 99
    let start := x.ins.testOn || (if s.fbVolt n && !c.fallback then c.refHit else above)
    if !start then s
    else
      let k := if above then x.ins.doneN + 1 else 0
      let s := s.modSlot n (fun x => { x with step := 6, ins := { x.ins with testOn := true, doneN := k } })
      if 32 ≤ k then s.startHandover n else s

/-- One slot's part of a control sample. -/
def State.slotSample (s : State) (d : Nat) (r : SlotSamp) : State :=
  let n := slotOf d r.slot
  if (s.slot n).st == .off then s.recordBlank n
  else if (s.slot n).st == .holdthru then s
  else
    let s := (s.takeSample d r).addPower n false
    let s := if s.backup n then s.addPower n true else s
    let s := (s.recordSample n).stuckSample n
    let s := (s.learnSample n).protSample n
    ((s.superviseSample n).completeSample n).pgSample n

/-! ## The bus (R116, R209) -/

/-- VBUS_A of a control sample: CTL32, and the BUS source of EWARN_N. -/
def State.busSample (s : State) (d : Nat) (x : Samp) : State :=
  let b := (s.die d).belv
  let c := s.ctlCode d chBus x
  let s := s.setReg (belvB d + 0x380) (ctlWord c.1.toNat c.2 false (decide (b.busN < 2) || (!c.2 && b.busSet != 0)))
  let th := s.rf (dieB d + 0x200) 9 0 * 64
  let low := decide (c.1 < th)
  let ok := decide ((th : Int) + 320 ≤ c.1)
  s.modDie d (fun y =>
    let b := y.belv
    let k := if low then sat 2 (b.busLow + 1) else 0
    { y with belv :=
      { b with
        busCode := c.1.toNat, busOvr := c.2, busN := sat 65535 (b.busN + 1)
        busSet := if c.2 then 2 else b.busSet - 1
        busLow := k, busWarn := b.busWarn || k == 2
        busOkAt := if ok then some (b.busOkAt.getD s.now) else none } })

/-- CONTROL_SAMPLE (R213): sample k of a die completes at CORE cycle 640 k; none during a full calibration (R264). -/
def execControlSample (r : DieSamp) (s : State) : Host.Outcome State Fault Refusal :=
  done s (
    if !s.runs r.die || (s.now - s.pkg.epoch) % 640 != 0 || (s.die r.die).belv.fullAt.isSome then s
    else
      let s := s.busSample r.die r.bus
      (s.each (inOrder r) (fun x s => s.slotSample r.die x)).thEdges (slotsOf r.die))

end Sys2Proof.Machine
end

