-- ==== Sys2Proof/Machine/Modes.lean ====
section
/-! DEFINITION. Operating modes (15_reset_states_modes.md R444 to R448): the loads of a preset and the change at a frame boundary. -/
namespace Sys2Proof.Machine

/-- Every slot of the present dies, in ascending order. -/
def State.presentSlots (s : State) : List Nat := s.presentDies.flatMap slotsOf

/-- A load or a write of DEGLITCH (R446): a slot whose raw FAST output is high keeps the value in force until that
output falls; the register reads the pending value. -/
def State.loadDeglitch (s : State) (n v : Nat) : State :=
  let old := s.sf n 0x100 5 4
  if old == v then s
  else
    let s := if s.rawFast n then s.modSlot n (fun x => { x with pendDg := some (x.pendDg.getD old) }) else s
    s.setRf (slotB n + 0x100) 5 4 v

/-- Every slot of the fitted dies: a mode loads those of an absent die too, whose registers the lead die's running copies hold until
it rejoins (R440, R444). -/
def State.fittedDies (s : State) : List Nat := (List.range 8).filter s.fitted
def State.fittedSlots (s : State) : List Nat := s.fittedDies.flatMap slotsOf

/-- Write out every coalesced record: the mode or software set COALESCE to 0 (R423). -/
def State.flushAll (s : State) : State := s.each s.presentDies (fun d s => s.logFlush d)

/-- The loads of a mode (R444), apart from those that skip names (R448): skip says whether an image record names the
register at an address. The loads ignore page locks. -/
def State.loadPreset (s : State) (m : Nat) (skip : Nat → Bool) : State :=
  let p := preset m
  let fc := belvB 0 + 0x40
  let s := if skip fc then s else (s.setRf fc 6 4 p.osr).setRf fc 8 8 p.idle
  let s := s.each (s.fittedSlots.filter (fun n => !skip (slotB n + 0x100))) (fun n s => s.loadDeglitch n p.dg)
  let s := s.each s.fittedDies (fun d s =>
    let s := if skip (contB d + 0x40) then s else (s.setRf (contB d + 0x40) 1 0 p.rate).setRf (contB d + 0x40) 7 4 p.sec
    if skip (belvB d + 0x440) then s else s.setRf (belvB d + 0x440) 1 1 p.roll)
  let s := if skip (logB + 0x40) then s else s.setRf (logB + 0x40) 31 31 p.coal
  let s := if s.rf (logB + 0x40) 31 31 == 0 then s.flushAll else s
  if skip (modeB + 0x48) then s else s.setRf (modeB + 0x48) 4 0 p.opts

/-- A mode change at a frame boundary (R446): the loads, CURRENT, the record, and the pumps of R78. -/
def State.applyMode (s : State) : State :=
  match s.pkg.modeReq with
  | none => s
  | some m =>
    let old := s.pkg.mode
    let dirty := b2n s.dirty
    let s := s.loadPreset m (fun _ => false)
    let s := { s with pkg := { s.pkg with mode := m, modeReq := none } }
    let s := (s.evt (pageNo modeB) [0]).logLead 1 0 0x0700 [old, m, dirty]
    let s := s.each s.presentDies (fun d s => s.pumpCheck d)
    s.thEdges s.presentSlots

/-- A write of MODE.REQUEST (R446, R451). -/
def State.modeWrite (s : State) (v : Word) : State :=
  let m := fld v 2 0
  let s := s.setReg (modeB + 0x40) (mkWord [(0, m)])
  { s with pkg := { s.pkg with modeReq := some m } }

/-- MODE_REQUEST (R446). -/
def execModeRequest (ini : Ini) (v : Word) (s : State) : Host.Outcome State Fault Refusal :=
  done s (s.write ini (modeB + 0x40) false (fun s => s.modeWrite v))

end Sys2Proof.Machine
end

