-- ==== Sys2Proof/Machine/Results.lean ====
section
/-! DEFINITION. Results (09_results_calibration.md R247 to R261): the entry and its format, die queues, the QUEUE port, streams, latest values and energy. -/
namespace Sys2Proof.Machine

/-! ## The result entry (R247, R248) -/

/-- DATA of a result: sign and alignment of R248, from the code of R243. -/
def State.fmtData (s : State) (d cls ch : Nat) (code : Int) : Nat :=
  let isSigned := if cls == 0 then false else if cls == 1 then s.rf (belvB d + 0x400) ch ch == 1 else s.rf (belvB d + 0x404) ch ch == 1
  let v : Int := if isSigned then code - 8388608 else code
  if s.rf (belvB d + 0x400) 31 31 == 1 then ofSigned 32 (v * 256) else ofSigned 32 v

/-- The flags of a result (R247). -/
structure RFlags where
  ovr : Bool
  isOpen : Bool
  sub : Bool
  settling : Bool
  deriving DecidableEq, Repr

/-- The bits [31:27] of a latest-value word (R272). -/
def RFlags.word (f : RFlags) (code : Nat) : Word :=
  mkWord [(0, code % 16777216), (27, b2n f.settling), (28, b2n f.sub), (29, b2n f.isOpen), (30, b2n f.ovr), (31, 1)]

/-- A result entry (R247). -/
def State.entry (s : State) (d cls ch frame : Nat) (f : RFlags) (code : Int) : BitVec 64 :=
  BitVec.ofNat 64 (2 ^ 63 + b2n f.ovr * 2 ^ 62 + b2n f.isOpen * 2 ^ 61 + b2n f.sub * 2 ^ 60 + b2n f.settling * 2 ^ 59 +
    d * 2 ^ 56 + cls * 2 ^ 54 + ch * 2 ^ 48 + frame * 2 ^ 40 + s.fmtData d cls ch code)

/-! ## Queues (R249, R250, R269) -/

/-- Entries in all die queues, and in the receive queue (Q_LEVEL, R269). -/
def State.qDies (s : State) : Nat := (s.presentDies.map (fun d => (s.die d).belv.queue.length)).foldl (· + ·) 0
def State.qTotal (s : State) : Nat := s.qDies + s.qport.rxq.length

/-- WATERMARK when the total has risen to WMARK since it was before (R269). -/
def State.wmark (s : State) (before : Nat) : State :=
  let w := s.rf (queueB + 0x60) 27 16
  if w != 0 && decide (before < w) && decide (w ≤ s.qTotal) then s.evt (pageNo queueB) [1] else s

/-- A result enters its die's queue, or is dropped where the queue is full (R250). -/
def State.pushQueue (s : State) (d : Nat) (e : BitVec 64) : State :=
  let t := s.qTotal
  if 1024 ≤ (s.die d).belv.queue.length then (s.addSat (belvB d + 0x414) 31 16 1).evtBelv d [12]
  else (s.modDie d (fun x => { x with belv := { x.belv with queue := x.belv.queue ++ [(e, s.now)] } })).wmark t

/-! ## The QUEUE port (R251 to R253) -/

/-- The stream takes the die queues (R251, R255): enabled, or still assembling a frame. -/
def State.streamOn (s : State) : Bool := s.rf (queueB + 0x70) 31 31 == 1 || !s.qport.asm.isEmpty

/-- Whether a source has an entry: 0 to 7 a die queue, 8 the receive queue. -/
def State.srcFull (s : State) (k : Nat) : Bool :=
  if k == 8 then !s.qport.rxq.isEmpty else s.present k && !(s.die k).belv.queue.isEmpty

/-- The next source in the round-robin from a turn, among those that hold entries (R251). -/
def State.nextSrc (s : State) (port : Bool) : Option Nat :=
  let q := s.qport
  let ok (k : Nat) : Bool := s.srcFull k && (k == 8 || !port || !s.streamOn) && (port || k != 8)
  match q.commit with
  | some k => if port && ok k then some k else if ok q.turn && decide (q.taken < s.rf (queueB + 0x60) 5 0) then some q.turn
      else ((List.range 9).map (fun i => (q.turn + 1 + i) % 9)).find? ok
  | none => if ok q.turn && decide (q.taken < s.rf (queueB + 0x60) 5 0) then some q.turn
      else ((List.range 9).map (fun i => (q.turn + 1 + i) % 9)).find? ok

/-- Take the head entry of a source: the entry, its origin word (R252, R256), and when it entered. The turn ends early when the source
empties (R251): no BURST reaches 64. A take by the port ends a peek's commitment, and so does the stream's take of the entry itself
(R253). -/
def State.takeSrc (s : State) (k : Nat) (port : Bool) : State × BitVec 64 × Word × Nat :=
  let q := s.qport
  let last := if k == 8 then decide (q.rxq.length ≤ 1) else decide ((s.die k).belv.queue.length ≤ 1)
  let n := if last then 64 else if k == q.turn then q.taken + 1 else 1
  let q := { q with turn := k, taken := n, commit := if port || q.commit == some k then none else q.commit }
  if k == 8 then
    let h := s.qport.rxq.headD (0, 0)
    ({ s with qport := { q with rxq := s.qport.rxq.tail } }, h.1, mkWord [(0, h.2), (31, 1)], 0)
  else
    let l := (s.die k).belv.queue
    ({ s with qport := q }.modDie k (fun x => { x with belv := { x.belv with queue := l.tail } }), (l.headD (0, 0)).1, 0, (l.headD (0, 0)).2)

/-- The key of a shadow word: the ring copy lies at 2^24 (R50). -/
def shKey (ini : Ini) (a : Nat) : Nat := match ini with | .qspi => a | .ring _ => 2 ^ 24 + a

/-- The page that an address lies on. -/
def pageAt (a : Nat) : Nat := ((locate a).map (·.page)).getD 0

/-- Capture a word into an initiator's shadow and make it fresh; the LO read that captures clears SHADOW_STALE (R49, R50). -/
def State.capture (s : State) (ini : Ini) (a : Nat) (v : Word) : State :=
  { s with shadow := mset 0 s.shadow (shKey ini a) v, fresh := mset false s.fresh (shKey ini a) true }.modPage (pageAt a) (fun p => { p with stale := false })

/-- The words of an entry into the shadow of a QUEUE group whose LO lies at a (R252, R253). -/
def State.captureEntry (s : State) (ini : Ini) (a : Nat) (e : BitVec 64) (src : Word) : State :=
  ((s.capture ini (a + 4) (BitVec.ofNat 32 (e.toNat / 2 ^ 32))).capture ini (a + 8) src).answer (BitVec.ofNat 32 e.toNat)

/-- A read of QUEUE_LO (R252). -/
def State.queuePop (s : State) (ini : Ini) : State :=
  match s.nextSrc true with
  | some k =>
    let r := s.takeSrc k true
    r.1.captureEntry ini (queueB + 0x40) r.2.1 r.2.2.1
  | none => ((s.evt (pageNo queueB) [0]).addSat (queueB + 0x68) 15 0 1).captureEntry ini (queueB + 0x40) 0 0

/-- A read of QUEUE_PEEK_LO (R253). -/
def State.queuePeek (s : State) (ini : Ini) : State :=
  match s.nextSrc true with
  | some k =>
    let r := s.takeSrc k true
    { s with qport := { s.qport with commit := some k } }.captureEntry ini (queueB + 0x50) r.2.1 r.2.2.1
  | none => s.captureEntry ini (queueB + 0x50) 0 0

/-- Whether a command of the queue, which belongs to the same CORE cycle, is a read of QUEUE_LO by the QSPI host (R254). -/
def State.qspiPops (s : State) : Bool :=
  s.pending.any (fun c => match c with
    | .queuePop .qspi => true
    | .read _ a n _ => decide (a ≤ queueB + 0x40) && decide (queueB + 0x40 < a + 4 * n)
    | _ => false)

/-- QUEUE_POP (R252). The QSPI host's read of the same CORE cycle is served first (R254). -/
def execQueuePop (ini : Ini) (s : State) : Host.Outcome State Fault Refusal :=
  done s (
    if ini != .qspi && s.qspiPops then s.putOff (.queuePop ini)
    else s.readAt ini (queueB + 0x40) (fun s => s.queuePop ini))
/-- QUEUE_PEEK (R253). -/
def execQueuePeek (ini : Ini) (s : State) : Host.Outcome State Fault Refusal :=
  done s (s.readAt ini (queueB + 0x50) (fun s => s.queuePeek ini))

/-! ## Streams (R255, R256) -/

/-- Whether a destination can be reached: an address is assigned, the destination is another node, and its pair is joined. -/
def State.reaches (s : State) (dest : Nat) : Bool :=
  s.sysValid && !s.isOwn dest && (match s.outPair dest with
    | some k => (s.pair k).joined || (k == 1 && s.pairMode 1 == 3)
    | none => false)

/-- Send the assembled STREAM frame. -/
def State.streamSend (s : State) : State :=
  let q := s.qport
  if q.asm.isEmpty then s
  else
    let f : Frame := { ftype := .stream, dest := q.asmDest, src := s.sysAddr, len := 8 * q.asm.length, xseq := q.seq,
                       payload := q.asm.flatMap (fun e => le 8 e.toNat) }
    let s := { s with qport := { q with asm := [], seq := (q.seq + 1) % 65536 } }
    let s := (s.addWrap (queueB + 0x74) 31 16 1).setRf (queueB + 0x74) 15 0 q.seq
    (s.sendFrame f).1

/-- Move waiting entries of the die queues into the frame being assembled, and send each full one. fuel bounds the moves. -/
def State.streamPull : Nat → State → State
  | 0, s => s
  | fuel + 1, s =>
    let dest := if s.qport.asm.isEmpty then s.rf (queueB + 0x70) 29 16 else s.qport.asmDest
    if !s.streamOn || !s.reaches dest then s
    else match s.nextSrc false with
      | none => s
      | some k =>
        let r := s.takeSrc k false
        let s := r.1
        let q := s.qport
        let s := { s with qport :=
          { q with asm := q.asm ++ [r.2.1], asmAt := if q.asm.isEmpty then r.2.2.2 else Nat.min q.asmAt r.2.2.2, asmDest := dest } }
        streamPull fuel (if 32 ≤ s.qport.asm.length then s.streamSend else s)

/-- Let the stream take what waits. -/
def State.streamRun (s : State) : State := s.streamPull s.qDies

/-- STREAM_FLUSH_TIMEOUT (R255): the oldest waiting entry has waited FLUSH microseconds since it entered its die's queue. While DEST is
unreachable nothing is sent. -/
def execStreamFlushTimeout (s : State) : Host.Outcome State Fault Refusal :=
  done s (
    let s := if s.serving then s.streamRun else s
    if s.serving && !s.qport.asm.isEmpty && s.reaches s.qport.asmDest && decide (s.qport.asmAt + s.rf (queueB + 0x70) 7 0 * US ≤ s.now) then s.streamSend else s)

/-- A STREAM frame is received (R256). -/
def State.streamRx (s : State) (src seq : Nat) (es : List (BitVec 64)) : State :=
  if s.rf (queueB + 0x60) 31 31 != 1 then s.addSat (queueB + 0x78) 30 16 1
  else
    let q := s.qport
    let s := match q.senders.find? (fun e => e.1 == src) with
      | some e =>
        let gap := (seq + 65536 - e.2 - 1) % 65536
        let s := { s with qport := { q with senders := q.senders.map (fun (e : Nat × Nat) => if e.1 == src then (src, seq) else e) } }
        if gap == 0 then s else (s.addSat (queueB + 0x7C) 15 0 gap).evt (pageNo queueB) [3]
      | none =>
        if q.senders.length < 64 then { s with qport := { q with senders := q.senders ++ [(src, seq)] } }
        else s.setRf (queueB + 0x78) 31 31 1
    s.each es (fun e s =>
      let t := s.qTotal
      if 4096 ≤ s.qport.rxq.length then (s.addSat (queueB + 0x78) 15 0 1).evt (pageNo queueB) [2]
      else { s with qport := { s.qport with rxq := s.qport.rxq ++ [(e, src)] } }.wmark t)

/-- STREAM_RECEIVE (R256). -/
def execStreamReceive (src seq : Nat) (es : List (BitVec 64)) (s : State) : Host.Outcome State Fault Refusal :=
  done s (if s.serving then s.streamRx src seq es else s)

/-- A soft reset of the QUEUE page (R269). -/
def State.queueReset (s : State) : State :=
  let s := s.each (List.range 8) (fun d s => (s.modDie d (fun x => { x with belv := { x.belv with queue := [] } })).setRf (belvB d + 0x414) 31 16 0)
  let s := { s with qport := { s.qport with rxq := [], commit := none } }
  ((s.setReg (queueB + 0x68) 0).setReg (queueB + 0x78) 0).setReg (queueB + 0x7C) 0

/-! ## Metering (R242 to R261) -/

/-- Whether a modulator stands in or serves as a spare (R247, R388). -/
def subMod (m : Nat) : Bool := m == 33 || m == 34 || m == 35 || m == 37

/-- The flags registers OVR_IV, OVR_X, SETL_IV, SETL_X after a result (R231); bit counts class 0 from 0 and class 1 from 16,
32 being VBUS_A. -/
def State.flagRegs (s : State) (d bit : Nat) (f : RFlags) : State :=
  let off := if bit == 32 then 4 else 0
  let b := bit % 32
  (s.setRf (belvB d + 0x110 + off) b b (b2n f.ovr)).setRf (belvB d + 0x118 + off) b b (b2n f.settling)

/-- One result of a slot's current or VOUT channel: flags, queue and latest value (R230, R249, R257). -/
def State.meterCh (s : State) (d i : Nat) (volt : Bool) (x : Samp) (deliver : Bool) : State :=
  let n := slotOf d i
  let y := s.slot n
  let pin := if volt then 1 else 0
  let ch := if volt then chV i else chI i
  let c := s.resCode d ch x
  let test := s.inTest n pin
  let k := if volt then y.meter.vSet else y.meter.iSet
  let was := if volt then y.meter.vOvr else y.meter.iOvr
  let f : RFlags := { ovr := c.2, isOpen := s.openFlag n pin, sub := subMod ((s.die d).belv.modOf ch),
                      settling := s.frames.settle != 0 || y.meter.fresh != 0 || (k != 0 && !c.2) || test }
  let k' := if c.2 || test then 4 else k - 1
  let s := s.modSlot n (fun y => { y with meter := if volt then { y.meter with vSet := k', vOvr := c.2 } else { y.meter with iSet := k', iOvr := c.2 } })
  let s := if c.2 && !was then s.evtBelv d [7] else s
  let s := s.flagRegs d ch f
  let s := s.setReg (slotB n + (if volt then 0x84 else 0x80)) (f.word (ofSigned 24 c.1))
  if deliver && s.rf (belvB d + 0x408) ch ch == 1 then s.pushQueue d (s.entry d (if volt then 1 else 0) i s.frames.num f c.1) else s

/-- The power of R258 in mW, unrounded. -/
def powerMw (i v : Int) (shunt : Nat) : Rat := (i : Rat) * v * 10240000000 / (shunt * 2 ^ 47 : Nat)

/-- The companions of I_NOW and the energy of a frame with both results (R257 to R260). -/
def State.meterPower (s : State) (n : Nat) : State :=
  let iw := s.reg (slotB n + 0x80)
  let vw := s.reg (slotB n + 0x84)
  let i := toSigned 24 (fld iw 23 0)
  let v : Int := fld vw 23 0
  let sh := s.sf n 0x104 23 0
  let p := powerMw i v sh
  let ma := roundNear 13 ((i : Rat) * 100000000 / (sh * 2 ^ 23 : Nat))
  let mv := roundNear 14 ((v : Rat) * 25 / 4096)
  let w (x : Int) : Word := BitVec.ofNat 32 (ofSigned 32 x)
  let s := (((s.setReg (slotB n + 0x88) (w ma)).setReg (slotB n + 0x8C) (w mv)).setReg (slotB n + 0x90) (w (roundHalfAway p))).setReg
    (slotB n + 0x94) (BitVec.ofNat 32 s.frames.num)
  let osr := 256 * 2 ^ s.frames.osr
  let e := openRound 10 (p * 1000 * (osr : Nat) * 2 ^ 32 / 20000000)
  let flagged := fld iw 30 29 != 0 || fld vw 30 29 != 0 || bit iw 27 || bit vw 27
  s.modSlot n (fun x => { x with meter :=
    { x.meter with
      energy := clampI (-(2 ^ 95)) (2 ^ 95 - 1) (x.meter.energy + e)
      frames := (x.meter.frames + 1) % 2 ^ 64
      flagged := if flagged then sat sat32 (x.meter.flagged + 1) else x.meter.flagged
      accAt := some s.now, accE := e, accF := flagged
      fresh := x.meter.fresh - 1 } })

/-- The result of VBUS_A (R249, R259). -/
def State.meterBus (s : State) (d : Nat) (x : Samp) (deliver : Bool) : State :=
  let b := (s.die d).belv
  let c := s.resCode d chBus x
  let f : RFlags := { ovr := c.2, isOpen := false, sub := subMod (b.modOf chBus), settling := s.frames.settle != 0 || b.mFresh != 0 || (b.mSet != 0 && !c.2) }
  let s := if c.2 && !b.mOvr then s.evtBelv d [7] else s
  let s := s.modDie d (fun y => { y with belv := { y.belv with mOvr := c.2, mSet := if c.2 then 4 else y.belv.mSet - 1, mFresh := y.belv.mFresh - 1 } })
  let s := (s.flagRegs d 32 f).setReg (belvB d + 0x420) (f.word c.1.toNat)
  if deliver && s.rf (belvB d + 0x40C) 0 0 == 1 then s.pushQueue d (s.entry d 1 16 s.frames.num f c.1) else s

/-- The results of one die for the frame that ends (R249): class 0, then class 1, then VBUS_A. -/
def State.dieResults (s : State) (r : DieSamp) (deliver : Bool) : State :=
  let d := r.die
  if !s.runs d || (s.die d).belv.fullAt.isSome then s
  else
    let on := (inOrder r).filter (fun x => (s.slot (slotOf d x.slot)).st != .off && !s.frames.idle)
    let s := s.each on (fun x s => s.meterCh d x.slot false x.i deliver)
    let s := s.each on (fun x s => s.meterCh d x.slot true x.v deliver)
    let s := s.meterBus d r.bus deliver
    s.each on (fun x s => s.meterPower (slotOf d x.slot))

/-- A write of 1 to ACC_CTRL.CLEAR (R261): a frame accumulated in the same CORE cycle is applied after the clear. -/
def State.energyZero (s : State) (n : Nat) : State :=
  s.modSlot n (fun x =>
    let again := x.meter.accAt == some s.now
    { x with meter :=
      { x.meter with
        energy := if again then clampI (-(2 ^ 95)) (2 ^ 95 - 1) x.meter.accE else 0
        frames := b2n again
        flagged := b2n (again && x.meter.accF) } })

/-- ENERGY_CLEAR (R261). -/
def execEnergyClear (ini : Ini) (n : Nat) (s : State) : Host.Outcome State Fault Refusal :=
  done s (s.write ini (slotB n + 0xB4) false (fun s => s.energyZero n))

end Sys2Proof.Machine
end

