-- ==== Sys2Proof/Machine/Modulators.lean ====
section
/-! DEFINITION. Modulators and references: swaps, rolling and full calibration, adoption, the reference switch (09_results_calibration.md R263 to R266, 13_nursery.md R388, R389). -/
namespace Sys2Proof.Machine

def State.modBelv (s : State) (d : Nat) (g : Belv → Belv) : State := s.modDie d (fun x => { x with belv := g x.belv })
def State.modMod (s : State) (d m : Nat) (g : Modl → Modl) : State :=
  s.modBelv d (fun b => { b with mods := b.mods.set m (g (b.modl m)) })
def State.modState (s : State) (d m : Nat) : Nat := ((s.die d).belv.modl m).state
/-- The channel index that a modulator serves; 33 the survey, 34 for none. -/
def State.modIdx (s : State) (d m : Nat) : Nat := ((s.die d).belv.map.findIdx? (· == m)).getD 34
/-- The output period in force, in CORE cycles (R211). -/
def State.period (s : State) : Nat := 2560 * 2 ^ s.frames.osr
/-- The lowest-numbered free spare for a channel index (R388). -/
def State.freeSpare (s : State) (d idx : Nat) : Option Nat :=
  (if idx == 33 then [37] else [33, 34, 35]).find? (fun m => s.modState d m == 0)
def modKind (idx : Nat) : Nat := if idx == 33 then 3 else 2

/-! ## Swaps (R388) -/

/-- Bring a spare in for a modulator: parallel run, or wait for a running step or swap, or EXHAUSTED; a spare that serves nothing is
only FAILED. -/
def State.startSwap (s : State) (d m : Nat) : State :=
  let idx := s.modIdx d m
  let b := (s.die d).belv
  let busy := b.swap.isSome || (match b.roll with | some r => r.phase != 0 | none => false)
  if busy then s.modBelv d (fun b => { b with swapQ := if b.swapQ.contains m then b.swapQ else b.swapQ ++ [m] })
  else if 34 ≤ idx then ((s.modMod d m (fun x => { x with state := 3 })).evtBelv d [17]).gazRebuild
  else match s.freeSpare d idx with
    | none =>
      let s := (s.modMod d m (fun x => { x with state := 3 })).evtBelv d [17]
      (s.exhausted (modKind idx) d m 0 m).gazRebuild
    | some sp =>
      (s.modMod d sp (fun x => { x with state := 2 })).modBelv d (fun b => { b with swap := some { idx := idx, from_ := m, spare := sp, at_ := s.now } })

/-- The spare takes the channel: SERVING, the other FAILED, and a use of a spare. -/
def State.takeOver (s : State) (d idx m sp : Nat) (diff : Int) : State :=
  let s := s.modBelv d (fun b => { b with map := b.map.set idx sp })
  let s := (s.modMod d m (fun x => { x with state := 3 })).modMod d sp (fun x => { x with state := 1 })
  (s.evtBelv d [16, 17]).swap (modKind idx) d m 0 m sp diff

/-- A rolling step ends: the next round starts while ROLL is 1 (R265, R266). -/
def State.endStep (s : State) (d : Nat) : State :=
  match (s.die d).belv.roll with
  | none => s
  | some r =>
    if !r.left.isEmpty then s.modBelv d (fun b => { b with roll := some { once := r.once, left := r.left } })
    else (s.modBelv d (fun b => { b with roll := none, rounds := (b.rounds + 1) % 65536 })).evtBelv d [11]

/-- A modulator that serves no channel becomes FAILED: where it ran in parallel as the spare of a swap, the next free spare is
tried; where it ran in parallel as the stand-in of a rolling step, the step ends (R388). -/
def State.failSpare (s : State) (d m : Nat) : State :=
  let b := (s.die d).belv
  let s := ((s.modMod d m (fun x => { x with state := 3 })).evtBelv d [17]).gazRebuild
  let s := match b.swap with
    | some r => if r.spare == m then (s.modBelv d (fun b => { b with swap := none })).startSwap d r.from_ else s
    | none => s
  match b.roll with
  | some r => if r.phase == 1 && r.spare == some m then s.endStep d else s
  | none => s

/-- A modulator meets the failure criterion (R388). -/
def State.reportMod (s : State) (d m : Nat) : State :=
  let idx := s.modIdx d m
  let st := s.modState d m
  if st == 3 || decide (37 < m) then s
  else if 34 ≤ idx then
    match (s.die d).belv.roll with
    | some r =>
      if r.mod == m && r.phase == 2 && r.spare.isSome then
        -- its stand-in serves the channel: step 3 of a rolling step
        if s.approve (modKind r.idx) then s.nursReq (modKind r.idx) d m 0
        else
          let k := s.free
          let s := { s with free := k + 1 }
          let s := s.takeOver d r.idx m (r.spare.getD 0) (toSigned 32 (Config.freeWord k))
          s.endStep d
      else if r.mod == m && r.phase == 4 then
        -- the step is about to give the channel back: the swap waits for its end
        if s.approve (modKind r.idx) then s.nursReq (modKind r.idx) d m 0 else s.startSwap d m
      else s.failSpare d m
    | none => s.failSpare d m
  else if s.approve (modKind idx) then s.nursReq (modKind idx) d m 0
  else s.startSwap d m

/-- MOD_SWAP_PARALLEL_END (R388): the parallel run of 64 output periods, or one survey step, ends; ok says that the spare
showed no overload of its own, diff is the mean difference in codes. -/
def execModSwapParallelEnd (d : Nat) (ok : Bool) (diff : Int) (s : State) : Host.Outcome State Fault Refusal :=
  done s (
    match (s.die d).belv.swap with
    | none => s
    | some r =>
      let due := r.at_ + (if r.idx == 33 then 51600 else 64 * s.period)
      if !s.runs d || r.handing || !decide (due ≤ s.now) then s
      else if ok then s.modBelv d (fun b => { b with swap := some { r with handing := true, diff := diff } })
      else s.failSpare d r.spare)

/-! ## Self-calibration (R263) -/

/-- A measured pair of a modulator: adopted at the next frame boundary or not, its drift, and the criterion of R388. -/
def State.calibrate (s : State) (d m : Nat) (zs fs : Int) : State :=
  let x := (s.die d).belv.modl m
  let ok := decide (zs.natAbs ≤ 65536 * 256) && decide ((fs - zs - 6291456 * 256).natAbs ≤ 125829 * 256)
  let ppm : Rat := ((fs - zs - (x.fs - x.zs) : Int) : Rat) * 1000000 / (x.fs - x.zs : Int)
  let drift := openRound 11 ppm
  let far := decide ((s.rf (nursB + 0x48) 15 0 : Rat) < (if ppm < 0 then -ppm else ppm))
  let s := if ok then
      (s.modMod d m (fun x =>
        { x with
          selfCal := true, drift := clampI (-32768) 32767 drift, driftSum := sat sat32 (x.driftSum + drift.natAbs)
          fails := if far then sat 15 (x.fails + 1) else 0 })).modBelv d (fun b => { b with adopt := b.adopt.filter (fun a => a.1 != m) ++ [(m, zs, fs)] })
    else (s.modMod d m (fun x => { x with fails := sat 15 (x.fails + 1) })).evtBelv d [8]
  if 2 ≤ ((s.die d).belv.modl m).fails then s.reportMod d m else s

/-- The adopted pairs come into force at a frame boundary (R245). -/
def State.adoptAll (s : State) (d : Nat) : State :=
  if (s.die d).belv.adopt.isEmpty then s
  else
    let s := s.each (s.die d).belv.adopt (fun a s => s.modMod d a.1 (fun x => { x with zs := a.2.1, fs := a.2.2 }))
    s.modBelv d (fun b => { b with adopt := [] })

/-! ## Rolling calibration (R265, R266) -/

/-- The modulators of a round, in order; those serving dedicated inputs only where a spare is free. -/
def State.rollOrder (s : State) (d : Nat) : List Nat :=
  let b := (s.die d).belv
  let serves := (List.range 38).filter (fun m => decide (s.modIdx d m < 33) && s.modState d m == 1)
  let surv := b.map.getD 33 36
  (if (s.freeSpare d 0).isSome then serves else []) ++ [33, 34, 35].filter (fun m => s.modState d m == 0) ++
    (if s.modState d surv == 1 then [surv] else []) ++ [36, 37].filter (fun m => s.modState d m == 0)

/-- Begin a round. -/
def State.newRound (s : State) (d : Nat) (once : Bool) : State :=
  let l := s.rollOrder d
  let s := if (s.freeSpare d 0).isSome then s else s.evtBelv d [10]
  s.modBelv d (fun b => { b with roll := some { once := once, left := l } })

/-- A write of 1 to ROLL_ONCE (R266); ignored while a round runs. -/
def State.rollOnce (s : State) (d : Nat) : State := if (s.die d).belv.roll.isSome then s else s.newRound d true

/-- ROLL_ONCE (R266). -/
def execRollOnce (ini : Ini) (d : Nat) (s : State) : Host.Outcome State Fault Refusal :=
  done s (s.write ini (belvB d + 0x444) false (fun s => s.rollOnce d))

/-- ROLLING_STEP_START (R265, R266): the next modulator of the round, or of a new round while ROLL is 1. -/
def execRollingStepStart (d : Nat) (s : State) : Host.Outcome State Fault Refusal :=
  done s (
    let cont := s.rf (belvB d + 0x440) 1 1 == 1
    let b := (s.die d).belv
    if !s.runs d || b.swap.isSome || !b.swapQ.isEmpty || b.fullAt.isSome then s
    else
      let s := if b.roll.isNone && cont then s.newRound d false else s
      match (s.die d).belv.roll with
      | none => s
      | some r =>
        if r.phase != 0 then s
        else if !r.once && !cont then s.modBelv d (fun b => { b with roll := none })
        else match r.left with
          | [] => s.endStep d
          | m :: rest =>
            let idx := s.modIdx d m
            let r := { r with left := rest }
            if s.modState d m == 0 then s.modBelv d (fun b => { b with roll := some { r with mod := m, idx := 34, spare := none, phase := 2, at_ := s.now } })
            else if s.modState d m != 1 then (s.modBelv d (fun b => { b with roll := some r })).endStep d
            else match s.freeSpare d idx with
              | none => ((s.evtBelv d [10]).modBelv d (fun b => { b with roll := some r })).endStep d
              | some sp =>
                (s.modMod d sp (fun x => { x with state := 2 })).modBelv d (fun b =>
                  { b with roll := some { r with mod := m, idx := idx, spare := some sp, phase := 1, at_ := s.now } }))

/-- ROLLING_PARALLEL_END (R265): 10 ms before the stand-in takes the channel, or 2 ms or five output periods before the
modulator takes it back; the hand-over waits for its boundary. -/
def execRollingParallelEnd (d : Nat) (s : State) : Host.Outcome State Fault Refusal :=
  done s (
    match (s.die d).belv.roll with
    | none => s
    | some r =>
      let wait := if r.phase == 1 then 10 * MS else Nat.max (2 * MS) (5 * s.period)
      if s.runs d && (r.phase == 1 || r.phase == 4) && !r.handing && decide (r.at_ + wait ≤ s.now) then
        s.modBelv d (fun b => { b with roll := some { r with handing := true } })
      else s)

/-- SELF_CAL_DONE (R263, R265): the two phases of 40 ms have run. -/
def execSelfCalDone (d : Nat) (zs fs : Int) (s : State) : Host.Outcome State Fault Refusal :=
  done s (
    match (s.die d).belv.roll with
    | none => s
    | some r =>
      if !s.runs d || r.phase != 2 || !decide (r.at_ + 80 * MS ≤ s.now) then s
      else
        let s := s.calibrate d r.mod zs fs
        match (s.die d).belv.roll with
        | none => s
        | some q =>
          if q.mod != r.mod || q.phase != 2 then s
          else if q.spare.isNone then s.endStep d
          else s.modBelv d (fun b => { b with roll := some { q with phase := 4, at_ := s.now } }))

/-- The hand-overs that wait for a boundary: of the dedicated channels at a frame boundary, of the survey at a step
boundary (R265, R388). -/
def State.handOver (s : State) (d : Nat) (survey : Bool) : State :=
  let s := match (s.die d).belv.swap with
    | some r => if r.handing && (r.idx == 33) == survey then
          (s.modBelv d (fun b => { b with swap := none })).takeOver d r.idx r.from_ r.spare r.diff
        else s
    | none => s
  match (s.die d).belv.roll with
  | some r =>
    if !r.handing || (r.idx == 33) != survey then s
    else if r.phase == 1 then
      s.modBelv d (fun b => { b with map := b.map.set r.idx (r.spare.getD 0), roll := some { r with phase := 2, at_ := s.now, handing := false } })
    else
      let s := s.modMod d (r.spare.getD 0) (fun x => { x with state := if x.state == 3 then 3 else 0 })
      (s.modBelv d (fun b => { b with map := b.map.set r.idx r.mod, roll := some { r with handing := false } })).endStep d
  | none => s

/-- Start the swap that waits, once no step and no other swap runs (R388). -/
def State.nextSwap (s : State) (d : Nat) : State :=
  let b := (s.die d).belv
  let busy := b.swap.isSome || (match b.roll with | some r => r.phase != 0 | none => false)
  match b.swapQ with
  | m :: r => if busy then s else (s.modBelv d (fun b => { b with swapQ := r })).startSwap d m
  | [] => s

/-! ## Full calibration (R264) -/

/-- A write of 1 to CAL_CTRL.FULL. A rolling step that runs is given up (notes/assumptions/24.md). -/
def State.fullCal (s : State) (d : Nat) : State :=
  if (s.die d).belv.fullAt.isSome then s
  else if (slotsOf d).any (fun n => let x := (s.slot n).st; !(x == .off || x == .empty || x == .cooldown || x == .latched || x == .lockout)) then
    s.reject (pageNo (belvB d))
  else
    let s := match (s.die d).belv.roll with
      | some r =>
        let s := if r.phase == 2 || r.phase == 4 then s.modBelv d (fun b => { b with map := if r.spare.isSome then b.map.set r.idx r.mod else b.map }) else s
        match r.spare with
        | some sp => s.modMod d sp (fun x => { x with state := if x.state == 3 then 3 else 0 })
        | none => s
      | none => s
    s.modBelv d (fun b => { b with roll := none, fullAt := some s.now })

/-- FULL_CALIBRATION (R264). -/
def execFullCalibration (ini : Ini) (d : Nat) (s : State) : Host.Outcome State Fault Refusal :=
  done s (s.write ini (belvB d + 0x444) false (fun s => s.fullCal d))

/-- The modulators of a die start: two control samples and four results carry SETTLING (R215), and the latest values read 0 until the
first result (R259). -/
def State.startMods (s : State) (d : Nat) : State :=
  let s := s.modBelv d (fun b => { b with busN := 0, busSet := 0, mSet := 0, mFresh := 4, mOvr := false })
  let s := ((slotsOf d).foldl (fun s n => s.valuesZero n) s).setReg (belvB d + 0x420) 0
  let s := s.each (List.range 33) (fun i s => s.setRf (belvB d + 0x300 + 4 * i) 31 31 0)
  s.each ((slotsOf d).filter (fun n => (s.slot n).st != .off)) (fun n s => s.modSlot n (fun x =>
    { x with
      ctl := { x.ctl with started := 0, startAt := s.now, hist := [], iSet := 0, vSet := 0 }
      meter := { x.meter with fresh := 4, iSet := 0, vSet := 0, iOvr := false, vOvr := false } }))

/-- FULL_CALIBRATION_DONE (R264): 106 ms have passed; pairs holds Zs and Fs of modulators 0 to 37. -/
def execFullCalibrationDone (d : Nat) (pairs : List (Int × Int)) (s : State) : Host.Outcome State Fault Refusal :=
  done s (
    match (s.die d).belv.fullAt with
    | none => s
    | some t =>
      if !s.runs d || !decide (t + 106 * MS ≤ s.now) then s
      else
        let s := s.each ((List.range 38).filter (fun m => s.modState d m != 3)) (fun m s =>
          let p := pairs.getD m (((s.die d).belv.modl m).zs, ((s.die d).belv.modl m).fs)
          s.calibrate d m p.1 p.2)
        let s := (s.modBelv d (fun b => { b with fullAt := none })).evtBelv d [11]
        s.startMods d)

/-! ## References (R389) -/

/-- The cross-check at the end of a scan, and the arbitration after three failed scans; arbA and arbB are the readings of
channel 31 against each reference. -/
def State.refCheck (s : State) (d arbA arbB : Nat) : State :=
  let b := (s.die d).belv
  let p := (s.die d).pow
  let diff := ((b.refDiff : Int) - 8388608).natAbs
  let bad := b.refOvr || decide (s.rf (nursB + 0x4C) 7 0 * 65536 < diff)
  let n := if bad then p.refScans + 1 else 0
  let s := s.modDie d (fun x => { x with pow := { x.pow with refScans := n } })
  if n == 0 || n % 3 != 0 || p.refFailed != 0 || p.refSwap then s
  else
    let fin := s.ident.refFinal.getD d (8388608, 8388608)
    let dA := ((arbA : Int) - fin.1).natAbs
    let dB := ((arbB : Int) - fin.2).natAbs
    let s := s.modDie d (fun x => { x with pow := { x.pow with refArb := (arbA, arbB) } })
    let sus : Option Nat := if dB < dA && decide (2 * dB ≤ dA) then some 0 else if dA < dB && decide (2 * dA ≤ dB) then some 1 else none
    match sus with
    | none => s.evtBelv d [19]
    | some r =>
      if r != p.refUse then (s.modDie d (fun x => { x with pow := { x.pow with refFailed := setNbit x.pow.refFailed r true } })).gazRebuild
      else if s.approve 4 then s.nursReq 4 d r 0
      else s.modDie d (fun x => { x with pow := { x.pow with refSwap := true } })

/-- The switch to the other reference at a frame boundary (R389). -/
def State.refSwitch (s : State) (d : Nat) : State :=
  let p := (s.die d).pow
  if !p.refSwap then s
  else
    let old := p.refUse
    let new := 1 - old
    let ro : Nat := if old == 0 then p.refArb.1 else p.refArb.2
    let rn : Nat := if old == 0 then p.refArb.2 else p.refArb.1
    let s := s.modDie d (fun x => { x with
      pow := { x.pow with refUse := new, refFailed := setNbit x.pow.refFailed old true, refSwap := false }
      belv := { x.belv with mods := x.belv.mods.map (fun m => { m with fs := if ro == 0 then m.fs else m.zs + openRound 8 (((m.fs - m.zs : Int) : Rat) * rn / ro) }) } })
    ((s.evtBelv d [18]).swap 4 d old 0 old new 0).rollOnce d

end Sys2Proof.Machine
end

