-- ==== Sys2Proof/Machine/Frames.lean ====
section
/-! DEFINITION. Frames, triggers and the open-wire test (08_belvedere_conversion.md R216 to R225, R232 to R236). -/
namespace Sys2Proof.Machine

/-! ## The open-wire test (R232 to R236) -/

/-- Whether a pin of a slot is eligible: 0 SENSE, 1 VOUT, 2 TFET (R232). -/
def State.eligible (s : State) (n pin : Nat) : Bool :=
  let st := (s.slot n).st
  match pin with
  | 0 => !(st == .off || st == .seated || st == .charging)
  | 1 => st == .on
  | _ => st != .off

/-- Start a test on a die: slots and pins are masks; OPEN_SKIP shows the slots skipped for a pin. -/
def State.openStart (s : State) (d slots pins current : Nat) (auto : Bool) : State :=
  let pick (pin : Nat) : List Nat := if nbit pins pin then (maskList slots 16).filter (fun i => s.eligible (slotOf d i) pin) else []
  let skip := (maskList slots 16).filter (fun i => (List.range 3).any (fun pin => nbit pins pin && !s.eligible (slotOf d i) pin))
  let r : OpenRun := { auto := auto, sense := maskOf (pick 0), vout := maskOf (pick 1), tfet := maskOf (pick 2), skip := maskOf skip, current := current, at_ := s.now }
  (s.modBelv d (fun b => { b with openRun := some r })).setReg (belvB d + 0x138) (BitVec.ofNat 32 r.skip)

/-- A write of OPEN_CTRL (R232, R236, R239): the fields, and START. A request waits for an automatic test that runs. -/
def State.openWrite (s : State) (d : Nat) (v : Word) : State :=
  let a := belvB d + 0x130
  let b := (s.die d).belv
  let start := bit v 8
  let refuse := match b.openRun with
    | some r => start && (!r.auto || b.openReq.isSome)
    | none => false
  if refuse then s.reject (pageNo (belvB d))
  else
    let curOk := decide (fld v 5 4 ≤ 2)
    let s := if curOk then s else s.reject (pageNo (belvB d))
    let s := s.setReg a (mkWord [(16, fld v 31 16), (4, if curOk then fld v 5 4 else s.rf a 5 4), (0, fld v 2 0)])
    if !start then s
    else if b.openRun.isSome then
      s.modBelv d (fun b => { b with openReq := some { auto := false, sense := fld v 31 16, vout := fld v 2 0, tfet := 0, skip := 0, current := s.rf a 5 4 } })
    else s.openStart d (fld v 31 16) (fld v 2 0) (s.rf a 5 4) false

/-- OPEN_WIRE_START (R232). -/
def execOpenWireStart (ini : Ini) (d : Nat) (v : Word) (s : State) : Host.Outcome State Fault Refusal :=
  done s (s.write ini (belvB d + 0x130) false (fun s => s.openWrite d v))

/-- The values of the SENSE and VOUT channels of a test at the end of a test frame (R233): the mean of the last 16 control samples, or
of all where the frame has fewer (log entry 55). begun: when the frame began. -/
def State.openMeans (s : State) (d : Nat) (r : OpenRun) (begun : Nat) : List OpenVal :=
  let k := Nat.min 16 ((s.now - s.pkg.epoch) / 640 - (begun - s.pkg.epoch) / 640)
  let one (pin i : Nat) : Option OpenVal :=
    let x := (s.slot (slotOf d i)).ctl
    let l := (x.hist.take k).map (fun h => if pin == 0 then h.1 else (h.2.1 : Int))
    if l.isEmpty then none
    else some (i, pin, (l.foldl (· + ·) 0 : Rat) / (l.length : Nat), decide ((if pin == 0 then x.iClean else x.vClean) < l.length))
  (maskList r.sense 16).filterMap (one 0) ++ (maskList r.vout 16).filterMap (one 1)

/-- The verdict on one channel (R234), from its value with the current sourced. -/
def State.openVerdict (s : State) (d : Nat) (r : OpenRun) (m : OpenVal) : State :=
  let i := m.1
  let pin := m.2.1
  match r.snk.find? (fun k => k.1 == i && k.2.1 == pin) with
  | none => s
  | some z =>
  if (s.slot (slotOf d i)).st == .off then s
  else
    let c := belvB d + 0x134
    let diff : Rat := m.2.2.1 - z.2.2.1
    let mag := if diff < 0 then -diff else diff
    -- in units of the threshold: 0.1 mV, 0.1 V, 10 mV
    let size : Rat := if pin == 0 then mag * 1000 / 32768 else if pin == 1 then mag / 64 else mag * 250 / 16777216
    let th : Nat := if pin == 0 then s.rf c 7 0 else if pin == 1 then s.rf c 15 8 else s.rf c 23 16
    let isOpen := m.2.2.2 || z.2.2.2 || decide ((th : Rat) < size)
    let reg := belvB d + (if pin == 2 then 0x124 else 0x120)
    let b := if pin == 1 then 16 + i else i
    let s := s.setRf reg b b (b2n isOpen)
    if isOpen then (s.evtBelv d [6]).log d 12 d 0x0104 ([i, pin, r.current, 0] ++ leInt 4 (openRound 12 diff)) else s

/-- Whether a test has all its values: both test frames have ended, and the survey has stepped twice over every tested thermistor of
a slot that has not gone to OFF. -/
def State.openEnded (s : State) (d : Nat) (r : OpenRun) : Bool :=
  (decide (3 ≤ r.frame) || (r.sense == 0 && r.vout == 0)) &&
    (maskList r.tfet 16).all (fun i => nbit r.tDone i || (s.slot (slotOf d i)).st == .off)

/-- OPEN_WIRE_DONE (R233, R234): the test has ended. -/
def execOpenWireDone (d : Nat) (s : State) : Host.Outcome State Fault Refusal :=
  done s (
    match (s.die d).belv.openRun with
    | none => s
    | some r =>
      if !s.runs d || !s.openEnded d r then s
      else
        let s := s.each r.src (fun m s => s.openVerdict d r m)
        let q := (s.die d).belv.openReq
        let s := (s.modBelv d (fun b => { b with openRun := none, openReq := none })).evtBelv d [5]
        let s := match q with
          | some q => s.openStart d q.sense q.vout q.current false
          | none => s
        s.thEdges (slotsOf d))

/-- The tests of a die at the start of a frame: the values of the test frame that ends, the next test frame, and in SERVICE the
automatic test (R233, R236). -/
def State.openFrame (s : State) (d : Nat) : State :=
  let b := (s.die d).belv
  let s := match b.openRun with
    | some r =>
      let vals := s.openMeans d r r.at_
      let r : OpenRun :=
        { r with
          frame := sat 3 (r.frame + 1), at_ := s.now
          src := if r.frame == 1 then r.src ++ vals else r.src
          snk := if r.frame == 2 then r.snk ++ vals else r.snk }
      s.modBelv d (fun b => { b with openRun := some r })
    | none => s
  if s.rf (modeB + 0x48) 3 3 == 1 then
    if 255 ≤ b.autoCnt then
      if b.openRun.isSome then s
      else (s.modBelv d (fun b => { b with autoCnt := 0, autoSlot := (b.autoSlot + 1) % 16 })).openStart d (2 ^ b.autoSlot) 7 (s.rf (belvB d + 0x134) 25 24) true
    else s.modBelv d (fun b => { b with autoCnt := b.autoCnt + 1 })
  else if b.autoCnt == 0 then s else s.modBelv d (fun b => { b with autoCnt := 0 })

/-! ## The frame-time table (R225, R240) -/

def ftA (d num : Nat) : Nat := belvB d + 0x1000 + 16 * num

/-- Write the entry of the frame that begins now on every serving die. -/
def State.ftWrite (s : State) (num src osr : Nat) (sel reph trim : Bool) : State :=
  let c := s.mer.count
  let info := mkWord [(0, secOf c / 2 ^ 32 % 65536), (20, osr), (25, b2n trim), (26, b2n reph), (27, b2n sel), (28, src), (31, 1)]
  s.each (s.presentDies.filter s.runs) (fun d s =>
    ((s.setReg (ftA d num) (BitVec.ofNat 32 (nsOf c))).setReg (ftA d num + 4) (BitVec.ofNat 32 (secOf c))).setReg (ftA d num + 8) info)

/-- Change the FT_INFO word of the running frame on every serving die. -/
def State.ftMark (s : State) (g : Word → Word) : State :=
  s.each (s.presentDies.filter s.runs) (fun d s => s.setReg (ftA d s.frames.num + 8) (g (s.reg (ftA d s.frames.num + 8))))

/-! ## Boundaries (R214 to R217, R245) -/

/-- What each die takes up at a frame boundary: the engine settings, user factors, adopted pairs, hand-overs, the
reference, waiting swaps, test frames. -/
def State.dieBoundary (s : State) (d : Nat) : State :=
  let u := (s.regs.filter (fun e => decide (belvB d + 0x500 ≤ e.1) && decide (e.1 < belvB d + 0x708))).map (fun e => (e.1 - belvB d, e.2))
  let s := s.modDie d (fun x => { x with belv := { x.belv with userNow := u }, eng := { x.eng with cfgNow := s.reg (contB d + 0x40) } })
  ((((s.adoptAll d).handOver d false).refSwitch d).nextSwap d).openFrame d

/-- A frame begins; next is the boundary after it. -/
def State.beginFrame (s : State) (src base : Nat) (reph trim sel : Bool) : State :=
  let s := s.applyMode
  let fc := s.reg (belvB 0 + 0x40)
  let f := s.frames
  let osr := fld fc 6 4
  let idle := bit fc 8
  let num := if f.started then f.load.getD ((f.num + 1) % 256) else f.load.getD f.num
  let picked := sel || f.selNext
  let source := if src == 0 && f.snapNext then 3 else src
  let s := { s with frames :=
    { f with
      num := num, started := true, startAt := s.now, nextAt := base + 2560 * 2 ^ osr, osr := osr, idle := idle
      settle := if reph || osr != f.osr || src == 4 then 4 else f.settle
      selNow := picked, selNext := false, snapNow := f.snapNext, snapNext := false
      selOnly := bit fc 1, bSrc := 0, bTrim := false, load := none } }
  let s := if f.idle && !idle then
      s.each (s.presentSlots.filter (fun n => (s.slot n).st != .off)) (fun n s => s.modSlot n (fun x => { x with meter := { x.meter with fresh := 4 } }))
    else s
  let s := s.ftWrite num source osr picked reph trim
  s.each (s.presentDies.filter s.runs) (fun d s => s.dieBoundary d)

/-- The results of the frame that ends (R216, R223). -/
def State.endFrame (s : State) (rs : List DieSamp) : State :=
  let f := s.frames
  if !f.started then s
  else
    let deliver := !f.selOnly || f.selNow
    let s := s.each rs (fun r s => s.dieResults r deliver)
    let s := { s with frames := { s.frames with settle := s.frames.settle - 1 } }
    let s := if f.snapNow then s.evtBelv s.pkg.lead [1] else s
    s.streamRun

/-- FRAME_BOUNDARY (R216): the boundary of the running sequence, or one that a trigger moved here. -/
def execFrameBoundary (rs : List DieSamp) (s : State) : Host.Outcome State Fault Refusal :=
  done s (
    let f := s.frames
    if !s.inRun || !f.run || !decide (f.nextAt ≤ s.now) then s
    else (s.endFrame rs).beginFrame (if f.started then f.bSrc else 4) f.nextAt false f.bTrim (f.bSrc != 0))

/-! ## Triggers (R219 to R222) -/

def trigB : Nat := belvB 0 + 0x40
/-- TRIG_CFG, the delays, TRIG_PW, TRIG_CNT, TRIG_WIDTH and PHASE_STAT, of the package (R224). -/
def State.trigCfg (s : State) : Word := s.reg (trigB + 4)
def State.accepted (s : State) : State := s.addWrap (trigB + 0x20) 31 16 1

/-- A trigger is recognised: its delay starts, or the source is still pending (R219). -/
def State.trigger (s : State) (src : TrigSrc) : State :=
  let f := s.frames
  let pend := match src with | .meridian => f.pendMer | .trig => f.pendTrig | .software => f.pendSw
  if pend.isSome then s.evtBelv s.pkg.lead [3]
  else
    let s := s.accepted
    match src with
    | .meridian => { s with frames := { s.frames with pendMer := some (s.now + s.rf (trigB + 8) 15 0) } }
    | .trig => { s with frames := { s.frames with pendTrig := some (s.now + s.rf (trigB + 12) 15 0) } }
    | .software => { s with frames := { s.frames with pendSw := some (s.now + s.rf (trigB + 16) 15 0) } }

/-- A timer of Meridian reaches its time: the MERIDIAN source, where it selects that timer (R219). -/
def State.merTrigger (s : State) (n : Nat) : State :=
  if s.inRun && bit s.trigCfg 0 && fld s.trigCfg 11 8 == n then s.trigger .meridian else s

/-- TRIG_PULSE (R220): the trailing edge of a pulse on TRIG; low says that the pulse was low. -/
def execTrigPulse (low : Bool) (width : Nat) (s : State) : Host.Outcome State Fault Refusal :=
  done s (
    if !s.leadIn || low != bit s.trigCfg 4 then s
    else
      let s := s.setReg (trigB + 0x24) (BitVec.ofNat 32 (sat 65535 width))
      let pw := s.reg (trigB + 0x14)
      if !bit s.trigCfg 1 then s
      else if decide (width ≤ 65535) && decide (fld pw 15 0 ≤ width) && decide (width ≤ fld pw 31 16) then s.trigger .trig
      else (s.addWrap (trigB + 0x20) 15 0 1).evtBelv s.pkg.lead [4])

/-- A write of 1 to SW_TRIG.SNAP (R219); a disabled source is ignored. -/
def State.swTrig (s : State) : State := if bit s.trigCfg 2 then s.trigger .software else s

/-- SOFTWARE_TRIGGER (R219). -/
def execSoftwareTrigger (ini : Ini) (s : State) : Host.Outcome State Fault Refusal :=
  done s (s.write ini (belvB s.pkg.lead + 0x58) false (fun s => s.swTrig))

/-- MER_LOAD at a MERIDIAN boundary (R221). -/
def State.takeLoad (s : State) (src : TrigSrc) : State :=
  if src == .meridian && bit s.trigCfg 31 then
    { s.setRf (trigB + 4) 31 31 0 with frames := { s.frames with load := some (fld s.trigCfg 23 16) } }
  else s

/-- A second hardware boundary in the CORE cycle of one already taken: they make one, recorded as MERIDIAN where either is, and the
number that MER_LOAD loads goes to the frame that began there (R221). -/
def State.sameBoundary (s : State) (src : TrigSrc) : State :=
  let s := s.takeLoad src
  let f := s.frames
  if src != .meridian then s
  else if f.bSrc != 0 then { s with frames := { f with bSrc := 1 } }
  else
    let s := s.ftMark (fun w => setFld w 30 28 1)
    match f.load with
    | some n =>
      if f.startAt == s.now then
        let w := s.reg (ftA s.pkg.lead f.num + 8)
        { s with frames := { f with num := n, load := none } }.ftWrite n 1 f.osr (bit w 27) (bit w 26) (bit w 25)
      else s
    | none => s

/-- A hardware boundary at this CORE cycle: a trim within 10 cycles of the nearest boundary, else a re-phase (R221). -/
def State.hardBoundary (s : State) (src : TrigSrc) : State :=
  if s.frames.bAt == some s.now then s.sameBoundary src else
  let code := if src == .meridian then 1 else 2
  let s : State := State.takeLoad { s with frames := { s.frames with bAt := some s.now } } src
  let f : Frames := s.frames
  let past : Nat := s.now - f.startAt
  let ahead : Nat := f.nextAt - s.now
  let lastTrim (v : Int) (s : State) : State := s.setRf (trigB + 0x28) 7 0 (ofSigned 8 v)
  if decide (f.nextAt ≤ s.now + 10) && decide (s.now ≤ f.nextAt) then
    let s := s.ftMark (fun w => setBit w 25 true)
    let s := { s with frames := { s.frames with nextAt := s.now, bSrc := code, bTrim := true } }
    lastTrim (-(ahead : Int)) s
  else if past ≤ 10 then
    let s := s.ftMark (fun w => setFld (setBit (setBit w 25 true) 27 true) 30 28 code)
    let s := { s with frames := { s.frames with nextAt := s.now + s.period, selNow := true } }
    lastTrim past s
  else
    let s := s.ftMark (fun w => setBit w 24 true)
    let s := (s.addSat (trigB + 0x28) 31 16 1).evtBelv s.pkg.lead [2]
    s.beginFrame code s.now true false true

/-- TRIGGER_DELAY_END (R221, R222). -/
def execTriggerDelayEnd (src : TrigSrc) (s : State) : Host.Outcome State Fault Refusal :=
  done s (
    let f := s.frames
    let pend := match src with | .meridian => f.pendMer | .trig => f.pendTrig | .software => f.pendSw
    match pend with
    | none => s
    | some t =>
      if !s.inRun || !f.run || !decide (t ≤ s.now) then s
      else match src with
        | .software => { s with frames := { f with pendSw := none, selNext := true, snapNext := true } }
        | .meridian | .trig =>
          -- delays that end in one CORE cycle make one boundary, recorded as MERIDIAN
          let both := f.pendMer == some t && f.pendTrig == some t
          let s := { s with frames := { f with
            pendMer := if both || src == .meridian then none else f.pendMer, pendTrig := if both || src == .trig then none else f.pendTrig } }
          if f.started then s.hardBoundary (if both then .meridian else src) else s)

end Sys2Proof.Machine
end

