-- ==== Sys2Proof/Machine/Thermal.lean ====
section
/-! DEFINITION. The survey, the thermistor, the graticule, the thermal model's update and the lane (08_belvedere_conversion.md R226 to R228, 06_thermal.md R159 to R173, 10_contour_engine.md R298). -/
namespace Sys2Proof.Machine

/-! ## TFET (R164, R165) -/

/-- The temperature of a TFET code in 0.1 °C, by the β equation; the rounding is open (place 9), and where the equation
gives no temperature the value is free. -/
def tfetTemp (code beta free : Nat) : Int :=
  let den : Rat := 20 / 5963 + (lnFix code (16777216 - code) : Rat) / (2 ^ 64 * beta : Nat)
  if code == 0 || decide (den ≤ 0) then toSigned 16 (Config.freeWord free)
  else clampI (-32768) 32767 (openRound 9 ((1 / den - 27315 / 100) * 10))

/-- A TFET result (R165, R177). -/
def State.tfetResult (s : State) (n code : Nat) (flagged : Bool) : State :=
  let t := tfetTemp code (s.sf n 0x204 31 16) s.free
  let s := { s with free := s.free + 1 }
  let s := s.modSlot n (fun x => { x with tfet :=
    { x.tfet with
      seen := true, at_ := s.now, bad := flagged, temp := if flagged then x.tfet.temp else t
      good := decide (335545 ≤ code) && decide (code ≤ 16441671) } })
  s.thEdges [n]

/-- TFET_STALE (R165): the latest result is older than 50 ms. -/
def execTfetStale (n : Nat) (s : State) : Host.Outcome State Fault Refusal :=
  done s (if s.runs (dieOf n) && s.tfetOld n then s.thEdges [n] else s)

/-! ## The survey (R226 to R228) -/

/-- The channels of a scan that starts now (R226). -/
def State.survNext (s : State) (d : Nat) : Nat :=
  let en := maskOf ((List.range 16).filter (fun i => s.enabled (slotOf d i)))
  (s.reg (belvB d + 0x100)).toNat ||| en ||| 0x7FE00000

/-- The first channel of a mask at or above a number; 32 for none. -/
def nextCh (mask lo : Nat) : Nat := ((List.range 32).find? (fun c => decide (lo ≤ c) && nbit mask c)).getD 32

/-- A step begins on a channel: with the factors in force at its start (R245), and, where an open-wire test asks for the thermistor
of the channel, as its first step, with the current sourced (R233). -/
def State.survStep (s : State) (d ch : Nat) : State :=
  let a := belvB d + 0x500 + 8 * chS ch
  s.modBelv d (fun b =>
    let m := b.modl (b.modOf (chS ch))
    { b with
      survCh := ch, survAt := s.now, survUser := ((s.reg a).toNat, (s.reg (a + 4)).toNat), survPair := (m.zs, m.fs)
      openRun := b.openRun.map (fun r => { r with tStep := if decide (ch < 16) && nbit r.tfet ch && !nbit r.tDone ch then 1 else 0 }) })

/-- The code of a survey result and whether it carries OVR (R242, R243). -/
def State.survCode (s : State) (d ch : Nat) (x : Samp) : Nat × Bool :=
  let b := (s.die d).belv
  let u := b.survUser
  let r1 := ({ zs := b.survPair.1, fs := b.survPair.2 } : Modl).corr x.raw
  let c := roundHalfEven ((s.factCorr d (chS ch) r1 - (toSigned 32 u.1 : Rat) / 256) * ((u.2 : Rat) / 2 ^ 30))
  let r := clampOvr 0 16777215 c x
  (r.1.toNat, r.2)

/-- What a survey result of a channel feeds beside SURVn and the queue (R164, R166, R244, R389). -/
def State.survFeed (s : State) (d ch code : Nat) (ovr isOpen : Bool) : State :=
  if ch < 16 then s.tfetResult (slotOf d ch) code (ovr || isOpen)
  else if 21 ≤ ch && ch ≤ 29 then
    let i := ch - 21
    let s := s.modDie d (fun x => { x with grat := { x.grat with temps := x.grat.temps.set i code, flags := x.grat.flags.set i ovr } })
    let g := (s.die d).grat
    if g.valid == 0 then s else s.modBelv d (fun b => { b with temp := (g.max : Nat) })
  else if ch == 30 then s.modBelv d (fun b => { b with refDiff := code, refOvr := ovr })
  else if ch == 31 then s.modBelv d (fun b => { b with selfTest := code })
  else s

/-- A step of a TFET test ends (R233): its value, then the step with the current sunk, or the next channel. Neither step gives a
result of the channel (log entry 55). -/
def State.openStep (s : State) (d ch : Nat) (c : Nat × Bool) (r : OpenRun) : State :=
  let v : OpenVal := (ch, 2, (c.1 : Rat), c.2)
  if r.tStep == 1 then s.modBelv d (fun b => { b with survAt := s.now, openRun := some { r with src := r.src ++ [v], tStep := 2 } })
  else
    let s := s.modBelv d (fun b => { b with openRun := some { r with snk := r.snk ++ [v], tStep := 0, tDone := r.tDone ||| 2 ^ ch } })
    (s.handOver d true).survStep d (nextCh (s.die d).belv.survEff (ch + 1))

/-- Whether a frame boundary falls in this CORE cycle and waits in the queue. -/
def State.boundaryWaits (s : State) : Bool :=
  s.frames.run && decide (s.frames.nextAt ≤ s.now) && s.pending.any (fun c => match c with | .frameBoundary _ => true | _ => false)

/-- SURVEY_STEP_END (R227, R228): the fifth result of the step, 258 µs after its start. The results of a frame that ends in the same
CORE cycle go first (R249). -/
def execSurveyStepEnd (d : Nat) (x : Samp) (s : State) : Host.Outcome State Fault Refusal :=
  done s (
    let b := (s.die d).belv
    let ch := b.survCh
    if !s.runs d || decide (32 ≤ ch) || b.fullAt.isSome || !decide (b.survAt + 51600 ≤ s.now) then s
    else if s.boundaryWaits then s.putOff (.surveyStepEnd d x)
    else
      let c := s.survCode d ch x
      match b.openRun.filter (fun r => r.tStep != 0) with
      | some r => s.openStep d ch c r
      | none =>
      let isOpen := decide (ch < 16) && s.openFlag (slotOf d ch) 2
      let f : RFlags := { ovr := c.2, isOpen := isOpen, sub := subMod (b.modOf (chS ch)), settling := false }
      let s := s.setReg (belvB d + 0x200 + 4 * ch) (mkWord [(0, c.1), (29, b2n isOpen), (30, b2n c.2), (31, 1)])
      let s := if s.rf (belvB d + 0x410) ch ch == 1 then (s.pushQueue d (s.entry d 2 ch s.frames.num f c.1)).streamRun else s
      let s := (s.survFeed d ch c.1 c.2 isOpen).handOver d true
      s.survStep d (nextCh b.survEff (ch + 1)))

/-! ## The graticule (R166 to R169, R173) -/

/-- The neighbours of a sensor in the 3 × 3 grid (R166). -/
def gratNear (i : Nat) : List Nat :=
  (List.range 9).filter (fun j => j != i && decide (((i / 3 : Int) - (j / 3 : Nat)).natAbs ≤ 1) && decide (((i % 3 : Int) - (j % 3 : Nat)).natAbs ≤ 1))

/-- Insert a number into a rising list. -/
def insNat (v : Nat) : List Nat → List Nat
  | [] => [v]
  | a :: r => if v ≤ a then v :: a :: r else a :: insNat v r

/-- Twice the median of numbers, at least one of them. -/
def median2 (l : List Nat) : Nat :=
  let m := l.foldr insNat []
  let n := m.length
  if n % 2 == 1 then 2 * m.getD (n / 2) 0 else m.getD (n / 2 - 1) 0 + m.getD (n / 2) 0

/-- The check of one sensor against its valid neighbours: some fails, or none where it is not checked (R167). -/
def Grat.check (g : Grat) (delta i : Nat) : Option Bool :=
  let near := (gratNear i).filter (nbit g.valid)
  if near.length < 2 then none
  else
    let m := median2 (near.map (fun j => g.temps.getD j 0))
    let t := 2 * g.temps.getD i 0
    some (g.flags.getD i false || decide (2 * delta * 65536 < ((t : Int) - m).natAbs))

/-- Streaks and passes after the checks of a scan, all on the valid set as it stood. -/
def Grat.scan (g : Grat) (delta : Nat) : Grat :=
  let r := (List.range 9).map (g.check delta)
  let upd (l : List Nat) (onFail : Bool) : List Nat :=
    (List.range 9).map (fun i =>
      match r.getD i none with
      | none => l.getD i 0
      | some bad => if bad == onFail then sat 3 (l.getD i 0 + 1) else 0)
  { g with streaks := upd g.streaks true, passes := upd g.passes false }

/-- Degraded sensing: DEGRADED is set on entry (R168). -/
def State.gratDegraded (s : State) (d : Nat) : State :=
  let g := (s.die d).grat
  let now := decide (popCount g.valid 9 < 5)
  let s := s.modDie d (fun x => { x with grat := { x.grat with degraded := now } })
  let s := if g.valid == 0 then s else s.modBelv d (fun b => { b with temp := (g.max : Nat) })
  if now && !g.degraded then s.evtDie d [19] else s

/-- Exclude a suspect sensor (R167). -/
def State.gratExclude (s : State) (d i : Nat) : State :=
  let t := deciC ((s.die d).grat.temps.getD i 0)
  let s := s.modDie d (fun x => { x with grat := { x.grat with valid := setNbit x.grat.valid i false, passes := x.grat.passes.set i 0 } })
  let s := (s.evtDie d [20]).log d 11 d 0x0102 ([i] ++ leInt 2 t ++ [popCount (s.die d).grat.valid 9])
  s.swap 8 d i 0 i 0 0

/-- The FeRAM writes of a die are allowed again: held records go first (R174). -/
def State.unblock (s : State) (d : Nat) : State :=
  if (s.die d).log.held.isEmpty || s.feramBlocked d then s
  else s.modDie d (fun x => { x with log := { x.log with queue := x.log.queue ++ x.log.held, held := [] } })

/-- The windows of R173 at the end of a scan; each takes a degraded die to be at +140 °C (R168). -/
def State.gratWindows (s : State) (d : Nat) : State :=
  let g := (s.die d).grat
  let t := if g.degraded then 204 * 65536 else g.max
  let out := !(decide (24 * 65536 ≤ t) && decide (t ≤ 189 * 65536))
  let th := s.rf (dieB d + 0x228) 7 0
  let high := th != 0 && (g.degraded || g.valid != 0) && decide ((th + 64) * 65536 ≤ t)
  let s := s.modDie d (fun x => { x with grat := { x.grat with scanned := true, outside := out, blocked := out, wasHigh := high } })
  let s := if high && !g.wasHigh then s.evtDie d [18] else s
  s.unblock d

/-- A completed graticule scan (R167, R168, R173). -/
def State.gratScan (s : State) (d : Nat) : State :=
  let s := s.modDie d (fun x => { x with grat := x.grat.scan (s.rf (dieB d + 0x228) 12 8) })
  let g := (s.die d).grat
  let s := s.each ((maskList g.valid 9).filter (fun i => g.streaks.getD i 0 == 3)) (fun i s => s.gratExclude d i)
  (s.gratDegraded d).gratWindows d

/-- SURVEY_SCAN_END (R226, R167, R389): every channel of the scan has its result; arbA and arbB are the readings that an
arbitration takes. -/
def execSurveyScanEnd (d arbA arbB : Nat) (s : State) : Host.Outcome State Fault Refusal :=
  done s (
    if !s.runs d || (s.die d).belv.survCh != 32 then s
    else
      let s := (s.addWrap (belvB d + 0x108) 31 16 1).evtBelv d [0]
      let s := (s.gratScan d).refCheck d arbA arbB
      let m := s.survNext d
      (s.modBelv d (fun b => { b with survEff := m })).survStep d (nextCh m 0))

/-- READMIT (R169): a sensor returns if it is excluded and its last three checks passed. -/
def State.readmit (s : State) (d mask : Nat) : State :=
  let g := (s.die d).grat
  let asked := maskList mask 9
  let good := asked.filter (fun i => !nbit g.valid i && g.passes.getD i 0 == 3)
  let s := if good.length == asked.length then s else s.evtDie d [31]
  if good.isEmpty then s
  else
    let s := s.each good (fun i s =>
      let s := s.modDie d (fun x => { x with grat := { x.grat with valid := setNbit x.grat.valid i true, streaks := x.grat.streaks.set i 0 } })
      s.log d 11 d 0x0103 ([i] ++ leInt 2 (deciC (g.temps.getD i 0)) ++ [popCount (s.die d).grat.valid 9]))
    s.gazRebuild.gratDegraded d

/-- GRAT_READMIT (R169). -/
def execGratReadmit (ini : Ini) (d mask : Nat) (s : State) : Host.Outcome State Fault Refusal :=
  done s (s.write ini (dieB d + 0x22C) false (fun s => s.readmit d mask))

/-! ## The thermal model (R159, R161, R163, R298) -/

/-- One update of an element's stages (R159): R and τ of the computed stages. -/
def Elem.update (e : Elem) (stages : List (Nat × Nat)) : Elem :=
  let p : Rat := if e.pn == 0 then 0 else e.psum / e.pn
  let rise := (List.range 4).map (fun i =>
    match stages[i]? with
    | none => e.rise.getD i 0
    | some rt =>
      let a : Rat := (expNeg 5 rt.2 : Rat) / 2 ^ 64
      sat 400000 (roundHalfUp (a * e.rise.getD i 0 + (1 - a) * rt.1 * p)).toNat)
  { e with rise := rise, psum := 0, pn := 0, reload := false }

/-- The cycle counter of an element after an update (R163); the Boolean says that a cycle is counted. tj is in m°C. -/
def Elem.cycle (e : Elem) (tj : Int) : Elem × Bool :=
  if !e.started then ({ e with started := true, trough := tj, peak := tj }, false)
  else if !e.armed then
    if e.trough + 40000 < tj then ({ e with armed := true, peak := tj }, false)
    else ({ e with trough := if tj < e.trough then tj else e.trough }, false)
  else if tj < e.peak - 40000 then ({ e with armed := false, trough := tj, peak := tj }, true)
  else ({ e with peak := if e.peak < tj then tj else e.peak }, false)

/-- Whether an element waits for the first control sample after a return, which sets its stages before the first update (R162); a
slot in OFF has no samples and no dissipation. -/
def State.elemWaits (s : State) (n : Nat) (elemB : Bool) : Bool :=
  (if elemB then (s.slot n).eB else (s.slot n).eA).reload && (s.slot n).st != .off

/-- Update one element of a slot and count its cycles. -/
def State.elemUpdate (s : State) (n : Nat) (elemB : Bool) : State :=
  if s.elemWaits n elemB then s else
  let st := (List.range (s.sf n 0x200 2 0)).map (fun i => (s.sf n (0x220 + 8 * i) 15 0, s.sf n (0x224 + 8 * i) 23 0))
  let e := (if elemB then (s.slot n).eB else (s.slot n).eA).update st
  let r := e.cycle (s.tjOf n e)
  let s := s.modSlot n (fun x => if elemB then { x with eB := r.1 } else { x with eA := r.1 })
  if r.2 then (s.evtSlot n [4]).wearAdd n (if elemB then 1 else 0) else s

/-- The SOA trip of an update (R161). It gives way to the causes that rank before it (R125), and a slot that enters a state with no
gate driven up in the same CORE cycle does not trip. -/
def State.soaTrip (s : State) (n : Nat) : State :=
  let leaves := s.pending.any (fun c => match s.rankOf n c with | some r => decide (rankLockout ≤ r) | none => false)
  if s.gateUp n && s.aboveTrip n && !s.outranked n rankSoa && !leaves then s.trip n true 5 0 0 else s

/-- THERMAL_MODEL_UPDATE (R159, R161, R298): a lane period begins. -/
def execThermalModelUpdate (d : Nat) (s : State) : Host.Outcome State Fault Refusal :=
  done s (
    if !s.runs d || (s.now - s.pkg.epoch) % 10000 != 0 then s
    else
      let s := s.each (slotsOf d) (fun n s =>
        let s := s.elemUpdate n false
        let s := if s.backup n then s.elemUpdate n true else s
        s.soaTrip n)
      let work := ((slotsOf d).map (fun n => (1 + b2n (s.backup n)) * (1000 + s.sf n 0x200 2 0))).foldl (· + ·) 0
      let s := s.addWrap (contB d + 0x84) 31 0 1
      let s := s.setRf (contB d + 0x80) 10 0 (sat 1600 (Config.updCyc work))
      let s := s.modDie d (fun x => { x with eng := { x.eng with lanePeriod := (s.now - s.pkg.epoch) / 10000 } })
      s.thEdges (slotsOf d))

/-- LANE_REQUEST_DONE (R298): the oldest request of the lane is served. -/
def execLaneRequestDone (d : Nat) (s : State) : Host.Outcome State Fault Refusal :=
  done s (
    match (s.die d).eng.lane with
    | [] => s
    | r :: rest =>
      if !s.runs d then s
      else
        let s := s.modDie d (fun x => { x with eng := { x.eng with lane := rest } })
        let s := s.addWrap (contB d + 0x80) 31 16 1
        match r with
        | .fit n => s.serveFit n
        | .tau _ _ => s)

end Sys2Proof.Machine
end

