-- ==== Sys2Proof/Machine/Meridian.lean ====
section
/-! DEFINITION. Meridian time (12_meridian_time.md): roles, samples, the servo and its states, steps, the neighbour exchange, PPS, timers, training and host probes. Offsets are in ps. -/
namespace Sys2Proof.Machine

def State.modMer (s : State) (g : Mer → Mer) : State := { s with mer := g s.mer }
def State.merEvt (s : State) (bits : List Nat) : State := s.evt (pageNo merB) bits

/-! ## Roles, periods, steps and quality (R362, R365, R367) -/

/-- SRC_CFG.ROOT. -/
def State.rootCfg (s : State) : Bool := s.rf (merB + 0x40) 31 31 == 1
/-- The role (R362): 0 FOLLOWER, 1 ROOT, 2 FREE. -/
def State.merRole (s : State) : Nat :=
  if s.pairAB.keeper then (if s.rootCfg then 1 else 2)
  else if s.pairMode 0 == 0 || (s.pairAB.elected && s.pairAB.keeperAddr.isNone) then 2
  else 0
/-- TIME_CFG.PERIOD in CORE cycles. -/
def State.timePer (s : State) : Nat := s.rf (merB + 0x44) 12 0 * 25000
/-- Whether a port has had a valid exchange in the last three periods (R365, R380 HEARD). -/
def State.heardOn (s : State) (p : Nat) : Bool :=
  match (s.port p).heardAt with
  | some t => decide (s.now ≤ t + 3 * s.timePer)
  | none => false
/-- Whether a port hears TIME frames. -/
def State.hearsTime (s : State) (p : Nat) : Bool :=
  match (s.port p).nbAt with
  | some t => decide (s.now ≤ t + 3 * s.timePer)
  | none => false
/-- STEPS sent (R365); with no time port 254 (log entry 27). -/
def State.merSteps (s : State) : Nat :=
  if s.merRole == 1 || (s.merRole == 2 && s.pairAB.keeper) then 0
  else if s.merRole == 2 then 255
  else match s.mer.port with
    | some p => sat 254 ((s.port p).nbSteps + 1)
    | none => 254
/-- QUALITY (R367): the lower of the part's own and its time port neighbour's. -/
def State.merQuality (s : State) : Nat :=
  let own := if s.mer.st == 0 then 0 else if s.merRole == 2 then 1 else if s.mer.st == 1 then 3 else 2
  if s.merRole != 0 then own
  else match s.mer.port with
    | some p => Nat.min own (s.port p).nbQual
    | none => own
/-- The byte of STATE and QUALITY in a TIME frame (R364). -/
def State.merByte (s : State) : Nat := s.mer.st * 16 + s.merQuality

/-! ## The time port (R365) -/

/-- The ports that may be chosen. -/
def State.timeCands (s : State) : List Nat :=
  let ok (p : Nat) : Bool := (s.port p).link == 3 && (s.port p).nbSteps != 255 && s.heardOn p
  let ab := [0, 1].filter ok
  let cd := if s.pairMode 1 == 2 && !(s.hearsTime 0) && !(s.hearsTime 1) then [2, 3].filter ok else []
  [0, 2, 1, 3].filter (fun p => ab.contains p || cd.contains p)
/-- The candidate of the smallest STEPS, the earlier in A, C, B, D at a tie. -/
def State.bestPort (s : State) : Option Nat :=
  s.timeCands.foldl (fun b p =>
    match b with
    | none => some p
    | some q => if (s.port p).nbSteps < (s.port q).nbSteps then some p else b) none
/-- The time port as it should be now. -/
def State.timePort (s : State) : Option Nat :=
  let f := s.rf (merB + 0x40) 9 8
  if s.merRole != 0 then none
  else if s.rf (merB + 0x40) 10 10 == 1 && s.hearsTime f then some f
  else match s.mer.port, s.bestPort with
    | some c, some b =>
      if s.timeCands.contains c && decide ((s.port c).nbSteps < (s.port b).nbSteps + 2) then some c else some b
    | none, b => b
    | some _, none => none
/-- Choose the time port again; a new one is a new source (R372). -/
def State.portUpdate (s : State) : State :=
  let p := s.timePort
  if p == s.mer.port then s
  else s.modMer (fun m => { m with port := p, newSrc := m.newSrc || (p.isSome && m.st != 0) })

/-! ## States and records (R369, R383) -/

/-- θ in ns, as records and registers show it; the rounding is open (place 16). -/
def thetaNs (theta : Int) : Int := openRound 16 ((theta : Rat) / 1000)
def satW (v : Int) : Word := BitVec.ofNat 32 (ofSigned 32 (clampI (-2147483648) 2147483647 v))
def State.merRecAs (s : State) (code st cause : Nat) (theta : Int) : State :=
  s.logLead 6 0 code ([st, cause] ++ leInt 8 (thetaNs theta) ++ [s.mer.port.getD 0])
def State.merRec (s : State) (code : Nat) (theta : Int) : State := s.merRecAs code s.mer.st s.mer.cause theta

/-- Training ends without a result (R368). -/
def State.trainFail (s : State) : State :=
  match s.mer.train with
  | none => s
  | some t => (s.modMer (fun m => { m with train := none, trainStat := 2 ^ 29 + t.port * 2 ^ 24 })).merEvt [8]

/-- Enter a state of R369: its event bit, the record, RATE = I outside LOCKED, and a joining pair's step to WAIT_GAP
once the part is LOCKED (R341). -/
def State.merEnter (s : State) (st cause : Nat) (theta : Int) : State :=
  let was := s.mer.st
  let s := s.modMer (fun m =>
    { m with st := st, cause := cause, holdAt := if st == 2 || st == 3 then s.now else 0, rate := if st == 2 || st == 3 then m.integ else m.rate })
  let s := if was == st then s
    else
      let s := if was == 1 then s.trainFail else s
      let s := s.merEvt (if st == 1 then [0] else if st == 2 then [1] else if st == 3 then [3, 2] else [])
      s.merRec 0x0500 theta
  if st != 1 then s
  else s.each [0, 1] (fun k s => if (s.pair k).join == 1 then s.modPair k (fun p => { p with join := 2, lastGap := s.now }) else s)

/-- A FREE part does not wait in ACQUIRING (R369). -/
def State.freeCheck (s : State) : State := if s.mer.st == 0 && s.merRole == 2 then s.merEnter 2 4 0 else s
/-- ROOT_NOT_KEEPER (R362). -/
def State.rootCheck (s : State) : State := if s.rootCfg && !s.pairAB.keeper then s.merEvt [9] else s
/-- What a change of keeper does to the roles (R362, R372). -/
def State.keeperChanged (s : State) (k : Nat) : State :=
  let s := s.evt (pageNo (ringB k)) [7]
  if k == 0 then
    ((s.modMer (fun m => { m with newSrc := m.newSrc || m.st != 0 })).rootCheck.freeCheck).portUpdate
  else s

/-! ## Timers (R375) -/

def tmrB (n : Nat) : Nat := merB + 0x200 + 0x20 * n
def State.tmr (s : State) (n : Nat) : Tmr := s.mer.timers.getD n {}
def State.modTmr (s : State) (n : Nat) (g : Tmr → Tmr) : State :=
  s.modMer (fun m => { m with timers := m.timers.set n (g (m.timers.getD n {})) })
/-- The next occurrence in ns. -/
def Tmr.next (t : Tmr) : Nat := t.start + t.k * t.period
/-- Whether PPS_OUT pulses are given now (R376). -/
def State.ppsGate (s : State) : Bool :=
  let c := s.reg (merB + 0x94)
  bit c 31 && s.leadIn && (match fld c 29 28 with | 0 => true | 1 => s.mer.st == 1 | _ => s.mer.st == 1 || s.mer.st == 2)

/-- A pulse of PPS_OUT: low or high as POL says, for WIDTH microseconds (R376). -/
def State.ppsPulse (s : State) : Out :=
  let c := s.reg (merB + 0x94)
  .ppsOut (bit c 30) (fld c 18 0)
/-- The level of PPS_OUT, high or low; none while the part does not drive it (R376, R443). -/
def State.ppsOutPin (s : State) : Option Bool :=
  let c := s.reg (merB + 0x94)
  let on := s.inRun && s.outbox.any (fun e => match e.2 with | .ppsOut _ us => decide (s.now < e.1 + us * US) | _ => false)
  if (s.pkg.phase == .warm || s.leadIn) && bit c 31 then some (on != bit c 30) else none

/-- A timer fires: its status, the frame trigger, PPS_OUT and the event. -/
def State.fireTimer (s : State) (n : Nat) (late : Bool) : State :=
  let s := s.modTmr n (fun t =>
    { t with fires := (t.fires + 1) % 2 ^ 24, unsync := s.unsync, late := late, lateNow := false, k := t.k + 1, active := t.period != 0 })
  let s := s.merTrigger n
  let c := s.reg (merB + 0x94)
  let s := if s.ppsGate && bit c 24 && fld c 23 20 == n then s.emit s.ppsPulse else s
  if s.rf (tmrB n + 0x10) 0 0 == 1 then s.merEvt [11] else s

/-- Place a timer whose start may have passed (R375, first case), at a count in ns and a CORE cycle. -/
def Tmr.place (t : Tmr) (ns now : Nat) : Tmr :=
  if ns ≤ t.start then { t with k := 0, fires := 0 }
  else if t.period == 0 then { t with k := 0, fires := 0, lateNow := true, setAt := now }
  else
    let k := (ns - t.start) / t.period + 1
    { t with k := k, fires := k % 2 ^ 24 }

/-- A write of TMR_CFG (R375): EN = 1 commits the start and the period. -/
def State.tmrWrite (s : State) (n : Nat) (v : Word) : State :=
  let b := tmrB n
  let s := s.setReg (b + 0x10) (mkWord [(0, fld v 0 0), (31, fld v 31 31)])
  if bit v 31 then
    let start := ((s.rf (b + 8) 15 0) * 2 ^ 32 + (s.reg (b + 4)).toNat) * billion + s.rf b 29 0
    s.modTmr n (fun _ => ({ active := true, start := start, period := (s.reg (b + 0x0C)).toNat } : Tmr).place s.nowNs s.now)
  else s.modTmr n (fun t => { t with active := false, lateNow := false })

/-- The timers at a forward step from an earlier time (R375). -/
def State.tmrStep (s : State) : State :=
  let ns := s.nowNs
  s.each (List.range 16) (fun n s =>
    let t := s.tmr n
    if !t.active || decide (ns ≤ t.next) then s
    else if t.period == 0 then s.fireTimer n true
    else
      let k := cdiv (ns - t.start) t.period
      (s.modTmr n (fun t => { t with k := k })).addSat (tmrB n + 0x18) 15 0 (k - t.k))

/-- The second boundary plus PPS_OUT_OFS that comes next (R376). -/
def State.ppsSec (s : State) : Int := ((s.nowNs : Int) - toSigned 32 (s.reg (merB + 0x98)).toNat) / 1000000000
def State.ppsPlace (s : State) : State := s.modMer (fun m => { m with ppsNext := (s.ppsSec + 1).toNat })

/-! ## Steps (R371) -/

/-- Step the counter by θ ps, which leaves the part LOCKED (R369): the arm is consumed; a fraction of 2^-32 ns is rounded openly (place 14). -/
def State.merStep (s : State) (theta : Int) : State :=
  let d := openRound 14 ((theta : Rat) * NS / 1000)
  let s := s.modMer (fun m =>
    { m with
      count := ((m.count : Int) + d).toNat, armed := false
      ppsLast := m.ppsLast.map (fun t => ((t : Int) + thetaNs theta).toNat) })
  let s := ((s.addSat (merB + 0x64) 31 16 1).merEvt [4]).merRecAs 0x0501 1 0 theta
  (if 0 < theta then s.tmrStep else s).ppsPlace

/-! ## The servo (R370) -/

def rateMax : Int := 4294967
/-- Clamp to ±200 ppm, with RATE_LIMIT. -/
def State.clampRate (s : State) (v : Int) (set : Int → Mer → Mer) : State :=
  let c := clampI (-rateMax) rateMax v
  let s := s.modMer (set c)
  if c == v then s else s.merEvt [10]
/-- The exact value x / T of a sample in units of 2^-32 ns for each CORE cycle: θ ps over T cycles of 5 ns. -/
def slope (theta : Int) (cycles : Nat) : Rat := (theta : Rat) * NS / 1000 / (cycles : Rat)
/-- A servo update; roundings are open (place 15). -/
def State.servo (s : State) (theta : Int) (pps : Bool) : State :=
  let c := s.reg (merB + 0x4C)
  let t := if pps then SEC else s.timePer
  let ki := if pps then fld c 27 24 else fld c 11 8
  let kp := if pps then fld c 19 16 else fld c 3 0
  let r := slope theta t
  let s := s.clampRate (s.mer.integ + openRound 15 (r / 2 ^ ki)) (fun v m => { m with integ := v })
  s.clampRate (s.mer.integ + openRound 15 (r / 2 ^ kp)) (fun v m => { m with rate := v })

/-- The least-squares slope of θ over the fit's samples, times in CORE cycles (R370). -/
def fitSlope (l : List (Int × Int)) : Rat :=
  let n : Rat := l.length
  let mt := (l.map (fun e => (e.1 : Rat))).foldl (· + ·) 0 / n
  let mo := (l.map (fun e => (e.2 : Rat))).foldl (· + ·) 0 / n
  (l.map (fun e => ((e.1 : Rat) - mt) * ((e.2 : Rat) - mo))).foldl (· + ·) 0 /
    (l.map (fun e => ((e.1 : Rat) - mt) * ((e.1 : Rat) - mt))).foldl (· + ·) 0
/-- The frequency fit sets I, and RATE with it (R370; log entry 26). -/
def State.freqFit (s : State) : State :=
  let r := openRound 15 (fitSlope s.mer.fit * NS / 1000)
  (s.modMer (fun m => { m with fitDone := true })).clampRate r (fun v m => { m with integ := v, rate := v })

/-! ## Samples (R369) -/

/-- JUMP_LIMIT in ps. -/
def State.jumpLimit (s : State) : Nat := s.rf (merB + 0x48) 29 0 * 1000

/-- A refused sample: counted, recorded, and REFUSED entered where it is not the state (R369). -/
def State.merRefuse (s : State) (theta : Int) (cause : Nat) : State :=
  let s := (s.addSat (merB + 0x64) 15 0 1).setReg (merB + 0x68) (satW (thetaNs theta))
  if s.mer.st == 3 then s.merEvt [2] else (s.merEnter 3 cause theta).merRec 0x0502 theta

/-- A valid sample θ, in ps; pps: it is an edge of PPS_IN, with a committed label or not. -/
def State.merSample (s : State) (theta : Int) (pps labelled : Bool) : State :=
  if s.mer.refLost && s.mer.st != 0 then s else
  let s := s.modMer (fun m => { m with offset := theta, lastAt := s.now })
  if s.mer.st == 0 then
    if !s.mer.fitDone then
      let s := s.modMer (fun m => { m with fit := m.fit ++ [((s.now : Int), theta)] })
      if (if pps then 3 else 8) ≤ s.mer.fit.length then s.freqFit else s
    else if pps && !labelled then s
    else (s.merStep theta).merEnter 1 0 theta
  else
    let first := s.mer.newSrc
    let s := s.modMer (fun m => { m with newSrc := false })
    let s := if first then (s.merEvt [5]).merRec 0x0503 theta else s
    if theta.natAbs ≤ s.jumpLimit then (if s.mer.st == 1 then s else s.merEnter 1 0 theta).servo theta pps
    else if s.mer.armed then
      let s := s.merStep theta
      if s.mer.st == 1 then s else s.merEnter 1 0 theta
    else s.merRefuse theta (if s.mer.st == 1 && first then 6 else 5)

/-- A source is lost (R369). -/
def State.sourceLost (s : State) : State := if s.mer.st == 1 || s.mer.st == 3 then s.merEnter 2 1 0 else s

/-! ## Training (R368) -/

def State.portAsym (s : State) (p : Nat) : Int := toSigned 16 (s.rf (merB + 0x104 + 16 * p) 15 0)
/-- Training has its edges or its time is over. -/
def State.trainEnd (s : State) (t : Train) : State :=
  let n := s.rf (merB + 0x140) 7 0
  let mx := t.edges.foldl max (t.edges.headD 0)
  let mn := t.edges.foldl min (t.edges.headD 0)
  let delta := openRound 17 (((t.edges.foldl (· + ·) 0 : Int) : Rat) * 1000 / (t.edges.length : Rat))
  let a := s.portAsym t.port + delta
  if t.edges.length + 2 < n || decide (20 < mx - mn) || t.edges.isEmpty || decide (a < -32767) || decide (32767 < a) then s.trainFail
  else
    let s := s.setRf (merB + 0x104 + 16 * t.port) 15 0 (ofSigned 16 a)
    let s := s.modMer (fun m => { m with train := none, trainStat := 2 ^ 30 + t.port * 2 ^ 24 + ofSigned 16 delta })
    (s.merEvt [8]).logLead 6 0 0x0504 ([s.mer.st, s.mer.cause] ++ leInt 2 delta ++ [0, 0, 0, 0, 0, 0, s.mer.port.getD 0])
def State.trainCheck (s : State) : State :=
  match s.mer.train with
  | none => s
  | some t =>
    let n := s.rf (merB + 0x140) 7 0
    if n ≤ t.edges.length || decide (t.at_ + n * SEC ≤ s.now) then s.trainEnd t else s
/-- A write of 1 to TRAIN. -/
def State.trainStart (s : State) : State :=
  match s.mer.port with
  | some p =>
    if s.mer.st == 1 && s.merRole != 1 && s.rf (merB + 0x88) 31 31 == 1 && (s.port p).nbState == 1 then
      s.modMer (fun m => { m with train := some { port := p, left := s.rf (merB + 0x140) 7 0, edges := [], at_ := s.now }, trainStat := 2 ^ 31 + p * 2 ^ 24 })
    else s.reject (pageNo merB)
  | none => s.reject (pageNo merB)

/-! ## PPS_IN (R363) -/

/-- An accepted edge at counter c: the label, the sample, PPS_ERR. -/
def State.ppsEdge (s : State) (c : Nat) : State :=
  let l := s.mer.tod.getD (s.mer.label + 1)
  let labelled := s.mer.tod.isSome
  let th : Int := ((l * billion + s.rf (merB + 0x88) 15 0 : Nat) : Int) - c
  let s := s.modMer (fun m => { m with label := l, tod := none, ppsLast := some c, ppsAt := s.now })
  let s := (s.addWrap (merB + 0x8C) 15 0 1).setReg (merB + 0x90) (satW (-th))
  let s := s.modMer (fun m => { m with train := m.train.map (fun t => { t with edges := t.edges ++ [-th], left := t.left - 1 }) })
  (if s.merRole == 1 then s.merSample (th * 1000) true labelled else s).trainCheck

/-- PPS_IN_EDGE (R363). -/
def execPpsInEdge (falling : Bool) (c : Nat) (s : State) : Host.Outcome State Fault Refusal :=
  done s (
    let g := s.reg (merB + 0x88)
    if !s.leadIn || !bit g 31 || bit g 30 != falling then s
    else
      let s := s.trainCheck
      let ok := match s.mer.ppsLast with
        | none => true
        | some t => decide (((c : Int) - t - 1000000000).natAbs ≤ 250000)
      if ok then s.ppsEdge c else (s.addWrap (merB + 0x8C) 31 16 1).merEvt [7])

/-- PPS_IN_LOST (R363, R369): no edge accepted for 1.5 s; the next edge is accepted without a check, and a root has lost its source. -/
def execPpsInLost (s : State) : Host.Outcome State Fault Refusal :=
  done s (
    if s.inRun && decide (s.mer.ppsAt + SEC + SEC / 2 ≤ s.now) then
      let s := s.modMer (fun m => { m with ppsLast := none })
      if s.merRole == 1 then s.sourceLost else s
    else s)

/-- A write of TOD_SEC_HI commits the label (R363, R51). -/
def State.todWrite (s : State) (v : Word) : State :=
  let s := s.setReg (merB + 0x84) (mkWord [(0, fld v 15 0)])
  s.modMer (fun m => { m with tod := some (fld v 15 0 * 2 ^ 32 + (s.reg (merB + 0x80)).toNat) })
/-- TOD_COMMIT (R363). -/
def execTodCommit (ini : Ini) (v : Word) (s : State) : Host.Outcome State Fault Refusal :=
  done s (s.write ini (merB + 0x84) false (·.todWrite v))

/-! ## The neighbour exchange (R364 to R366) -/

/-- A stamp in a payload: seconds in six bytes, nanoseconds in four. -/
def stampBytes (ns : Nat) : List Nat := le 6 (ns / billion) ++ le 4 (ns % billion)
def State.srcAddr (s : State) : Nat := if s.sysValid then s.sysAddr else 0
/-- A TIME frame of the part. -/
def State.timeFrame (s : State) (code : Nat) (payload : List Nat) : Frame :=
  { ftype := .time, src := s.srcAddr, code := code, len := payload.length, payload := payload }
/-- The die that serves a port (R316). -/
def portDie (p : Nat) : Nat := p / 2
/-- A port that is UP on a serving die. -/
def State.portUp (s : State) (p : Nat) : Bool := s.runs (portDie p) && (s.port p).link == 3

/-- TIME_PROBE_SEND (R364): once in every period; t1 is the frame's own stamp. -/
def execTimeProbeSend (p t1 : Nat) (s : State) : Host.Outcome State Fault Refusal :=
  done s (
    let due := match (s.port p).probeAt with | some t => decide (t + s.timePer ≤ s.now) | none => true
    if !s.portUp p || !due then s
    else
      (s.modPort p (fun x => { x with probeT1 := some t1, probeAt := some s.now })).sendPort p
        (s.timeFrame 1 (stampBytes t1 ++ [s.merSteps, s.merByte])))

/-- What a TIME frame says of the neighbour. -/
def State.hearNb (s : State) (p steps state quality : Nat) : State :=
  s.modPort p (fun x => { x with nbSteps := steps, nbState := state, nbQual := quality, nbAt := some s.now })

/-- PROBE_RECEIVE (R364): the ECHO carries the receive and transmit stamps t2 and t3. -/
def execProbeReceive (p t1 t2 t3 steps state quality : Nat) (ok : Bool) (s : State) : Host.Outcome State Fault Refusal :=
  done s (
    if !s.portUp p || !ok then s
    else
      let s := (s.hearNb p steps state quality).portUpdate
      s.sendPort p (s.timeFrame 2 (stampBytes t1 ++ stampBytes t2 ++ stampBytes t3 ++ [s.merSteps, s.merByte])))

/-- ECHO_RECEIVE (R364, R365): a valid exchange gives the delay and, on the time port, a servo sample. The routes are
those that hold once the link weight follows the delay (R329). -/
def execEchoReceive (p t1 t2 t3 t4 steps state quality : Nat) (ok : Bool) (routes : Routes) (s : State) : Host.Outcome State Fault Refusal :=
  done s (
    if !s.portUp p || !ok then s
    else
      let s := s.hearNb p steps state quality
      let asked := (s.port p).probeT1 == some t1
      let s := s.modPort p (fun x => { x with probeT1 := none })
      if !asked || decide (t2 + 50000 < t3) || decide (t1 + 100000 < t4) then s.portUpdate
      else
        let d : Int := (((t4 : Int) - t1) - ((t3 : Int) - t2)) * 500
        let th : Int := (((t2 : Int) - t1) - ((t4 : Int) - t3)) * 500 - s.portAsym p
        let w := s.weight p
        let s := s.modPort p (fun x => { x with delays := (d :: x.delays).take 16, heardAt := some s.now, theta := th })
        let s := if s.weight p == w then s else { s with routes := routes }.reachUpdate
        let s := s.portUpdate.trainCheck
        if s.merRole == 0 && s.mer.port == some p then s.merSample th false false else s)

/-- TAPPED_PROBE (R366): a one-way sample while the pair listens, from the frames whose STEPS is smallest. -/
def execTappedProbe (p t1 t2 steps state quality : Nat) (ok : Bool) (s : State) : Host.Outcome State Fault Refusal :=
  done s (
    let k := p / 2
    let j := (s.pair k).join
    if !s.runs k || !ok || !(j == 1 || j == 2) || (s.pair k).wicketOpen || steps == 255 then s
    else
      let s := s.hearNb p steps state quality
      let o := if p % 2 == 0 then p + 1 else p - 1
      if s.merRole != 0 || (s.hearsTime o && decide ((s.port o).nbSteps < steps)) then s
      else
        let d := (s.port p).delays
        let d0 := if d.isEmpty then 0 else openRound 18 ((d.foldl (· + ·) 0 : Int) / (d.length : Rat))
        let th : Int := ((t2 : Int) - t1) * 1000 - d0
        (s.modPort p (fun x => { x with theta := th })).merSample th false false)

/-- TIME_SOURCE_LOST (R369): no sample for three periods. -/
def execTimeSourceLost (s : State) : Host.Outcome State Fault Refusal :=
  done s (
    if s.inRun && s.merRole != 1 && decide (s.mer.lastAt + 3 * s.timePer ≤ s.now) then s.portUpdate.sourceLost else s)

/-! ## Arm, disarm, reacquire, train (R368, R369, R371) -/

/-- A write of STEP_ARM; DISARM acts after ARM. -/
def State.armWrite (s : State) (v : Word) : State :=
  s.modMer (fun m => { m with armed := if bit v 1 then false else m.armed || bit v 0 })
/-- REACQUIRE (R369). -/
def State.reacquire (s : State) : State :=
  ((s.modMer (fun m => { m with armed := true, fit := [], fitDone := false, newSrc := false })).merEnter 0 0 0).freeCheck
/-- A write of MER_CTRL. -/
def State.merCtrl (s : State) (v : Word) : State :=
  let s := if bit v 0 then s.trainStart else s
  if bit v 1 then s.reacquire else s

/-- ARM (R371). -/
def execArm (ini : Ini) (s : State) : Host.Outcome State Fault Refusal := done s (s.write ini (merB + 0x50) false (·.armWrite 1))
/-- DISARM (R371). -/
def execDisarm (ini : Ini) (s : State) : Host.Outcome State Fault Refusal := done s (s.write ini (merB + 0x50) false (·.armWrite 2))
/-- REACQUIRE (R369). -/
def execReacquire (ini : Ini) (s : State) : Host.Outcome State Fault Refusal := done s (s.write ini (merB + 0x54) false (·.reacquire))
/-- TRAIN (R368). -/
def execTrain (ini : Ini) (s : State) : Host.Outcome State Fault Refusal := done s (s.write ini (merB + 0x54) false (·.trainStart))

/-! ## Timers and PPS_OUT (R375, R376) -/

/-- TMR_CFG_WRITE (R375). -/
def execTmrCfgWrite (ini : Ini) (n : Nat) (v : Word) (s : State) : Host.Outcome State Fault Refusal :=
  done s (s.write ini (tmrB n + 0x10) false (fun s => s.tmrWrite n v))

/-- TIMER_FIRE (R375): the counter is at or beyond the next occurrence; a single occurrence already passed at the commit fires in
a later CORE cycle. -/
def execTimerFire (n : Nat) (s : State) : Host.Outcome State Fault Refusal :=
  done s (
    let t := s.tmr n
    if s.inRun && t.active && (if t.lateNow then decide (t.setAt < s.now) else decide (t.next ≤ s.nowNs)) then s.fireTimer n t.lateNow else s)

/-- PPS_OUT_PULSE (R376): the counter passes a second boundary plus PPS_OUT_OFS. -/
def execPpsOutPulse (s : State) : Host.Outcome State Fault Refusal :=
  done s (
    if s.inRun && decide ((s.mer.ppsNext : Int) ≤ s.ppsSec) then
      let go := s.ppsGate && s.rf (merB + 0x94) 24 24 == 0
      let s := s.ppsPlace
      if go then s.emit s.ppsPulse else s
    else s)

/-! ## Host probes (R377) -/

/-- A write of PROBE. -/
def State.probeWrite (s : State) (v : Word) (t1 : Nat) : State :=
  let p := fld v 17 16
  if !s.portUp p then s.reject (pageNo merB)
  else
    let s := s.sendPort p (s.timeFrame 3 (stampBytes t1 ++ [fld v 7 0, 0]))
    if s.mer.txs.length < 8 then s.modMer (fun m => { m with txs := m.txs ++ [(t1, p, fld v 7 0)] })
    else (s.addSat (merB + 0xB0) 31 16 1).merEvt [6]
/-- HOST_PROBE (R377). -/
def execHostProbe (ini : Ini) (v : Word) (t1 : Nat) (s : State) : Host.Outcome State Fault Refusal :=
  done s (s.write ini (merB + 0xA0) false (fun s => s.probeWrite v t1))

/-- HOST_PROBE_RECEIVE (R377). -/
def execHostProbeReceive (p t2 id src : Nat) (ok : Bool) (s : State) : Host.Outcome State Fault Refusal :=
  done s (
    if !s.portUp p || !ok then s
    else
      let b := merB + 0xC0 + 16 * p
      let sec := t2 / billion
      ((((s.setReg b (BitVec.ofNat 32 (t2 % billion))).setReg (b + 4) (BitVec.ofNat 32 sec)).setReg (b + 8)
        (mkWord [(0, sec / 2 ^ 32 % 65536), (16, id % 256), (31, 1)])).setReg (b + 12) (BitVec.ofNat 32 (src % 16384))).merEvt [12])

/-- The read of TXS_NS (R377): the head leaves the queue; an empty queue reads 0. -/
def State.txsPop (s : State) (ini : Ini) : State :=
  match s.mer.txs with
  | [] => ((s.capture ini (merB + 0xA8) 0).capture ini (merB + 0xAC) 0).answer 0
  | (t, p, id) :: r =>
    let sec := t / billion
    let s := s.modMer (fun m => { m with txs := r })
    ((s.capture ini (merB + 0xA8) (BitVec.ofNat 32 sec)).capture ini (merB + 0xAC)
      (mkWord [(0, sec / 2 ^ 32 % 65536), (16, id), (24, p), (31, 1)])).answer (BitVec.ofNat 32 (t % billion))
/-- TXS_POP (R377). -/
def execTxsPop (ini : Ini) (s : State) : Host.Outcome State Fault Refusal :=
  done s (s.readAt ini (merB + 0xA4) (fun s => s.txsPop ini))

/-! ## Reset and references (R28, R373) -/

/-- Both references are lost, or one has returned. -/
def State.merRefs (s : State) (lost : Bool) : State :=
  let s := s.modMer (fun m => { m with refLost := lost })
  if lost && s.mer.st != 0 && s.mer.st != 2 then s.merEnter 2 2 0
  else if lost && s.mer.st == 2 then s.modMer (fun m => { m with cause := 2 }) else s

/-- A warm reset (R373). -/
def State.merReset (s : State) : State :=
  (s.modMer (fun m => { m with txs := [], ppsLast := none, tod := none, train := none, trainStat := 0 })).merEnter 2 3 0
/-- The return to RUN after a warm reset: the timers take the first rule of R375. -/
def State.merReturn (s : State) : State :=
  (s.each (List.range 16) (fun n s => s.modTmr n (fun t => if t.active then t.place s.nowNs s.now else t))).ppsPlace

end Sys2Proof.Machine
end

