-- ==== Sys2Proof/Machine/Ring.lean ====
section
/-! DEFINITION. The Ceane ring (11_ceane_ring.md R316 to R343): link states, replay, frames, wrap, keeper election, enumeration, the gap, the Wicket, joining and leaving. -/
namespace Sys2Proof.Machine

def State.ringEvt (s : State) (k : Nat) (bits : List Nat) : State := s.evt (pageNo (ringB k)) bits
/-- A ring record (R357). -/
def State.ringRec (s : State) (k code port addr b : Nat) : State := s.logLead 5 k code ([port] ++ le 2 addr ++ [b])
/-- The part's address on a pair's ring. -/
def State.addrOn (s : State) (k : Nat) : Nat := if (s.pair k).joined then (s.pair k).ringId * 128 + (s.pair k).node else 0
def portReg (p : Nat) : Nat := ringB (p / 2) + 0x54 + 4 * (p % 2)
def linkCnt (p : Nat) : Nat := ringB (p / 2) + 0x5C + 4 * (p % 2)
/-- The routes after a change, and the REACH they give (R199). -/
def State.setRoutes (s : State) (r : Routes) : State := { s with routes := r }.reachUpdate

/-! ## The Wicket (R328, R339) -/

/-- The Wicket opens: both ports seek. -/
def State.openWicket (s : State) (k : Nat) : State :=
  let seek (p : Port) : Port := { p with link := 1, since := s.now, wrapped := false, unwrapDue := false, holdTx := true }
  ((s.modPair k (fun x => { x with wicketOpen := true })).modPort (2 * k) seek).modPort (2 * k + 1) seek
/-- The Wicket closes: both ports are DISABLED, their replay buffers emptied. -/
def State.closeWicket (s : State) (k : Nat) : State :=
  let off (p : Port) : Port :=
    { p with link := 0, since := s.now, wrapped := false, unwrapDue := false, tx := [], waiting := [], kept := [], holdTx := false, probeT1 := none, heardAt := none, nbAt := none }
  (((s.modPair k (fun x => { x with wicketOpen := false, window := none })).modPort (2 * k) off).modPort (2 * k + 1) off).portUpdate
/-- A pair leaves its ring, for whatever reason: the Wicket closes. keep: a warm reset, through which the number is kept (R333). -/
def State.dropPair (s : State) (k : Nat) (keep : Bool := false) : State :=
  let s := s.modPair k (fun x =>
    { x with
      join := 0, joined := false, keeper := false, keeperAddr := none, elected := false, leaving := false, drained := false
      claimSent := false, forming := false, expect := none, reqs := [], size := 0, members := 0, nextMembers := 0, collect := 0
      served := false, ringWrap := false, wrapSeen := false
      prevNode := if !keep then none else if x.joined then some x.node else x.prevNode })
  (s.closeWicket k).reachUpdate

/-! ## Link states (R328 to R331) -/

/-- LINK_ALIGN (R328). -/
def execLinkAlign (p : Nat) (s : State) : Host.Outcome State Fault Refusal :=
  done s (if s.runs (portDie p) && (s.port p).link == 1 then s.modPort p (fun x => { x with link := 2, since := s.now }) else s)

/-- KEEP_PRI of a pair; 255 is never keeper (R332). -/
def State.keepPri (s : State) (k : Nat) : Nat := s.rf (ringB k + 0x40) 15 8
/-- An ENUMERATE frame; the subtype codes and layouts are the model's (log entry 28). -/
def State.enumFrame (s : State) (k code dest : Nat) (bcast : Bool) (payload : List Nat) : Frame :=
  { ftype := .enumerate, bcast := bcast, dest := dest, src := s.addrOn k, code := code, len := payload.length, payload := payload }
def State.sendClaim (s : State) (k pri uid : Nat) : State := s.sendPair k (s.enumFrame k 1 0 false (le 1 pri ++ le 8 uid))
def State.sendCount (s : State) (k p : Nat) : State := s.sendPair k (s.enumFrame k 2 0 false (le 2 p))
/-- The request of this part: PIN_NODE, or the number held before (R333). -/
def State.ownReq (s : State) (k : Nat) : Option Nat × Bool :=
  let c := s.reg (ringB k + 0x40)
  if bit c 31 then (some (fld c 30 24), true) else ((s.pair k).prevNode, false)
def State.joinReqFrame (s : State) (k uid pos : Nat) (req : Option Nat) (pin : Bool) : Frame :=
  s.enumFrame k 3 ((s.pair k).keeperAddr.getD 0) false (le 8 uid ++ le 2 pos ++ [b2n req.isSome, req.getD 0, b2n pin])
def State.sendJoinReq (s : State) (k uid pos : Nat) (req : Option Nat) (pin : Bool) : State :=
  s.sendPair k (s.joinReqFrame k uid pos req pin)

/-- The pair is joined (R341). bits: JOINED, and ENUM_DONE where a number was assigned. -/
def State.joinedNow (s : State) (k : Nat) (bits : List Nat) : State :=
  let s := s.modPair k (fun x => { x with joined := true, join := 3, refused := false })
  ((s.ringEvt k bits).ringRec k 0x0404 0 (s.addrOn k) 0).reachUpdate
/-- A redundant C/D pair that is IN takes the NODE and RING_ID that the part holds on its A/B ring (R338). -/
def State.redundantJoin (s : State) : State :=
  if s.pairMode 1 == 2 && s.pairAB.joined && s.pairCD.join == 3 && !s.pairCD.joined then
    (s.modPair 1 (fun x => { x with node := s.pairAB.node, ringId := s.pairAB.ringId, keeperAddr := s.pairAB.keeperAddr })).joinedNow 1 [0]
  else s
/-- The pair is joined with the number assigned to it (R333, R341). -/
def State.nowJoined (s : State) (k : Nat) : State := (s.joinedNow k [0, 8]).redundantJoin

/-- LINK_UP (R328, R331): RESYNC leaves; a joining part whose Wicket opened in a window is IN and asks for its number (R341), but for
a redundant C/D pair, which has that of the A/B ring (R338). -/
def execLinkUp (p : Nat) (routes : Routes) (s : State) : Host.Outcome State Fault Refusal :=
  done s (
    let k := portDie p
    if !s.runs k || (s.port p).link != 2 then s
    else
      let x := s.port p
      let s := s.modPort p (fun x => { x with link := 3, since := s.now, holdTx := true, unwrapDue := x.wrapped })
      let s := ((s.ringEvt k [3]).linkWord p (.resync x.rxSeq s.ident.uid)).setRoutes routes
      if (s.pair k).join == 2 && (s.pair k).wicketOpen then
        let s := s.modPair k (fun x => { x with join := 3 })
        if k == 1 && s.pairMode 1 == 2 then s.redundantJoin
        else
          let r := s.ownReq k
          s.sendJoinReq k s.ident.uid 255 r.1 r.2
      else s)

/-- LINK_RELOCK (R328). -/
def execLinkRelock (p : Nat) (routes : Routes) (s : State) : Host.Outcome State Fault Refusal :=
  done s (
    if s.portUp p then
      ((s.modPort p (fun x => { x with link := 2, since := s.now, holdTx := true })).addSat (portReg p) 31 16 1).setRoutes routes |>.portUpdate
    else s)

/-- A port's link enters FAILED (R328, R330): the pair wraps, and the frames left in the port's buffers go first on the
wrap path. cause: 0 replay, 1 lock, 2 errors. -/
def State.linkFail (s : State) (p cause : Nat) (routes : Routes) : State :=
  let k := p / 2
  let o := if p % 2 == 0 then p + 1 else p - 1
  let x := s.port p
  let left := (x.tx ++ x.waiting).map (fun f => { f with wrap := p % 2 == 1 })
  let s := s.modPort p (fun x =>
    { x with link := 4, since := s.now, tx := [], waiting := [], kept := [], tries := 0, wrapped := true, unwrapDue := false, holdTx := true, probeT1 := none, heardAt := none })
  let s := s.modPort o (fun x => { x with waiting := left ++ x.waiting })
  let s := ((s.ringEvt k [2]).ringRec k 0x0400 (p % 2) (s.addrOn k) cause)
  let s := ((s.ringEvt k [4]).ringRec k 0x0401 (p % 2) (s.addrOn k) 0)
  ((s.setRoutes routes).pump o).portUpdate

/-- LINK_FAILED (R328, R330). -/
def execLinkFailed (p cause : Nat) (routes : Routes) (s : State) : Host.Outcome State Fault Refusal :=
  done s (
    let l := (s.port p).link
    if s.runs (portDie p) && ((l == 2 && cause == 1) || l == 3) then s.linkFail p cause routes else s)

/-- LINK_RETRY (R328). -/
def execLinkRetry (p : Nat) (s : State) : Host.Outcome State Fault Refusal :=
  done s (
    if s.runs (portDie p) && (s.port p).link == 4 && decide ((s.port p).since + 100 * US ≤ s.now) then
      s.modPort p (fun x => { x with link := 1, since := s.now })
    else s)

/-! ## Acknowledgement and replay (R326, R327, R331) -/

/-- The frames of a replay buffer from a sequence number on; none where it is not held. -/
def txFrom (seq : Nat) : List Frame → List Frame
  | [] => []
  | f :: r => if f.lseq == seq then f :: r else txFrom seq r

/-- Send frames of the replay buffer again; in a gap window they wait for its end (R334). -/
def State.resend (s : State) (p : Nat) (l : List Frame) : State :=
  (s.modPort p (fun x => { x with oldAt := s.now })).each l (fun f s => s.sendItem p f.size (.frame p f))

/-- A failure of the oldest frame: replayed three times, the fourth fails the link (R327). l: the frames to send again. -/
def State.replay (s : State) (p : Nat) (l : List Frame) : State :=
  let n := (s.port p).tries + 1
  if 3 < n then s.linkFail p 0 s.routes
  else ((s.modPort p (fun x => { x with tries := n })).addSat (linkCnt p) 31 16 1).resend p l

/-- A link word arrives at a port: one with a bad check or a code violation is counted and ignored (R326, R355). -/
def State.onWord (s : State) (p : Nat) (rx : Line) (act : LWord → State) : State :=
  if !s.portUp p then s
  else match rx.word with
    | some w => act w
    | none => s.addSat (linkCnt p) 15 0 (Nat.max 1 (violations rx.chars))

/-- ACK_RECEIVE (R326). -/
def execAckReceive (p : Nat) (rx : Line) (s : State) : Host.Outcome State Fault Refusal :=
  done s (s.onWord p rx (fun w =>
    match w with
    | .ack seq =>
      match txFrom seq (s.port p).tx with
      | [] => s
      | _ :: r => (s.modPort p (fun x => { x with tx := r, tries := 0, oldAt := s.now })).pump p
    | _ => s))

/-- NAK_RECEIVE (R327): the receiver has accepted what went before the frame it names. -/
def execNakReceive (p : Nat) (rx : Line) (s : State) : Host.Outcome State Fault Refusal :=
  done s (s.onWord p rx (fun w =>
    match w with
    | .nak seq =>
      match txFrom seq (s.port p).tx with
      | [] => s
      | f :: r =>
        let same := ((s.port p).tx.head?.map (·.lseq)) == some f.lseq
        (s.modPort p (fun x => { x with tx := f :: r, tries := if same then x.tries else 0 })).replay p (f :: r)
    | _ => s))

/-- The time in ns since the oldest frame of a port was sent, without what fell into the gap window, in which the timers stop (R327). -/
def State.replayNs (s : State) (p : Nat) : Nat :=
  let ran := (s.now - (s.port p).oldAt) * 5
  match (s.pair (p / 2)).window with
  | none => ran
  | some w => ran - (Nat.min s.nowNs (w + 2000) - Nat.max w (s.nowNs - ran))

/-- REPLAY_TIMEOUT (R327): 2 µs without an acknowledgement of the oldest frame, which is sent again. -/
def execReplayTimeout (p : Nat) (s : State) : Host.Outcome State Fault Refusal :=
  done s (
    let x := s.port p
    if s.portUp p && !x.tx.isEmpty && !x.holdTx && !s.inWindow (p / 2) && decide (2000 ≤ s.replayNs p) then s.replay p (x.tx.take 1) else s)

/-- Number frames on from a sequence number. -/
def renumber (seq : Nat) : List Frame → List Frame
  | [] => []
  | f :: r => { f with lseq := seq % 256 } :: renumber (seq + 1) r

/-- RESYNC_RECEIVE (R331). A new partner clears the record of accepted numbers. -/
def execResyncReceive (p : Nat) (rx : Line) (s : State) : Host.Outcome State Fault Refusal :=
  done s (s.onWord p rx (fun w =>
    match w with
    | .resync seq uid =>
      let x := s.port p
      let known := x.uid == some uid
      let tx := if known then txFrom seq x.tx else renumber seq x.tx
      let s := s.modPort p (fun x =>
        { x with tx := tx, txSeq := if known then x.txSeq else (seq + tx.length) % 256, uid := some uid, holdTx := false, tries := 0
                 rxRec := if known then x.rxRec else 0 })
      (s.resend p tx).pump p
    | _ => s))

/-! ## Transaction completions (R345, R347) -/

def State.tag (s : State) (t : Nat) : Tag := s.xact.tags.getD t {}
def State.modXact (s : State) (g : Xact → Xact) : State := { s with xact := g s.xact }
def State.modTag (s : State) (t : Nat) (g : Tag → Tag) : State :=
  s.modXact (fun x => { x with tags := x.tags.set t (g (x.tags.getD t {})) })
def State.xactEvt (s : State) (b : Nat) : State := s.evt (pageNo xactB) [b]
/-- An outstanding tag completes. -/
def State.complete (s : State) (t status : Nat) (data : List Word) : State :=
  let g := s.tag t
  let c : Cpl := { tag := t, status := status, epoch := g.epoch, user := g.user, retries := g.retries, dest := g.dest, data := data }
  ((s.modTag t (fun g => { g with st := 2, busyAt := none })).modXact (fun x => { x with cpl := x.cpl ++ [c] })).xactEvt 0
/-- The words of a payload. -/
def toWords : Nat → List Nat → List Word
  | 0, _ => []
  | n + 1, b => BitVec.ofNat 32 (unle (b.take 4)) :: toWords n (b.drop 4)
/-- A RESPONSE for this part (R345, R347). -/
def State.response (s : State) (f : Frame) : State :=
  let g := s.tag f.tag
  if g.st != 1 || g.epoch != f.epoch || g.lost then (s.addSat (xactB + 0x68) 31 16 1).xactEvt 3
  else if f.code == 1 then (s.addSat (xactB + 0x6C) 15 0 1).modTag f.tag (fun g => { g with busyAt := some s.now })
  else s.complete f.tag f.code (if f.code == 0 && !g.wr then toWords (f.payload.length / 4) f.payload else [])
/-- A RESPONSE frame to a request. -/
def State.respFrame (s : State) (f : Frame) (status : Nat) (payload : List Nat) : Frame :=
  { ftype := .response, dest := f.src, src := s.sysAddr, tag := f.tag, epoch := f.epoch, code := status, len := payload.length, payload := payload }
/-- Answer a request; one of the part's own completes locally. -/
def State.respond (s : State) (f : Frame) (status : Nat) (payload : List Nat) : State :=
  if s.isOwn f.src then s.response (s.respFrame f status payload) else (s.sendFrame (s.respFrame f status payload)).1

/-! ## Normal frames (R322, R336, R337) -/

/-- Whether this part inserted a frame onto a pair's ring: its own, or one it took across as a junction. -/
def State.inserted (s : State) (k : Nat) (f : Frame) : Bool :=
  let r := f.src / 128
  s.isOwn f.src ||
  (s.pairMode 1 == 3 && (if k == 0 then s.isDown r || r == s.childRing else !(s.isDown r || r == s.childRing)))

/-- A frame that came back is stripped and answered where it was a request (R322, R336). -/
def State.strip (s : State) (k : Nat) (f : Frame) : State :=
  let s := s.addSat (ringB k + 0x64) 31 16 1
  match f.ftype with
  | .read => s.respond f 7 []
  | .write => s.respond f (if f.bcast then 8 else 7) []
  | _ => s

/-- Forward a frame on a pair's ring for a number of TTL units, or discard it where its TTL does not reach, counted on the pair it
came by (R322, R337). -/
def State.forward (s : State) (k out units : Nat) (f : Frame) : State :=
  if f.ttl < units then s.addSat (ringB k + 0x64) 15 0 1 else s.sendPair out { f with ttl := f.ttl - units, wrap := false }

/-- Whether a junction takes traffic for a ring from one of its pairs across to the other (R337). -/
def State.crosses (s : State) (k ring : Nat) : Bool :=
  s.pairMode 1 == 3 && ring != (s.pair k).ringId && (if k == 0 then s.isDown ring else !s.isDown ring) && (s.pair (1 - k)).wicketOpen

/-- Where a frame on the primary leg of a pair's ring goes on, and the TTL units this costs (R322, R337): one for the hop and one
for a crossing. None where the part strips it, or it is for the part alone. -/
def State.way (s : State) (k : Nat) (f : Frame) : Option (Nat × Nat) :=
  let ring := f.dest / 128
  if s.inserted k f then none
  else if f.bcast && ring == (s.pair k).ringId && (s.pair k).joined then some (k, 1)
  else if !f.bcast && s.isOwn f.dest then none
  else if s.crosses k ring then some (1 - k, 2)
  else some (k, 1)

/-- Whether what arrives at a port is on a primary leg (R330): not on port B or D, unless the part turns it round there. On a
counter-direction leg a part forwards and delivers nothing. -/
def State.primaryLeg (s : State) (p : Nat) : Bool := p % 2 == 0 || (s.port (p - 1)).wrapped
/-- A frame on a counter-direction leg goes on with WRAP set. -/
def State.passBack (s : State) (p : Nat) (f : Frame) : State :=
  if f.ttl == 0 then s.addSat (ringB (p / 2) + 0x64) 15 0 1 else s.sendPort (p - 1) { f with ttl := f.ttl - 1, wrap := true }

/-- A frame tells that the ring is wrapped: every part sets WRAP and takes the routes that then hold (R330). -/
def State.noteWrap (s : State) (k : Nat) (routes : Option Routes) : State :=
  let was := (s.pair k).ringWrap || (s.port (2 * k)).wrapped || (s.port (2 * k + 1)).wrapped
  let s := s.modPair k (fun x => { x with ringWrap := true, wrapSeen := true })
  if was then s
  else
    let s := s.ringEvt k [4]
    match routes with | some r => s.setRoutes r | none => s

/-- Queue a request, or answer BUSY; a broadcast has no answer of its own (R347, R343). -/
def State.request (s : State) (k : Nat) (f : Frame) : State :=
  if decide (64 ≤ s.xact.tq.length) || (s.pair k).leaving then
    if f.bcast then s else ((s.addSat (xactB + 0x6C) 31 16 1).xactEvt 7).respond f 1 []
  else s.modXact (fun x => { x with tq := x.tq ++ [(s.now, f)] })

/-- The entries of a STREAM payload (R255). -/
def toEntries : Nat → List Nat → List (BitVec 64)
  | 0, _ => []
  | n + 1, b => BitVec.ofNat 64 (unle (b.take 8)) :: toEntries n (b.drop 8)

/-- A frame addressed to this part. An EVENT has no effect that the spec names (log entry 29). -/
def State.deliver (s : State) (k : Nat) (f : Frame) : State :=
  match f.ftype with
  | .read | .write => s.request k f
  | .response => s.response f
  | .stream => s.streamRx f.src f.xseq (toEntries (f.payload.length / 8) f.payload)
  | _ => s

/-- A frame on the primary leg of a pair's ring (R322, R336, R337). GAP, ENUMERATE and TIME frames act through rows of
their own. -/
def State.route1 (s : State) (k : Nat) (f : Frame) : State :=
  let ring := f.dest / 128
  let own := (s.pair k).ringId
  match f.ftype with
  | .gap | .enumerate | .time => s
  | _ =>
    match s.way k f with
    | none => if s.inserted k f then s.strip k f else s.deliver k f
    | some (out, units) =>
      let s := if f.bcast && (out != k || (ring == own && (s.pair k).joined)) && ring == (s.pair out).ringId then s.deliver out f else s
      s.forward k out units f

/-- The outgoing copy of a frame that fails, which a cut-through part has begun to send: it ends with EOF_BAD (R322). It takes no
LSEQ and no place in the replay buffer, and is sent only where the lane was free for it (log entry 53). -/
def State.cutBad (s : State) (p : Nat) (f : Frame) : State :=
  let go (i : Nat) (g : Frame) : State :=
    let x := s.port i
    if s.mayPump i && !x.holdTx && x.waiting.isEmpty && decide (x.tx.length < 8) && s.clearsWindow (i / 2) (Nat.max s.now x.busyTo) g.size then
      s.emit (.frame i { g with lseq := x.txSeq } true)
    else s
  if f.lseq != (s.port p).rxSeq || f.ftype == .time || (f.ftype == .enumerate && !f.bcast) || f.ttl == 0 then s
  else if !s.primaryLeg p then go (p - 1) { f with ttl := f.ttl - 1, wrap := true }
  else match s.way (p / 2) f with
    | some (out, units) =>
      if f.ttl < units || !(s.pair out).wicketOpen then s
      else
        let w := (s.port (2 * out + 1)).wrapped
        go (if w then 2 * out else 2 * out + 1) { f with ttl := f.ttl - units, wrap := w }
    | none => s

/-- NORMAL_FRAME_RECEIVE (R322, R327, R330): the check, the link's acknowledgement, then the frame's way. A frame that ended with
EOF_BAD is discarded without an answer (R318, log entry 53). -/
def execNormalFrameReceive (p : Nat) (rx : Line) (routes : Option Routes) (s : State) : Host.Outcome State Fault Refusal :=
  done s (
    let x := rx.frame
    let seq := (s.port p).rxSeq
    if !s.portUp p then s
    else
      let s := if x.errors == 0 then s else s.addSat (linkCnt p) 15 0 x.errors
      match x.f with
      | none => if x.bad then s else s.linkWord p (.nak seq)
      | some f =>
        if f.ftype == .time then s
        else if x.bad then s.cutBad p f
        else if !x.ok then (s.cutBad p f).linkWord p (.nak seq)
        else if f.lseq != seq then
          if decide ((seq + 256 - f.lseq) % 256 ≤ (s.port p).rxRec) then s.linkWord p (.ack f.lseq) else s.linkWord p (.nak seq)
        else
          let k := p / 2
          let s := (s.modPort p (fun x => { x with rxSeq := (f.lseq + 1) % 256, rxRec := sat 128 (x.rxRec + 1) })).linkWord p (.ack f.lseq)
          let s := if f.wrap then s.noteWrap k routes else s
          if s.primaryLeg p then s.route1 k { f with wrap := false }
          else match f.ftype with
            | .gap | .enumerate => s
            | _ => s.passBack p f)

/-! ## Urgent frames (R186, R325, R331) -/

/-- Send an urgent frame on in a direction of a pair, the link's weight spent; a spent budget ends it. -/
def State.urgentOn (s : State) (k : Nat) (up : Bool) (m : Msg) (bad : Bool) : State :=
  if m.hops == 0 then s
  else
    let i := if up then (if (s.port (2 * k + 1)).wrapped then 2 * k else 2 * k + 1)
      else if (s.port (2 * k)).wrapped then 2 * k + 1 else 2 * k
    s.emit (.urgent i { m with hops := m.hops - s.weight i } bad)

/-- URGENT_FRAME_RECEIVE (R325): delivered where the part is its target, else forwarded; one that fails its check is forwarded with
its check inverted, and delivered nowhere. A crossing spends one unit more (R337). -/
def execUrgentFrameReceive (p : Nat) (rx : Line) (s : State) : Host.Outcome State Fault Refusal :=
  done s (
    let k := p / 2
    if !s.portUp p then s
    else match rx.urgent with
      | none => s.addSat (linkCnt p) 15 0 (Nat.max 1 (violations rx.chars))
      | some (m, ok) =>
        let ring := m.tgtAddr / 128
        let s := if ok then s else s.addSat (linkCnt p) 15 0 (Nat.max 1 (violations rx.chars))
        if s.isOwn m.srcAddr then s
        else if s.isOwn m.tgtAddr then (if ok then s.recvTerr m else s)
        else if s.crosses k ring then
          if m.hops == 0 then s else s.urgentOn (1 - k) true { m with hops := m.hops - 1 } !ok
        else s.urgentOn k (p % 2 == 0) m !ok)

/-! ## Keeper election and enumeration (R332, R333) -/

/-- Start an election: a candidate sends its claim. -/
def State.elect (s : State) (k : Nat) : State :=
  let s := s.modPair k (fun x => { x with elected := true, keeper := false, keeperAddr := none, claimSent := decide (s.keepPri k < 255) })
  let s := if s.keepPri k < 255 then s.sendClaim k (s.keepPri k) s.ident.uid else s
  if k == 0 then s.freeCheck.portUpdate else s

/-- The own claim has come back: keeper (R332). The keeper of a newly formed ring takes NODE 0 and counts the ring. -/
def State.becomeKeeper (s : State) (k : Nat) : State :=
  let ring := s.rf (ringB k + 0x40) 22 16
  let x := s.pair k
  let a := if x.joined then x.ringId * 128 + x.node else ring * 128
  let s := s.modPair k (fun x =>
    { x with keeper := true, keeperAddr := some a, elected := true, claimSent := false, lastGap := s.now
             nextMembers := if x.joined then x.members else x.nextMembers })
  let s := (s.keeperChanged k).ringRec k 0x0403 0 a 0
  if x.joined then s
  else (s.modPair k (fun x => { x with node := 0, ringId := ring, taken := [], forming := true, expect := none, reqs := [] })).sendCount k 0

/-- Whether elections run on a pair's ring: not on a child ring, whose junction is keeper always, nor on the redundant ring, whose GAP
frames the keeper of the A/B ring sends (R332, R338). -/
def State.elects (s : State) (k : Nat) : Bool := k == 0 || s.pairMode 1 < 2

/-- An ENUMERATE or GAP frame arrives: on a counter-direction leg it goes on with WRAP set and has no other effect (R330). -/
def State.onLeg (s : State) (p : Nat) (f : Frame) (act : State → State) : State := if s.primaryLeg p then act s else s.passBack p f

/-- A frame that the part inserted has come back (R322). -/
def State.stripped (s : State) (k : Nat) : State := s.addSat (ringB k + 0x64) 31 16 1

/-- CLAIM_RECEIVE (R332). -/
def execClaimReceive (p pri uid src ttl : Nat) (s : State) : Host.Outcome State Fault Refusal :=
  done s (
    let k := p / 2
    let f := { s.enumFrame k 1 0 false (le 1 pri ++ le 8 uid) with src := src, ttl := ttl }
    if !s.portUp p || !s.elects k then s
    else s.onLeg p f fun s =>
    if uid == s.ident.uid then
      let s := s.stripped k
      if (s.pair k).claimSent && !(s.pair k).keeper then s.becomeKeeper k else s
    else
      let mine := s.keepPri k
      let s := s.modPair k (fun x => { x with elected := true })
      if 255 ≤ mine || pri < mine || (pri == mine && decide (uid < s.ident.uid)) then
        (s.modPair k (fun x => { x with keeper := false })).forward k k 1 f
      else if (s.pair k).claimSent then s
      else (s.modPair k (fun x => { x with claimSent := true })).sendClaim k mine s.ident.uid)

/-- Whether a number is taken by another part, as the keeper knows the ring. -/
def Pair.used (x : Pair) (n uid : Nat) : Bool :=
  n == x.node || x.taken.any (fun e => e.1 == n && e.2 != uid) ||
  (nbit x.nextMembers n && !(x.taken.any (fun e => e.1 == n)))
/-- The lowest free number. -/
def Pair.lowest (x : Pair) (uid : Nat) : Option Nat := (List.range 128).find? (fun n => !x.used n uid)
/-- The number a request gets, or the reason of its refusal: 0 RING_REFUSED, 1 ADDR_CONFLICT (R333). 255 is no position. -/
def Pair.number (x : Pair) (r : JReq) : Nat ⊕ Nat :=
  let other : Nat ⊕ Nat :=
    if r.pos < 128 && !x.used r.pos r.uid then .inl r.pos
    else match x.lowest r.uid with
      | some n => .inl n
      | none => .inr 0
  if r.pos != 255 && decide (128 ≤ r.pos) then .inr 0
  else match r.req with
  | some n => if r.pin then (if x.used n r.uid then .inr 1 else .inl n) else if x.used n r.uid then other else .inl n
  | none => other

/-- Answer one request with a broadcast ASSIGN. -/
def State.assign (s : State) (k : Nat) (r : JReq) : State :=
  let x := s.pair k
  let out := x.number r
  let node := match out with | .inl n => n | .inr _ => 0
  let refuse := match out with | .inl _ => 0 | .inr c => c + 1
  let s := if refuse == 0 then s.modPair k (fun x => { x with taken := x.taken.filter (fun e => e.2 != r.uid) ++ [(node, r.uid)] }) else s
  s.sendPair k (s.enumFrame k 4 (x.ringId * 128) true (le 8 r.uid ++ [node, x.ringId, refuse]))

/-- Insert a request by ring position. -/
def insReq (r : JReq) : List JReq → List JReq
  | [] => [r]
  | x :: l => if r.pos < x.pos then r :: x :: l else x :: insReq r l

/-- All requests of a newly formed ring are in: numbers by the order of R333, and the keeper itself is joined. -/
def State.assignAll (s : State) (k : Nat) : State :=
  let l := (s.pair k).reqs.foldl (fun l r => insReq r l) []
  let s := s.modPair k (fun x => { x with reqs := [], forming := false, expect := none })
  let s := s.each (l.filter (·.pin)) (fun r s => s.assign k r)
  let free (s : State) (r : JReq) : Bool := match r.req with | some n => !((s.pair k).used n r.uid) | none => false
  let prev := l.filter (fun r => !r.pin && r.req.isSome)
  let res := prev.foldl (fun (a : State × List JReq) r => if free a.1 r then (a.1.assign k r, a.2) else (a.1, a.2 ++ [r])) (s, [])
  let rest := (l.filter (fun r => r.req.isNone) ++ res.2).foldl (fun l r => insReq { r with req := none } l) []
  (res.1.each rest (fun r s => s.assign k r)).nowJoined k

def State.formCheck (s : State) (k : Nat) : State :=
  match (s.pair k).expect with
  | some n => if n ≤ (s.pair k).reqs.length then s.assignAll k else s
  | none => s

/-- COUNT_RECEIVE (R333): the position, and the request; at the keeper the number of the other parts. -/
def execCountReceive (p pos ttl : Nat) (s : State) : Host.Outcome State Fault Refusal :=
  done s (
    let k := p / 2
    let src := (s.pair k).keeperAddr.getD 0
    if !s.portUp p then s
    else s.onLeg p { s.enumFrame k 2 0 false (le 2 pos) with src := src, ttl := ttl } fun s =>
    if (s.pair k).keeper then
      let s := s.stripped k
      if (s.pair k).forming then (s.modPair k (fun x => { x with expect := some pos })).formCheck k else s
    else
      let r := s.ownReq k
      let s := (s.modPair k (fun x => { x with pos := some pos })).forward k k 1
        { s.enumFrame k 2 0 false (le 2 (pos + 1)) with src := src, ttl := ttl }
      s.sendJoinReq k s.ident.uid pos r.1 r.2)

/-- JOIN_REQ_RECEIVE (R333). -/
def execJoinReqReceive (p uid pos : Nat) (req : Option Nat) (pin : Bool) (ttl : Nat) (s : State) : Host.Outcome State Fault Refusal :=
  done s (
    let k := p / 2
    let r : JReq := { uid := uid, pos := pos, req := req, pin := pin }
    let f := { s.joinReqFrame k uid pos req pin with ttl := ttl }
    if !s.portUp p then s
    else s.onLeg p f fun s =>
    if !(s.pair k).keeper then (if uid == s.ident.uid then s.stripped k else s.forward k k 1 f)
    else if (s.pair k).forming then (s.modPair k (fun x => { x with reqs := x.reqs ++ [r] })).formCheck k
    else s.assign k r)

/-- ASSIGN_RECEIVE (R333, R341, R343): the own number or refusal; the broadcast goes on round the ring, and the keeper strips it
(R336). -/
def execAssignReceive (p uid node ring : Nat) (refuse : Option Nat) (routes : Routes) (ttl : Nat) (s : State) : Host.Outcome State Fault Refusal :=
  done s (
    let k := p / 2
    let f := { s.enumFrame k 4 (ring * 128) true (le 8 uid ++ [node, ring, match refuse with | some c => c + 1 | none => 0]) with
      src := (s.pair k).keeperAddr.getD 0, ttl := ttl }
    if !s.portUp p then s
    else s.onLeg p f fun s =>
    if (s.pair k).keeper then s.stripped k
    else
      let s := s.forward k k 1 f
      if (k == 1 && s.pairMode 1 == 2) || uid != s.ident.uid || (s.pair k).joined || (s.pair k).join != 3 then s
      else match refuse with
        | none =>
          let s := s.modPair k (fun x => { x with node := node, ringId := ring, keeperAddr := some (x.keeperAddr.getD (ring * 128)), elected := true })
          (({ s with routes := routes }.nowJoined k).freeCheck).portUpdate
        | some c =>
          let s := (s.ringEvt k [if c == 1 then 10 else 9]).ringRec k 0x0405 0 (s.addrOn k) c
          (s.dropPair k).modPair k (fun x => { x with refused := true }))

/-! ## Transaction timeout floor (R346) -/

/-- TMO_FLOOR in µs for an EXTRA_HOPS value. -/
def State.tmoFloor (s : State) (extra : Nat) : Nat :=
  let size := if s.pairAB.size == 0 then 128 else s.pairAB.size
  cdiv ((2 * size + extra) * 608 + 1000) 100
/-- The part raises TIMEOUT to a floor that has risen above it. -/
def State.tmoRaise (s : State) : State :=
  let c := s.reg (xactB + 0x54)
  let fl := s.tmoFloor (fld c 31 24)
  if fld c 19 0 < fl then (s.setRf (xactB + 0x54) 19 0 (sat 1000000 fl)).xactEvt 6 else s

/-! ## The gap (R334, R335, R374) -/

/-- GAP_CFG.PERIOD in CORE cycles. -/
def State.gapPer (s : State) (k : Nat) : Nat := s.rf (ringB k + 0x48) 7 0 * MS
/-- The keeper that sends a pair's GAP frames (R338). -/
def State.gapKeeper (s : State) (k : Nat) : Bool :=
  if k == 1 && s.pairMode 1 == 2 then s.pairAB.keeper && s.pairCD.joined else (s.pair k).keeper && (s.pair k).joined
def State.gapFrame (s : State) (k members collect window keeper : Nat) : Frame :=
  let pl := le 16 members ++ le 16 collect ++ le 6 (window / billion) ++ le 4 (window % billion) ++ le 2 keeper
  { ftype := .gap, bcast := true, dest := (s.pair k).ringId * 128, src := keeper, len := 44, xseq := (s.pair k).gapSeq, payload := pl }
/-- MEMBERS is taken over, and the ring size from it. -/
def State.takeMembers (s : State) (k members : Nat) : State :=
  let n := popCount members 128
  let grew := n != (s.pair k).size
  let s := s.modPair k (fun x => { x with members := members, size := n })
  if k == 0 && grew then s.tmoRaise else s

/-- GAP_SEND (R334): the window starts 200 µs later (log entry 30). -/
def execGapSend (k : Nat) (s : State) : Host.Outcome State Fault Refusal :=
  done s (
    let x := s.pair k
    if !s.runs k || !s.gapKeeper k || decide (s.now < x.lastGap + s.gapPer k) then s
    else
      let w := s.nowNs + 200000
      let s := s.sendPair k (s.gapFrame k x.nextMembers 0 w (s.addrOn k))
      (s.modPair k (fun x => { x with lastGap := s.now, window := some w, served := false, gapSeq := (x.gapSeq + 1) % 65536, collect := 0 })).takeMembers k x.nextMembers)

/-- Whether WINDOW passes the check of R374. -/
def State.windowOk (s : State) (k w : Nat) : Bool :=
  decide (s.nowNs ≤ w) && decide (w ≤ s.nowNs + s.gapPer k * 5 + s.rf (merB + 0x48) 29 0)

/-- GAP_RECEIVE (R334, R341, R374); the keeper strips its own (R336). -/
def execGapReceive (p members collect window keeper ttl xseq : Nat) (s : State) : Host.Outcome State Fault Refusal :=
  done s (
    let k := p / 2
    let x := s.pair k
    let f := { s.gapFrame k members (if x.joined then collect ||| 2 ^ x.node else collect) window keeper with ttl := ttl, xseq := xseq }
    if !s.runs k || x.join == 0 then s
    else if !s.primaryLeg p then s.passBack p { f with payload := (s.gapFrame k members collect window keeper).payload }
    else if s.gapKeeper k && keeper == s.addrOn k then
      let c := collect ||| 2 ^ x.node
      (s.stripped k).modPair k (fun x =>
        { x with nextMembers := c, collect := c, taken := x.taken.filter (fun e => nbit c e.1 || !nbit x.members e.1) })
    else
      let s := s.modPair k (fun x => { x with lastGap := s.now })
      let s := if x.keeperAddr == some keeper then s
        else
          let s := s.modPair k (fun x => { x with keeperAddr := some keeper, keeper := false, elected := true, claimSent := false })
          (s.keeperChanged k).ringRec k 0x0403 (p % 2) keeper 0
      let ok := s.windowOk k window
      if x.join == 3 then
        let s := if x.joined then s.takeMembers k members else s
        let s := s.modPair k (fun x => { x with window := if ok then some window else x.window, served := if ok then false else x.served })
        if (s.port p).link == 3 then s.forward k k 1 f else s
      else if x.join == 2 && ok then s.modPair k (fun x => { x with window := some window, served := false })
      else s)

/-- GAP_WINDOW_START (R334): joining parts open their Wicket, leaving parts close it, wrapped ports whose link is back
unwrap (R331, R341, R343); a part that has met no frame with WRAP since the last window no longer takes the ring to be wrapped
(log entry 54). Each window is acted on once. -/
def execGapWindowStart (k : Nat) (routes : Routes) (s : State) : Host.Outcome State Fault Refusal :=
  done s (
    match (s.pair k).window with
    | none => s
    | some w =>
      if !s.runs k || decide (s.nowNs < w) || (s.pair k).served then s
      else
      let s := s.modPair k (fun x => { x with served := true, ringWrap := x.wrapSeen, wrapSeen := false })
      if (s.pair k).join == 2 && !(s.pair k).wicketOpen then s.openWicket k
      else if (s.pair k).leaving && (s.pair k).drained then (s.dropPair k).ringEvt k [1]
      else s.each [2 * k, 2 * k + 1] (fun p s =>
        if (s.port p).wrapped && (s.port p).unwrapDue then
          let s := s.modPort p (fun x => { x with wrapped := false, unwrapDue := false })
          ((s.ringEvt k [5]).ringRec k 0x0402 (p % 2) (s.addrOn k) 0).setRoutes routes
        else s))

/-- GAP_LOST (R335, R341): no GAP frame for three periods. A joining part opens its Wicket and a ring forms. -/
def execGapLost (k : Nat) (s : State) : Host.Outcome State Fault Refusal :=
  done s (
    let x := s.pair k
    if !s.runs k || x.join == 0 || s.gapKeeper k || decide (s.now < x.lastGap + 3 * s.gapPer k) then s
    else
      let s := s.modPair k (fun x => { x with lastGap := s.now })
      let vote (s : State) : State := if s.elects k then s.elect k else s
      if x.join == 3 then (if s.pairMode k == 3 then s else vote (s.ringEvt k [6]))
      else vote (((s.openWicket k).modPair k (fun x => { x with join := 3 })).redundantJoin))

/-! ## Joining and leaving (R341, R343) -/

/-- Start to join. A CHILD pair forms its ring as keeper at once. -/
def State.joinStart (s : State) (k : Nat) : State :=
  let m := s.pairMode k
  if m == 0 || (s.pair k).join != 0 || !s.runs k || s.pkg.testHold then s
  else if m == 3 then
    let ring := s.rf (ringB k + 0x40) 22 16
    let s := (s.openWicket k).modPair k (fun x =>
      { x with join := 3, keeper := true, elected := true, node := 0, ringId := ring, keeperAddr := some (ring * 128), refused := false
               taken := [], forming := true, expect := none, reqs := [], lastGap := s.now })
    (((s.ringEvt k [7]).ringRec k 0x0403 0 (ring * 128) 0).sendCount k 0)
  else s.modPair k (fun x => { x with join := if s.mer.st == 1 then 2 else 1, refused := false, lastGap := s.now })

/-- LEAVE (R343). -/
def State.leaveStart (s : State) (k : Nat) : State :=
  let x := s.pair k
  if x.joined then s.modPair k (fun x => { x with leaving := true, drained := false })
  else if x.join == 0 then s else s.dropPair k

/-- A write of PAIR_CTRL. -/
def State.pairCtrl (s : State) (k : Nat) (v : Word) : State :=
  let s := if bit v 0 then s.joinStart k else s
  if bit v 1 then s.leaveStart k else s

/-- JOIN (R341). -/
def execJoin (ini : Ini) (k : Nat) (s : State) : Host.Outcome State Fault Refusal :=
  done s (s.write ini (ringB k + 0x44) false (·.joinStart k))
/-- LEAVE (R343). -/
def execLeave (ini : Ini) (k : Nat) (s : State) : Host.Outcome State Fault Refusal :=
  done s (s.write ini (ringB k + 0x44) false (·.leaveStart k))
/-- LEAVE_DRAIN_DONE (R343): the target queue is empty. -/
def execLeaveDrainDone (k : Nat) (s : State) : Host.Outcome State Fault Refusal :=
  done s (
    if s.runs k && (s.pair k).leaving && s.xact.tq.isEmpty then s.modPair k (fun x => { x with drained := true }) else s)

end Sys2Proof.Machine
end

