-- ==== Sys2Proof/Machine/Hold.lean ====
section
/-! DEFINITION. Hold-through (15_reset_states_modes.md R435 to R437): what stops on a die whose logic is reset, and what becomes of its slots. -/
namespace Sys2Proof.Machine

/-- A slot with a live insertion or load enters the hold-through domain (R437, R201). -/
def State.holdEnter (s : State) (n : Nat) : State :=
  let x := s.slot n
  let s := s.withdraw n
  let hold (s : State) : State := s.modSlot n (fun y =>
    { y with
      st := .holdthru, prev := x.st, step := 0, held := x.st, htLatch := false, htOff := false, offPend := none
      retry := { y.retry with stable := none }
      prot := { y.prot with acc := 0, due := none, uv := 0, ov := 0, pgOkAt := none, pgLow := 0 }
      ins := { y.ins with swapPending := false, spareEnh := false, abort := if x.st == .charging then 12 else y.ins.abort } })
  match x.st with
  | .on => hold s
  | .seated | .waiting | .charging => hold ((s.pullGates n false).modSlot n (fun y => { y with revBlock := false }))
  | _ => s

/-- The slots of a die that differ from a fresh slot. -/
def State.dieSlots (s : State) (d : Nat) : List Nat := (s.slots.filter (fun e => e.1 / 16 == d)).map (·.1)

/-- The logic of a die is reset (R435, R436): queues, calibration steps and swaps in progress, tests, contexts, capture
and generator, waveforms not yet complete, repeated copies of messages. -/
def State.dieReset (s : State) (d : Nat) : State :=
  let b := (s.die d).belv
  let back (m : Modl) : Modl := if m.state == 2 then { m with state := 0 } else m
  let map := match b.roll with
    | some r => if r.spare.isSome && (r.phase == 2 || r.phase == 4) then b.map.set r.idx r.mod else b.map
    | none => b.map
  let s := s.modDie d (fun x =>
    { x with
      belv :=
        { b with
          mods := b.mods.map back, map := map, queue := [], roll := none, rollWait := false, swap := none, swapQ := [], openRun := none
          openReq := none, fullAt := none, busOkAt := none, autoCnt := 0 }
      eng :=
        { x.eng with
          ctxs := x.eng.ctxs.map (fun c => ({ failed := c.failed, bad := c.bad, mapDue := c.mapDue } : Ctx)), lane := [], test := {}, cap := {} }
      snaps := x.snaps.map (fun o => match o with | some n => if n.full then some n else none | none => none) })
  { s with copies := s.copies.filter (fun c => dieOf c.slot != d) }

/-- The pages of a die start anew: events, counts, locks and shadows (R49, R436, R440). A shadow's key holds its address below
2^24. -/
def State.clearPages (s : State) (d : Nat) : State :=
  let keep (k : Nat) : Bool := pageDie (k % 2 ^ 24 / 4096) != some d
  { s with
    pages := s.pages.filter (fun e => pageDie e.1 != some d)
    shadow := s.shadow.filter (fun e => keep e.1)
    fresh := s.fresh.filter (fun e => keep e.1) }

/-- The die's logic stops and its slots enter the domain. -/
def State.dieHold (s : State) (d : Nat) : State := ((s.each (s.dieSlots d) (fun n s => s.holdEnter n)).dieReset d).clearPages d

/-- With neither die 0 nor die 1 serving, and no lead role on its way, the other dies hold their slots as in DIE-FAULT
(R441); they stay present. -/
def State.noLead (s : State) : State :=
  if !s.inRun || s.pkg.hand.isSome || s.runs 0 || s.runs 1 then s
  else s.each (s.presentDies.filter s.runs) (fun d s => (s.dieHold d).modDie d (fun x => { x with mode := .fault, faultAt := s.now, attempts := 0 }))

end Sys2Proof.Machine
end

