-- ==== Sys2Proof/Machine/Rows.lean ====
section
/-! DEFINITION. Row writes of the FeRAM (14_config_store_log.md R402, R403): the hidden counts, remapping and lost writes, the keep area, and the repair of a mirrored copy (R408). -/
namespace Sys2Proof.Machine

/-! ## Row writes (R402, R403) -/

def rowLimit : Nat := 800000000
/-- Move a row's content to the lowest free spare row. -/
def State.rowMove (s : State) (d row : Nat) : State :=
  let old := s.logicalRead d (row * 64) 64
  let k := (s.die d).rowsUsed
  let s := s.modDie d (fun x =>
    { x with
      rowMap := minsert row k (x.rowMap.filter (fun e => e.1 != row)), rowsUsed := k + 1, remaps := sat 65535 (x.remaps + 1)
      rowWear := mset 0 x.rowWear row 1 })
  s.logicalWrite d (row * 64) old

/-- One write of a row whose read-back differs fails times, a first difference being repeated: the count, the remap, or the loss. The
Boolean says that the content is written. -/
def State.rowWrite (s : State) (d row fails : Nat) : State × Bool :=
  let n := mget 0 (s.die d).rowWear row + 1 + Nat.min fails 1
  let s := s.modDie d (fun x => { x with rowWear := mset 0 x.rowWear row n })
  let bad := decide (2 ≤ fails)
  if !bad && decide (n < rowLimit) then (s, true)
  else
    let data := [d] ++ le 2 row ++ [b2n bad] ++ le 4 n
    if 64 ≤ (s.die d).rowsUsed then
      let s := (s.modDie d (fun x => { x with fails := sat 255 (x.fails + 1) })).evt (pageNo logB) [1]
      ((s.exhausted 9 d 0 0 (row % 256)).logLead 9 0 0x0008 data, false)
    else
      let k := (s.die d).rowsUsed
      let s := ((s.rowMove d row).evt (pageNo logB) [3]).logLead 9 0 0x0007 data
      (s.swap 9 d 0 0 (row % 256) k 0, true)

/-- Write bytes at a logical offset, row by row, every read-back in order; a row whose write is lost keeps its content (R402). The
Boolean says that no row was lost. -/
def State.rowsWrite (s : State) (d o : Nat) (bytes : List Nat) : State × Bool :=
  ((List.range (cdiv (o % 64 + bytes.length) 64)).map (· + o / 64)).foldl (fun (m : State × Bool) r =>
    let w := m.1.rowWrite d r 0
    let a := Nat.max o (64 * r)
    (if w.2 then w.1.logicalWrite d a ((bytes.drop (a - o)).take (64 * r + 64 - a)) else w.1, m.2 && w.2)) (s, true)

/-! ## The keep area (R393, R401, R419; log entry 31) -/

/-- The die offset of the keep area. -/
def keepBase (d : Nat) : Nat := if d < 2 then 0x14000 else 0
/-- Write to the keep area of a die, and read it. -/
def State.keepWrite (s : State) (d o : Nat) (bytes : List Nat) : State := (s.rowsWrite d (keepBase d + o) bytes).1
def State.keepRead (s : State) (d o n : Nat) : List Nat := s.logicalRead d (keepBase d + o) n

/-! ## The mirror (R408) -/

/-- Rewrite a copy on die 0 or die 1 from the other, where it is valid there and not here. -/
def State.repairCopy (s : State) (c dst : Nat) : State :=
  if s.present (1 - dst) && s.copyValid (1 - dst) c && !s.copyValid dst c then
    (s.rowsWrite dst (copyBase c) (s.copyBytes (1 - dst) c)).1.logLead 9 0 0x0005 [c + 1, dst]
  else s
/-- A copy valid on one of die 0 and die 1 and not on the other is rewritten there; while the writes of that die are blocked, the
rewriting waits. -/
def State.mirrorRepair (s : State) : State :=
  let want := [0, 1].flatMap (fun c => ([0, 1].filter (fun d => s.present 0 && s.present 1 && s.copyValid (1 - d) c && !s.copyValid d c)).map (fun d => (c, d)))
  let s := { s with cfg := { s.cfg with repair := want.filter (fun e => s.feramBlocked e.2) } }
  s.each (want.filter (fun e => !s.feramBlocked e.2)) (fun e s => s.repairCopy e.1 e.2)

end Sys2Proof.Machine
end

