-- ==== Sys2Proof/Machine/Nursery.lean ====
section
/-! DEFINITION. The Nursery's commands, the lead die, the charge pumps and the saving of wear counters (13_nursery.md R384 to R396, 03_slot_hardware.md R78, 15_reset_states_modes.md R445). -/
namespace Sys2Proof.Machine

def State.nursReject (s : State) : State := s.reject (pageNo nursB)

/-! ## Approval (R385) -/

/-- Whether a write of CMD names the head request. -/
def NReq.named (r : NReq) (v : Word) : Bool :=
  r.kind == fld v 27 24 && r.die == fld v 18 16 && r.inst == fld v 14 8 && r.sub == fld v 3 0

/-- What an approved request does. -/
def State.approved (s : State) (r : NReq) : State :=
  match r.kind with
  | 0 => s.roleSwap r.inst true
  | 1 =>
    let partner := if r.sub % 2 == 0 then r.sub + 1 else r.sub - 1
    if nbit (s.excl r.inst) partner then s.exhausted 1 r.die r.inst r.sub r.sub
    else ((s.setRf (slotB r.inst + 0x118) (24 + r.sub) (24 + r.sub) 1).swap 1 r.die r.inst r.sub r.sub partner 0).rawLow r.inst
  | 4 => if (s.die r.die).pow.refUse == r.inst then s.modDie r.die (fun x => { x with pow := { x.pow with refSwap := true } }) else s
  | 7 => s.spareGo r.die r.inst
  | _ => s.modBelv r.die (fun b => { b with swapQ := if b.swapQ.contains r.inst then b.swapQ else b.swapQ ++ [r.inst] })

/-- What a declined request does: its counts start from zero. -/
def State.declined (s : State) (r : NReq) : State :=
  let s := s.nursRec 0x0602 r.kind r.die r.inst r.sub 0 0 0
  match r.kind with
  | 0 =>
    let s := s.modSlot r.inst (fun x => { x with ins := { x.ins with swapPending := false } })
    s.verdict r.inst 6 2 false
  | 1 => s.modSlot r.inst (fun x => { x with lone := x.lone.set r.sub 0 })
  | 4 => s.modDie r.die (fun x => { x with pow := { x.pow with refScans := 0 } })
  | 7 => s
  | _ => s.modMod r.die r.inst (fun x => { x with fails := 0 })

/-- APPROVE or DECLINE of the head request. -/
def State.headCmd (s : State) (v : Word) (g : State → NReq → State) : State :=
  match s.nurs with
  | [] => s.nursReject
  | r :: rest => if r.named v then g { s with nurs := rest } r else s.nursReject

/-! ## The other operations of CMD (R386 to R393) -/

/-- The slot a command names, where it may act: its die present, the slot OFF or EMPTY. -/
def State.idleSlot (s : State) (n : Nat) : Bool := s.slotHere n && ((s.slot n).st == .off || (s.slot n).st == .empty)

/-- RESTORE_ROLE (R386). -/
def State.roleBack (s : State) (n : Nat) : State :=
  if s.idleSlot n && s.backup n && (s.slot n).role then
    ((s.modSlot n (fun x => { x with role := false })).nursRec 0x0605 0 (dieOf n) n 0 0 0 0).gazRebuild
  else s.nursReject

/-- READMIT_CMP (R387). -/
def State.cmpBack (s : State) (n c : Nat) : State :=
  if s.idleSlot n && decide (c < 4) && nbit (s.excl n) c then
    (((s.setRf (slotB n + 0x118) (24 + c) (24 + c) 0).modSlot n (fun x => { x with lone := x.lone.set c 0 })).nursRec
      0x0605 1 (dieOf n) n c 0 0 0).gazRebuild
  else s.nursReject

/-- MOVE_LEAD (R392): the hand-over to the named die starts. -/
def State.leadMove (s : State) (d : Nat) : State :=
  if decide (d < 2) && d != s.pkg.lead && s.runs d then { s with pkg := { s.pkg with hand := some d, handLost := false } } else s.nursReject

/-- FAIL_MOD (R388). -/
def State.failModl (s : State) (d m : Nat) : State := if s.runs d && decide (m < 38) then s.reportMod d m else s.nursReject

/-- RESET_WEAR (R393). -/
def State.wearBack (s : State) (n sub : Nat) : State :=
  if !s.slotHere n then s.nursReject
  else
    let unwarn (w : Wear) (l : List Nat) : Wear := { w with warned := l.foldl (fun m k => setNbit m k false) w.warned }
    match sub with
    | 0 => s.modSlot n (fun x => { x with eA := { x.eA with cycles := 0 }, wear := unwarn x.wear [0] })
    | 1 => s.modSlot n (fun x => { x with eB := { x.eB with cycles := 0 }, wear := unwarn x.wear [1] })
    | 2 => s.modSlot n (fun x => { x with wear := unwarn { x.wear with inserts := 0, trips := 0, disagree := 0 } [2, 3] })
    | _ => s.nursReject

/-- A write of NURS.CMD (R396). -/
def State.nursCmd (s : State) (v : Word) : State :=
  match fld v 31 28 with
  | 1 => s.headCmd v State.approved
  | 2 => s.headCmd v State.declined
  | 3 => s.roleBack (fld v 14 8)
  | 4 => s.cmpBack (fld v 14 8) (fld v 3 0)
  | 5 => s.leadMove (fld v 18 16)
  | 6 => s.failModl (fld v 18 16) (fld v 14 8)
  | 7 => s.wearBack (fld v 14 8) (fld v 3 0)
  | _ => s.nursReject

def nursCmdA : Nat := nursB + 0x58
/-- A write of CMD whose row names the operation: OP is that operation's, the operand's own OP is not read. -/
def State.nursOp (s : State) (ini : Ini) (op : Nat) (v : Word) : State :=
  s.write ini nursCmdA true (fun s => s.nursCmd (setFld v 31 28 op))

/-- APPROVE (R385). -/
def execApprove (ini : Ini) (v : Word) (s : State) : Host.Outcome State Fault Refusal := done s (s.nursOp ini 1 v)
/-- DECLINE (R385). -/
def execDecline (ini : Ini) (v : Word) (s : State) : Host.Outcome State Fault Refusal := done s (s.nursOp ini 2 v)
/-- RESTORE_ROLE (R386). -/
def execRestoreRole (ini : Ini) (v : Word) (s : State) : Host.Outcome State Fault Refusal := done s (s.nursOp ini 3 v)
/-- READMIT_CMP (R387). -/
def execReadmitCmp (ini : Ini) (v : Word) (s : State) : Host.Outcome State Fault Refusal := done s (s.nursOp ini 4 v)
/-- MOVE_LEAD (R392). -/
def execMoveLead (ini : Ini) (v : Word) (s : State) : Host.Outcome State Fault Refusal := done s (s.nursOp ini 5 v)
/-- FAIL_MOD (R388). -/
def execFailMod (ini : Ini) (v : Word) (s : State) : Host.Outcome State Fault Refusal := done s (s.nursOp ini 6 v)
/-- RESET_WEAR (R393). -/
def execResetWear (ini : Ini) (v : Word) (s : State) : Host.Outcome State Fault Refusal := done s (s.nursOp ini 7 v)

/-! ## The lead die (R392) -/

/-- A die leaves the Trellis (R68): its ring pair is unavailable, its slots' targets change their REACH. -/
def State.dieGone (s : State) (d : Nat) : State :=
  let s := s.modDie d (fun x => { x with present := false })
  let s := ((s.evt (pageNo pkgB) [3]).gazRebuild).reachUpdate
  (if d < 2 then s.dropPair d else s).noLead

/-- The other of die 0 and die 1. -/
def otherLead (d : Nat) : Nat := if d == 0 then 1 else 0

/-- A die is lost: a follower at once, the lead die once the role has moved, where the other of die 0 and die 1 is
there to take it (R392, R440); its own pair leaves its ring and closes its Wicket at once (R171, R339). -/
def State.dieLost (s : State) (d : Nat) : State :=
  if d == s.pkg.lead && s.runs (otherLead d) then { s with pkg := { s.pkg with hand := some (otherLead d), handLost := true } }.dropPair d
  else s.dieGone d

/-- What becomes of a tag when the lead role moves. -/
def Tag.moved (t : Tag) : Tag :=
  if t.st == 2 then { t with st := 0 } else if t.st == 1 then { t with lost := true, busyAt := none } else t

/-- What the lead die alone held, and does not carry across a move (R392). -/
def State.leadDrop (s : State) : State :=
  { s with
    xact := { s.xact with cpl := [], tags := s.xact.tags.map Tag.moved }
    qport := { s.qport with rxq := [], asm := [], commit := none }
    shadow := []
    fresh := []
    nurs := [] }

/-! ## The switch of the reference (R26, R27, R389) -/

def State.clkEvt (s : State) (b : Nat) : State := s.evt (pageNo clkB) [b]
/-- All dies switch to a reference; cause 0 loss, 1 software. -/
def State.refTo (s : State) (b : Bool) (cause : Nat) : State :=
  let s := s.modPkg (fun p => { p with refUse := b })
  let s := (s.addSat (clkB + 0x48) 15 0 1).clkEvt 0
  (s.logLead 2 0 0x0010 [b2n b, cause]).swap 5 s.pkg.lead 0 0 (b2n (!b)) (b2n b) 0

/-- The lead die commands a switch away from a lost reference while the other is present; with no lead die no die switches
(R26, R27). -/
def State.refFollow (s : State) : State :=
  let here := if s.pkg.refUse then s.pkg.refB else s.pkg.refA
  let other := if s.pkg.refUse then s.pkg.refA else s.pkg.refB
  if !here && other && s.present s.pkg.lead then (s.refTo (!s.pkg.refUse) 0).modPkg (fun p => { p with pllLocked := true }) else s

/-- LEAD_HANDOVER_DONE (R392). -/
def execLeadHandoverDone (s : State) : Host.Outcome State Fault Refusal :=
  done s (
    match s.pkg.hand with
    | none => s
    | some d =>
      let old := s.pkg.lead
      let lost := s.pkg.handLost
      if !s.inRun then s
      else if !s.runs d then
        let s := { s with pkg := { s.pkg with hand := none, handLost := false } }
        if lost then s.dieGone old else s
      else
        let s := { s with pkg := { s.pkg with lead := d, hand := none, handLost := false } }.leadDrop
        let s := ((s.evt (pageNo pkgB) [2]).swap 10 d d 0 old d 0).refFollow
        if lost then s.dieGone old else s)

/-! ## Charge pumps (R78, R390, R445) -/

/-- PUMP_FAILOVER (R78, R390): VCP has been low for 20 µs while the running pump is enabled. -/
def execPumpFailover (d : Nat) (s : State) : Host.Outcome State Fault Refusal :=
  done s (
    let p := (s.die d).pow
    if !s.runs d || p.stopped || p.pumpFailed == 3 then s
    else
      let run := p.pumpRun
      let failed := setNbit p.pumpFailed run true
      if failed == 3 then
        (s.modDie d (fun x => { x with pow := { x.pow with pumpFailed := 3, restarting := false, vcpLow := true, exFrom := none } })).exhausted 6 d run 0 run |>.gazRebuild
      else
        let s := s.modDie d (fun x => { x with pow := { x.pow with pumpRun := 1 - run, pumpFailed := failed, restarting := false, vcpLow := true, exFrom := none } })
        s.swap 6 d run 0 run (1 - run) 0)

/-- PUMP_RESTART_DONE (R78): VCP is within its limits again. -/
def execPumpRestartDone (d : Nat) (s : State) : Host.Outcome State Fault Refusal :=
  done s (
    let p := (s.die d).pow
    if !s.runs d || p.stopped || p.pumpFailed == 3 then s
    else s.modDie d (fun x => { x with pow := { x.pow with restarting := false, vcpLow := false } }))

/-- SPARE_PUMP_EXERCISE (R445): every 60 s the standby pump runs alone for 5 ms; fell says that VCP fell meanwhile. -/
def execSparePumpExercise (d : Nat) (fell : Bool) (s : State) : Host.Outcome State Fault Refusal :=
  done s (
    let p := (s.die d).pow
    let busy := s.anySlot d (fun x => x.st == .charging || (x.st == .seated && x.step == 3))
    if !s.runs d || s.rf (modeB + 0x48) 4 4 != 1 || busy || p.waits || p.pumpFailed != 0 || !decide (p.exAt + 60 * SEC ≤ s.now) then s
    else
      let s := s.modDie d (fun x => { x with pow := { x.pow with exAt := s.now, pumpFailed := if fell then setNbit 0 (1 - x.pow.pumpRun) true else 0 } })
      if fell then s.gazRebuild else s)

/-! ## The wear counters in FeRAM (R393; log entry 31) -/

/-- The saved counters of a slot. -/
def Slot.wearBytes (x : Slot) : List Nat :=
  le 4 x.eA.cycles ++ le 4 x.eB.cycles ++ le 4 x.wear.inserts ++ le 4 x.wear.trips ++ le 4 x.wear.disagree
/-- Save the wear counters of a die. -/
def State.saveWear (s : State) (d : Nat) : State :=
  let s := s.keepWrite d 0x40 ((slotsOf d).flatMap (fun n => (s.slot n).wearBytes))
  s.keepWrite d 0x200 ((List.range 38).flatMap (fun m => le 4 ((s.die d).belv.modl m).driftSum))

/-- Restore them at BOOT; a counter at its threshold has given its warning. -/
def State.loadWear (s : State) (d : Nat) : State :=
  let s := s.each (slotsOf d) (fun n s =>
    let b := s.keepRead d (0x40 + 20 * localOf n) 20
    s.modSlot n (fun x =>
      { x with
        eA := { x.eA with cycles := numAt b 0 4 }
        eB := { x.eB with cycles := numAt b 4 4 }
        wear := { inserts := numAt b 8 4, trips := numAt b 12 4, disagree := numAt b 16 4, warned := 0 } }))
  s.modBelv d (fun b => { b with mods := (List.range 38).map (fun m =>
    { b.modl m with driftSum := unle (s.keepRead d (0x200 + 4 * m) 4) }) })

/-- Mark the warnings that the restored counters have passed. -/
def State.markWarned (s : State) (n : Nat) : State :=
  let th (o : Nat) : Nat := (s.reg (nursB + o)).toNat
  let x := s.slot n
  let on (t c : Nat) : Bool := t != 0 && decide (t ≤ c)
  let w := maskOf ((List.range 4).filter (fun k =>
    match k with
    | 0 => on (th 0x90) x.eA.cycles
    | 1 => on (th 0x90) x.eB.cycles
    | 2 => on (th 0x94) x.wear.inserts
    | _ => on (th 0x98) x.wear.trips))
  if w == x.wear.warned then s else s.modSlot n (fun x => { x with wear := { x.wear with warned := w } })

/-- WEAR_SAVE (R393): every WEAR_CFG.SAVE seconds, on each die whose FeRAM may be written. -/
def execWearSave (s : State) : Host.Outcome State Fault Refusal :=
  done s (
    if s.inRun && decide (s.pkg.wearAt + s.rf (nursB + 0x50) 11 0 * SEC ≤ s.now) then
      { s with pkg := { s.pkg with wearAt := s.now } }.each (s.presentDies.filter (fun d => !s.feramBlocked d)) (fun d s => s.saveWear d)
    else s)

end Sys2Proof.Machine
end

