-- ==== Sys2Proof/Machine/Store.lean ====
section
/-! DEFINITION. The FeRAM store (14_config_store_log.md): the log and its reading, snapshots, saving and staging of the configuration. -/
namespace Sys2Proof.Machine

/-! ## The log (R418 to R423) -/

/-- The log records of a die that may be written now: the oldest of its queue. A lost record consumes its sequence
number and leaves NEXT where it is (log entry 33). -/
def State.recordWrite (s : State) (d fails : Nat) (r : Rec) (rest : List Rec) : State :=
  let l := (s.die d).log
  let o := logBase d + 32 * l.next
  let s := s.modDie d (fun x => { x with log := { x.log with queue := rest } })
  let w := s.rowWrite d (o / 64) fails
  if !w.2 then w.1
  else
    let s := w.1.logicalWrite d o (r.bytes d)
    (s.modDie d (fun x => { x with log :=
      { x.log with
        next := (l.next + 1) % 4096, count := sat 4096 (l.count + 1)
        oldest := if l.count == 4096 then (l.oldest + 1) % 4096 else l.oldest } })).evt (pageNo logB) [0]

/-- Whether log records of a die wait for its FeRAM: wear counters, configurations and snapshots are written after them (R403). -/
def State.logWaits (s : State) (d : Nat) : Bool := !(s.die d).log.queue.isEmpty

/-- FERAM_ROW_WRITE (R402, R403): the row that holds the next log record is written; fails counts the read-backs that
differ. With no record waiting, the repair of a copy that waited is written (R408). -/
def execFeramRowWrite (d fails : Nat) (s : State) : Host.Outcome State Fault Refusal :=
  done s (
    if !s.present d || s.feramBlocked d then s
    else match (s.die d).log.queue with
      | r :: rest => s.recordWrite d fails r rest
      | [] => (match s.cfg.repair.find? (fun e => e.2 == d) with
        | some e => { s with cfg := { s.cfg with repair := s.cfg.repair.filter (· != e) } }.repairCopy e.1 d
        | none => s))

/-- COALESCE_FLUSH (R423): WINDOW has passed since the held record's time. -/
def execCoalesceFlush (d : Nat) (s : State) : Host.Outcome State Fault Refusal :=
  done s (
    match (s.die d).log.coal with
    | some r => if s.runs d && decide (r.at_ + s.rf (logB + 0x40) 13 0 * MS ≤ s.now) then s.logFlush d else s
    | none => s)

/-- A read of REC0 (R421): the 32 bytes of the record, and the advance of INDEX. -/
def State.recRead (s : State) (ini : Ini) : State :=
  let p := s.reg (logB + 0x44)
  let d := fld p 18 16
  let b := if s.present d then s.logicalRead d (logBase d + 32 * fld p 11 0) 32 else List.replicate 32 0
  let w := toWords 8 b
  let s := s.each [1, 2, 3, 4, 5, 6, 7] (fun k s => s.capture ini (logB + 0x48 + 4 * k) (w.getD k 0))
  let s := if bit p 31 then s.setRf (logB + 0x44) 11 0 (fld p 11 0 + 1) else s
  s.answer (w.headD 0)
/-- LOG_READ (R421). -/
def execLogRead (ini : Ini) (s : State) : Host.Outcome State Fault Refusal :=
  done s (s.readAt ini (logB + 0x48) (fun s => s.recRead ini))

/-- A write of LOG.CMD.CLEAR (R422). -/
def State.logWipe (s : State) (mask : Nat) : State :=
  let ds := s.presentDies.filter (nbit mask)
  if ds.isEmpty then s
  else if ds.any s.feramBlocked then s.reject (pageNo logB)
  else
    let s := s.each ds (fun d s =>
      let n := (s.die d).log.next
      (s.modDie d (fun x => { x with log := { x.log with oldest := n, count := 0 } })).keepWrite d 0 (le 2 n))
    (s.evt (pageNo logB) [2]).logLead 10 0 0x0006 [mask % 256]
/-- LOG_CLEAR (R422). -/
def execLogClear (ini : Ini) (mask : Nat) (s : State) : Host.Outcome State Fault Refusal :=
  done s (s.write ini (logB + 0x70) true (fun s => s.logWipe mask))

/-! ## Snapshots (R149, R424) -/

/-- The bytes of a snapshot before its header is complete: bytes 0 to 59. -/
def Snap.head (n : Snap) : List Nat :=
  [0x4B, 0x54, 0x57, 0x56, n.slot, n.cause, n.detail, 0] ++ le 6 (secOf n.time) ++ le 4 (nsOf n.time) ++ le 2 n.seq ++ le 2 2048 ++
    le 2 3200 ++ le 4 n.shunt ++ List.replicate 32 0
def Snap.body (n : Snap) : List Nat := n.samples.flatMap (fun p => le 2 p.1 ++ le 2 p.2)
/-- The 16,448 bytes of a snapshot. -/
def Snap.bytes (n : Snap) : List Nat := n.head ++ le 4 (crc32c (n.head ++ n.body)) ++ n.body

/-- Whether a snapshot copy can have ended: its 257 rows are written no faster than one in 32 µs, after those of the copy before
(R403, R424). -/
def State.snapSpaced (s : State) (d : Nat) (n : Snap) : Bool :=
  decide (n.fullAt + 256 * 32 * US ≤ s.now) && ((s.die d).log.snapAt.all (fun t => decide (t + 257 * 32 * US ≤ s.now)))

/-- SNAPSHOT_SAVED (R148, R174, R424): the copy of a complete buffer has passed read-back, and the buffer is free. Log records are
written first (R403). -/
def execSnapshotSaved (d buf : Nat) (s : State) : Host.Outcome State Fault Refusal :=
  done s (
    match (s.die d).snaps.getD buf none with
    | none => s
    | some n =>
      if !s.runs d || s.feramBlocked d || !n.full || s.logWaits d || !s.snapSpaced d n then s
      else
        let k := (s.die d).log.snapSlot
        let w := s.rowsWrite d (snapBase d + 0x4040 * k) n.bytes
        w.1.modDie d (fun x =>
          { x with
            snaps := if w.2 then x.snaps.set buf none else x.snaps, last := if w.2 then x.last.set buf (some n) else x.last
            log := { x.log with snapAt := some s.now, snapSlot := if w.2 then (k + 1) % snapSlots d else k } }))

/-! ## Which registers an image holds (R409, R411) -/

/-- The registers of BELV at 0x40 to 0x6F are one set for the package, held at BELV[0] (R224). -/
def home (a : Nat) : Nat :=
  match locate a with
  | some l => if l.blk == .belv && decide (0x40 ≤ l.off) && decide (l.off < 0x70) then belvB 0 + l.off else a
  | none => a

/-- Whether a register's Reset column reads cfg. -/
def cfgReg (a : Nat) : Bool :=
  match locate a with
  | some l => (match rowAt l with | some r => r.cfg | none => false)
  | none => false

/-- The bases of the present instances of a page type that ALL_INSTANCES can name; none for the others (R406). -/
def State.instances (s : State) (b : Blk) : List Nat :=
  match b with
  | .slot => s.presentSlots.map slotB
  | .die => s.presentDies.map dieB
  | .belv => s.presentDies.map belvB
  | .cont => s.presentDies.map contB
  | _ => []
def Blk.many (b : Blk) : Bool := b == .slot || b == .die || b == .belv || b == .cont

/-- The fields that an operating mode loads in a register: the register with them at the preset of a mode (R444). -/
def loaded (m : Nat) (a : Nat) (w : Word) : Word :=
  let p := preset m
  match locate a with
  | none => w
  | some l =>
    match l.blk, l.off with
    | .belv, 0x40 => setFld (setFld w 6 4 p.osr) 8 8 p.idle
    | .slot, 0x100 => setFld w 5 4 p.dg
    | .cont, 0x40 => setFld (setFld w 1 0 p.rate) 7 4 p.sec
    | .belv, 0x440 => setFld w 1 1 p.roll
    | .log, 0x40 => setFld w 31 31 p.coal
    | .mode, 0x48 => setFld w 4 0 p.opts
    | _, _ => w

/-- The registers that hold loaded fields. -/
def State.loadedRegs (s : State) : List Nat :=
  [belvB 0 + 0x40, logB + 0x40, modeB + 0x48] ++ s.presentSlots.map (fun n => slotB n + 0x100) ++
    s.presentDies.flatMap (fun d => [contB d + 0x40, belvB d + 0x440])

/-- The word that SAVE compares and writes: MODE.REQUEST stands for the mode in force. -/
def State.saveWord (s : State) (a : Nat) : Word := if a == modeB + 0x40 then BitVec.ofNat 32 s.pkg.mode else s.reg (home a)
/-- Whether SAVE writes a register: it differs from its default with the mode's loads applied. -/
def State.saved (s : State) (a : Nat) : Bool := s.saveWord a != loaded s.pkg.mode a (resetWord (home a))

/-- The place of a record in the image: ascending address, TOC_CFG after TOC_PT7, LEVEL_CFGn from 7 down to 1. -/
def saveKey (a : Nat) : Nat :=
  match locate a with
  | some l =>
    if l.blk == .slot && l.off == 0x180 then a + 0x2D
    else if l.blk == .terr && decide (0x44 ≤ l.off) && decide (l.off ≤ 0x5C) then terrB + 0x44 + (0x5C - l.off)
    else a
  | none => a
def insRec (r : ImgRec) : List ImgRec → List ImgRec
  | [] => [r]
  | x :: l => if saveKey r.addr < saveKey x.addr then r :: x :: l else x :: insRec r l

/-- The record of one candidate register; none where it is not saved. -/
def State.saveRec (s : State) (a : Nat) : Option ImgRec :=
  match locate a with
  | none => none
  | some l =>
    let v := s.saveWord a
    let bases := s.instances l.blk
    if !s.saved a then none
    else if l.blk.many && bases.all (fun b => s.saveWord (b + l.off) == v) then
      some ⟨(({ l with inst := 0 } : Loc).base) + l.off, 128, v.toNat⟩
    else some ⟨a, 0, v.toNat⟩

/-- Whether a register may appear in an image now: cfg, and on a present die. -/
def State.savable (s : State) (a : Nat) : Bool :=
  cfgReg a && (match locate a with
    | some l => (match l.die with | some d => s.present d | none => true)
    | none => false)

/-- The records of SAVE. -/
def State.saveRecs (s : State) : List ImgRec :=
  let cand := ((s.regs.map (·.1)).flatMap (fun a =>
      match locate a with
      | some l => if home a == a && l.blk == .belv && decide (l.off < 0x70) && decide (0x40 ≤ l.off) then (s.presentDies.map belvB).map (· + l.off) else [a]
      | none => []) ++ s.presentDies.map (fun d => belvB d + 0x40) ++ s.loadedRegs ++ [modeB + 0x40]).dedup.filter s.savable
  ((cand.filterMap s.saveRec).dedup).foldr insRec []

/-! ## CFG.CMD (R411 to R413, R426, R427) -/

def State.modCfg (s : State) (g : Cfg → Cfg) : State := { s with cfg := g s.cfg }
def State.cfgReject (s : State) : State := s.reject (pageNo cfgB)
/-- SAVE or COMMIT ends with a status: RESULT, the event, and the record of a failure. -/
def State.saveEnd (s : State) (op status records : Nat) : State :=
  let s := s.modCfg (fun c => { c with result := records + status * 2 ^ 16 + op * 2 ^ 24 })
  if status ≤ 1 then s.evt (pageNo cfgB) [1] else (s.evt (pageNo cfgB) [2]).logLead 9 0 0x0004 [op, status]

/-- The present ones of die 0 and die 1. -/
def State.storeDies (s : State) : List Nat := [0, 1].filter s.present
/-- The stage copy, 0 A or 1 B: the one that does not hold the newest valid image, A when neither is valid. -/
def State.stageOf (s : State) : Nat := match s.newest with | some (0, _) => 1 | _ => 0
/-- SEQUENCE of the newest valid copy, 0 for none. -/
def State.newestSeq (s : State) : Nat := match s.newest with | some (c, d) => imgSeq (s.copyBytes d c) | none => 0

/-- The status that refuses a save whatever its image, 0 for none (R413). -/
def State.saveBar (s : State) (records : Nat) : Nat :=
  if s.cfg.save.isSome then 2
  else if s.storeDies.any s.feramBlocked then 3
  else if 4091 < records then 4
  else if s.newestSeq == 0xFFFFFFFE then 5
  else 0

/-- SAVE (R411). -/
def State.cfgSave (s : State) : State :=
  let rs := s.saveRecs
  let bar := if s.cfg.stage.isSome then 2 else s.saveBar rs.length
  if bar != 0 then s.saveEnd 1 bar 0
  else
    let q := s.newestSeq + 1
    s.modCfg (fun c => { c with save := some { op := 1, copy := s.stageOf, image := mkImage s.ident.part.code q rs, seq := q, records := rs.length } })

/-- OPEN_STAGE (R412); while a save runs it is refused with BUSY (R413). -/
def State.cfgOpen (s : State) : State :=
  if s.cfg.save.isSome then s.modCfg (fun c => { c with result := 2 * 2 ^ 16 })
  else if s.cfg.stage.isSome then s.cfgReject
  else s.modCfg (fun c => { c with stage := some [], stageCopy := s.stageOf })

/-- The bytes of the staging buffer, from the start. -/
def State.stageBytes (s : State) (n : Nat) : List Nat :=
  (List.range n).map (fun i => (mget 0 (s.cfg.stage.getD []) i).toNat)
/-- The buffer as far as its header says it reaches. -/
def State.stageImage (s : State) : List Nat :=
  let h := s.stageBytes 32
  s.stageBytes (sat 32768 (36 + 8 * imgCount h))

/-- COMMIT (R412). -/
def State.cfgCommit (s : State) : State :=
  if s.cfg.stage.isNone then s.cfgReject
  else
    let b := s.stageImage
    let bar := s.saveBar 0
    let st := if bar != 0 then bar else imgStatus s.ident.part.code s.ident.uid b
    let st := if st == 0 && decide (imgSeq b ≤ s.newestSeq) then 11 else st
    if st != 0 then s.saveEnd 2 st 0
    else s.modCfg (fun c => { c with save := some { op := 2, copy := c.stageCopy, image := b, seq := imgSeq b, records := imgCount b } })

/-- ABORT (R412). -/
def State.cfgAbort (s : State) : State := if s.cfg.stage.isNone then s.cfgReject else s.modCfg (fun c => { c with stage := none })

/-- A write of CFG.CMD: of the bits written as 1 the first in the order ABORT, COMMIT, OPEN_STAGE, SAVE acts (R426). -/
def State.cfgCmd (s : State) (v : Word) : State :=
  if bit v 3 then s.cfgAbort else if bit v 2 then s.cfgCommit else if bit v 1 then s.cfgOpen else if bit v 0 then s.cfgSave else s

/-- SAVE (R411). -/
def execSave (ini : Ini) (s : State) : Host.Outcome State Fault Refusal := done s (s.write ini (cfgB + 0x48) true (·.cfgSave))
/-- OPEN_STAGE (R412). -/
def execOpenStage (ini : Ini) (s : State) : Host.Outcome State Fault Refusal := done s (s.write ini (cfgB + 0x48) true (·.cfgOpen))
/-- COMMIT_STAGE (R412). -/
def execCommitStage (ini : Ini) (s : State) : Host.Outcome State Fault Refusal := done s (s.write ini (cfgB + 0x48) true (·.cfgCommit))
/-- ABORT (R412). -/
def execAbort (ini : Ini) (s : State) : Host.Outcome State Fault Refusal := done s (s.write ini (cfgB + 0x48) true (·.cfgAbort))

/-! ## The FERAM window (R404, R412) -/

/-- The offset in the stage region of a window address; none outside it or with no stage open. -/
def State.stageOff (s : State) (a : Nat) : Option Nat :=
  let base := feramB s.pkg.lead + copyBase s.cfg.stageCopy
  if s.cfg.stage.isSome && decide (base ≤ a) && decide (a < base + 32768) then some (a - base) else none

/-- A write to the FERAM window: into the staging buffer, or refused. -/
def State.windowWrite (s : State) (a : Nat) (v : Word) : State :=
  match s.stageOff a with
  | some o =>
    let m := s.cfg.stage.getD []
    s.modCfg (fun c => { c with stage := some (writeBytes (le 4 v.toNat) (o / 4 * 4) m) })
  | none => s.evt (pageNo cfgB) [3]

/-- An access to a window that has no header: served, or refused under R33. -/
def State.winAccess (s : State) (ini : Ini) (a : Nat) (act : State → State) : State :=
  if !s.serving then s else if s.refusal a != 0 then s.addrErr ini a true else act s

/-- STAGE_WINDOW_WRITE (R404, R412). -/
def execStageWindowWrite (ini : Ini) (a : Nat) (v : Word) (s : State) : Host.Outcome State Fault Refusal :=
  done s (
    match locate a with
    | some l => if l.blk == .feram then s.winAccess ini a (fun s => s.windowWrite a v) else s
    | none => s)

/-! ## The end of a save (R411, R413) -/

/-- A copy cut short: it fails the checks of R407. -/
def State.copyBreak (s : State) (d c : Nat) : State := s.logicalWrite d (copyBase c) [0, 0, 0, 0]
/-- A save that a reset or a power loss cuts short (R413). -/
def State.saveCut (s : State) : State :=
  match s.cfg.save with
  | none => s
  | some v => (s.each s.storeDies (fun d s => s.copyBreak d v.copy)).modCfg (fun c => { c with save := none })

/-- SAVE_DONE (R411, R413): the copies are written, after the log records of their dies and while their FeRAM may be written (R173,
R403); ok says that every read-back passed. -/
def execSaveDone (ok : Bool) (s : State) : Host.Outcome State Fault Refusal :=
  done s (
    match s.cfg.save with
    | none => s
    | some v =>
      if !s.inRun || s.storeDies.any s.logWaits || s.storeDies.any s.feramBlocked then s
      else
        let ds := s.storeDies
        let s := s.modCfg (fun c => { c with save := none, stage := if v.op == 2 then none else c.stage })
        if !ok then (s.each ds (fun d s => s.copyBreak d v.copy)).saveEnd v.op 12 0
        else
          let w := ds.foldl (fun (m : State × Bool) d => let x := m.1.rowsWrite d (copyBase v.copy) v.image; (x.1, m.2 && x.2)) (s, true)
          let both := decide (ds.length = 2)
          if !w.2 then (w.1.each ds (fun d s => s.copyBreak d v.copy)).saveEnd v.op 12 0
          else
            (w.1.logLead 9 0 0x0003 ([v.copy + 1, v.op] ++ le 4 v.seq ++ le 2 v.records ++ [b2n both])).saveEnd v.op (if both then 0 else 1) v.records)

end Sys2Proof.Machine
end

