-- ==== Sys2Proof/Machine/Power.lean ====
section
/-! DEFINITION. Entries into the power states, OFF_N and the reference clocks (15_reset_states_modes.md R430 to R443, 06_thermal.md R170, R171, 01_the_part.md R26 to R28). -/
namespace Sys2Proof.Machine

/-! ## Supply loss (R430, R431) -/

/-- What FeRAM keeps of a die without supplies: the row map and the rows' hidden counts. -/
def Die.feramOnly (x : Die) : Die := { rowMap := x.rowMap, rowWear := x.rowWear, rowsUsed := x.rowsUsed, remaps := x.remaps }

/-- The part without supplies: FeRAM content, the factory's values and the levels of the pins remain. -/
def State.powerOff (s : State) : State :=
  let s := s.saveCut
  { State.reset with
    now := s.now
    ident := s.ident
    pkg := { phase := .powerOff, since := s.now, rstLow := s.pkg.rstLow, offLow := s.pkg.offLow, offAt := 0, offCyc := s.now, refA := s.pkg.refA, refB := s.pkg.refB, ewWas := 255, pllLocked := false }
    pages := []
    slots := (s.slots.filter (fun e => e.2.presN)).map (fun e => (e.1, { presN := true }))
    dies := (s.dies.map (fun e => (e.1, e.2.feramOnly))).filter (fun e => decide (e.2 ≠ {}))
    frames := { run := false }
    pairAB := {}
    feram := s.feram
    outbox := s.outbox
    free := s.free
    pending := s.pending }

/-- SUPPLY_LOSS (R430). -/
def execSupplyLoss (s : State) : Host.Outcome State Fault Refusal := done s (if s.pkg.phase == .powerOff then s else s.powerOff)

/-- POR_DELAY_EXPIRY (R430): the supplies have been above their thresholds for tPORD; POWER-OFF and POR are one phase of
the model, since no command says when the supplies return (log entry 32). -/
def execPorDelayExpiry (s : State) : Host.Outcome State Fault Refusal :=
  done s (
    if (s.pkg.phase == .powerOff || s.pkg.phase == .por) && decide (s.pkg.since + MS ≤ s.now) then
      s.modPkg (fun p => { p with phase := .boot, since := s.now, retAt := s.now })
    else s)

/-! ## Warm reset (R434 to R437) -/

/-- A source of a warm reset: in RUN it stops the part, in WARM-RESET it starts the return sequence again. cause: 1
RESET_N, 2 SOFTWARE, 3 WATCHDOG. -/
def State.warmReset (s : State) (cause : Nat) : State :=
  let s := s.modPkg (fun p => { p with cause := cause, warmCount := sat 65535 (p.warmCount + 1), retAt := s.now })
  if s.pkg.phase != .run then s
  else
    let s := (s.saveCut.modCfg (fun c => { c with stage := none })).merReset
    let s := (s.dropPair 0 true).dropPair 1 true
    let s := s.each ((List.range 8).filter (fun d => s.fitted d && (s.die d).mode != .thermal)) (fun d s =>
      ((s.each (s.dieSlots d) (fun n s => s.holdEnter n)).dieReset d).modDie d (fun x => { x with grat := { x.grat with scanned := false } }))
    let held := (s.slots.filter (fun e => e.2.st == .holdthru)).length
    { s with
      pkg :=
        { s.pkg with
          phase := .warm, since := s.now, warmAt := s.mer.count, warmHeld := held, modeReq := none, hand := none, handLost := false
          sumWas := false }
      pages := []
      frames :=
        { s.frames with
          run := false, started := false, num := if s.frames.started then (s.frames.num + 1) % 256 else s.frames.num
          pendMer := none, pendTrig := none, pendSw := none, selNext := false, snapNext := false, snapNow := false, load := none, bTrim := false }
      qport := {}
      xact := {}
      nurs := []
      shadow := []
      fresh := []
      copies := []
      heard := []
      rsp := [] }

/-- RESET_N_LOW (R434): low for tRSTL; one source however long it stays low. -/
def execResetNLow (s : State) : Host.Outcome State Fault Refusal :=
  done s (
    if s.pkg.rstLow then s
    else
      let s := s.modPkg (fun p => { p with rstLow := true })
      if s.pkg.phase == .run || s.pkg.phase == .warm then s.warmReset 1 else s)

/-- RESET_N_RISE (R439): the return sequence starts. -/
def execResetNRise (s : State) : Host.Outcome State Fault Refusal :=
  done s (if s.pkg.rstLow then s.modPkg (fun p => { p with rstLow := false, retAt := s.now }) else s)

/-- A write of MODE.RESET_CTRL (R434, R451). -/
def State.resetCtrl (s : State) (v : Word) : State :=
  if fld v 31 16 != 0xA5A5 then s.reject (pageNo modeB) else if bit v 0 then s.warmReset 2 else s
/-- SOFTWARE_WARM_RESET (R434). -/
def execSoftwareWarmReset (ini : Ini) (s : State) : Host.Outcome State Fault Refusal :=
  done s (s.write ini (modeB + 0x50) true (fun s => s.resetCtrl 0xA5A50001))

/-! ## Die fault (R440, R441) -/

/-- A die enters DIE-FAULT; why: 0 watchdog, 1 Trellis silence. The record is held by a die that serves (R414). -/
def State.dieFault (s : State) (d why : Nat) : State :=
  let holder := if d != s.pkg.lead then s.pkg.lead else if s.runs (otherLead d) then otherLead d else d
  let s := (s.dieHold d).modDie d (fun x => { x with mode := .fault, faultAt := s.now, attempts := 0, grat := { x.grat with scanned := false } })
  let s := s.setApart d
  (s.log holder 11 d 0x0703 [why]).dieLost d

/-- WATCHDOG_EXPIRY (R434, R440). -/
def execWatchdogExpiry (d : Nat) (s : State) : Host.Outcome State Fault Refusal :=
  done s (
    let up := s.present d && (s.die d).mode == .normal
    if d == s.pkg.lead && up && (s.pkg.phase == .run || s.pkg.phase == .warm) then s.warmReset 3
    else if up && s.pkg.phase == .run then s.dieFault d 0
    else if up && s.pkg.phase == .warm then
      (s.modDie d (fun x => { x with mode := .fault, present := false, faultAt := s.now, attempts := 0 })).setApart d
    else s)

/-- TRELLIS_SILENCE (R440): the die has lost Trellis contact for tDFD. -/
def execTrellisSilence (d : Nat) (s : State) : Host.Outcome State Fault Refusal := done s (if s.runs d then s.dieFault d 1 else s)

/-! ## OFF_N (R136, R442) -/

/-- OFF_N turns a slot's gates off: a trip in RUN, a trip on the path alone in the hold-through domain. -/
def State.offTrip (s : State) (n : Nat) : State :=
  if !s.gateUp n then s
  else if (s.slot n).st == .holdthru then
    let s := (s.htTrip n 0xF none).modSlot n (fun x => { x with htLatch := false, htOff := true })
    s.modPkg (fun p => { p with offTrips := p.offTrips + 1 })
  else s.trip n true 0xF 0 0
/-- Every gate of every die off. -/
def State.offAll (s : State) : State := s.each (s.slots.map (·.1)) (fun n s => s.offTrip n)

/-- OFF_N_FALL (R442): low for tOFFW. -/
def execOffNFall (s : State) : Host.Outcome State Fault Refusal :=
  done s (
    if s.pkg.offLow then s
    else if s.pkg.phase == .powerOff then s.modPkg (fun p => { p with offLow := true, offCyc := s.now })
    else
      let s := s.modPkg (fun p => { p with offLow := true, offAt := s.mer.count, offCyc := s.now, offTrips := 0, offCount := sat 65535 (p.offCount + 1) })
      let s := if s.inRun then s.evt (pageNo modeB) [3] else s
      s.offAll)

/-- OFF_N_RISE (R136, R453): the record, stamped with the time of the fall. -/
def execOffNRise (s : State) : Host.Outcome State Fault Refusal :=
  done s (
    if !s.pkg.offLow then s
    else
      let p := s.pkg
      let s := s.modPkg (fun p => { p with offLow := false })
      if p.phase == .powerOff then s
      else
        let r := s.mkRec 1 0 0x0705 (le 2 p.offTrips ++ le 4 (sat sat32 ((s.now - p.offCyc) / US)))
        s.logAdd p.lead { r with time := p.offAt })

/-! ## Thermal shutdown (R170, R171) -/

/-- A die shuts down; sensors holds bit 0 for sensor 1 and bit 1 for sensor 2. -/
def State.thermalStop (s : State) (d sensors : Nat) : State :=
  let restart := s.rf (dieB d + 0x228) 31 31 == 1
  let s := s.modDie d (fun x => { x with thermTime := s.mer.count, thermRestart := restart, thermMask := sensors % 4 })
  let s := s.each ((s.dieSlots d).filter s.gateUp) (fun n s =>
    (s.trip n false 0xD 0 0).modSlot n (fun x => { x with trip := { x.trip with kept := true, sampled := true, buf := 255 } }))
  let off (g : Gate) : Gate := { g with path := .holdOff, next := none, enh := false }
  let s := s.each (s.dieSlots d) (fun n s => (s.withdraw n).modSlot n (fun x => { x with gA := off x.gA, gB := off x.gB, pg := false, revBlock := false, limit := false }))
  let s := (((s.dieReset d).clearPages d).modDie d (fun x => { x with mode := .thermal })).setApart d
  if s.inRun then s.dieLost d
  else
    let s := s.modDie d (fun x => { x with present := false })
    if d < 2 then s.dropPair d else s

/-- THERMAL_SHUTDOWN (R171). -/
def execThermalShutdown (d sensors : Nat) (s : State) : Host.Outcome State Fault Refusal :=
  done s (
    if (s.pkg.phase == .run || s.pkg.phase == .warm) && s.fitted d && (s.die d).mode != .thermal then s.thermalStop d sensors else s)

/-! ## Reference clocks (R26 to R28, R389, R452) -/

/-- Whether the reference monitors act: after BOOT's own check (R26, R432). -/
def State.refLive (s : State) : Bool := s.pkg.phase == .run || s.pkg.phase == .warm

/-- REFCLK_LOSS (R26, R27, R28): b names REFCLK_B. -/
def execRefclkLoss (b : Bool) (s : State) : Host.Outcome State Fault Refusal :=
  done s (
    let was := if b then s.pkg.refB else s.pkg.refA
    let other := if b then s.pkg.refA else s.pkg.refB
    if !s.refLive || !was then s
    else
      let s := (s.modPkg (fun p => if b then { p with refB := false } else { p with refA := false })).addSat (clkB + 0x48) 31 16 1
      if other then
        (if s.pkg.refUse == b && !s.present s.pkg.lead then s.modPkg (fun p => { p with pllLocked := false }) else s.refFollow)
      else
        let s := s.modPkg (fun p => { p with refLost := true, pllLocked := false })
        (((s.clkEvt 1).clkEvt 3).logLead 2 0 0x0011 []).merRefs true)

/-- REFCLK_RETURN (R28): the PLLs relock to it where both were lost. -/
def execRefclkReturn (b : Bool) (s : State) : Host.Outcome State Fault Refusal :=
  done s (
    let was := if b then s.pkg.refB else s.pkg.refA
    if !s.refLive || was then s
    else
      let lost := s.pkg.refLost
      let s := s.modPkg (fun p => if b then { p with refB := true } else { p with refA := true })
      let s := (s.clkEvt 2).logLead 2 0 0x0012 [b2n b]
      if lost then
        let moved := s.pkg.refUse != b
        let s := (s.modPkg (fun p => { p with refUse := b, refLost := false, pllLocked := true })).merRefs false
        if moved then s.gazRebuild else s
      else if s.pkg.refUse == b then s.modPkg (fun p => { p with pllLocked := true }) else s)

/-- A write of 1 to REF_CMD.RETURN_A (R27, R452). -/
def State.returnRefA (s : State) : State :=
  if !s.pkg.refA then s.reject (pageNo clkB) else if s.pkg.refUse then s.refTo false 1 else s
/-- RETURN_A (R27). -/
def execReturnA (ini : Ini) (s : State) : Host.Outcome State Fault Refusal := done s (s.write ini (clkB + 0x44) false (·.returnRefA))

end Sys2Proof.Machine
end

