-- ==== Sys2Proof/Machine/Xact.lean ====
section
/-! DEFINITION. Transactions of the XACT page (11_ceane_ring.md R344 to R347): issue, completion queue, timeout, re-send. -/
namespace Sys2Proof.Machine

/-! ## Issue (R344) -/

/-- The request frame of a tag. -/
def State.tagFrame (s : State) (t : Nat) : Frame :=
  let g := s.tag t
  { ftype := if g.wr then .write else .read, bcast := g.bcast, dest := g.dest, src := s.sysAddr, tag := t, epoch := g.epoch, addr := g.addr, len := 4 * g.words, payload := g.data.flatMap (fun w => le 4 w.toNat) }

/-- Send the request of a tag: served locally where it names the part itself (R56), else onto a ring; with no address
assigned or no route it completes with NO_ROUTE. -/
def State.tagSend (s : State) (t : Nat) : State :=
  let g := s.tag t
  let f := s.tagFrame t
  if !s.sysValid then s.complete t 7 []
  else if !g.bcast && s.isOwn g.dest then
    if 64 ≤ s.xact.tq.length then ((s.addSat (xactB + 0x6C) 31 16 1).xactEvt 7).respond f 1 []
    else s.modXact (fun x => { x with tq := x.tq ++ [(s.now, f)] })
  else if g.bcast && s.pairMode 1 == 2 then
    if s.pairAB.joined then s.sendPair 0 f else if s.pairCD.joined then s.sendPair 1 f else s.complete t 7 []
  else
    let r := s.sendFrame f
    if r.2 then r.1 else s.complete t 7 []

/-- The free tags, in ascending order. -/
def State.freeTags (s : State) : List Nat := (List.range 64).filter (fun t => (s.tag t).st == 0)

/-- A length or range that breaks R321. -/
def badRange (addr words : Nat) : Bool :=
  words == 0 || decide (64 < words) || addr / 4096 != (addr + 4 * words - 4) / 4096

/-- A write of ISSUE (R344). Which free tag it takes the spec leaves open (log entry 7). -/
def State.issueWrite (s : State) (v : Word) : State :=
  let op := fld v 31 30
  let words := fld v 22 16
  let addr := s.rf (xactB + 0x44) 23 0 / 4 * 4
  let bcast := s.rf (xactB + 0x40) 31 31 == 1
  if !(op == 1 || op == 2) || badRange addr words || (op == 1 && bcast) || !s.xact.addrSet then s.reject (pageNo xactB)
  else
    let free := s.freeTags
    if free.isEmpty then (s.setReg (xactB + 0x4C) 0).xactEvt 1
    else
      let t := free.getD (Config.freeWord s.free % free.length) 0
      let s := { s with free := s.free + 1 }
      let data := if op == 2 then (List.range words).map (fun i => s.reg (xactB + 0x100 + 4 * i)) else []
      let s := s.modTag t (fun g =>
        { g with
          st := 1, epoch := (g.epoch + 1) % 4, wr := op == 2, bcast := bcast, dest := s.rf (xactB + 0x40) 13 0, addr := addr, words := words
          user := fld v 7 0, data := data, sentAt := s.now, busyAt := none, retries := 0, lost := false })
      let s := (s.modXact (fun x => { x with addrSet := false })).setReg (xactB + 0x4C) (mkWord [(0, t), (31, 1)])
      s.tagSend t

/-- ISSUE (R344). -/
def execIssue (ini : Ini) (v : Word) (s : State) : Host.Outcome State Fault Refusal :=
  done s (s.write ini (xactB + 0x48) false (·.issueWrite v))

/-! ## Completion (R345) -/

/-- The first word of a completion (R352). -/
def Cpl.lo (c : Cpl) : Word :=
  mkWord [(0, c.data.length), (8, c.user), (18, c.epoch), (20, c.status), (24, c.tag), (31, 1)]
/-- Capture CPL_HI and the read data of a completion. -/
def State.captureCpl (s : State) (ini : Ini) (hi : Word) (data : List Word) : State :=
  (s.capture ini (xactB + 0x64) hi).each (List.range 64) (fun i s => s.capture ini (xactB + 0x200 + 4 * i) (data.getD i 0))
/-- A read of CPL_LO: the head completion leaves the queue and its tag is free. -/
def State.cplPop (s : State) (ini : Ini) : State :=
  match s.xact.cpl with
  | [] => ((s.captureCpl ini 0 []).xactEvt 4).answer 0
  | c :: r =>
    let s := (s.modXact (fun x => { x with cpl := r })).modTag c.tag (fun g => { g with st := 0 })
    (s.captureCpl ini (mkWord [(0, c.dest), (24, sat 255 c.retries)]) c.data).answer c.lo

/-- CPL_POP (R345). -/
def execCplPop (ini : Ini) (s : State) : Host.Outcome State Fault Refusal :=
  done s (s.readAt ini (xactB + 0x60) (·.cplPop ini))

/-! ## Timeout and re-send (R346, R347) -/

/-- XACT_TIMEOUT (R346): TIMEOUT has passed since the request left. -/
def execXactTimeout (t : Nat) (s : State) : Host.Outcome State Fault Refusal :=
  done s (
    let g := s.tag t
    if s.serving && g.st == 1 && decide (g.sentAt + s.rf (xactB + 0x54) 19 0 * US ≤ s.now) then
      ((s.complete t 6 []).addSat (xactB + 0x68) 15 0 1).xactEvt 2
    else s)

/-- A write of TMO_CFG (R14, R346): refused where TIMEOUT would lie below the floor. -/
def State.tmoWrite (s : State) (v : Word) : State :=
  let a := xactB + 0x54
  let ok := decide (10 ≤ fld v 19 0) && decide (fld v 19 0 ≤ 1000000)
  let t := if ok then fld v 19 0 else s.rf a 19 0
  if t < s.tmoFloor (fld v 31 24) then s.reject (pageNo xactB)
  else
    let s := s.setReg a (mkWord [(0, t), (24, fld v 31 24)])
    if ok then s else s.reject (pageNo xactB)
/-- TMO_CFG_WRITE (R346). -/
def execTmoCfgWrite (ini : Ini) (v : Word) (s : State) : Host.Outcome State Fault Refusal :=
  done s (s.write ini (xactB + 0x54) false (·.tmoWrite v))

/-- BUSY_RESEND (R347): tBSY, 5 µs, after the BUSY answer. -/
def execBusyResend (t : Nat) (s : State) : Host.Outcome State Fault Refusal :=
  done s (
    let g := s.tag t
    match g.busyAt with
    | some b =>
      if s.serving && g.st == 1 && decide (b + 5 * US ≤ s.now) then
        (s.modTag t (fun g => { g with busyAt := none, retries := g.retries + 1 })).tagSend t
      else s
    | none => s)

end Sys2Proof.Machine
end

