-- ==== Sys2Proof/Machine/Views.lean ====
section
/-! DEFINITION. What the registers read: the live words of every page (the register tables of each chapter), the Gazetteer (02_pages_and_gazetteer.md R57 to R63) and the CAPT and FERAM windows (10_contour_engine.md R305, 14_config_store_log.md R404). A register without a line here reads the word that State.regs holds. -/
namespace Sys2Proof.Machine

def w32 (v : Nat) : Word := BitVec.ofNat 32 v
/-- The low and high words of a 64-bit value in two's complement. -/
def lo64 (v : Int) : Word := w32 (ofSigned 64 v)
def hi64 (v : Int) : Word := w32 (ofSigned 64 v / 2 ^ 32)

/-! ## The common header (R34 to R40) -/

/-- PAGE_CAP.BLOCK_CAP. -/
def blockCap : Blk → Nat
  | .terr => 0x67 | .cont => 18 + 8 * 256 | _ => 0
/-- PAGE_CTRL.ENABLE: the blocks that cannot be disabled read 1 (R39). -/
def State.enableBit (s : State) (l : Loc) : Nat :=
  if l.blk == .slot || l.blk == .terr || l.blk == .cont then s.rf (l.base + 8) 0 0 else 1
/-- SLOT.PAGE_STAT.ORDER_WARN (R86, R97). -/
def State.orderWarn (s : State) (n : Nat) : Bool := decide (s.sf n 0x108 7 0 ≤ s.sf n 0x10C 7 0)
def State.viewHeader (s : State) (l : Loc) : Word :=
  let p := s.page l.page
  match l.off with
  | 0x00 => mkWord [(0, 1), (8, l.inst), (16, l.blk.code)]
  | 0x04 => mkWord [(0, blockCap l.blk), (30, b2n l.blk.shadowed), (31, b2n l.blk.lockable)]
  | 0x08 => mkWord [(0, s.enableBit l), (1, b2n p.soft.isSome), (4, if l.blk.lockable then p.lock else 0)]
  | 0x0C => mkWord [(0, b2n p.stale), (1, b2n p.soft.isNone), (8, b2n (l.blk == .slot && s.orderWarn l.inst))]
  | 0x10 => p.evt
  | 0x14 => s.reg (l.base + 0x14)
  | 0x1C => w32 p.count
  | _ => 0

/-! ## Package pages -/

/-- Microseconds since the clock epoch (R24, R66). -/
def State.uptime (s : State) : Nat := (s.now - s.pkg.epoch) / US
def State.fittedMask (s : State) : Nat := 2 ^ s.ident.part.dies - 1

def State.viewPkg (s : State) (o : Nat) : Word :=
  match o with
  | 0x40 => mkWord [(8, s.ident.stepping), (16, s.ident.part.code)]
  | 0x44 => w32 s.ident.uid
  | 0x48 => w32 (s.ident.uid / 2 ^ 32)
  | 0x4C => mkWord [(0, s.presentMask), (8, s.fittedMask), (16, s.pkg.lead)]
  | 0x50 => w32 s.pkg.gen
  | 0x54 => mkWord [(0, s.sysAddr), (31, b2n s.sysValid)]
  | 0x60 => w32 s.uptime
  | 0x64 => w32 (s.uptime / 2 ^ 32)
  | 0x80 => w32 s.sumPkg
  | 0x84 => w32 s.sumDie
  | 0x88 => w32 (s.sumSlot 0)
  | 0x8C => w32 (s.sumSlot 1)
  | 0x90 => w32 (s.sumSlot 2)
  | 0x94 => w32 (s.sumSlot 3)
  | 0x98 => w32 s.sumGroup
  | _ => s.reg (pkgB + o)

def State.viewMode (s : State) (o : Nat) : Word :=
  match o with
  | 0x44 => mkWord [(0, s.pkg.mode), (8, b2n s.pkg.modeReq.isSome), (16, b2n s.dirty)]
  | 0x4C => w32 s.dirtySrc
  | 0x54 => mkWord [(0, s.pkg.cause), (16, s.pkg.warmCount)]
  | 0x58 => mkWord [(0, b2n s.pkg.offLow), (16, s.pkg.offCount)]
  | _ => s.reg (modeB + o)

def State.viewClk (s : State) (o : Nat) : Word :=
  match o with
  | 0x40 => mkWord [(0, b2n s.pkg.refA), (1, b2n s.pkg.refB), (2, b2n s.pkg.refUse), (3, b2n s.pkg.refLost), (4, b2n s.pkg.pllLocked)]
  | _ => s.reg (clkB + o)

def State.viewHost (s : State) (o : Nat) : Word :=
  match o with
  | 0x44 => mkWord [(8, b2n s.pkg.mode3), (16, s.pkg.width)]
  | 0x4C => mkWord [(0, s.pkg.testInstr), (8, b2n s.pkg.testHold)]
  | _ => s.reg (hostB + o)

def State.viewXact (s : State) (o : Nat) : Word :=
  match o with
  | 0x50 => w32 s.freeTags.length
  | 0x58 => w32 (s.tmoFloor (s.rf (xactB + 0x54) 31 24))
  | 0x5C => w32 s.xact.cpl.length
  | 0x70 => setFld (s.reg (xactB + o)) 6 0 s.xact.tq.length
  | _ => s.reg (xactB + o)

def State.viewRing (s : State) (k o : Nat) : Word :=
  let x := s.pair k
  let portWord (i : Nat) : Word :=
    let p := s.port (2 * k + i)
    mkWord [(0, p.link), (3, b2n p.wrapped), (8, s.weight (2 * k + i)), (16, s.rf (ringB k + 0x54 + 4 * i) 31 16)]
  match o with
  | 0x4C => mkWord [(0, x.node), (8, x.ringId), (16, x.size), (26, x.join), (28, b2n (!x.wicketOpen)), (29, b2n x.refused),
      (30, b2n x.keeper), (31, b2n x.joined)]
  | 0x50 => (match x.keeperAddr with | some a => mkWord [(0, a), (31, 1)] | none => 0)
  | 0x54 => portWord 0
  | 0x58 => portWord 1
  | 0x70 => w32 x.members
  | 0x74 => w32 (x.members / 2 ^ 32)
  | 0x78 => w32 (x.members / 2 ^ 64)
  | 0x7C => w32 (x.members / 2 ^ 96)
  | _ => s.reg (ringB k + o)

/-- The mean delay of a port's link in ps; its rounding is open (place 19). -/
def Port.meanDelay (p : Port) : Nat := (openRound 19 (((p.delays.foldl (· + ·) 0 : Int) : Rat) / (p.delays.length : Nat))).toNat

def State.viewMer (s : State) (o : Nat) : Word :=
  let m := s.mer
  if 0x200 ≤ o then
    let n := (o - 0x200) / 32
    let t := s.tmr n
    if o % 32 == 0x14 then mkWord [(0, t.fires), (29, b2n t.unsync), (30, b2n t.late), (31, b2n t.active)] else s.reg (merB + o)
  else if 0x100 ≤ o && decide (o < 0x140) then
    let i := (o - 0x100) / 16
    let p := s.port i
    match o % 16 with
    | 0 => if p.delays.isEmpty then 0 else mkWord [(0, p.meanDelay % 2 ^ 24), (31, 1)]
    | 8 => mkWord [(0, p.nbSteps), (16, p.nbState), (20, p.nbQual), (31, b2n (s.heardOn i))]
    | 12 => satW (thetaNs p.theta)
    | _ => s.reg (merB + o)
  else match o with
    | 0x50 => w32 (b2n m.armed)
    | 0x58 => mkWord [(0, s.merSteps), (12, s.merRole), (14, b2n m.armed), (15, b2n m.port.isSome), (16, m.port.getD 0),
        (20, s.merQuality), (24, m.cause), (30, m.st)]
    | 0x5C => satW (thetaNs m.offset)
    | 0x60 => w32 (ofSigned 32 m.rate)
    | 0x6C => if m.st == 2 || m.st == 3 then w32 (sat sat32 ((s.now - m.holdAt) / MS)) else 0
    | 0x70 => w32 (nsOf m.count)
    | 0x74 => w32 (secOf m.count)
    | 0x78 => mkWord [(0, secOf m.count / 2 ^ 32 % 65536), (16, m.count % NS / 65536)]
    | 0xB0 => setFld (s.reg (merB + o)) 3 0 m.txs.length
    | 0x144 => (match m.train with | some t => mkWord [(24, t.port), (31, 1)] | none => w32 m.trainStat)
    | _ => s.reg (merB + o)

def State.viewNurs (s : State) (o : Nat) : Word :=
  let x := s.slot (s.rf (nursB + 0x70) 6 0)
  if 0xA0 ≤ o then
    let d := (o - 0xA0) / 4
    if !s.present d then 0
    else
      let p := (s.die d).pow
      let rows := ((s.die d).rowWear.map (·.2)).foldl Nat.max 0
      mkWord [(3, p.refUse), (4, p.refFailed), (7, p.pumpRun), (8, p.pumpFailed), (16, sat 65535 (rows / 2 ^ 14))]
  else match o with
    | 0x54 => (match s.nurs with
        | r :: _ => mkWord [(0, r.sub), (8, r.inst), (16, r.die), (24, r.kind), (31, 1)]
        | [] => 0)
    | 0x5C => w32 s.nurs.length
    | 0x74 => w32 x.eA.cycles
    | 0x78 => w32 x.eB.cycles
    | 0x7C => w32 x.wear.inserts
    | 0x80 => w32 x.wear.trips
    | 0x84 => w32 x.wear.disagree
    | _ => s.reg (nursB + o)

def State.viewCfg (s : State) (o : Nat) : Word :=
  let c := s.cfg
  let any (k : Nat) : Bool := s.copyValid 0 k || s.copyValid 1 k
  if 0x80 ≤ o then
    let d := (o - 0x80) / 4
    if !s.present d then 0
    else
      let x := s.die d
      mkWord [(0, 64 - x.rowsUsed), (8, sat 255 x.fails), (16, sat 65535 x.remaps)]
  else match o with
    | 0x40 =>
      let newest := match s.newest with | some (k, _) => k + 1 | none => 0
      let mirrored := newest != 0 && s.copyValid 0 (newest - 1) && s.copyValid 1 (newest - 1)
      mkWord [(0, c.selected), (2, b2n c.defaulted), (3, b2n mirrored), (4, b2n c.strap), (6, newest), (8, b2n (any 0)), (9, b2n (any 1)),
        (10, if c.stage.isSome then c.stageCopy else s.stageOf), (11, b2n c.stage.isSome), (12, b2n c.save.isSome)]
    | 0x44 => w32 c.seq
    | 0x4C => w32 c.result
    | 0x50 => mkWord [(0, sat 65535 c.applied), (16, sat 65535 c.skipped)]
    | 0x54 => mkWord [(0, c.rejFirst), (24, sat 255 c.rejCount)]
    | _ => s.reg (cfgB + o)

def State.viewLog (s : State) (o : Nat) : Word :=
  if 0x80 ≤ o then
    let d := (o - 0x80) / 8
    let l := (s.die d).log
    if !s.present d then 0
    else if o % 8 == 0 then mkWord [(0, l.next), (16, l.count)]
    else mkWord [(0, l.seq), (16, l.snapSlot), (20, l.oldest)]
  else s.reg (logB + o)

/-! ## Pages of a die -/

def State.viewDie (s : State) (d o : Nat) : Word :=
  let x := s.die d
  let g := x.grat
  let on (f : Option Snap → Bool) : Nat := maskOf ((List.range 4).filter (fun b => f (x.snaps.getD b none)))
  let deg (t : Nat) : Nat := ofSigned 16 (deciC t)
  if 0x240 ≤ o then
    let n := (o - 0x240) / 4
    mkWord [(0, deg (g.temps.getD n 0)), (16, b2n (nbit g.valid n)), (17, sat 3 (g.streaks.getD n 0))]
  else match o with
    | 0x204 => mkWord [(0, s.ewarnSrc d), (16, maskOf ((List.range 16).filter (fun i => (s.slot (slotOf d i)).offPend.isSome)))]
    | 0x210 => mkWord [(0, on (·.isSome)), (4, on (fun b => match b with | some n => n.full | none => false)), (8, s.rf (dieB d + o) 15 8)]
    | 0x214 => mkWord [(0, b2n (s.fault d)), (1, b2n (x.mode == .thermal)), (16, s.latchedMask d)]
    | 0x220 => mkWord [(0, deg g.max), (16, b2n g.degraded), (17, b2n g.blocked)]
    | 0x224 => mkWord [(0, g.valid), (16, 511 - g.valid)]
    | 0x230 => mkWord [(0, x.log.held.length), (16, x.log.drops)]
    | _ => s.reg (dieB d + o)

/-- CAL_STAT (R264, R265, R270): the rolling step, or the phases of a full calibration. -/
def State.calStat (s : State) (d : Nat) : Word :=
  let b := (s.die d).belv
  let src := b2n (b.mods.any (fun m => !m.selfCal))
  let w (m p : Nat) : Word := mkWord [(0, src), (4, p), (8, m), (16, b.rounds % 65536)]
  match b.fullAt, b.roll with
  | some t, _ => w 63 (if s.now < t + 53 * MS then 2 else 3)
  | none, some r =>
    match r.phase with
    | 0 => w 63 0
    | 1 => w r.mod 1
    | 2 => w r.mod (if s.now < r.at_ + 40 * MS then 2 else 3)
    | _ => w r.mod 3
  | none, none => w 63 0

def State.viewBelv (s : State) (d o : Nat) : Word :=
  let b := (s.die d).belv
  let r := s.frames
  let a := belvB d + o
  if 0x780 ≤ o && decide (o < 0x8B0) then
    let i := (o - 0x780) / 8
    let m := b.modl i
    -- a pair that waits for its frame boundary reads back at once (R245)
    let p := match b.adopt.find? (fun a => a.1 == i) with | some a => a.2 | none => (m.zs, m.fs)
    w32 (ofSigned 32 (if o % 8 == 0 then p.1 else p.2))
  else if 0x900 ≤ o && decide (o < 0x988 - 8) then w32 (b.map.getD ((o - 0x900) / 4) 0)
  else if 0x980 ≤ o && decide (o < 0xA18) then
    let m := b.modl ((o - 0x980) / 4)
    mkWord [(0, ofSigned 16 (clampI (-32768) 32767 m.drift)), (24, sat 15 m.fails), (30, m.state)]
  else match o with
    | 0x5C => mkWord [(0, r.settle), (16, b2n r.pendMer.isSome), (17, b2n r.pendTrig.isSome), (18, b2n r.pendSw.isSome), (20, r.osr), (24, r.num)]
    | 0x104 => w32 b.survEff
    | 0x108 => setFld (s.reg a) 4 0 (b.survCh % 32)
    | 0x130 => setBit (s.reg a) 9 (b.openRun.isSome || b.openReq.isSome)
    | 0x414 => setFld (s.reg a) 10 0 b.queue.length
    | 0x424 => w32 (roundNear 14 ((s.rf (belvB d + 0x420) 23 0 : Rat) * 25 / 4096)).toNat
    | 0x444 => w32 (b2n b.fullAt.isSome)
    | 0x448 => s.calStat d
    | 0xA20 => mkWord [(0, b.refDiff), (24, sat 255 (s.die d).pow.refScans)]
    | _ => s.reg (home a)

def State.viewQueue (s : State) (o : Nat) : Word :=
  match o with
  | 0x64 => mkWord [(0, s.qDies), (16, s.qport.rxq.length)]
  | _ => s.reg (queueB + o)

/-- CTX_STAT (R310). -/
def Ctx.stat (c : Ctx) : Word :=
  mkWord [(0, ofSigned 10 c.code), (16, c.slot), (24, sat 3 c.consec), (26, b2n c.failed), (27, b2n c.commitPend), (28, b2n c.disc),
    (29, b2n c.fallback), (30, b2n c.armed), (31, b2n c.bound)]

def State.viewCont (s : State) (d o : Nat) : Word :=
  let e := (s.die d).eng
  let a := contB d + o
  if 0x3400 ≤ o then
    let p := (s.ctx d ((o - 0x3400) / 0x80)).states.getD ((o - 0x3400) / 16 % 8) (0, 0)
    let v := ofSigned 64 (if o % 16 < 8 then p.1 else p.2)
    w32 (if o % 8 == 0 then v else v / 2 ^ 32)
  else if 0x100 ≤ o && decide (o < 0x580) then
    match o % 0x40 with
    | 0x1C =>
      let n := (o - 0x100) / 0x40
      let c := s.ctx d n
      Ctx.stat { c with disc := if c.bound then s.disconnected d n else c.disc }
    | _ => s.reg a
  else if 0x50 ≤ o && decide (o < 0x60) then
    mkWord ((List.range 4).map (fun k => (8 * k, e.map.getD (o - 0x50 + k) 31)))
  else match o with
    | 0x44 =>
      let m := maskOf ((List.range 18).filter (fun n => (s.ctx d n).bound))
      mkWord [(0, m), (31, b2n (m == 0))]
    | 0x60 => w32 (maskOf ((List.range 18).filter (fun n => (s.ctx d n).failed)))
    | 0x60C => mkWord [(0, sat 65535 e.test.seqs), (16, e.test.step), (24, e.test.end_), (30, b2n e.test.running), (31, b2n e.test.armed)]
    | 0x690 => mkWord [(0, e.cap.trigWord), (16, e.cap.first), (29, b2n e.cap.partial_), (30, e.cap.state)]
    | 0x694 => w32 e.cap.len
    | _ => s.reg a

def State.viewFact (s : State) (d o : Nat) : Word :=
  let i := s.ident
  match o with
  | 0x40 => mkWord [(0, i.testTemp % 65536), (16, 1), (31, b2n (nbit i.factValid d))]
  | 0x44 => w32 i.factCopy
  | _ => mget (if o % 16 == 4 && decide (0x100 ≤ o) then 0x40000000 else 0) i.fact (factB d + o)

/-! ## The slot's page -/

def State.retryStat (s : State) (n : Nat) : Word :=
  let x := s.slot n
  let r := x.retry
  let past := match r.cool with | some t => decide (t ≤ s.now) | none => false
  mkWord [(0, b2n r.stable.isSome), (1, b2n (x.st == .lockout)), (2, b2n r.remember.isSome), (3, b2n (r.busOv && past)), (24, r.cnt)]

def State.terrStat (s : State) (n : Nat) : Word :=
  let t := (s.slot n).terr
  let left := if t.sub == .hold then cdiv (t.holdAt - s.now) US else 0
  mkWord [(0, sat 65535 left), (16, t.lockList.length), (20, t.entries.length), (24, t.incident % 16), (29, b2n t.out),
    (30, b2n (t.sub == .hold)), (31, b2n (t.sub == .wait))]

def State.viewSlot (s : State) (n o : Nat) : Word :=
  let x := s.slot n
  let a := slotB n + o
  if 0x190 ≤ o && decide (o < 0x1B0) then s.tocPt n ((o - 0x190) / 4)
  else match o with
    | 0x40 => mkWord [(0, x.st.code), (4, x.prev.code), (8, if x.st == .empty && x.presN then 1 else x.step), (16, b2n x.offPend.isSome)]
    | 0xA0 => lo64 (x.meter.energy / (2 ^ 32 : Nat))
    | 0xA4 => hi64 (x.meter.energy / (2 ^ 32 : Nat))
    | 0xA8 => w32 x.meter.frames
    | 0xAC => w32 (x.meter.frames / 2 ^ 32)
    | 0xB0 => w32 x.meter.flagged
    | 0x114 => mkWord [(0, b2n x.gA.enh), (1, b2n (x.gB.enh && s.backup n)), (2, s.pathCode n false), (5, s.pathCode n true), (8, b2n x.role),
        (9, b2n x.limit), (10, b2n x.revBlock), (12, x.deg), (16, b2n (x.shM.at_ s.now)), (17, b2n (s.shortVout n)), (18, b2n x.pg), (19, b2n x.presN)]
    | 0x154 => mkWord [(0, s.waitCause n), (24, x.ins.abort), (28, x.ins.k8)]
    | 0x180 => setBit (s.reg a) 8 (!x.prot.ptHeld.isEmpty)
    | 0x18C => w32 (sat 1000 (x.prot.acc * 1000).floor.toNat)
    | 0x1BC => s.retryStat n
    | 0x1C0 =>
      let cool := match x.retry.cool with | some t => cdiv (t - s.now) MS | none => 0
      let rem := match x.retry.remember with | some t => cdiv (t - s.now) SEC | none => 0
      mkWord [(0, sat 65535 cool), (16, rem)]
    | 0x20C => mkWord [(0, b2n (if s.workB n then x.eB.armed else x.eA.armed)), (1, b2n (s.aboveStart n)), (2, b2n (s.pkg.mode == 6)), (3, b2n (s.backup n))]
    | 0x210 => mkWord [(0, ofSigned 16 (deciTj (s.tjOf n x.eA))), (16, if s.backup n then ofSigned 16 (deciTj (s.tjOf n x.eB)) else 0)]
    | 0x214 => mkWord [(0, ofSigned 16 x.tfet.temp), (16, b2n (s.tfetValid n)), (17, b2n (s.tfetOld n))]
    | 0x28C =>
      let r0 := s.reachOf (s.reg (tgtReg n 0))
      let r1 := s.reachOf (s.reg (tgtReg n 1))
      mkWord [(0, r0.1), (4, sat 15 r0.2), (8, r1.1), (12, sat 15 r1.2)]
    | 0x290 => s.terrStat n
    | _ => s.reg a

/-- The word of a register now. For an RS word it is what a read of its LO word captures. -/
def State.view (s : State) (l : Loc) : Word :=
  if l.off < 0x40 then s.viewHeader l
  else match l.blk with
    | .pkg => s.viewPkg l.off
    | .mode => s.viewMode l.off
    | .clk => s.viewClk l.off
    | .host => s.viewHost l.off
    | .xact => s.viewXact l.off
    | .ring => s.viewRing l.inst l.off
    | .mer => s.viewMer l.off
    | .terr => s.reg (terrB + l.off)
    | .nurs => s.viewNurs l.off
    | .cfg => s.viewCfg l.off
    | .log => s.viewLog l.off
    | .die => s.viewDie l.inst l.off
    | .belv => s.viewBelv l.inst l.off
    | .queue => s.viewQueue l.off
    | .cont => s.viewCont l.inst l.off
    | .fact => s.viewFact l.inst l.off
    | .slot => s.viewSlot l.inst l.off
    | .gaz | .capt | .feram => 0

/-! ## The Gazetteer (R57 to R63) -/

/-- Spare modulators, contexts and pumps of a die that are not in use (R63). -/
def State.sparesLeft (s : State) (d : Nat) (l : List Nat) : Nat := (l.filter (fun m => let k := s.modState d m; k == 0 || k == 2)).length
def State.ctxLeft (s : State) (d : Nat) : Nat :=
  ([16, 17].filter (fun n => !(s.die d).eng.map.contains n && !(s.ctx d n).failed)).length

/-- The FLAGS bits SPARE_IN_USE and DEGRADED of a block's entry (R60, R168, R388, R394). -/
def State.gazFlags (s : State) (b : Blk) (d : Nat) : Nat :=
  let x := s.die d
  let spare : Bool := match b with
    | .pkg => s.pkg.lead != 0
    | .clk => s.pkg.refUse
    | .die => x.pow.pumpFailed != 0 || x.grat.valid != 511
    | .belv => [33, 34, 35, 37].any (fun m => s.modState d m == 1) || x.pow.refUse == 1
    | .cont => x.eng.map.any (fun n => n == 16 || n == 17)
    | .slot => (slotsOf d).any (fun n => (s.slot n).role || s.excl n != 0)
    | .feram => s.presentDies.any (fun d => (s.die d).rowsUsed != 0)
    | _ => false
  let deg : Bool := match b with
    | .die => x.grat.degraded
    | .belv => x.belv.map.any (fun m => (x.belv.modl m).state == 3)
    | _ => false
  64 * b2n spare + 8 * b2n deg

/-- One entry (R60). -/
def State.gazEntry (s : State) (b : Blk) (inst d base log2 count cap0 cap1 : Nat) : List Nat :=
  le 2 b.code ++ [inst, 1] ++ le 3 base ++ [s.gazFlags b d + 32 * b2n b.header + 16 * b2n b.lockable, log2, count] ++
    le 2 cap0 ++ le 2 cap1 ++ [0, 0]

/-- One Legend entry (R62): constant, unit, die, value. -/
def legend (id unit die v : Nat) : List Nat := le 2 0xF0 ++ le 2 id ++ le 2 unit ++ [die, 0x80] ++ le 8 v

/-- The entries in ascending order of BASE (R61). -/
def State.gazPages (s : State) : List (List Nat) :=
  let ds := s.presentDies
  let pk (b : Blk) (i base c0 c1 : Nat) : List Nat := s.gazEntry b i 0 base 12 1 c0 c1
  [s.gazEntry .gaz 0 0 0 14 1 0 0, pk .pkg 0 pkgB 0 0, pk .mode 0 modeB 0 0, pk .clk 0 clkB 0 0, pk .host 0 hostB 50 7, pk .xact 0 xactB 0 0] ++
  ([0, 1].filter s.present).map (fun k => pk .ring k (ringB k) 0 0) ++
  [pk .mer 0 merB 0 0, pk .terr 0 terrB 7 6, pk .nurs 0 nursB 0 0, pk .cfg 0 cfgB 0 0,
    pk .log 0 logB 0 0] ++
  ds.map (fun d => s.gazEntry .die d d (dieB d) 12 1 0 0) ++
  ds.map (fun d => s.gazEntry .belv d d (belvB d) 13 1 0x7F 32) ++
  [pk .queue 0 queueB 0 0] ++
  ds.map (fun d => s.gazEntry .cont d d (contB d) 14 1 18 8) ++
  ds.map (fun d => s.gazEntry .fact d d (factB d) 13 1 0 0) ++
  ds.map (fun d => s.gazEntry .slot (16 * d) d (slotB (16 * d)) 12 16 0 0) ++
  [s.gazEntry .capt 0 0 captB 21 1 0 0, s.gazEntry .feram 0 0 (feramB 0) 22 1 0 0]

/-- The Legend (R63): package constants, then those of each present die. -/
def State.gazLegend (s : State) : List (List Nat) :=
  [legend 0x01 1 255 3000000000, legend 0x02 1 255 200000000, legend 0x03 1 255 20000000, legend 0x04 1 255 25000000,
    legend 0x10 0 255 s.ident.part.dies, legend 0x11 0 255 16, legend 0x12 0 255 33, legend 0x13 0 255 32, legend 0x14 0 255 1024,
    legend 0x15 0 255 16, legend 0x16 0 255 8192, legend 0x17 5 255 262144, legend 0x18 0 255 64, legend 0x19 0 255 128,
    legend 0x1A 0 255 16384, legend 0x20 4 255 160000, legend 0x21 3 255 80000] ++
  s.presentDies.flatMap (fun d =>
    [legend 0x30 0 d (s.sparesLeft d [33, 34, 35]), legend 0x31 0 d (s.sparesLeft d [37]), legend 0x32 0 d (s.ctxLeft d),
      legend 0x33 0 d (64 - (s.die d).rowsUsed), legend 0x34 0 d (popCount (s.die d).grat.valid 9),
      legend 0x35 0 d (2 - popCount (s.die d).pow.pumpFailed 2)])

/-- "KQ2032", "KQ4064" or "KQ8128", padded to eight bytes. -/
def Part.ascii : Part → List Nat
  | .kq2032 => [0x4B, 0x51, 0x32, 0x30, 0x33, 0x32, 0, 0]
  | .kq4064 => [0x4B, 0x51, 0x34, 0x30, 0x36, 0x34, 0, 0]
  | .kq8128 => [0x4B, 0x51, 0x38, 0x31, 0x32, 0x38, 0, 0]

/-- The header up to its CHECK (R58). -/
def State.gazHeader (s : State) (entries : Nat) : List Nat :=
  le 4 0x545A4147 ++ le 2 0x0100 ++ le 2 entries ++ le 8 s.ident.uid ++ s.ident.part.ascii ++ [s.presentMask, s.fittedMask] ++
    le 2 (16 * s.presentDies.length) ++ [s.pkg.lead, 0, 0, 0] ++ le 4 s.pkg.gen ++ le 2 0x40 ++ le 2 0x10 ++ List.replicate 20 0

/-- The bytes of the table. -/
def State.gazBytes (s : State) : List Nat :=
  let es := s.gazPages ++ s.gazLegend
  let h := s.gazHeader es.length
  let b := es.flatten
  h ++ le 4 (crc32c (h ++ b)) ++ b

/-- A word of the GAZ window. -/
def State.gazWord (s : State) (o : Nat) : Word := w32 (numAt s.gazBytes (o / 4 * 4) 4)

/-! ## The CAPT and FERAM windows -/

/-- A word of a snapshot buffer: a buffer in use shows its samples as recorded so far and its last header until the
record is complete; a free one its last content (R305). -/
def State.snapWord (s : State) (d b o : Nat) : Word :=
  let x := s.die d
  let old := match x.last.getD b none with | some n => n.bytes | none => []
  let bytes := match x.snaps.getD b none with
    | some n => if n.full then n.bytes else (old.take 64 ++ List.replicate (64 - old.length) 0) ++ n.body
    | none => old
  w32 (numAt bytes o 4)

def State.captWord (s : State) (o : Nat) : Word :=
  let d := o / 0x40000
  let r := o % 0x40000
  if r < 0x8000 then mget 0 s.capt (0x40000 * d + r / 4 * 4)
  else if 0x10000 ≤ r && decide (r < 0x30000) then s.snapWord d ((r - 0x10000) / 0x8000) (r % 0x8000 / 4 * 4)
  else 0

/-- A byte of the FERAM window: the logical row after remapping; the rows beyond those of the store, the keep area and
the factory image, which the window shows as reserved, read 0; the open stage reads its buffer (R401, R404, R412). -/
def State.windowByte (s : State) (a : Nat) : Nat :=
  let d := (a - feramB 0) / 0x80000
  let o := (a - feramB 0) % 0x80000
  match s.stageOff a with
  | some k => (mget 0 (s.cfg.stage.getD []) k).toNat
  | none => if decide (o < (if d < 2 then 0x4000 else 0x1000)) || (decide (d < 2) && decide (0x14000 ≤ o) && decide (o < 0x15000)) || decide (0x3F000 ≤ o) then 0
      else s.logicalByte d o
def State.feramWord (s : State) (a : Nat) : Word := w32 (unle ((List.range 4).map (fun i => s.windowByte (a / 4 * 4 + i))))

end Sys2Proof.Machine
end

