-- ==== Sys2Proof/Machine/Registers.lean ====
section
/-! DEFINITION. Register reads and writes in full: the header and the page lock, shadows, what each register's write does, and the page commands (00_scope.md R14, 02_pages_and_gazetteer.md R33 to R51). -/
namespace Sys2Proof.Machine

/-! ## Fields (R14) -/

/-- The word of a register after a write: each field written with one of its encodings takes it, a field written with a
reserved encoding keeps its old value; the second part says that no field was refused. -/
def Row.merge (r : Row) (old v : Word) : Word × Bool :=
  r.flds.foldl (fun (m : Word × Bool) (x : Fld) =>
    if x.dom.ok (fld v x.hi x.lo) then (setFld m.1 x.hi x.lo (fld v x.hi x.lo), m.2) else (m.1, false)) (old, true)

/-- A write of an RW register at a, on the page p: refused whole where check fails on the word it would hold (R14), else
stored, and act takes place. -/
def State.plainIf (s : State) (p a : Nat) (r : Row) (v : Word) (check : Word → Bool) (act : State → State) : State :=
  let m := r.merge (s.reg a) v
  if !check m.1 then s.reject p
  else act ((if m.2 then s else s.reject p).setReg a m.1)
def State.plain (s : State) (p a : Nat) (r : Row) (v : Word) (act : State → State) : State := s.plainIf p a r v (fun _ => true) act

/-! ## The page lock (R45) -/

/-- A write to PAGE_LOCK by an initiator, in a transaction that started at the CORE cycle start. -/
def State.lockWrite (s : State) (ini : Ini) (l : Loc) (v : Word) (start : Nat) : State :=
  if !l.blk.lockable then s
  else
    let p := l.page
    let g := s.page p
    let key := v.toNat == 0xA5C3
    let go (st : Nat) (viol : Bool) : State :=
      let s := s.modPage p (fun g => { g with lock := st, ini := if st == 1 then ini else g.ini, armAt := if st == 1 then s.now else g.armAt, lastWr := s.now })
      if viol then s.evt p [30] else s
    match g.lock with
    | 0 => if key then go 1 false else go 0 true
    | 1 => if v.toNat == p && decide (start ≤ g.armAt + 256) && g.ini == ini then go 2 false else go 0 true
    | _ => if key then go 1 false else go 0 true

/-! ## PAGE_CTRL (R38, R39) -/

/-- The block-specific event bits of a page (R41 and the register sections of the chapters). -/
def evtMask (b : Blk) : Nat :=
  match b with
  | .pkg => 0x1F | .mode => 0xF | .clk => 0xF | .host => 0x1F | .xact => 0xFF | .ring => 0x7FF | .mer => 0x1FFF
  | .terr => 0xFF | .nurs => 0x1F | .cfg => 0xF | .log => 0xF | .die => 0xFF8000 | .belv => 0xF1FFF | .queue => 0xF
  | .cont => 0x7FF | .slot => 0xFFFFF8 | .fact | .gaz | .capt | .feram => 0
/-- All event bits of a page. -/
def evtBits (b : Blk) : Word := w32 (evtMask b + 7 * 2 ^ 29)

/-- A write of PAGE_CTRL.ENABLE on a page that can be disabled (R39, R99, R202, R275). -/
def State.enableWrite (s : State) (l : Loc) (on : Bool) : State :=
  match l.blk with
  | .slot => if on then s.enableSlot l.inst else s.disableSlot l.inst
  | .terr => if on then s.setRf (terrB + 8) 0 0 1 else if s.terrOn then s.terrOff else s
  | .cont => if !on && s.anyBound l.inst then s.reject l.page else s.setRf (contB l.inst + 8) 0 0 (b2n on)
  | _ => s

/-- Whether the block refuses a soft reset now (R202, R275). -/
def State.softBar (s : State) (l : Loc) : Bool :=
  match l.blk with
  | .terr => s.slots.any (fun e => e.2.terr.sub != .idle)
  | .cont => s.anyBound l.inst
  | _ => false

/-- A write of 1 to PAGE_CTRL.SOFT_RESET (R39, R47). -/
def State.softWrite (s : State) (l : Loc) : State :=
  if s.softBar l then s.reject l.page
  else
    let s := match l.blk with
      | .terr => s.terrReset
      | .queue => s.queueReset
      | .cont => s.contReset l.inst
      | _ => s
    s.modPage l.page (fun g => { g with soft := some s.now, lock := 0 })

/-- A write of 1 to PAGE_CTRL.RELOCK (R38, R47). -/
def State.relockWrite (s : State) (l : Loc) : State := s.modPage l.page (fun g => { g with lock := 0 })

def State.ctrlWrite (s : State) (l : Loc) (v : Word) : State :=
  let s := s.enableWrite l (bit v 0)
  let s := if bit v 1 then s.softWrite l else s
  if bit v 2 then s.relockWrite l else s

/-! ## EVT_STAT, EVT_FORCE and EVT_COUNT (R42 to R44) -/

/-- The bits of a word, as a list. -/
def wordBits (w : Word) : List Nat := maskList w.toNat 32
/-- A clearing write of mask, with the hardware setting the bits hw in the same CORE cycle. -/
def State.evtClear (s : State) (l : Loc) (mask hw : Word) : State :=
  (s.modPage l.page (fun g => { g with evt := g.evt &&& ~~~mask })).evt l.page (wordBits (hw &&& evtBits l.blk))
/-- A write of EVT_FORCE. -/
def State.evtForceWrite (s : State) (l : Loc) (mask : Word) : State := s.evt l.page (wordBits (mask &&& evtBits l.blk))
/-- A write of EVT_COUNT, with the hardware setting the bits hw in the same CORE cycle. -/
def State.countWrite (s : State) (l : Loc) (hw : Word) : State :=
  (s.modPage l.page (fun g => { g with count := 0, hot := 0 })).evt l.page (wordBits (hw &&& evtBits l.blk))

/-- A write of a header register other than PAGE_LOCK. -/
def State.hdrWrite (s : State) (l : Loc) (v : Word) : State :=
  match l.off with
  | 0x08 => s.ctrlWrite l v
  | 0x10 => s.evtClear l v 0
  | 0x14 => s.setReg (l.base + 0x14) (v &&& evtBits l.blk)
  | 0x18 => s.evtForceWrite l v
  | 0x1C => s.countWrite l 0
  | _ => s

/-! ## Registers with rules of their own -/

/-- A slot in OFF or EMPTY. -/
def State.slotIdle (s : State) (n : Nat) : Bool := (s.slot n).st == .off || (s.slot n).st == .empty

/-- HW_CFG (R94, R446): BACKUP changes only in OFF or EMPTY; DEGLITCH may wait. -/
def State.hwCfg (s : State) (n : Nat) (v : Word) : State :=
  let a := slotB n + 0x100
  let bar := fld v 0 0 != s.rf a 0 0 && !s.slotIdle n
  let s := if bar then s.rejectSlot n else s.setRf a 0 0 (fld v 0 0)
  (s.setRf a 1 1 (fld v 1 1)).loadDeglitch n (fld v 5 4)

/-- Whether the terrace settings of a slot are locked by its sub-state (R193). -/
def State.terrBusy (s : State) (n : Nat) : Bool :=
  let t := (s.slot n).terr
  t.sub != .idle || t.out
/-- The rules of R183 for a target word of a slot at a level. -/
def State.tgtOk (s : State) (n level : Nat) (w : Word) : Bool :=
  !bit w 31 || (decide (level < fld w 26 24) && !(s.tgtLocal w && fld w 22 16 == n))
/-- TERR_CFG, TGT0 and TGT1 (R183, R193). -/
def State.terrCfgOk (s : State) (n : Nat) (w : Word) : Bool :=
  !s.terrBusy n && [0, 1].all (fun k => let t := s.reg (tgtReg n k); !bit t 31 || decide (fld w 2 0 < fld t 26 24))
def State.tgtWriteOk (s : State) (n : Nat) (w : Word) : Bool := !s.terrBusy n && s.tgtOk n (s.level n) w

/-- The rules of R200 for one level with its two neighbours: HOLD in µs, WAIT in CORE cycles. -/
def levelOk (n : Nat) (below me above : Word) : Bool :=
  decide (fld me 8 0 + US ≤ fld me 25 16 * US) && (n == 1 || decide (fld below 25 16 + 5 ≤ fld me 25 16)) &&
    (n == 7 || decide (fld me 25 16 + 5 ≤ fld above 25 16))
/-- LEVEL_CFGn (R193, R200). -/
def State.levelWriteOk (s : State) (n : Nat) (w : Word) : Bool :=
  levelOk n (s.levelCfg (n - 1)) w (s.levelCfg (n + 1)) &&
    !s.slots.any (fun e => e.2.terr.sub != .idle && s.level e.1 == n)

/-- The thermal parameters: only in OFF or EMPTY (R160). -/
def State.thWrite (s : State) (n a : Nat) (r : Row) (v : Word) (act : State → State) : State :=
  s.plainIf (pageNo (slotB n)) a r v (fun _ => s.slotIdle n) act
/-- STAGES written: the rises of the stages not computed become 0 (R160). -/
def State.stagesSet (s : State) (n : Nat) : State :=
  let k := s.sf n 0x200 2 0
  let cut (e : Elem) : Elem := { e with rise := e.rise.take k ++ List.replicate (4 - k) 0 }
  s.modSlot n (fun x => { x with eA := cut x.eA, eB := cut x.eB })
/-- A τ written: the lane recomputes α (R159, R298). -/
def State.tauSet (s : State) (n i : Nat) : State :=
  s.modDie (dieOf n) (fun x => { x with eng := { x.eng with lane := x.eng.lane ++ [.tau n i] } })

def State.writeSlot (s : State) (n : Nat) (l : Loc) (r : Row) (v : Word) : State :=
  let a := slotB n + l.off
  let p := l.page
  if 0x190 ≤ l.off && decide (l.off < 0x1B0) then s.tocPoint n ((l.off - 0x190) / 4) v
  else if 0x220 ≤ l.off && decide (l.off < 0x240) then
    s.thWrite n a r v (fun s => if l.off % 8 == 4 then s.tauSet n ((l.off - 0x220) / 8) else s)
  else match l.off with
    | 0xB4 => if bit v 0 then s.energyZero n else s
    | 0x140 => s.cmdWrite n v
    | 0x100 => s.hwCfg n v
    | 0x180 => s.tocCfg n v
    | 0x200 => s.thWrite n a r v (fun s => s.stagesSet n)
    | 0x208 => s.plainIf p a r v (fun w => decide (fld w 7 0 < fld w 15 8)) (fun s => s.thEdges [n])
    | 0x204 => s.plain p a r v (fun s => s.thEdges [n])
    | 0x280 => s.plainIf p a r v (s.terrCfgOk n) (·.reachSlot n)
    | 0x284 | 0x288 => s.plainIf p a r v (s.tgtWriteOk n) (·.reachSlot n)
    | _ => s.plain p a r v id

/-- IF_CFG takes effect at the end of the frame that writes it (R461). -/
def State.takeWidth (s : State) : State := s.modPkg (fun p => { p with width := s.rf (hostB + 0x40) 1 0 })

def State.writeXact (s : State) (l : Loc) (r : Row) (v : Word) : State :=
  match l.off with
  | 0x44 => s.plain l.page (xactB + 0x44) r v (fun s => s.modXact (fun x => { x with addrSet := true }))
  | 0x48 => s.issueWrite v
  | 0x54 => s.tmoWrite v
  | _ => s.plain l.page (xactB + l.off) r v id

/-- PAIR_CFG (R355): while the pair is joined only KEEP_PRI changes; a pair set to UNUSED does not go on joining (R341). -/
def State.pairCfg (s : State) (k : Nat) (r : Row) (v : Word) : State :=
  let a := ringB k + 0x40
  let p := pageNo (ringB k)
  let m := r.merge (s.reg a) v
  let s := if m.2 then s else s.reject p
  if !(s.pair k).joined then
    let s := s.setReg a m.1
    (if s.pairMode k == 0 && (s.pair k).join != 0 then s.dropPair k true else s).reachUpdate
  else
    let w := setFld (s.reg a) 15 8 (fld m.1 15 8)
    (if w == m.1 then s else s.reject p).setReg a w

def State.writeRing (s : State) (k : Nat) (l : Loc) (r : Row) (v : Word) : State :=
  match l.off with
  | 0x40 => s.pairCfg k r v
  | 0x44 => s.pairCtrl k v
  | _ => s.plain l.page (ringB k + l.off) r v id

/-- t1 is the stamp of a host probe sent by this write. -/
def State.writeMer (s : State) (l : Loc) (r : Row) (v : Word) (t1 : Nat) : State :=
  let a := merB + l.off
  if 0x200 ≤ l.off && l.off % 32 == 0x10 then s.tmrWrite ((l.off - 0x200) / 32) v
  else match l.off with
    | 0x40 => s.plain l.page a r v (fun s => (s.rootCheck.freeCheck).portUpdate)
    | 0x50 => s.armWrite v
    | 0x54 => s.merCtrl v
    | 0x84 => s.todWrite v
    | 0x88 => s.plain l.page a r v (fun s => if s.rf a 31 31 == 1 then s else s.modMer (fun m => { m with ppsLast := none }))
    | 0x94 | 0x98 => s.plain l.page a r v (·.ppsPlace)
    | 0xA0 => s.probeWrite v t1
    | _ => s.plain l.page a r v id

/-- A threshold written above a counter arms its warning again (R393). -/
def State.rewarn (s : State) : State :=
  s.each (s.slots.map (·.1)) (fun n s =>
    let old := (s.slot n).wear.warned
    let s := s.markWarned n
    s.modSlot n (fun x => { x with wear := { x.wear with warned := maskOf ((List.range 4).filter (fun k => nbit old k && nbit x.wear.warned k)) } }))

def State.writeNurs (s : State) (l : Loc) (r : Row) (v : Word) : State :=
  match l.off with
  | 0x58 => s.nursCmd v
  | 0x90 | 0x94 | 0x98 => s.plain l.page (nursB + l.off) r v (·.rewarn)
  | _ => s.plain l.page (nursB + l.off) r v id

def State.writeLog (s : State) (l : Loc) (r : Row) (v : Word) : State :=
  match l.off with
  | 0x40 => s.plain l.page (logB + 0x40) r v (fun s => if s.rf (logB + 0x40) 31 31 == 0 then s.flushAll else s)
  | 0x70 => s.logWipe (fld v 7 0)
  | _ => s.plain l.page (logB + l.off) r v id

def State.writeDie (s : State) (d : Nat) (l : Loc) (r : Row) (v : Word) : State :=
  match l.off with
  | 0x22C => s.readmit d (fld v 8 0)
  | _ => s.plain l.page (dieB d + l.off) r v id

/-- The registers of BELV at 0x40 to 0x6F are written on every die at once (R224); MER_LOAD is set by writing 1. -/
def State.writeBelv (s : State) (d : Nat) (l : Loc) (r : Row) (v : Word) : State :=
  let a := home (belvB d + l.off)
  match l.off with
  | 0x44 => s.plain l.page a r v (fun s => if bit v 31 then s.setRf a 31 31 1 else s)
  | 0x54 => s.plainIf l.page a r v (fun w => decide (fld w 15 0 ≤ fld w 31 16)) id
  | 0x58 => if bit v 0 then s.swTrig else s
  | 0x130 => s.openWrite d v
  | 0x444 =>
    let s := if bit v 0 then s.fullCal d else s
    if bit v 1 then s.rollOnce d else s
  | _ => s.plain l.page a r v id

def State.writeQueue (s : State) (l : Loc) (r : Row) (v : Word) : State :=
  s.plain l.page (queueB + l.off) r v (fun s => if l.off == 0x70 then s.streamRun else s)

/-- An entry of the sine table (R301, R312). -/
def sineOk (w : Word) : Bool := fld w 15 0 == 0 || (decide (1 ≤ fld w 31 16) && decide (fld w 31 16 ≤ 32767))
def State.writeCont (s : State) (d : Nat) (l : Loc) (r : Row) (v : Word) : State :=
  let a := contB d + l.off
  let e := (s.die d).eng
  if 0x100 ≤ l.off && decide (l.off < 0x580) then
    let n := (l.off - 0x100) / 0x40
    match l.off % 0x40 with
    | 0x00 | 0x0C => s.plainIf l.page a r v (fun _ => !(s.ctx d n).bound) id
    | 0x04 => s.plainIf l.page a r v (fun w => decide (toSigned 10 (fld w 9 0) < toSigned 10 (fld w 25 16))) id
    | 0x18 => s.ctxCmd d n v
    | _ => s.plain l.page a r v id
  else if 0x640 ≤ l.off && decide (l.off < 0x680) then s.plainIf l.page a r v sineOk id
  else match l.off with
    | 0x4C => if bit v 0 then s.clrMax d else s
    | 0x600 => s.plainIf l.page a r v (fun _ => !(e.test.armed || e.test.running)) id
    | 0x608 => s.testCmd d v
    | 0x680 | 0x684 => s.plainIf l.page a r v (fun _ => !(e.cap.state == 1 || e.cap.state == 2)) id
    | 0x68C => s.capCmd d v
    | _ => s.plain l.page a r v id

/-- What a write of a register of a page does once it is accepted; the row is the register's. -/
def State.regAct (s : State) (l : Loc) (r : Row) (v : Word) (t1 : Nat) : State :=
  if l.off < 0x40 then s.hdrWrite l v
  else if r.acc == .ro || r.acc == .rs || r.acc == .rp then s
  else match l.blk with
    | .slot => s.writeSlot l.inst l r v
    | .host => s.plain l.page (hostB + l.off) r v (·.takeWidth)
    | .xact => s.writeXact l r v
    | .ring => s.writeRing l.inst l r v
    | .mer => s.writeMer l r v t1
    | .terr => s.plainIf l.page (terrB + l.off) r v (s.levelWriteOk ((l.off - 0x40) / 4)) (·.reachUpdate)
    | .nurs => s.writeNurs l r v
    | .cfg => if l.off == 0x48 then s.cfgCmd v else s
    | .log => s.writeLog l r v
    | .mode => if l.off == 0x40 then s.modeWrite v else if l.off == 0x50 then s.resetCtrl v else s.plain l.page (modeB + l.off) r v id
    | .clk => if l.off == 0x44 && bit v 0 then s.returnRefA else s
    | .die => s.writeDie l.inst l r v
    | .belv => s.writeBelv l.inst l r v
    | .queue => s.writeQueue l r v
    | .cont => s.writeCont l.inst l r v
    | .pkg => s.plain l.page (pkgB + l.off) r v id
    | .fact | .gaz | .capt | .feram => s

/-! ## Writes (R14, R33, R45 to R47) -/

/-- A locked register refuses a write unless its page is unlocked; TEST_CTRL.STOP alone passes (R302). -/
def lockedFor (l : Loc) (r : Row) (v : Word) : Bool := r.locked && !(l.blk == .cont && l.off == 0x608 && bit v 1)

/-- A register write of an initiator, in a transaction that started at the CORE cycle start. -/
def State.regWrite (s : State) (ini : Ini) (addr : Nat) (v : Word) (start t1 : Nat) : State :=
  let a := addr / 4 * 4
  if !s.serving || xactBarred ini a then s
  else if s.refusal a != 0 && !s.lateTook a then s.addrErr ini a true
  else
    let s := if s.refusal a != 0 then s.addrErr ini a true else s
    match locate a with
    | none => s
    | some l =>
      match l.blk with
      | .gaz | .capt => s
      | .feram => s.windowWrite a v
      | _ =>
        if l.off == 0x20 then s.lockWrite ini l v start
        else match rowAt l with
          | none => s
          | some r =>
            let s := if l.blk == .cont then s.engStall l.inst l.off else s
            s.pageWrite ini l.base (lockedFor l r v) (fun s => s.regAct l r v t1)

/-- REGISTER_WRITE (R14). -/
def execRegisterWrite (ini : Ini) (a : Nat) (v : Word) (late : Late) (s : State) : Host.Outcome State Fault Refusal :=
  done s (s.lately late (fun s => s.regWrite ini a v s.now s.nowNs))

/-! ## Reads (R33, R49, R50) -/

/-- The RS words that a read of a LO word captures, where no operation of its own does (R49). -/
def companions (b : Blk) (o : Nat) : List Nat :=
  match b with
  | .slot => (match o with
    | 0x80 => [0x84, 0x88, 0x8C, 0x90, 0x94]
    | 0xA0 => [0xA4, 0xA8, 0xAC, 0xB0]
    | 0x1C8 => [0x1CC, 0x1D0]
    | _ => [])
  | .pkg => if o == 0x44 then [0x48] else if o == 0x60 then [0x64] else []
  | .belv => if o == 0x420 then [0x424] else if 0x1000 ≤ o && o % 16 == 0 then [o + 4, o + 8] else []
  | .mer => if o == 0x70 then [0x74, 0x78] else if 0xC0 ≤ o && decide (o < 0x100) && o % 16 == 0 then [o + 4, o + 8, o + 12] else []
  | .cont => if o == 0x698 then [0x69C, 0x6A0]
    else if 0x100 ≤ o && decide (o < 0x580) && o % 0x40 == 0x28 then [o + 4, o + 8, o + 12]
    else if 0x3400 ≤ o && decide (o < 0x3D00) && o % 8 == 0 then [o + 4] else []
  | _ => []

/-- A read of an RS word: the initiator's shadow, and the stale flags where it is not fresh (R49). -/
def State.rsWord (s : State) (ini : Ini) (a p : Nat) : State :=
  let k := shKey ini a
  let s := if mget false s.fresh k then s else (s.modPage p (fun g => { g with stale := true })).evt p [29]
  { s with fresh := mset false s.fresh k false }.answer (mget 0 s.shadow k)

/-- A read of a LO word: the capture, and its value (R49). -/
def State.loWord (s : State) (ini : Ini) (l : Loc) (cs : List Nat) : State :=
  (s.each cs (fun o s => s.capture ini (l.base + o) (s.view { l with off := o }))).answer (s.view l)

/-- A read of a register of a page with a header, by its row. -/
def State.rowRead (s : State) (ini : Ini) (l : Loc) (r : Row) : State :=
  match r.acc with
  | .wo => s.answer 0
  | .rs => s.rsWord ini (l.base + l.off) l.page
  | .rp => (match l.blk with
    | .queue => s.queuePop ini
    | .xact => s.cplPop ini
    | _ => s.txsPop ini)
  | _ =>
    if l.blk == .queue && l.off == 0x50 then s.queuePeek ini
    else if l.blk == .log && l.off == 0x48 then s.recRead ini
    else match companions l.blk l.off with
      | [] => s.answer (s.view l)
      | cs => s.loWord ini l cs

/-- A register read of an initiator; the word answered is in rsp. -/
def State.regRead (s : State) (ini : Ini) (addr : Nat) : State :=
  let a := addr / 4 * 4
  s.readAt ini a (fun s =>
    match locate a with
    | none => s.answer 0
    | some l =>
      match l.blk with
      | .gaz => s.answer (s.gazWord l.off)
      | .capt => s.answer (s.captWord l.off)
      | .feram => s.answer (s.feramWord a)
      | _ => (match rowAt l with
        | none => s.answer 0
        | some r => (if l.blk == .cont then s.engStall l.inst l.off else s).rowRead ini l r))

/-- Whether an address is a LO word of a shadow group. -/
def isLo (a : Nat) : Bool :=
  match locate a with
  | none => false
  | some l => !(companions l.blk l.off).isEmpty || (l.blk == .queue && (l.off == 0x40 || l.off == 0x50)) || (l.blk == .xact && l.off == 0x60) ||
      (l.blk == .mer && l.off == 0xA4) || (l.blk == .log && l.off == 0x48)
/-- The access code of an address; none where no register lies there. -/
def accAt (a : Nat) : Option Acc :=
  match locate a with
  | some l => (rowAt l).map (·.acc)
  | none => none

/-- SHADOW_LO_READ (R49): a read of a LO word. -/
def execShadowLoRead (ini : Ini) (a : Nat) (s : State) : Host.Outcome State Fault Refusal :=
  done s (if isLo a then s.regRead ini a else s)
/-- RS_READ (R49): a read of an RS word. -/
def execRsRead (ini : Ini) (a : Nat) (s : State) : Host.Outcome State Fault Refusal :=
  done s (if accAt a == some .rs then s.regRead ini a else s)

/-! ## Values wider than 32 bits (R51): TOD_SEC of the MER page -/

/-- WIDE_LO_WRITE (R51): the LO word is held. -/
def execWideLoWrite (ini : Ini) (a : Nat) (v : Word) (s : State) : Host.Outcome State Fault Refusal :=
  done s (if a == merB + 0x80 then s.write ini a false (·.setReg (merB + 0x80) v) else s)
/-- WIDE_HI_WRITE (R51): both words are committed. -/
def execWideHiWrite (ini : Ini) (a : Nat) (v : Word) (s : State) : Host.Outcome State Fault Refusal :=
  done s (if a == merB + 0x84 then s.write ini a false (·.todWrite v) else s)

/-! ## The page commands -/

/-- A command on a register of the header of a page named by its number. -/
def State.onPage (s : State) (ini : Ini) (p o : Nat) (act : Loc → State → State) : State :=
  match locate (4096 * p + o) with
  | some l => if l.blk.header && l.off == o then s.write ini (4096 * p + o) false (act l) else s
  | none => if !s.serving then s else s.addrErr ini (4096 * p + o) true

/-- PAGE_LOCK_WRITE (R45). -/
def execPageLockWrite (ini : Ini) (p : Nat) (v : Word) (start : Nat) (s : State) : Host.Outcome State Fault Refusal :=
  done s (
    match locate (4096 * p + 0x20) with
    | some l => if l.blk.header && l.off == 0x20 then s.regWrite ini (4096 * p + 0x20) v start s.nowNs else s
    | none => if !s.serving then s else s.addrErr ini (4096 * p + 0x20) true)

/-- AUTO_RELOCK (R47): 10 ms without a write to any register of the page. -/
def execAutoRelock (p : Nat) (s : State) : Host.Outcome State Fault Refusal :=
  done s (
    let g := s.page p
    if g.lock == 2 && decide (g.lastWr + 10 * MS ≤ s.now) then s.modPage p (fun g => { g with lock := 0 }) else s)

/-- RELOCK (R38, R47). -/
def execRelock (ini : Ini) (p : Nat) (s : State) : Host.Outcome State Fault Refusal :=
  done s (s.onPage ini p 8 (fun l s => s.relockWrite l))
/-- SOFT_RESET (R39). -/
def execSoftReset (ini : Ini) (p : Nat) (s : State) : Host.Outcome State Fault Refusal :=
  done s (s.onPage ini p 8 (fun l s => s.softWrite l))
/-- SOFT_RESET_DONE (R39): PAGE_CTRL.SOFT_RESET reads 0 and READY reads 1 again. -/
def execSoftResetDone (p : Nat) (s : State) : Host.Outcome State Fault Refusal :=
  done s (if (s.page p).soft.isSome then s.modPage p (fun g => { g with soft := none }) else s)
/-- EVT_STAT_CLEAR (R42). -/
def execEvtStatClear (ini : Ini) (p : Nat) (mask hw : Word) (s : State) : Host.Outcome State Fault Refusal :=
  done s (s.onPage ini p 0x10 (fun l s => s.evtClear l mask hw))
/-- EVT_FORCE (R44). -/
def execEvtForce (ini : Ini) (p : Nat) (mask : Word) (s : State) : Host.Outcome State Fault Refusal :=
  done s (s.onPage ini p 0x18 (fun l s => s.evtForceWrite l mask))
/-- EVT_COUNT_WRITE (R43). -/
def execEvtCountWrite (ini : Ini) (p : Nat) (hw : Word) (s : State) : Host.Outcome State Fault Refusal :=
  done s (s.onPage ini p 0x1C (fun l s => s.countWrite l hw))

end Sys2Proof.Machine
end

