-- ==== Sys2Proof/Machine/HostIf.lean ====
section
/-! DEFINITION. The three ways in: the QSPI host (16_pins_host_electrical.md R459 to R464), the test port (R465 to R467) and the requests of the ring (11_ceane_ring.md R347 to R349). -/
namespace Sys2Proof.Machine

/-! ## Requests of the ring (R347 to R349) -/

/-- Whether RING_WRITE_FILTER refuses a source (R349). -/
def State.filtered (s : State) (src : Nat) : Bool :=
  let c := s.reg (xactB + 0x80)
  bit c 31 && !(maskList (fld c 7 0) 8).any (fun n =>
    let m := s.reg (xactB + 0xA0 + 4 * n)
    (src ^^^ fld m 13 0) &&& fld m 29 16 == 0)

/-- The word addresses of a request. -/
def wordAddrs (a n : Nat) : List Nat := (List.range n).map (fun i => a / 4 * 4 + 4 * i)

/-- The STATUS of one word of a WRITE before it is applied (R347): ADDR_ERR, FILTERED for the XACT page, LOCK_VIOL. -/
def State.wordStatus (s : State) (ini : Ini) (a : Nat) (v : Word) : Nat :=
  if s.refusal a != 0 then 2
  else if xactBarred ini a then 3
  else match locate a with
    | none => 2
    | some l => (match rowAt l with
      | some r => if l.off != 0x20 && lockedFor l r v && !s.unlockedFor ini l.page then 4 else 0
      | none => 0)

/-- Of two STATUS values the lower that is not 0. -/
def lowStatus (a b : Nat) : Nat := if a == 0 then b else if b == 0 then a else Nat.min a b

/-- Read words upward; the words answered stay in rsp. -/
def State.readWords (s : State) (ini : Ini) (as : List Nat) : State :=
  as.foldl (fun s a =>
    let had := s.rsp
    let s := (s.regRead ini a).settle
    { s with rsp := had ++ s.rsp }) { s with rsp := [] }

/-- Serve a READ: STATUS and the payload (R347, R348). -/
def State.serveRead (s : State) (f : Frame) : State :=
  let ini := Ini.ring f.src
  let as := wordAddrs f.addr (f.len / 4)
  if decide (1 < as.length) && as.any (fun a => accAt a == some .rp) then s.respond f 5 []
  else
    let status := if as.any (fun a => s.refusal a != 0) then 2 else 0
    let kept := s.rsp
    let s := s.readWords ini as
    let data := s.rsp
    { s with rsp := kept }.respond f status (if status == 0 then data.flatMap (fun (w : Word) => le 4 w.toNat) else [])

/-- Serve a WRITE that reached the part at the CORE cycle start, word by word, each in a CORE cycle of its own (R45, R347). -/
def State.serveWrite (s : State) (f : Frame) (start : Nat) : State :=
  let ini := Ini.ring f.src
  let answer (s : State) (st : Nat) : State := if f.bcast then s else s.respond f st []
  if !s.isOwn f.src && s.filtered f.src then
    answer (((s.addSat (xactB + 0x84) 15 0 1).setReg (xactB + 0x88) (w32 (f.src % 16384))).xactEvt 5) 3
  else
    let ws := (wordAddrs f.addr (f.payload.length / 4)).zip (toWords (f.payload.length / 4) f.payload)
    let r := ws.foldl (fun (m : State × Nat) (w : Nat × Word) =>
      ((m.1.regWrite ini w.1 w.2 start m.1.nowNs).settle, lowStatus m.2 (m.1.wordStatus ini w.1 w.2))) (s, 0)
    answer r.1 r.2

/-- Take the request at the head of the target queue and serve it; a repeat is discarded (R331, R347). -/
def State.serveHead (s : State) : State :=
  match s.xact.tq with
  | [] => s
  | (start, f) :: rest =>
    let s := s.modXact (fun x => { x with tq := rest })
    let id := (f.src, f.tag, f.epoch)
    if s.xact.recent.contains id then s.addSat (xactB + 0x70) 31 16 1
    else
      let s := s.modXact (fun x => { x with recent := (id :: x.recent).take 256 })
      match f.ftype with
      | .read => s.serveRead f
      | _ => s.serveWrite f start

/-- Whether the request to be served reads QUEUE_LO, for which a QSPI read of the same CORE cycle goes first (R254). -/
def State.ringPops (s : State) : Bool :=
  match s.xact.tq with
  | (_, f) :: _ => f.ftype == .read && decide (f.addr ≤ queueB + 0x40) && decide (queueB + 0x40 < f.addr + f.len)
  | [] => false

/-- REQUEST_SERVE (R347). -/
def execRequestServe (late : Late) (s : State) : Host.Outcome State Fault Refusal :=
  done s (
    if !s.serving then s
    else if s.ringPops && s.qspiPops then s.putOff (.requestServe late)
    else s.lately late (·.serveHead))

/-! ## QSPI frames (R459 to R461) -/

/-- The part answers frames in RUN only, while a die serves the host (R392); each shows its clock mode (R461, R464). -/
def State.frameIn (s : State) (mode3 : Bool) (act : State → State) : State :=
  if !s.inRun || (s.pkg.hand.isNone && !s.present s.pkg.lead) then { s with rsp := [] } else act ({ s.modPkg (fun p => { p with mode3 := mode3 }) with rsp := [] })
def State.hostEvt (s : State) (b : Nat) : State := s.evt (pageNo hostB) [b]

/-- The words of a WRITE frame, each in a CORE cycle of its own; those beyond the 4 KiB boundary are not performed (R461). -/
def State.frameWrite (s : State) (addr : Nat) (ws : List Word) (start : Nat) : State :=
  let as := wordAddrs addr ws.length
  (as.zip ws).foldl (fun (s : State) (w : Nat × Word) =>
    (if w.1 / 4096 == addr / 4096 then s.regWrite .qspi w.1 w.2 start s.nowNs else s.hostEvt 3).settle) s

/-- The words of a READ frame: 0 beyond the 4 KiB boundary, and 0 for an RP register after word 0. -/
def State.frameRead (s : State) (addr n : Nat) : State :=
  (wordAddrs addr n).foldl (fun s a =>
    let had := s.rsp
    if a / 4096 != addr / 4096 then { s.hostEvt 3 with rsp := had ++ [0] }
    else if a != addr / 4 * 4 && accAt a == some .rp then { s.hostEvt 2 with rsp := had ++ [0] }
    else
      let s := (s.regRead .qspi a).settle
      { s with rsp := had ++ s.rsp }) s

/-- WRITE (R460, R461). -/
def execWrite (mode3 : Bool) (addr : Nat) (ws : List Word) (late : Late) (s : State) : Host.Outcome State Fault Refusal :=
  done s (s.frameIn mode3 (fun s => s.lately late (fun s => s.frameWrite addr ws s.now)))
/-- READ (R460, R461). -/
def execRead (mode3 : Bool) (addr n : Nat) (late : Late) (s : State) : Host.Outcome State Fault Refusal :=
  done s (s.frameIn mode3 (fun s => s.lately late (fun s => s.frameRead addr n)))
/-- WIDTH_RESET (R460). -/
def execWidthReset (mode3 : Bool) (s : State) : Host.Outcome State Fault Refusal :=
  done s (s.frameIn mode3 (fun s => (s.setReg (hostB + 0x40) 0).takeWidth))
/-- CMD_ERR (R460, R464). -/
def execCmdErr (mode3 : Bool) (s : State) : Host.Outcome State Fault Refusal :=
  done s (s.frameIn mode3 (fun s => (s.addSat (hostB + 0x48) 15 0 1).hostEvt 1))
/-- FRAME_ERR (R461, R464): the whole words before the partial one are performed. -/
def execFrameErr (mode3 wr : Bool) (addr : Nat) (ws : List Word) (late : Late) (s : State) : Host.Outcome State Fault Refusal :=
  done s (s.frameIn mode3 (fun s =>
    let s := s.lately late (fun s => if wr then s.frameWrite addr ws s.now else s.frameRead addr ws.length)
    (s.addSat (hostB + 0x48) 31 16 1).hostEvt 0))

/-! ## The test port (R465 to R467) -/

/-- The data register of REGACCESS after an access: done, address, data. -/
def drWord (fin : Bool) (addr : Nat) (v : Word) : Nat := b2n fin * 2 ^ 56 + addr % 2 ^ 24 * 2 ^ 32 + v.toNat

/-- REGACCESS (R466): the test port acts as the QSPI host; an access completes only in RUN. -/
def execRegaccess (wr : Bool) (addr : Nat) (v : Word) (late : Late) (s : State) : Host.Outcome State Fault Refusal :=
  done s (
    if s.pkg.phase == .powerOff then s
    else if !s.inRun then s.modPkg (fun p => { p with dr := drWord false addr v })
    else if wr then
      let s := s.lately late (fun s => s.regWrite .qspi addr v s.now s.nowNs)
      s.modPkg (fun p => { p with dr := drWord s.inRun addr v })
    else
      let s := s.lately late (fun s => s.regRead .qspi addr)
      s.modPkg (fun p => { p with dr := drWord true addr (s.rsp.headD 0) }))

/-- The instructions of R465; every other value selects BYPASS. -/
def testCode (c : Nat) : Nat := if [0, 1, 2, 3, 4, 8, 9, 0x20].contains c then c else 0xFF

/-- The slots are held as with OFF_N low, and both Wickets close (R467). -/
def State.holdStart (s : State) : State :=
  let s := s.modPkg (fun p => { p with testHold := true })
  let s := if s.inRun then s.hostEvt 4 else s
  ((s.dropPair 0).dropPair 1).offAll

/-- TEST_INSTRUCTION_LOAD (R467). -/
def execTestInstructionLoad (c : Nat) (s : State) : Host.Outcome State Fault Refusal :=
  done s (
    if s.pkg.phase == .powerOff then s
    else
      let i := testCode c
      let s := s.modPkg (fun p => { p with testInstr := i })
      if holdsSlots i == s.pkg.testHold then s
      else if holdsSlots i then s.holdStart
      else s.modPkg (fun p => { p with testHold := false }))

end Sys2Proof.Machine
end

