-- ==== Sys2Proof/Machine/Return.lean ====
section
/-! DEFINITION. The returns to RUN: loading the configuration (14_config_store_log.md R408 to R410, R419), BOOT (15_reset_states_modes.md R432, R433), the return from a warm reset with re-adoption (R436 to R439), the rejoining of a die (R440, R441) and the return from a thermal shutdown (06_thermal.md R172). -/
namespace Sys2Proof.Machine

/-! ## Applying the records of an image (R409) -/

/-- The counts of a load. -/
def State.countApplied (s : State) (n : Nat) : State := s.modCfg (fun c => { c with applied := sat 65535 (c.applied + n) })
def State.countSkipped (s : State) : State := s.modCfg (fun c => { c with skipped := sat 65535 (c.skipped + 1) })
def State.countRefused (s : State) (addr : Option Nat) : State :=
  s.modCfg (fun c => { c with
    rejCount := sat 255 (c.rejCount + 1)
    rejFirst := match addr with | some a => if c.rejCount == 0 then a else c.rejFirst | none => c.rejFirst })

/-- What a record does to PAGE_CTRL: the ENABLE bit alone; the lockout lists go where it disables TERR (R195). The slots' ENABLE is
not reloaded at a warm return (R436). -/
def State.recCtrl (s : State) (l : Loc) (v : Word) (warm : Bool) : State :=
  let a := l.base + 8
  match l.blk with
  | .slot => if warm then s else s.setRf a 0 0 (fld v 0 0)
  | .terr => if fld v 0 0 == 0 then s.terrOff else s.setRf a 0 0 1
  | .cont => s.setRf a 0 0 (fld v 0 0)
  | _ => s

/-- Apply a value to one register as a software write is applied, page locks aside; the Boolean says that nothing of it
was refused. The refusal leaves no WR_REJECT. -/
def State.recApply (s : State) (a : Nat) (v : Word) (warm : Bool) : State × Bool :=
  match locate a with
  | none => (s, true)
  | some l =>
    if l.off == 8 then (s.recCtrl l v warm, true)
    else match rowAt l with
      | none => (s, true)
      | some r =>
        let p := l.page
        let old := s.page p
        let s := (s.setPage p { old with evt := 0 }).regAct l r v s.nowNs
        let new := setBit (s.page p).evt 31 false
        (s.setPage p { old with evt := old.evt ||| new, count := sat 65535 (old.count + popCount new.toNat 32) }, !bit (s.page p).evt 31)

/-- The registers a record names, none where it is skipped: a word-aligned cfg register on a present die; with
ALL_INSTANCES the same offset in every present instance of a SLOT, DIE, BELV or CONT page. -/
def State.recTargets (s : State) (r : ImgRec) : List Nat :=
  if r.addr % 4 != 0 || !cfgReg r.addr then []
  else match locate r.addr with
    | none => []
    | some l =>
      if r.flags == 0 then (match l.die with | some d => if s.present d then [r.addr] else [] | none => [r.addr])
      else if r.flags == 128 && l.blk.many && l.inst == 0 then (s.instances l.blk).map (· + l.off)
      else []

/-- Whether a record names one of TERR.LEVEL_CFG1 to LEVEL_CFG7. -/
def ImgRec.isLevel (r : ImgRec) : Bool := r.addr % 4 == 0 && decide (terrB + 0x44 ≤ r.addr) && decide (r.addr ≤ terrB + 0x5C)

/-- Apply one record in image order. -/
def State.recLoad (s : State) (warm : Bool) (r : ImgRec) : State :=
  match s.recTargets r with
  | [] => s.countSkipped
  | ts =>
    let go := ts.foldl (fun (m : State × Nat) a =>
      let x := m.1.recApply a (BitVec.ofNat 32 r.value) warm
      (x.1, if x.2 then m.2 + 1 else m.2)) (s, 0)
    let s := go.1.countApplied go.2
    if go.2 == ts.length then s else s.countRefused (some r.addr)

/-- The word that a collected record gives a level, from the factory word, and whether no field was refused. -/
def levelRec (r : ImgRec) : Word × Bool :=
  match locate r.addr with
  | some l => (match rowAt l with
    | some w => w.merge (resetWord r.addr) (BitVec.ofNat 32 r.value)
    | none => (0, false))
  | none => (0, false)

/-- The seven levels that the collected records give; the last record of a level stands. -/
def levelSet (rs : List ImgRec) : List Word :=
  (List.range 7).map (fun i =>
    match (rs.filter (fun r => r.addr == terrB + 0x44 + 4 * i)).getLast? with
    | some r => (levelRec r).1
    | none => resetWord (terrB + 0x44 + 4 * i))
/-- Whether a set of seven levels satisfies R200. -/
def levelSetOk (w : List Word) : Bool :=
  (List.range 7).all (fun i => levelOk (i + 1) (w.getD (i - 1) 0) (w.getD i 0) (w.getD (i + 1) 0))

/-- Apply the collected level records in one step. -/
def State.levelsLoad (s : State) (rs : List ImgRec) : State :=
  if rs.isEmpty then s
  else
    let w := levelSet rs
    let ok := levelSetOk w
    let s := if ok then s.each (List.range 7) (fun i s => s.setReg (terrB + 0x44 + 4 * i) (w.getD i 0)) else s
    s.each rs (fun r s => if ok && (levelRec r).2 then s.countApplied 1 else s.countRefused (some r.addr))

/-- Commit the edit bank of every context of the present dies, as R294 commits it (R409). -/
def State.banksLoad (s : State) : State :=
  s.each s.presentDies (fun d s => s.each (List.range 18) (fun n s =>
    if s.commitOk d n then s.commitNow d n else s.countRefused none))

/-- Whether a record of the loaded image names a register (R448). -/
def recNames (rs : List ImgRec) (a : Nat) : Bool :=
  match locate a with
  | none => false
  | some l => rs.any (fun r =>
      if r.flags == 128 then
        (match locate r.addr with | some k => k.blk == l.blk && k.off == l.off && k.inst == 0 | none => false)
      else r.flags == 0 && home r.addr == home a)

/-- Select a copy and load it, then the mode preset (R408 to R410, R448). Every EVT_STAT and EVT_COUNT is 0 before the
commits (R436). -/
def State.configLoad (s : State) (warm : Bool) : State :=
  let pick := s.newest
  let rs := match pick with | some (c, d) => imgRecs (s.copyBytes d c) | none => []
  let s := s.modCfg (fun c =>
    { c with
      selected := (match pick with | some (k, _) => k + 1 | none => 0), die := (match pick with | some (_, d) => d | none => 0)
      seq := (match pick with | some (k, d) => imgSeq (s.copyBytes d k) | none => 0), defaulted := pick.isNone
      applied := 0, skipped := 0, rejCount := 0, rejFirst := 0, repair := [] })
  let s := s.each (rs.filter (fun r => !r.isLevel || r.flags != 0)) (fun r s => s.recLoad warm r)
  let s := s.levelsLoad (rs.filter (fun r => r.isLevel && r.flags == 0))
  let s := { s with pages := [] }
  let s := if pick.isSome then s.banksLoad else s
  let s := s.each s.presentDies (fun d s => s.modDie d (fun x => { x with eng := { x.eng with lane := [] } }))
  let m := s.rf (modeB + 0x40) 2 0
  let s := s.loadPreset m (recNames rs)
  s.modPkg (fun p => { p with mode := m, modeReq := none })

/-- The record of a load: CFG_LOADED, or CFG_DEFAULTED with its event (R409, R410, R417). -/
def State.loadRecord (s : State) : State :=
  let c := s.cfg
  if c.defaulted then (s.evt (pageNo cfgB) [0]).logLead 9 0 0x0002 [b2n c.strap, 3]
  else s.logLead 9 0 0x0001 ([c.selected, c.die] ++ le 4 c.seq ++ le 2 c.applied ++ le 2 c.skipped ++ [sat 255 c.rejCount])

/-! ## What starts on entry to RUN -/

/-- The first graticule scan of a die, the readings in the units of State (R166 to R168, R432). -/
def State.gratFirst (s : State) (d : Nat) (t : Option (List Nat)) : State :=
  let s := match t with
    | some t => s.modDie d (fun x => { x with grat := { x.grat with temps := t, flags := List.replicate 9 false } })
    | none => s
  let g := (s.die d).grat
  let s := if g.valid == 0 then s else s.modBelv d (fun b => { b with temp := (g.max : Nat) })
  s.gratScan d

/-- The survey starts a scan (R226). -/
def State.survStart (s : State) (d : Nat) : State :=
  let m := s.survNext d
  (s.modBelv d (fun b => { b with survEff := m })).survStep d (nextCh m 0)

/-- The frames start at the next boundary of the grid of R217. -/
def State.framesStart (s : State) : State :=
  let osr := s.rf (belvB 0 + 0x40) 6 4
  let p := 2560 * 2 ^ osr
  { s with frames :=
    { s.frames with
      run := true, started := false, osr := osr, nextAt := s.pkg.epoch + ((s.now - s.pkg.epoch) / p + 1) * p } }

/-- The pairs with AUTOJOIN start to join (R341). -/
def State.autoJoin (s : State) (ks : List Nat) : State :=
  s.each (ks.filter (fun k => s.rf (ringB k + 0x40) 5 5 == 1)) (fun k s => s.joinStart k)

/-! ## BOOT (R432, R433) -/

/-- The record index after the newest record of a die's log, and the SEQUENCE that follows (R419). -/
def State.logScan (s : State) (d : Nat) : Nat × Nat :=
  let r (i : Nat) : List Nat := s.logicalRead d (logBase d + 32 * (i % 4096)) 32
  let good (b : List Nat) : Bool := crc16 (b.take 30) == numAt b 30 2
  let newest := (List.range 4096).find? (fun i =>
    let b := r i
    let c := r (i + 1)
    good b && !(good c && numAt c 14 2 == (numAt b 14 2 + 1) % 65536))
  match newest with
  | some i => ((i + 1) % 4096, (numAt (r i) 14 2 + 1) % 65536)
  | none => (0, 0)

/-- What a die takes from its FeRAM at BOOT: the place in its log and the wear counters (R393, R419). A die whose FeRAM
holds nothing keeps the fresh values. -/
def State.feramStart (s : State) (d : Nat) : State :=
  if !s.feram.any (fun c => c.1 / 0x80000 == d) then s
  else
    let p := s.logScan d
    let old := numAt (s.keepRead d 0 2) 0 2 % 4096
    let s := s.modDie d (fun x => { x with log :=
      { x.log with next := p.1, seq := p.2, oldest := old, count := (p.1 + 4096 - old) % 4096 } })
    s.loadWear d

/-- Whether BOOT may complete: a reference, and die 0 or die 1 (R433). -/
def State.bootable (s : State) (dies : Nat) (refA refB : Bool) : Bool :=
  (refA || refB) && [0, 1].any (fun d => s.fitted d && nbit dies d)

/-- The slots that the configuration or the strap enables leave OFF (R99, R410). -/
def State.slotsStart (s : State) (strap : Bool) : State :=
  s.each s.presentSlots (fun n s => if strap || s.enabled n then s.enableSlot n else s)

/-- The sequence of R432, which ends in RUN. -/
def State.boot (s : State) (dies : Nat) (refA refB strap : Bool) (grat : List (List Nat)) : State :=
  let s := s.each ((List.range 8).filter s.fitted) (fun d s => s.modDie d (fun x => { x with present := nbit dies d, pow := { x.pow with exAt := s.now } }))
  let s := s.modPkg (fun p =>
    { p with
      phase := .run, since := s.now, epoch := s.now, wearAt := s.now, refA := refA, refB := refB, refUse := !refA
      refLost := false, pllLocked := true, lead := if s.present 0 then 0 else 1, gen := 1 })
  let s := s.modCfg (fun c => { c with strap := strap })
  let ds := s.presentDies
  let s := s.each ds (fun d s => s.feramStart d)
  let s := s.configLoad false
  let s := s.each (s.slots.map (·.1)) (fun n s => s.markWarned n)
  let s := s.loadRecord
  let s := s.each ds (fun d s => s.gratFirst d grat[d]?)
  let s := (s.slotsStart (strap && s.cfg.defaulted)).mirrorRepair
  let s := s.each ds (fun d s =>
    let s := s.survStart d
    let s := if nbit s.ident.factValid d then s else s.evtBelv d [9]
    if s.rf (belvB d + 0x440) 0 0 == 1 then s.modBelv d (fun b => { b with fullAt := some (s.now - 106 * MS) }) else s)
  let s := s.each ds (fun d s => s.pumpCheck d)
  ((s.framesStart.ppsPlace).freeCheck).autoJoin [0, 1]

/-- BOOT_COMPLETE (R432): dies is the mask of the dies that complete discovery; grat the sensors' first readings. -/
def execBootComplete (dies : Nat) (refA refB strap : Bool) (grat : List (List Nat)) (s : State) : Host.Outcome State Fault Refusal :=
  done s (if s.pkg.phase == .boot && s.bootable dies refA refB then s.boot dies refA refB strap grat else s)

/-- BOOT_RETRY (R433): 10 ms after the last attempt, BOOT still cannot complete. -/
def execBootRetry (dies : Nat) (refA refB : Bool) (s : State) : Host.Outcome State Fault Refusal :=
  done s (
    if s.pkg.phase == .boot && decide (s.pkg.retAt + 10 * MS ≤ s.now) && !s.bootable dies refA refB then
      s.modPkg (fun p => { p with retAt := s.now, refA := refA, refB := refB })
    else s)

/-! ## Re-adoption (R438) -/

/-- The third and fourth control samples of a slot, and of its die's bus. -/
def State.adoptSample (s : State) (n : Nat) (a : AdoptIn) : State :=
  let d := dieOf n
  let s := s.modSlot n (fun x => { x with ctl := { x.ctl with started := 2 } })
  let s := (s.takeSample d { a.s3 with slot := localOf n }).stuckSample n
  (s.takeSample d { a.s4 with slot := localOf n }).stuckSample n
def State.adoptBus (s : State) (d : Nat) (a : AdoptIn) : State :=
  ((s.modBelv d (fun b => { b with busN := 2 })).busSample d a.bus3).busSample d a.bus4

/-- VOUT at PG_TH of VBUS_A or above in both samples. -/
def State.adoptVolt (s : State) (n : Nat) (a : AdoptIn) : Bool :=
  let d := dieOf n
  let ok (v b : Samp) : Bool :=
    voutAbove (s.ctlCode d (chV (localOf n)) v).1.toNat (s.ctlCode d chBus b).1.toNat (s.sf n 0x144 30 24)
  ok a.s3.v a.bus3 && ok a.s4.v a.bus4

/-- The time of a trip in the trip-time registers. -/
def State.keptTripTime (s : State) (n : Nat) : State :=
  let t := (s.slot n).trip.time
  ((s.setReg (slotB n + 0x1C8) (BitVec.ofNat 32 (nsOf t))).setReg (slotB n + 0x1CC) (BitVec.ofNat 32 (secOf t))).setReg (slotB n + 0x1D0)
    (BitVec.ofNat 32 (secOf t / 2 ^ 32 % 65536))

/-- A slot that latched in the domain: its trip is recorded with DETAIL IN_HOLDTHRU. -/
def State.adoptLatched (s : State) (n : Nat) : State :=
  let t := (s.slot n).trip
  let c := match t.unsettled with
    | some inst => (s.classify n inst ((((s.slot n).win inst).map (·.copies)).getD 0)).1
    | none => t.cause
  (((s.keptTripTime n).tripSettle n c 9).tripRecord n 8).latch n

/-- A slot that OFF_N tripped in the domain. -/
def State.adoptOff (s : State) (n : Nat) : State :=
  let k := s.pkg.offTrips
  let s := ((s.keptTripTime n).tripSettle n 0xF 9).modPkg (fun p => { p with offTrips := k })
  (s.enter n .tripped 0).modSlot n (fun x => { x with trip := { x.trip with check := true, stuckN := 0, stuckHi := 0 } })

/-- A slot that was ON and is not as an ON slot must be. -/
def State.adoptUv (s : State) (n : Nat) : State :=
  (((s.quietTrip n 9 9 0 true).pullGates n true).tripRecord n 8).latch n

/-- Every fitted gate is still driven up: none was pulled down in the domain. -/
def State.drivenUp (s : State) (n : Nat) : Bool := (s.slot n).gA.path.isUp && (!s.backup n || (s.slot n).gB.path.isUp)

/-- The row of R438 that a slot takes. -/
def State.adoptRow (s : State) (n : Nat) (a : Option AdoptIn) : State :=
  let x := s.slot n
  if !s.enabled n then s.turnOff n
  else match x.st with
    | .tripped => (s.settleTrip n).modSlot n (fun x => { x with trip := { x.trip with check := true, stuckN := 0, stuckHi := 0 } })
    | .holdthru =>
      if x.htLatch then s.adoptLatched n
      else if x.htOff then s.adoptOff n
      else if !x.pres then (s.pullGates n true).enter n .empty 0
      else if x.held != .on then s.enter n .seated 2
      else match a with
        | some a =>
          if a.enh && s.drivenUp n && s.adoptVolt n a then
            (s.enter n .on 0).modSlot n (fun x => { x with gA := { x.gA with enh := true }, gB := { x.gB with enh := s.backup n } })
          else s.adoptUv n
        | none => s.adoptUv n
    | _ => s

/-- Re-adopt a slot, and record it where it does not keep its state. -/
def State.readopt (s : State) (n : Nat) (ad : List AdoptIn) : State :=
  let a := ad.find? (fun a => a.slot == n)
  let held := if (s.slot n).st == .holdthru then (s.slot n).held else (s.slot n).st
  let gone := (s.slot n).pres && (s.slot n).st == .holdthru && (match a with | some a => !a.present | none => false)
  let s := match a with | some a => s.modSlot n (fun x => { x with pres := a.present, presN := a.present }) | none => s
  let s := s.adoptRow n a
  let s := if gone && (s.slot n).st == .empty then s.remember n else s
  let s := match a with | some a => if (s.slot n).st == .off then s else s.adoptSample n a | none => s
  let st := (s.slot n).st
  if st == held then s
  else s.logSlot n 0x0702 [held.code, st.code, if st == .latched || st == .tripped then s.causeOf n else 0]

/-- Re-adopt the slots of a die, then its pumps and its thermal edges. -/
def State.adoptDie (s : State) (d : Nat) (ad : List AdoptIn) : State :=
  let s := match ad.find? (fun a => dieOf a.slot == d) with | some a => s.adoptBus d a | none => s
  let ns := s.dieSlots d
  ((s.each ns (fun n s => s.readopt n ad)).pumpCheck d).thEdges ns

/-- The modelled elements take max(kept rise, R × P) from their first sample (R162), and the mean of R159 starts anew. -/
def State.riseReload (s : State) (d : Nat) : State :=
  s.each (s.dieSlots d) (fun n s =>
    let b := s.backup n
    s.modSlot n (fun x => { x with
      eA := { x.eA with reload := true, psum := 0, pn := 0 }
      eB := { x.eB with reload := x.eB.reload || b, psum := 0, pn := 0 } }))

/-- The contexts whose spare the Nursery was to map once they were unbound (R391). -/
def State.ctxMaps (s : State) (d : Nat) : State :=
  s.each ((List.range 18).filter (fun n => (s.ctx d n).mapDue)) (fun n s => s.spareGo d n)
/-- What starts again on a die whose logic was reset: modulators, survey, thermal model, waiting replacements of contexts. -/
def State.dieStart (s : State) (d : Nat) : State := (((s.startMods d).survStart d).riseReload d).ctxMaps d
/-- WAIT_CAUSE.DIE_TEMP stays set until the next scan (R438). -/
def State.scanPending (s : State) (d : Nat) : State := s.modDie d (fun x => { x with grat := { x.grat with scanned := false } })

/-! ## The return from a warm reset (R436, R439) -/

/-- The registers that a warm reset keeps: those that hardware alone writes, the slots' ENABLE and PORT_ASYM. -/
def keptReg (a : Nat) : Bool :=
  match locate a with
  | none => false
  | some l =>
    if l.off == 8 then l.blk == .slot
    else if l.blk == .mer && decide (0x104 ≤ l.off) && decide (l.off < 0x140) && l.off % 16 == 4 then true
    else if l.blk == .cont && decide (0x2200 ≤ l.off) && decide (l.off < 0x3400) then false
    else match rowAt l with
      | some r => r.acc == .ro || r.acc == .rs || r.acc == .rp
      | none => false

/-- Reload: every other register at its default, the pass element B of a live slot as it is (R94, R436). -/
def State.regsReload (s : State) : State :=
  let live := s.slots.map (·.1) |>.filter (fun n => !s.slotIdle n)
  let s' := { s with regs := s.regs.filter (fun e => keptReg e.1) }
  let s' := s'.each live (fun n t => t.setRf (slotB n + 0x100) 0 0 (s.sf n 0x100 0 0))
  s'.each (s.slots.map (·.1)) (fun n t => t.modSlot n (fun x => { x with prot := { x.prot with ptHeld := [] } }))

/-- The conditions that still hold raise their requests again (R385). -/
def State.requestsAgain (s : State) (d : Nat) : State :=
  let e := (s.die d).eng
  let s := if !s.approve 7 then s
    else s.each ((List.range 18).filter (fun n => (s.ctx d n).failed && (e.map.take 16).contains n)) (fun n s => s.nursReq 7 d n 0)
  let b := (s.die d).belv
  let s := s.each ((List.range 38).filter (fun m => (b.modl m).state == 1 && decide (2 ≤ (b.modl m).fails))) (fun m s =>
    let k := modKind (s.modIdx d m)
    if s.approve k then s.nursReq k d m 0 else s)
  if !s.approve 1 then s
  else s.each (s.dieSlots d) (fun n s => s.each (List.range 4) (fun c s =>
    if decide (s.rf (nursB + 0x44) 3 0 ≤ (s.slot n).lone.getD c 0) && !nbit (s.excl n) c then s.nursReq 1 d n c else s))

/-- The return sequence. -/
def State.warmBack (s : State) (grat : List (List Nat)) (ad : List AdoptIn) : State :=
  let old := s.pkg.lead
  let lead := if s.present 0 then 0 else 1
  let s := s.modPkg (fun p => { p with phase := .run, since := s.now, lead := lead, width := 0 })
  let s := s.each s.presentDies (fun d s => s.modDie d (fun x => { x with mode := if x.mode == .fault then .normal else x.mode, apart := none }))
  let ds := s.presentDies
  let s := s.each ds (fun d s => s.unblock d)
  let s := s.regsReload.configLoad true
  let s := s.loadRecord
  let s := s.each ds (fun d s =>
    let s := ((s.gratFirst d grat[d]?).scanPending d).dieStart d
    if nbit s.ident.factValid d then s else s.evtBelv d [9])
  let s := (s.evt (pageNo modeB) [2]).gazRebuild
  let s := if lead == old then s else s.evt (pageNo pkgB) [2]
  let r := s.mkRec 1 0 0x0701 [s.pkg.cause, s.pkg.warmHeld]
  let s := s.logAdd lead { r with time := s.pkg.warmAt, kept := true }
  let s := s.refFollow.mirrorRepair.framesStart
  let s := s.each ds (fun d s => s.adoptDie d ad)
  let s := s.each ds (fun d s => s.requestsAgain d)
  ((s.merReturn).freeCheck).autoJoin [0, 1]

/-- WARM_RETURN (R438, R439): the part is in RUN again and its slots are re-adopted; ad holds what each slot showed. -/
def execWarmReturn (grat : List (List Nat)) (ad : List AdoptIn) (s : State) : Host.Outcome State Fault Refusal :=
  done s (if s.pkg.phase == .warm && !s.pkg.rstLow && (s.present 0 || s.present 1) then s.warmBack grat ad else s)

/-! ## The return of a die (R172, R440, R441) -/

/-- A die is present again: DIE_RETURNED and the Gazetteer (R64, R68). -/
def State.dieBack (s : State) (d : Nat) : State :=
  let s := s.modDie d (fun x => { x with mode := .normal, present := true, apart := none })
  (((s.evt (pageNo pkgB) [4]).gazRebuild).reachUpdate).unblock d

/-- Where no lead die served (led says whether one did), the die takes the role, and the dies held under R441 re-adopt
their slots. -/
def State.leadBack (s : State) (d : Nat) (led : Bool) (ad : List AdoptIn) : State :=
  if led || decide (2 ≤ d) then s
  else
    let moved := s.pkg.lead != d
    let s := ((s.modPkg (fun p => { p with lead := d, hand := none, handLost := false })).leadDrop).refFollow
    let s := if moved then s.evt (pageNo pkgB) [2] else s
    s.each (s.presentDies.filter (fun e => (s.die e).mode == .fault)) (fun e s =>
      let s := (s.modDie e (fun x => { x with mode := .normal })).unblock e
      ((s.scanPending e).dieStart e).adoptDie e ad)

/-- The frame table of a die that rejoins the Trellis holds no frame (R225, R240). -/
def State.frameTableClear (s : State) (d : Nat) : State :=
  { s with regs := s.regs.filter (fun e => !(decide (ftA d 0 ≤ e.1) && decide (e.1 < ftA d 256)) && e.1 != belvB d + 0x130) }

/-- The die has rejoined: it starts anew and its slots are re-adopted. -/
def State.rejoined (s : State) (d : Nat) (ad : List AdoptIn) : State :=
  let n := (s.die d).attempts
  let led := s.runs s.pkg.lead
  let s := s.dieBack d
  let s := s.frameTableClear d
  let s := s.leadBack d led ad
  let s := s.log d 11 d 0x0704 (le 2 n)
  let s := ((s.scanPending d).dieStart d).adoptDie d ad
  if d < 2 then s.autoJoin [d] else s

/-- A die rejoins while the package is in WARM-RESET: the return sequence re-adopts its slots with the others (R439, R440). -/
def State.rejoinedWarm (s : State) (d : Nat) : State :=
  let s := (s.frameTableClear d).modDie d (fun x => { x with mode := .normal, present := true, apart := none })
  s.log d 11 d 0x0704 (le 2 (s.die d).attempts)

/-- DIE_REJOIN_ATTEMPT (R440): every tDFR; ok says that the die rejoins the Trellis. -/
def execDieRejoinAttempt (d : Nat) (ok : Bool) (ad : List AdoptIn) (s : State) : Host.Outcome State Fault Refusal :=
  done s (
    let x := s.die d
    if !(s.pkg.phase == .run || s.pkg.phase == .warm) || !s.fitted d || s.present d || x.mode != .fault || !decide (x.faultAt + 100 * MS * (x.attempts + 1) ≤ s.now) then s
    else
      let s := s.modDie d (fun x => { x with attempts := x.attempts + 1 })
      if !ok then s
      else if s.inRun then (if s.runs s.pkg.lead || decide (d < 2) then s.rejoined d ad else s)
      else if s.present s.pkg.lead || decide (d < 2) then s.rejoinedWarm d else s)

/-- The slots that tripped at the shutdown make the stuck-current check; the elements take R × P (R162, R172). -/
def State.thermSlots (s : State) (d : Nat) : State :=
  let e0 (e : Elem) (r : Bool) : Elem := { e with rise := [0, 0, 0, 0], psum := 0, pn := 0, started := false, armed := false, reload := r }
  s.each (s.dieSlots d) (fun n s =>
    let b := s.backup n
    s.modSlot n (fun x =>
      { x with
        eA := e0 x.eA true, eB := e0 x.eB b
        trip := if x.st == .tripped then { x.trip with check := true, stuckN := 0, stuckHi := 0 } else x.trip }))

/-- The die reboots after its shutdown. A follower that finds no lead die to align to stays present without running, as the
other followers do, until one returns (R22, R441). -/
def State.thermBack (s : State) (d : Nat) (grat : List Nat) : State :=
  let x := s.die d
  let led := s.runs s.pkg.lead
  let waits := s.inRun && !led && decide (2 ≤ d)
  let s := (s.addSat (dieB d + 0x234) 15 0 1).frameTableClear d
  let s := if s.inRun then (s.dieBack d).leadBack d led [] else s.modDie d (fun x => { x with mode := .normal, present := true, apart := none })
  let s := if waits then s.modDie d (fun x => { x with mode := .fault, faultAt := s.now, attempts := 0 }) else s
  let s := s.evtDie d [15]
  let r := s.mkRec 11 d 0x0100 [x.thermMask]
  let s := s.logAdd d { r with time := x.thermTime, kept := true }
  let s := s.log d 11 d 0x0101 (le 2 (s.rf (dieB d + 0x234) 15 0))
  let s := (s.thermSlots d).gratFirst d (some grat)
  if !s.inRun || waits then s
  else
    let s := ((s.startMods d).survStart d).pumpCheck d
    if d < 2 then s.autoJoin [d] else s

/-- THERMAL_RESTART (R172): both sensors of the pair have been below 140 °C for 10 ms; grat holds the first scan. -/
def execThermalRestart (d : Nat) (grat : List Nat) (s : State) : Host.Outcome State Fault Refusal :=
  done s (
    if (s.pkg.phase == .run || s.pkg.phase == .warm) && s.fitted d && (s.die d).mode == .thermal then s.thermBack d grat else s)

end Sys2Proof.Machine
end

