-- ==== Sys2Proof/Machine/Dispatch.lean ====
section
/-! DEFINITION. The dispatch of every command to its meaning, one arm for each constructor of Instr. -/
namespace Sys2Proof.Machine

def exec (i : Instr) (s : State) : Host.Outcome State Fault Refusal :=
  match i with
  | .supplyLoss => Sys2Proof.Machine.execSupplyLoss s
  | .porDelayExpiry => Sys2Proof.Machine.execPorDelayExpiry s
  | .bootComplete dies refA refB strap grat => Sys2Proof.Machine.execBootComplete dies refA refB strap grat s
  | .bootRetry dies refA refB => Sys2Proof.Machine.execBootRetry dies refA refB s
  | .resetNLow => Sys2Proof.Machine.execResetNLow s
  | .softwareWarmReset ini => Sys2Proof.Machine.execSoftwareWarmReset ini s
  | .watchdogExpiry d => Sys2Proof.Machine.execWatchdogExpiry d s
  | .warmReturn grat ad => Sys2Proof.Machine.execWarmReturn grat ad s
  | .trellisSilence d => Sys2Proof.Machine.execTrellisSilence d s
  | .dieRejoinAttempt d ok ad => Sys2Proof.Machine.execDieRejoinAttempt d ok ad s
  | .offNFall => Sys2Proof.Machine.execOffNFall s
  | .offNRise => Sys2Proof.Machine.execOffNRise s
  | .thermalShutdown d sensors => Sys2Proof.Machine.execThermalShutdown d sensors s
  | .thermalRestart d grat => Sys2Proof.Machine.execThermalRestart d grat s
  | .refclkLoss b => Sys2Proof.Machine.execRefclkLoss b s
  | .refclkReturn b => Sys2Proof.Machine.execRefclkReturn b s
  | .returnA ini => Sys2Proof.Machine.execReturnA ini s
  | .registerWrite ini addr v late => Sys2Proof.Machine.execRegisterWrite ini addr v late s
  | .pageLockWrite ini page v start => Sys2Proof.Machine.execPageLockWrite ini page v start s
  | .autoRelock page => Sys2Proof.Machine.execAutoRelock page s
  | .relock ini page => Sys2Proof.Machine.execRelock ini page s
  | .softReset ini page => Sys2Proof.Machine.execSoftReset ini page s
  | .softResetDone page => Sys2Proof.Machine.execSoftResetDone page s
  | .evtStatClear ini page mask hw => Sys2Proof.Machine.execEvtStatClear ini page mask hw s
  | .evtForce ini page mask => Sys2Proof.Machine.execEvtForce ini page mask s
  | .evtCountWrite ini page hw => Sys2Proof.Machine.execEvtCountWrite ini page hw s
  | .shadowLoRead ini addr => Sys2Proof.Machine.execShadowLoRead ini addr s
  | .rsRead ini addr => Sys2Proof.Machine.execRsRead ini addr s
  | .wideLoWrite ini addr v => Sys2Proof.Machine.execWideLoWrite ini addr v s
  | .wideHiWrite ini addr v => Sys2Proof.Machine.execWideHiWrite ini addr v s
  | .pumpFailover d => Sys2Proof.Machine.execPumpFailover d s
  | .pumpRestartDone d => Sys2Proof.Machine.execPumpRestartDone d s
  | .sparePumpExercise d fell => Sys2Proof.Machine.execSparePumpExercise d fell s
  | .rawOutputRise slot copy => Sys2Proof.Machine.execRawOutputRise slot copy s
  | .rawOutputFall slot copy lone => Sys2Proof.Machine.execRawOutputFall slot copy lone s
  | .fastTrip slot copies => Sys2Proof.Machine.execFastTrip slot copies s
  | .instantTrip slot copies => Sys2Proof.Machine.execInstantTrip slot copies s
  | .tripCauseSettle slot => Sys2Proof.Machine.execTripCauseSettle slot s
  | .limitEnter slot => Sys2Proof.Machine.execLimitEnter slot s
  | .faultTimerReset slot => Sys2Proof.Machine.execFaultTimerReset slot s
  | .limitTimerExpiry slot => Sys2Proof.Machine.execLimitTimerExpiry slot s
  | .reverseBlock slot => Sys2Proof.Machine.execReverseBlock slot s
  | .reverseBlockClear slot => Sys2Proof.Machine.execReverseBlockClear slot s
  | .pulldownRelease slot gateB => Sys2Proof.Machine.execPulldownRelease slot gateB s
  | .slotEnable ini slot => Sys2Proof.Machine.execSlotEnable ini slot s
  | .slotDisable ini slot => Sys2Proof.Machine.execSlotDisable ini slot s
  | .stop ini slot => Sys2Proof.Machine.execStop ini slot s
  | .stopNow ini slot => Sys2Proof.Machine.execStopNow ini slot s
  | .go ini slot => Sys2Proof.Machine.execGo ini slot s
  | .trip ini slot => Sys2Proof.Machine.execTrip ini slot s
  | .clear ini slot => Sys2Proof.Machine.execClear ini slot s
  | .resetCount ini slot => Sys2Proof.Machine.execResetCount ini slot s
  | .ewarnLeadExpiry slot => Sys2Proof.Machine.execEwarnLeadExpiry slot s
  | .cardSeated slot edge => Sys2Proof.Machine.execCardSeated slot edge s
  | .cardRemoval slot edge => Sys2Proof.Machine.execCardRemoval slot edge s
  | .precheck1Pass slot => Sys2Proof.Machine.execPrecheck1Pass slot s
  | .shortVerdict slot => Sys2Proof.Machine.execShortVerdict slot s
  | .precheck2Pass slot => Sys2Proof.Machine.execPrecheck2Pass slot s
  | .passElementAShort slot => Sys2Proof.Machine.execPassElementAShort slot s
  | .spareGateTimeout slot => Sys2Proof.Machine.execSpareGateTimeout slot s
  | .spareEnhDone slot => Sys2Proof.Machine.execSpareEnhDone slot s
  | .chargingStart slot => Sys2Proof.Machine.execChargingStart slot s
  | .learningWindowEnd slot => Sys2Proof.Machine.execLearningWindowEnd slot s
  | .insertionPause slot => Sys2Proof.Machine.execInsertionPause slot s
  | .insertTimeout slot => Sys2Proof.Machine.execInsertTimeout slot s
  | .handoverTimeout slot => Sys2Proof.Machine.execHandoverTimeout slot s
  | .insertionDone slot => Sys2Proof.Machine.execInsertionDone slot s
  | .pgRelease slot => Sys2Proof.Machine.execPgRelease slot s
  | .ewarnBusEnd d => Sys2Proof.Machine.execEwarnBusEnd d s
  | .controlSample r => Sys2Proof.Machine.execControlSample r s
  | .tocCfgWrite ini slot v => Sys2Proof.Machine.execTocCfgWrite ini slot v s
  | .tocPtWrite ini slot k v => Sys2Proof.Machine.execTocPtWrite ini slot k v s
  | .stuckCurrentVerdict slot => Sys2Proof.Machine.execStuckCurrentVerdict slot s
  | .tripDwellEnd slot => Sys2Proof.Machine.execTripDwellEnd slot s
  | .cooldownExpiry slot => Sys2Proof.Machine.execCooldownExpiry slot s
  | .stableTimeExpiry slot => Sys2Proof.Machine.execStableTimeExpiry slot s
  | .rememberExpiry slot => Sys2Proof.Machine.execRememberExpiry slot s
  | .snapshotComplete d buf => Sys2Proof.Machine.execSnapshotComplete d buf s
  | .snapshotSaved d buf => Sys2Proof.Machine.execSnapshotSaved d buf s
  | .thermalModelUpdate d => Sys2Proof.Machine.execThermalModelUpdate d s
  | .tfetStale slot => Sys2Proof.Machine.execTfetStale slot s
  | .gratReadmit ini d mask => Sys2Proof.Machine.execGratReadmit ini d mask s
  | .surveyStepEnd d r => Sys2Proof.Machine.execSurveyStepEnd d r s
  | .surveyScanEnd d arbA arbB => Sys2Proof.Machine.execSurveyScanEnd d arbA arbB s
  | .restrainReceive m => Sys2Proof.Machine.execRestrainReceive m s
  | .clearedReceive m => Sys2Proof.Machine.execClearedReceive m s
  | .lockoutReceive m => Sys2Proof.Machine.execLockoutReceive m s
  | .releaseReceive m => Sys2Proof.Machine.execReleaseReceive m s
  | .upstreamOpenReceive m => Sys2Proof.Machine.execUpstreamOpenReceive m s
  | .messageCopyRepeat slot => Sys2Proof.Machine.execMessageCopyRepeat slot s
  | .waitExpiry slot => Sys2Proof.Machine.execWaitExpiry slot s
  | .holdExpiry slot => Sys2Proof.Machine.execHoldExpiry slot s
  | .entryStale slot srcAddr srcSlot => Sys2Proof.Machine.execEntryStale slot srcAddr srcSlot s
  | .terrDisable ini => Sys2Proof.Machine.execTerrDisable ini s
  | .frameBoundary rs => Sys2Proof.Machine.execFrameBoundary rs s
  | .trigPulse low width => Sys2Proof.Machine.execTrigPulse low width s
  | .softwareTrigger ini => Sys2Proof.Machine.execSoftwareTrigger ini s
  | .triggerDelayEnd src => Sys2Proof.Machine.execTriggerDelayEnd src s
  | .openWireStart ini d v => Sys2Proof.Machine.execOpenWireStart ini d v s
  | .openWireDone d => Sys2Proof.Machine.execOpenWireDone d s
  | .queuePop ini => Sys2Proof.Machine.execQueuePop ini s
  | .queuePeek ini => Sys2Proof.Machine.execQueuePeek ini s
  | .streamFlushTimeout => Sys2Proof.Machine.execStreamFlushTimeout s
  | .streamReceive src seq entries => Sys2Proof.Machine.execStreamReceive src seq entries s
  | .energyClear ini slot => Sys2Proof.Machine.execEnergyClear ini slot s
  | .fullCalibration ini d => Sys2Proof.Machine.execFullCalibration ini d s
  | .fullCalibrationDone d pairs => Sys2Proof.Machine.execFullCalibrationDone d pairs s
  | .rollOnce ini d => Sys2Proof.Machine.execRollOnce ini d s
  | .rollingStepStart d => Sys2Proof.Machine.execRollingStepStart d s
  | .rollingParallelEnd d => Sys2Proof.Machine.execRollingParallelEnd d s
  | .selfCalDone d zs fs => Sys2Proof.Machine.execSelfCalDone d zs fs s
  | .loopPeriod d errs => Sys2Proof.Machine.execLoopPeriod d errs s
  | .dacWrite d ctx => Sys2Proof.Machine.execDacWrite d ctx s
  | .fbLost slot => Sys2Proof.Machine.execFbLost slot s
  | .commit ini d ctx errs => Sys2Proof.Machine.execCommit ini d ctx errs s
  | .clrCnt ini d ctx => Sys2Proof.Machine.execClrCnt ini d ctx s
  | .clrMax ini d => Sys2Proof.Machine.execClrMax ini d s
  | .parityScan d errs => Sys2Proof.Machine.execParityScan d errs s
  | .laneRequestDone d => Sys2Proof.Machine.execLaneRequestDone d s
  | .testArm ini d => Sys2Proof.Machine.execTestArm ini d s
  | .testStop ini d => Sys2Proof.Machine.execTestStop ini d s
  | .testDelayEnd d => Sys2Proof.Machine.execTestDelayEnd d s
  | .testEnd d => Sys2Proof.Machine.execTestEnd d s
  | .capArm ini d => Sys2Proof.Machine.execCapArm ini d s
  | .capForce ini d => Sys2Proof.Machine.execCapForce ini d s
  | .capAbort ini d => Sys2Proof.Machine.execCapAbort ini d s
  | .capDone d => Sys2Proof.Machine.execCapDone d s
  | .linkAlign p => Sys2Proof.Machine.execLinkAlign p s
  | .linkUp p routes => Sys2Proof.Machine.execLinkUp p routes s
  | .linkRelock p routes => Sys2Proof.Machine.execLinkRelock p routes s
  | .linkFailed p cause routes => Sys2Proof.Machine.execLinkFailed p cause routes s
  | .linkRetry p => Sys2Proof.Machine.execLinkRetry p s
  | .normalFrameReceive p rx routes => Sys2Proof.Machine.execNormalFrameReceive p rx routes s
  | .urgentFrameReceive p rx => Sys2Proof.Machine.execUrgentFrameReceive p rx s
  | .ackReceive p rx => Sys2Proof.Machine.execAckReceive p rx s
  | .nakReceive p rx => Sys2Proof.Machine.execNakReceive p rx s
  | .resyncReceive p rx => Sys2Proof.Machine.execResyncReceive p rx s
  | .replayTimeout p => Sys2Proof.Machine.execReplayTimeout p s
  | .claimReceive p pri uid src ttl => Sys2Proof.Machine.execClaimReceive p pri uid src ttl s
  | .countReceive p pos ttl => Sys2Proof.Machine.execCountReceive p pos ttl s
  | .joinReqReceive p uid pos req pin ttl => Sys2Proof.Machine.execJoinReqReceive p uid pos req pin ttl s
  | .assignReceive p uid node ring refuse routes ttl => Sys2Proof.Machine.execAssignReceive p uid node ring refuse routes ttl s
  | .gapSend pair => Sys2Proof.Machine.execGapSend pair s
  | .gapReceive p members collect window keeper ttl xseq => Sys2Proof.Machine.execGapReceive p members collect window keeper ttl xseq s
  | .gapWindowStart pair routes => Sys2Proof.Machine.execGapWindowStart pair routes s
  | .gapLost pair => Sys2Proof.Machine.execGapLost pair s
  | .join ini pair => Sys2Proof.Machine.execJoin ini pair s
  | .leave ini pair => Sys2Proof.Machine.execLeave ini pair s
  | .leaveDrainDone pair => Sys2Proof.Machine.execLeaveDrainDone pair s
  | .issue ini v => Sys2Proof.Machine.execIssue ini v s
  | .cplPop ini => Sys2Proof.Machine.execCplPop ini s
  | .xactTimeout tag => Sys2Proof.Machine.execXactTimeout tag s
  | .tmoCfgWrite ini v => Sys2Proof.Machine.execTmoCfgWrite ini v s
  | .requestServe late => Sys2Proof.Machine.execRequestServe late s
  | .busyResend tag => Sys2Proof.Machine.execBusyResend tag s
  | .ppsInEdge falling c => Sys2Proof.Machine.execPpsInEdge falling c s
  | .ppsInLost => Sys2Proof.Machine.execPpsInLost s
  | .todCommit ini v => Sys2Proof.Machine.execTodCommit ini v s
  | .timeProbeSend p t1 => Sys2Proof.Machine.execTimeProbeSend p t1 s
  | .probeReceive p t1 t2 t3 steps state quality ok => Sys2Proof.Machine.execProbeReceive p t1 t2 t3 steps state quality ok s
  | .echoReceive p t1 t2 t3 t4 steps state quality ok routes => Sys2Proof.Machine.execEchoReceive p t1 t2 t3 t4 steps state quality ok routes s
  | .tappedProbe p t1 t2 steps state quality ok => Sys2Proof.Machine.execTappedProbe p t1 t2 steps state quality ok s
  | .timeSourceLost => Sys2Proof.Machine.execTimeSourceLost s
  | .arm ini => Sys2Proof.Machine.execArm ini s
  | .disarm ini => Sys2Proof.Machine.execDisarm ini s
  | .reacquire ini => Sys2Proof.Machine.execReacquire ini s
  | .train ini => Sys2Proof.Machine.execTrain ini s
  | .tmrCfgWrite ini n v => Sys2Proof.Machine.execTmrCfgWrite ini n v s
  | .timerFire n => Sys2Proof.Machine.execTimerFire n s
  | .ppsOutPulse => Sys2Proof.Machine.execPpsOutPulse s
  | .hostProbe ini v t1 => Sys2Proof.Machine.execHostProbe ini v t1 s
  | .hostProbeReceive p t2 id src ok => Sys2Proof.Machine.execHostProbeReceive p t2 id src ok s
  | .txsPop ini => Sys2Proof.Machine.execTxsPop ini s
  | .approve ini v => Sys2Proof.Machine.execApprove ini v s
  | .decline ini v => Sys2Proof.Machine.execDecline ini v s
  | .restoreRole ini v => Sys2Proof.Machine.execRestoreRole ini v s
  | .readmitCmp ini v => Sys2Proof.Machine.execReadmitCmp ini v s
  | .moveLead ini v => Sys2Proof.Machine.execMoveLead ini v s
  | .failMod ini v => Sys2Proof.Machine.execFailMod ini v s
  | .resetWear ini v => Sys2Proof.Machine.execResetWear ini v s
  | .modSwapParallelEnd d ok diff => Sys2Proof.Machine.execModSwapParallelEnd d ok diff s
  | .leadHandoverDone => Sys2Proof.Machine.execLeadHandoverDone s
  | .wearSave => Sys2Proof.Machine.execWearSave s
  | .save ini => Sys2Proof.Machine.execSave ini s
  | .openStage ini => Sys2Proof.Machine.execOpenStage ini s
  | .stageWindowWrite ini addr v => Sys2Proof.Machine.execStageWindowWrite ini addr v s
  | .commitStage ini => Sys2Proof.Machine.execCommitStage ini s
  | .abort ini => Sys2Proof.Machine.execAbort ini s
  | .saveDone ok => Sys2Proof.Machine.execSaveDone ok s
  | .feramRowWrite d fails => Sys2Proof.Machine.execFeramRowWrite d fails s
  | .coalesceFlush d => Sys2Proof.Machine.execCoalesceFlush d s
  | .logRead ini => Sys2Proof.Machine.execLogRead ini s
  | .logClear ini mask => Sys2Proof.Machine.execLogClear ini mask s
  | .modeRequest ini v => Sys2Proof.Machine.execModeRequest ini v s
  | .write mode3 addr ws late => Sys2Proof.Machine.execWrite mode3 addr ws late s
  | .read mode3 addr n late => Sys2Proof.Machine.execRead mode3 addr n late s
  | .widthReset mode3 => Sys2Proof.Machine.execWidthReset mode3 s
  | .cmdErr mode3 => Sys2Proof.Machine.execCmdErr mode3 s
  | .frameErr mode3 wr addr ws late => Sys2Proof.Machine.execFrameErr mode3 wr addr ws late s
  | .regaccess wr addr v late => Sys2Proof.Machine.execRegaccess wr addr v late s
  | .testInstructionLoad code => Sys2Proof.Machine.execTestInstructionLoad code s
  | .limitRelease slot => Sys2Proof.Machine.execLimitRelease slot s
  | .gateBelow1v slot gateB left10 => Sys2Proof.Machine.execGateBelow1v slot gateB left10 s
  | .resetNRise => Sys2Proof.Machine.execResetNRise s

end Sys2Proof.Machine
end

