-- ==== Sys2Proof/Machine/Step.lean ====
section
/-! DEFINITION. One step of the block: the command at the front of the queue, or one CORE cycle of idling. -/
namespace Sys2Proof.Machine

/-- The end of a CORE cycle, and one cycle of idling: the TIMED trips that fall in the cycle (R128) and what a gap window held back
(R334), then time advances, and the commands that were put off wait again (R100). -/
def State.cycleEnd (s : State) : State :=
  let s := if s.timedSlots.isEmpty && !([0, 1, 2, 3].any s.pumpDue) then s else { s.timedTrips.settle with pending := s.pending, now := s.now, ident := s.ident }
  { s.tick with pending := s.later, later := [] }

/-- A step takes the command at the front of the queue and runs it with the queue's rest; an empty queue idles for one
CORE cycle. -/
def step (s : State) : Host.Outcome State Fault Refusal :=
  match s.pending with
  | c :: r => exec c { s with pending := r }
  | [] => .next s.cycleEnd

/-- The state with the command that a word spells in front of its queue; no word spells one. -/
def State.withFetchWord (s : State) (nbits w : Nat) : State :=
  match decodeTableWord nbits w with
  | some c => { s with pending := c :: s.pending }
  | none => s

end Sys2Proof.Machine
end

