-- ==== Sys2Proof/Safety.lean ====
section
/-! DEFINITION. What counts as a safe state and a safe step of the block, and what a command leaves as it was, in the terms the claims use. -/
namespace Sys2Proof.Machine

/-- Memory.wf of this block: the FeRAM, the addressed memory behind the FERAM windows, is in its canonical form. -/
def Memory.wf (m : List Host.Cell) : Bool := mwf 0 m

/-- The addressed memories of a state stand in their canonical form: the FeRAM (R401), the capture memory (R304), the shadow
words and their fresh marks (R49). -/
def State.memOk (s : State) : Prop :=
  Memory.wf s.feram = true ∧ mwf 0 s.capt = true ∧ mwf 0 s.shadow = true ∧ mwf false s.fresh = true

/-- The package's tables have the sizes the spec gives them: 64 tags (R344), 16 timers (R375), 4 ports (R316). -/
def State.tablesOk (s : State) : Prop :=
  s.xact.tags.length = 64 ∧ s.mer.timers.length = 16 ∧ s.ports.length = 4

/-- Every die has 18 loop contexts (R273) and 38 modulators (R208). -/
def State.dieTablesOk (s : State) : Prop :=
  ∀ d, (s.die d).eng.ctxs.length = 18 ∧ (s.die d).belv.mods.length = 38

/-- A step is safe when it answers a next state. -/
def Safe (s : State) : Prop := ∃ t, step s = .next t

/-- The Nursery's request queue holds at most 16 requests and no two of one identity (R385). -/
def State.nursOk (s : State) : Prop := s.nurs.length ≤ 16 ∧ s.nurs.Nodup

/-- An access of an initiator at an address is served and not refused (R33, R344). -/
def State.takes (s : State) (ini : Ini) (a : Nat) : Bool := s.serving && !xactBarred ini a && s.refusal a == 0
/-- The page whose lock guards an address. -/
def lockPage (a : Nat) : Nat := ((locate a).map (·.base)).getD 0 / 4096
/-- The same on a page that the initiator has unlocked (R46). -/
def State.takesLocked (s : State) (ini : Ini) (a : Nat) : Bool := s.takes ini a && s.unlockedFor ini (lockPage a)

/-- The package with the bookkeeping of its summary, pins and MODE_DIRTY taken from another (R54, R122, R156, R447). -/
def Pkg.noted (p q : Pkg) : Pkg :=
  { p with sumWas := q.sumWas, evSeq := q.evSeq, faultWas := q.faultWas, ewWas := q.ewWas, dirtyWas := q.dirtyWas }

/-- A port pair with the last level driven on its WKT_DRV pin taken from another (R340). -/
def Pair.driven (p q : Pair) : Pair := { p with drv := q.drv }

/-- t agrees with s in everything but the page headers (R34 to R47), what the ring was given to send, and the
bookkeeping of the summary and of the pins (IRQ_N, FAULT_N, EWARN_N, WKT_DRV). -/
structure Quiet (s t : State) : Prop where
  now : t.now = s.now
  ident : t.ident = s.ident
  pkg : t.pkg = s.pkg.noted t.pkg
  regs : t.regs = s.regs
  slots : t.slots = s.slots
  dies : t.dies = s.dies
  frames : t.frames = s.frames
  qport : t.qport = s.qport
  pairAB : t.pairAB = s.pairAB.driven t.pairAB
  pairCD : t.pairCD = s.pairCD.driven t.pairCD
  routes : t.routes = s.routes
  mer : t.mer = s.mer
  xact : t.xact = s.xact
  nurs : t.nurs = s.nurs
  cfg : t.cfg = s.cfg
  feram : t.feram = s.feram
  capt : t.capt = s.capt
  shadow : t.shadow = s.shadow
  fresh : t.fresh = s.fresh
  copies : t.copies = s.copies
  heard : t.heard = s.heard
  rsp : t.rsp = s.rsp
  free : t.free = s.free
  later : t.later = s.later
  pending : t.pending = s.pending

/-- What a command on a slot or on a die leaves as it was beside the slots, the dies, the registers and the logs: the FeRAM,
Meridian time, the frames, the queues, the pairs, the transactions, the configuration, the shadows and the commands put off. -/
structure Beside (s t : State) : Prop where
  feram : t.feram = s.feram
  mer : t.mer = s.mer
  frames : t.frames = s.frames
  qport : t.qport = s.qport
  pairAB : t.pairAB = s.pairAB.driven t.pairAB
  pairCD : t.pairCD = s.pairCD.driven t.pairCD
  routes : t.routes = s.routes
  xact : t.xact = s.xact
  cfg : t.cfg = s.cfg
  capt : t.capt = s.capt
  shadow : t.shadow = s.shadow
  fresh : t.fresh = s.fresh
  later : t.later = s.later
  pending : t.pending = s.pending

/-- What a command on slot n leaves as it was: the other slots, and what stands beside them. -/
structure SlotOnly (n : Nat) (s t : State) : Prop extends Beside s t where
  slots : ∀ m, m ≠ n → t.slot m = s.slot m

/-- What a command on die d leaves as it was: every slot, and what stands beside them. -/
structure DieOnly (s t : State) : Prop extends Beside s t where
  slots : t.slots = s.slots

/-- The gates of slot n in t are those of s. -/
def GatesKept (s t : State) (n : Nat) : Prop := (t.slot n).gA = (s.slot n).gA ∧ (t.slot n).gB = (s.slot n).gB

/-- Both gates of slot n in t are those of s pulled down, through the HARD or the SOFT path; GATEB without pass element B
stands (R71, R80). -/
def Pulled (s t : State) (n : Nat) (hard : Bool) : Prop :=
  (t.slot n).gA = (s.slot n).gA.pull s.now hard ∧
  (t.slot n).gB = if s.backup n then (s.slot n).gB.pull s.now hard else (s.slot n).gB

/-- A bit of the event register of a page. -/
def State.evtBit (s : State) (page b : Nat) : Bool := bit (s.page page).evt b
/-- The page of a slot. -/
def slotPage (n : Nat) : Nat := pageNo (slotB n)

/-- Slot n of s has tripped in t with a cause and a DETAIL: TRIPPED, PG low, both gates pulled down on the path, the
record due, the count of R140, and every other slot as it was (R123, R126, R140, R153). -/
structure Tripped (s t : State) (n why what : Nat) (hard : Bool) : Prop where
  st : (t.slot n).st = .tripped
  prev : (t.slot n).prev = (s.slot n).st
  cause : (t.slot n).trip.cause = why
  detail : (t.slot n).trip.detail = what
  due : (t.slot n).trip.due = true
  pg : (t.slot n).pg = false
  gates : Pulled s t n hard
  count : (t.slot n).retry.cnt = if s.counts n why then sat 16 ((s.slot n).retry.cnt + 1) else (s.slot n).retry.cnt
  others : SlotOnly n s t

/-- The part has entered WARM-RESET from s with a cause (R434 to R437): the frames stand, both pairs are out of their
rings, the Nursery's queue and the shadows are empty, and no byte of the FeRAM has changed but for a save cut short. -/
structure WarmEntered (s t : State) (why : Nat) : Prop where
  phase : t.pkg.phase = .warm
  cause : t.pkg.cause = why
  count : t.pkg.warmCount = sat 65535 (s.pkg.warmCount + 1)
  frames : t.frames.run = false
  pairAB : t.pairAB.join = 0 ∧ t.pairAB.joined = false
  pairCD : t.pairCD.join = 0 ∧ t.pairCD.joined = false
  nurs : t.nurs = []
  shadow : t.shadow = []
  feram : s.cfg.save = none → t.feram = s.feram

end Sys2Proof.Machine
end

