-- ==== Sys2Proof/Certificates/Slice0/Obligations.lean ====
section
/-! DEFINITION. The statements for the provers. Each says what a command of the block does by the rules its docstring names: that it completes, what the next state holds, and what stays as it was. -/
open Sys2Proof Sys2Proof.Machine

/-! ## The block as a whole -/

/-- A step runs the command at the front of the queue with the queue's rest. -/
def Obligations.StepRunsFrontCommand : Prop :=
  ∀ (c : Instr) (r : List Instr) (s : State), s.pending = c :: r → step s = exec c { s with pending := r }

/-- On an empty queue a step is one CORE cycle (the model's choice, log entry 1): time advances by one cycle and the Meridian
counter by 5 ns and RATE (R23, R359), and the commands put off to the next cycle wait again (log entry 12). Where nothing was put
off, no timed trip falls due and no port holds anything back, nothing else changes. -/
def Obligations.EmptyQueueIdlesOneCycle : Prop :=
  (∀ s : State, s.pending = [] →
    ∃ t, step s = .next t ∧ t.now = s.now + 1 ∧ t.mer.count = ((s.mer.count : Int) + 5 * 2 ^ 32 + s.mer.rate).toNat ∧
      t.pending = s.later ∧ t.later = []) ∧
  (∀ s : State, s.pending = [] → s.later = [] → s.timedSlots = [] → (∀ i, i < 4 → s.pumpDue i = false) →
    ∃ t, step s = .next t ∧ t = { s with now := t.now, mer := { s.mer with count := t.mer.count } })

/-- Every command answers a next state and leaves the queue's rest, the time and what the factory fixed (R7) as they were. -/
def Obligations.CommandsKeepQueueTimeIdent : Prop :=
  ∀ (c : Instr) (s : State), ∃ t, exec c s = .next t ∧ t.pending = s.pending ∧ t.now = s.now ∧ t.ident = s.ident

/-- State.reset meets the invariants: canonical memories (the model's own form of State), the sizes of the tables (R273,
R316, R344, R375) and the bound of the Nursery's queue (R385). -/
def Obligations.ResetMeetsTheInvariants : Prop :=
  State.reset.memOk ∧ State.reset.tablesOk ∧ State.reset.dieTablesOk ∧ State.reset.nursOk

/-- Every step keeps the canonical form of the FeRAM, the capture memory, the shadow words and their fresh marks. -/
def Obligations.StepKeepsMemoriesCanonical : Prop := ∀ s t : State, s.memOk → step s = .next t → t.memOk

/-- Every step keeps 64 transaction tags, 16 timers and 4 ports (R316, R344, R375). -/
def Obligations.StepKeepsPackageTables : Prop := ∀ s t : State, s.tablesOk → step s = .next t → t.tablesOk

/-- Every step keeps 18 loop contexts and 38 modulators on every die (R208, R273). -/
def Obligations.StepKeepsDieTables : Prop := ∀ s t : State, s.dieTablesOk → step s = .next t → t.dieTablesOk

/-- Every step keeps the Nursery's queue at no more than 16 requests, no two of one identity (R385). -/
def Obligations.StepKeepsNurseryQueueBounded : Prop := ∀ s t : State, s.nursOk → step s = .next t → t.nursOk

/-- The commands that may write FeRAM: row writes, the saves of wear counters, snapshots and configurations, a cleared
log, a reset that cuts a save short, and BOOT and the returns, which repair a mirror. -/
def writesFeram : Instr → Bool
  | .supplyLoss | .bootComplete .. | .resetNLow | .softwareWarmReset .. | .watchdogExpiry .. | .warmReturn .. => true
  | .registerWrite .. | .write .. | .frameErr .. | .regaccess .. | .requestServe .. => true
  | .snapshotSaved .. | .wearSave | .saveDone .. | .feramRowWrite .. | .logClear .. => true
  | _ => false

/-- Every command that writesFeram does not name leaves every byte of the FeRAM as it was (R401, R403); it names row writes, the
saves of wear counters, snapshots and configurations, a cleared log, resets that cut a save short, BOOT and the returns, and
the accesses that can start one of these. -/
def Obligations.FeramWrittenByItsCommandsOnly : Prop :=
  ∀ (c : Instr) (s t : State), writesFeram c = false → exec c s = .next t → ∀ a, mget 0 t.feram a = mget 0 s.feram a

/-! ## Power states (R430 to R443) -/

/-- A supply loss takes every slot and register away and keeps FeRAM; the power-on delay leads to BOOT
(R430, R431; that it is measured from the loss is the model's choice, log entry 32). -/
def Obligations.SupplyLossAndPowerOnDelay : Prop :=
  (∀ s : State, s.pkg.phase ≠ .powerOff →
    ∃ t, exec .supplyLoss s = .next t ∧ t.pkg.phase = .powerOff ∧ t.regs = [] ∧ t.shadow = [] ∧ t.nurs = [] ∧
      (∀ n, (t.slot n).st = .off ∧ (t.slot n).gA.path = .holdOff ∧ (t.slot n).gB.path = .holdOff ∧ (t.slot n).pg = false) ∧
      (s.cfg.save = none → t.feram = s.feram)) ∧
  (∀ s : State, s.pkg.phase = .powerOff ∨ s.pkg.phase = .por → s.pkg.since + MS ≤ s.now →
    ∃ t, exec .porDelayExpiry s = .next t ∧
      Quiet { s with pkg := { s.pkg with phase := .boot, since := s.now, retAt := s.now } } t)

/-- The three sources of a warm reset in RUN: RESET_N, the key write and the lead die's watchdog (R434, R436). -/
def Obligations.WarmResetSources : Prop :=
  (∀ s : State, s.pkg.phase = .run → s.pkg.rstLow = false → ∃ t, exec .resetNLow s = .next t ∧ WarmEntered s t 1) ∧
  (∀ (ini : Ini) (s : State), s.takesLocked ini (modeB + 0x50) = true →
    ∃ t, exec (.softwareWarmReset ini) s = .next t ∧ WarmEntered s t 2) ∧
  (∀ s : State, s.runs s.pkg.lead = true → ∃ t, exec (.watchdogExpiry s.pkg.lead) s = .next t ∧ WarmEntered s t 3)

/-- On a warm reset by RESET_N a slot in ON enters HOLDTHRU with its gates, PG and card as they were; a slot in OFF, EMPTY,
TRIPPED, COOLDOWN, LATCHED or LOCKOUT keeps its state (R437). -/
def Obligations.WarmResetHoldsLiveSlots : Prop :=
  ∀ (s : State) (n : Nat), s.pkg.phase = .run → s.pkg.rstLow = false → s.fitted (dieOf n) = true → (s.die (dieOf n)).mode ≠ .thermal →
    ∃ t, exec .resetNLow s = .next t ∧
      ((s.slot n).st = .on →
        (t.slot n).st = .holdthru ∧ (t.slot n).held = .on ∧ (t.slot n).gA = (s.slot n).gA ∧ (t.slot n).gB = (s.slot n).gB ∧
        (t.slot n).pg = (s.slot n).pg ∧ (t.slot n).pres = (s.slot n).pres) ∧
      ((s.slot n).st = .off ∨ (s.slot n).st = .empty ∨ (s.slot n).st = .tripped ∨ (s.slot n).st = .cooldown ∨
          (s.slot n).st = .latched ∨ (s.slot n).st = .lockout →
        (t.slot n).st = (s.slot n).st ∧ (t.slot n).gA = (s.slot n).gA ∧ (t.slot n).gB = (s.slot n).gB)

/-- RESET_N rises, BOOT fails or completes, and the part returns from a warm reset (R432, R433, R439). -/
def Obligations.BootAndReturnReachRun : Prop :=
  (∀ s : State, s.pkg.rstLow = true →
    ∃ t, exec .resetNRise s = .next t ∧ Quiet { s with pkg := { s.pkg with rstLow := false, retAt := s.now } } t) ∧
  (∀ (dies : Nat) (a b : Bool) (s : State), s.pkg.phase = .boot → s.pkg.retAt + 10 * MS ≤ s.now → s.bootable dies a b = false →
    ∃ t, exec (.bootRetry dies a b) s = .next t ∧ Quiet { s with pkg := { s.pkg with retAt := s.now, refA := a, refB := b } } t) ∧
  (∀ (dies : Nat) (a b strap : Bool) (grat : List (List Nat)) (s : State), s.pkg.phase = .boot → s.bootable dies a b = true →
    ∃ t, exec (.bootComplete dies a b strap grat) s = .next t ∧ t.pkg.phase = .run ∧ t.pkg.epoch = s.now ∧
      t.pkg.lead = (if nbit dies 0 then 0 else 1) ∧ t.frames.run = true) ∧
  (∀ (grat : List (List Nat)) (ad : List AdoptIn) (s : State), s.pkg.phase = .warm → s.pkg.rstLow = false →
    s.present 0 = true ∨ s.present 1 = true →
    ∃ t, exec (.warmReturn grat ad) s = .next t ∧ t.pkg.phase = .run ∧ t.pkg.lead = (if s.present 0 then 0 else 1) ∧ t.frames.run = true)

/-- A die enters DIE-FAULT by Trellis silence or its watchdog and rejoins, in WARM-RESET too by the choice of log entry 39;
a fixed shutdown turns its gates off, and the die returns from it; without a lead die a follower that returns holds its slots as in DIE-FAULT (R171, R172, R440, R441). -/
def Obligations.DieFaultShutdownAndReturn : Prop :=
  (∀ (d : Nat) (s : State), s.runs d = true →
    ∃ t, exec (.trellisSilence d) s = .next t ∧ (t.die d).mode = .fault ∧ (t.die d).faultAt = s.now) ∧
  (∀ (d : Nat) (s : State), s.runs d = true → d ≠ s.pkg.lead →
    ∃ t, exec (.watchdogExpiry d) s = .next t ∧ (t.die d).mode = .fault ∧ (t.die d).present = false) ∧
  (∀ (d sensors : Nat) (s : State), s.pkg.phase = .run ∨ s.pkg.phase = .warm → s.fitted d = true → (s.die d).mode ≠ .thermal →
    ∃ t, exec (.thermalShutdown d sensors) s = .next t ∧ (t.die d).mode = .thermal ∧ (t.die d).thermMask = sensors % 4 ∧
      ∀ n, dieOf n = d → (t.slot n).gA.path = .holdOff ∧ (t.slot n).gB.path = .holdOff ∧ (t.slot n).pg = false) ∧
  (∀ (d : Nat) (ad : List AdoptIn) (s : State), s.inRun = true → s.fitted d = true → s.present d = false → (s.die d).mode = .fault →
    (s.die d).faultAt + 100 * MS * ((s.die d).attempts + 1) ≤ s.now → s.runs s.pkg.lead = true ∨ d < 2 →
    ∃ t, exec (.dieRejoinAttempt d true ad) s = .next t ∧ (t.die d).mode = .normal ∧ (t.die d).present = true) ∧
  (∀ (d : Nat) (ad : List AdoptIn) (s : State), s.pkg.phase = .warm → s.fitted d = true → s.present d = false → (s.die d).mode = .fault →
    (s.die d).faultAt + 100 * MS * ((s.die d).attempts + 1) ≤ s.now → s.present s.pkg.lead = true ∨ d < 2 →
    ∃ t, exec (.dieRejoinAttempt d true ad) s = .next t ∧ (t.die d).mode = .normal ∧ (t.die d).present = true ∧ t.slots = s.slots) ∧
  (∀ (d : Nat) (grat : List Nat) (s : State), s.pkg.phase = .run ∨ s.pkg.phase = .warm → s.fitted d = true → (s.die d).mode = .thermal →
    ∃ t, exec (.thermalRestart d grat) s = .next t ∧ (t.die d).present = true ∧
      (s.pkg.phase = .warm ∨ d < 2 ∨ s.runs s.pkg.lead = true → (t.die d).mode = .normal) ∧
      (s.pkg.phase = .run → 2 ≤ d → s.runs s.pkg.lead = false → (t.die d).mode = .fault))

/-- OFF_N falls: every slot in RUN with a gate driven up trips with OFF_PIN on the HARD path. It rises again (R136, R442). -/
def Obligations.OffPinTripsEverySlot : Prop :=
  (∀ s : State, s.pkg.phase ≠ .powerOff → s.pkg.offLow = false →
    ∃ t, exec .offNFall s = .next t ∧ t.pkg.offLow = true ∧ t.pkg.offCount = sat 65535 (s.pkg.offCount + 1) ∧ t.feram = s.feram ∧
      ∀ n, s.gateUp n = true → (s.slot n).st ≠ .holdthru →
        (t.slot n).st = .tripped ∧ (t.slot n).trip.cause = 0xF ∧ (t.slot n).gA = (s.slot n).gA.pull s.now true ∧ (t.slot n).pg = false) ∧
  (∀ s : State, s.pkg.offLow = true → ∃ t, exec .offNRise s = .next t ∧ t.pkg.offLow = false ∧ t.slots = s.slots ∧ t.regs = s.regs)

/-- A reference is lost, returns, or is taken back by software. A switch needs a lead die in place (R19, R26, R27, R28). -/
def Obligations.ReferenceClocks : Prop :=
  (∀ s : State, s.refLive = true → s.pkg.refA = true →
    ∃ t, exec (.refclkLoss false) s = .next t ∧ t.pkg.refA = false ∧ t.pkg.refB = s.pkg.refB ∧
      t.pkg.refUse = (if s.pkg.refUse == false && s.pkg.refB && s.present s.pkg.lead then true else s.pkg.refUse) ∧
      t.pkg.refLost = (if s.pkg.refB then s.pkg.refLost else true) ∧ t.slots = s.slots ∧ t.feram = s.feram) ∧
  (∀ s : State, s.refLive = true → s.pkg.refB = true →
    ∃ t, exec (.refclkLoss true) s = .next t ∧ t.pkg.refB = false ∧ t.pkg.refA = s.pkg.refA ∧
      t.pkg.refUse = (if s.pkg.refUse && s.pkg.refA && s.present s.pkg.lead then false else s.pkg.refUse) ∧
      t.pkg.refLost = (if s.pkg.refA then s.pkg.refLost else true) ∧ t.slots = s.slots ∧ t.feram = s.feram) ∧
  (∀ s : State, s.refLive = true → s.pkg.refA = false →
    ∃ t, exec (.refclkReturn false) s = .next t ∧ t.pkg.refA = true ∧ t.pkg.refLost = false ∧
      t.pkg.refUse = (if s.pkg.refLost then false else s.pkg.refUse) ∧ t.slots = s.slots) ∧
  (∀ s : State, s.refLive = true → s.pkg.refB = false →
    ∃ t, exec (.refclkReturn true) s = .next t ∧ t.pkg.refB = true ∧ t.pkg.refLost = false ∧
      t.pkg.refUse = (if s.pkg.refLost then true else s.pkg.refUse) ∧ t.slots = s.slots) ∧
  (∀ (ini : Ini) (s : State), s.takes ini (clkB + 0x44) = true →
    (s.pkg.refA = true → ∃ t, exec (.returnA ini) s = .next t ∧ t.pkg.refUse = false ∧ t.slots = s.slots) ∧
    (s.pkg.refA = false → ∃ t, exec (.returnA ini) s = .next t ∧ Quiet s t ∧ t.evtBit (pageNo clkB) 31 = true))

/-! ## Registers (02_pages_and_gazetteer.md) -/

/-- The two key writes of PAGE_LOCK, what ends an unlock, and a soft reset that no rule refuses with its end (R38, R39, R45,
R47). -/
def Obligations.PageLockAndSoftReset : Prop :=
  (∀ (ini : Ini) (p start : Nat) (l : Loc) (s : State), locate (4096 * p + 0x20) = some l → l.blk.lockable = true → l.off = 0x20 →
    s.takes ini (4096 * p + 0x20) = true → (s.page l.page).lock = 0 →
    ∃ t, exec (.pageLockWrite ini p 0xA5C3 start) s = .next t ∧ Quiet s t ∧
      (t.page l.page).lock = 1 ∧ (t.page l.page).ini = ini ∧ (t.page l.page).armAt = s.now) ∧
  (∀ (ini : Ini) (p start : Nat) (v : Word) (l : Loc) (s : State), locate (4096 * p + 0x20) = some l → l.blk.lockable = true →
    l.off = 0x20 → s.takes ini (4096 * p + 0x20) = true → (s.page l.page).lock = 1 →
    ∃ t, exec (.pageLockWrite ini p v start) s = .next t ∧ Quiet s t ∧
      (t.page l.page).lock = (if v.toNat = l.page ∧ start ≤ (s.page l.page).armAt + 256 ∧ (s.page l.page).ini = ini then 2 else 0)) ∧
  (∀ (p : Nat) (s : State), (s.page p).lock = 2 → (s.page p).lastWr + 10 * MS ≤ s.now →
    ∃ t, exec (.autoRelock p) s = .next t ∧ Quiet s t ∧ (t.page p).lock = 0) ∧
  (∀ (ini : Ini) (p : Nat) (l : Loc) (s : State), locate (4096 * p + 8) = some l → l.blk.header = true → l.off = 8 →
    s.takes ini (4096 * p + 8) = true → ∃ t, exec (.relock ini p) s = .next t ∧ Quiet s t ∧ (t.page l.page).lock = 0) ∧
  (∀ (ini : Ini) (p : Nat) (l : Loc) (s : State), locate (4096 * p + 8) = some l → l.blk.header = true → l.off = 8 →
    s.takes ini (4096 * p + 8) = true → s.softBar l = false →
    ∃ t, exec (.softReset ini p) s = .next t ∧ (t.page l.page).soft = some s.now ∧ (t.page l.page).lock = 0 ∧ t.feram = s.feram) ∧
  (∀ (p : Nat) (s : State), (s.page p).soft.isSome = true →
    ∃ t, exec (.softResetDone p) s = .next t ∧ Quiet s t ∧ (t.page p).soft = none)

/-- EVT_STAT, EVT_FORCE and EVT_COUNT of a page outside DIE and MODE, on which no other event falls (R42, R43, R44). hw are
the bits that hardware sets in the same CORE cycle; a write breaks an ARMED page with LOCK_VIOL (R45). -/
def Obligations.EventRegisters : Prop :=
  ∀ (ini : Ini) (p : Nat) (mask hw : Word) (l : Loc) (s : State), l.blk.header = true → l.blk ≠ .die → l.blk ≠ .mode →
    (s.page l.page).lock ≠ 1 →
    (locate (4096 * p + 0x10) = some l → l.off = 0x10 → s.takes ini (4096 * p + 0x10) = true →
      ∃ t, exec (.evtStatClear ini p mask hw) s = .next t ∧ Quiet s t ∧
        (t.page l.page).evt = ((s.page l.page).evt &&& ~~~mask) ||| (hw &&& evtBits l.blk)) ∧
    (locate (4096 * p + 0x18) = some l → l.off = 0x18 → s.takes ini (4096 * p + 0x18) = true →
      ∃ t, exec (.evtForce ini p mask) s = .next t ∧ Quiet s t ∧
        (t.page l.page).evt = (s.page l.page).evt ||| (mask &&& evtBits l.blk)) ∧
    (locate (4096 * p + 0x1C) = some l → l.off = 0x1C → s.takes ini (4096 * p + 0x1C) = true →
      ∃ t, exec (.evtCountWrite ini p hw) s = .next t ∧ Quiet s t ∧ (t.page l.page).count = (wordBits (hw &&& evtBits l.blk)).length)

/-- A write of a register of the PKG page takes each field whose value is no reserved encoding and keeps the others (R14);
a write to an address that is not mapped, to an absent die, or to a follower die that does not answer in time and did not take it
is refused with ADDR_ERR (R33). -/
def Obligations.RegisterWriteMergesFields : Prop :=
  (∀ (ini : Ini) (a : Nat) (v : Word) (l : Loc) (r : Row) (s : State), locate (a / 4 * 4) = some l → l.blk = .pkg → 0x40 ≤ l.off →
    rowAt l = some r → r.acc = .rw → s.takes ini (a / 4 * 4) = true → lockedFor l r v = false ∨ s.unlockedFor ini l.page = true →
    ∃ t, exec (.registerWrite ini a v) s = .next t ∧ Quiet (s.setReg (pkgB + l.off) (r.merge (s.reg (pkgB + l.off)) v).1) t) ∧
  (∀ (ini : Ini) (a : Nat) (v : Word) (late : Late) (u s : State), u = s.modPkg (fun p => { p with late := late }) → s.serving = true →
    xactBarred ini (a / 4 * 4) = false → u.refusal (a / 4 * 4) ≠ 0 → u.lateTook (a / 4 * 4) = false →
    ∃ t, exec (.registerWrite ini a v late) s = .next t ∧ bit (t.page (pageNo pkgB)).evt 0 = true ∧ t.slots = s.slots ∧ t.dies = s.dies ∧
      (bit (s.page (pageNo pkgB)).evt 0 = true → t.regs = s.regs) ∧
      (bit (s.page (pageNo pkgB)).evt 0 = false → t.rf (pkgB + 0x58) 23 0 = a / 4 * 4 % 2 ^ 24))

/-- The shadows: a read of I_NOW of a slot captures V_NOW for the same initiator, and a read of an RS word answers the
shadow once (R49, R50). TOD_SEC: the LO word is held, and the write of the HI word commits both (R51, R363). -/
def Obligations.WideWordsAndShadows : Prop :=
  (∀ (ini : Ini) (n : Nat) (s : State), n < 128 → s.serving = true → s.refusal (slotB n + 0x80) = 0 →
    ∃ t, exec (.shadowLoRead ini (slotB n + 0x80)) s = .next t ∧ t.rsp = [s.view ⟨.slot, n, 0x80⟩] ∧
      mget 0 t.shadow (shKey ini (slotB n + 0x84)) = s.view ⟨.slot, n, 0x84⟩ ∧ mget false t.fresh (shKey ini (slotB n + 0x84)) = true ∧
      t.slots = s.slots ∧ t.regs = s.regs ∧ t.feram = s.feram) ∧
  (∀ (ini : Ini) (a : Nat) (l : Loc) (r : Row) (s : State), a % 4 = 0 → locate a = some l → l.blk.header = true → rowAt l = some r → r.acc = .rs →
    s.serving = true → s.refusal a = 0 →
    ∃ t, exec (.rsRead ini a) s = .next t ∧ t.rsp = [mget 0 s.shadow (shKey ini (l.base + l.off))] ∧
      mget false t.fresh (shKey ini (l.base + l.off)) = false ∧ t.shadow = s.shadow ∧ t.slots = s.slots ∧ t.regs = s.regs ∧
      (mget false s.fresh (shKey ini (l.base + l.off)) = false → bit (t.page l.page).evt 29 = true)) ∧
  (∀ (ini : Ini) (v : Word) (s : State), s.takes ini (merB + 0x80) = true →
    ∃ t, exec (.wideLoWrite ini (merB + 0x80) v) s = .next t ∧ Quiet (s.setReg (merB + 0x80) v) t) ∧
  (∀ (ini : Ini) (v : Word) (s : State), s.takes ini (merB + 0x84) = true →
    ∃ t, exec (.wideHiWrite ini (merB + 0x84) v) s = .next t ∧
      Quiet { s.setReg (merB + 0x84) (mkWord [(0, fld v 15 0)]) with
        mer := { s.mer with tod := some (fld v 15 0 * 2 ^ 32 + (s.reg (merB + 0x80)).toNat) } } t) ∧
  (∀ (ini : Ini) (v : Word) (s : State), s.takes ini (merB + 0x84) = true →
    ∃ t, exec (.todCommit ini v) s = .next t ∧ t.mer.tod = some (fld v 15 0 * 2 ^ 32 + (s.reg (merB + 0x80)).toNat) ∧
      t.mer.count = s.mer.count ∧ t.slots = s.slots)

/-! ## Slot hardware (03_slot_hardware.md) -/

/-- The charge pumps of a die (R78, R390, R445). A failover marks the running pump failed: the standby pump runs where it has not
failed, else the pumps of the die are exhausted; a stopped pump, or two failed ones, are left alone. A restart ends with VCP back.
The exercise runs the standby pump where SPARE_EX is set and no slot of the die is in CHARGING or pre-check step 2; VCP falling in
it marks the standby pump failed. -/
def Obligations.ChargePumps : Prop :=
  (∀ (d : Nat) (s : State), s.runs d = true → (s.die d).pow.stopped = false → (s.die d).pow.pumpFailed = 0 →
    ∃ t, exec (.pumpFailover d) s = .next t ∧ (t.die d).pow.pumpRun = 1 - (s.die d).pow.pumpRun ∧
      (t.die d).pow.pumpFailed = 2 ^ (s.die d).pow.pumpRun ∧ (t.die d).pow.vcpLow = true ∧ (t.die d).pow.restarting = false ∧
      (∀ e, e ≠ d → (t.die e).pow = (s.die e).pow) ∧ DieOnly s t) ∧
  (∀ (d : Nat) (s : State), s.runs d = true → (s.die d).pow.stopped = false → (s.die d).pow.pumpRun < 2 →
    (s.die d).pow.pumpFailed = 2 ^ (1 - (s.die d).pow.pumpRun) →
    ∃ t, exec (.pumpFailover d) s = .next t ∧ (t.die d).pow.pumpRun = (s.die d).pow.pumpRun ∧ (t.die d).pow.pumpFailed = 3 ∧
      (t.die d).pow.vcpLow = true ∧ (∀ e, e ≠ d → (t.die e).pow = (s.die e).pow) ∧ DieOnly s t) ∧
  (∀ (d : Nat) (s : State), s.runs d = false ∨ (s.die d).pow.stopped = true ∨ (s.die d).pow.pumpFailed = 3 →
    (∃ t, exec (.pumpFailover d) s = .next t ∧ Quiet s t) ∧ (∃ t, exec (.pumpRestartDone d) s = .next t ∧ Quiet s t)) ∧
  (∀ (d : Nat) (s : State), s.runs d = true → (s.die d).pow.stopped = false → (s.die d).pow.pumpFailed ≠ 3 →
    ∃ t, exec (.pumpRestartDone d) s = .next t ∧
      Quiet (s.modDie d (fun x => { x with pow := { x.pow with restarting := false, vcpLow := false } })) t) ∧
  (∀ (d : Nat) (fell : Bool) (s : State), s.runs d = true → s.rf (modeB + 0x48) 4 4 = 1 →
    s.anySlot d (fun x => x.st == .charging || (x.st == .seated && x.step == 3)) = false →
    (s.die d).pow.waits = false → (s.die d).pow.pumpFailed = 0 → (s.die d).pow.exAt + 60 * SEC ≤ s.now →
    ∃ t, exec (.sparePumpExercise d fell) s = .next t ∧
      (t.die d).pow = { (s.die d).pow with exAt := s.now, pumpFailed := if fell then 2 ^ (1 - (s.die d).pow.pumpRun) else 0 } ∧
      (∀ e, e ≠ d → (t.die e).pow = (s.die e).pow) ∧ DieOnly s t)

/-- The raw outputs of a slot's comparator copies rise and fall (R188, R189, R191). Both copies of FAST, or of INSTANT, assert once
their raw outputs have held for the deglitch time (R84) on a slot with a gate driven up that no terrace holds, and no condition of
higher rank holds in the cycle (R100, R125): the slot trips on the HARD path with that cause. The window of a copy that asserted
before closes (R85, R126, R191). -/
def Obligations.ComparatorsAndTrips : Prop :=
  (∀ (n c : Nat) (s : State), s.cmpLive n = true → nbit (s.slot n).raw c = false →
    ∃ t, exec (.rawOutputRise n c) s = .next t ∧ (t.slot n).raw = setNbit (s.slot n).raw c true ∧ (t.slot n).st = (s.slot n).st ∧ SlotOnly n s t) ∧
  (∀ (n c : Nat) (lone : Bool) (s : State), s.cmpLive n = true →
    ∃ t, exec (.rawOutputFall n c lone) s = .next t ∧ (t.slot n).raw = setNbit (s.slot n).raw c false ∧
      (t.slot n).deg = setNbit (s.slot n).deg c false ∧ (t.slot n).st = (s.slot n).st ∧ SlotOnly n s t) ∧
  (∀ (n : Nat) (s : State), s.cmpLive n = true → s.gateUp n = true → (s.slot n).st ≠ .holdthru → s.excl n = 0 → (s.slot n).deg = 0 →
    (s.slot n).winF = none → s.ripe n false 3 = 3 → s.outranked n 2 = false → s.level n = 0 →
    ∃ t, exec (.fastTrip n 3) s = .next t ∧ Tripped s t n 1 0 true) ∧
  (∀ (n : Nat) (s : State), s.cmpLive n = true → s.gateUp n = true → (s.slot n).st ≠ .holdthru → s.excl n = 0 → (s.slot n).deg = 0 →
    (s.slot n).winI = none → s.ripe n true 3 = 3 → s.outranked n 1 = false →
    ∃ t, exec (.instantTrip n 3) s = .next t ∧ Tripped s t n 2 0 true) ∧
  (∀ (n : Nat) (inst : Bool) (w : Win) (s : State), (s.slot n).win inst = some w → w.winEnd ≠ 0 → w.winEnd ≤ s.now →
    ∃ t, exec (.tripCauseSettle n) s = .next t ∧ (t.slot n).win inst = some { w with winEnd := 0 } ∧ (t.slot n).st = (s.slot n).st)

/-- The analog limit, on the working element's gate, and its fault timer (R80, R86, R87). -/
def Obligations.AnalogLimitAndFaultTimer : Prop :=
  (∀ (n : Nat) (s : State), (s.slot n).limit = false → s.limitUp n = true → (s.slot n).revBlock = false →
    ∃ t, exec (.limitEnter n) s = .next t ∧
      Quiet (s.modSlot n (fun x => { x with limit := true, limOffAt := none, faultAt := some (x.faultAt.getD s.now) })) t) ∧
  (∀ (n : Nat) (s : State), (s.slot n).limit = true →
    ∃ t, exec (.limitRelease n) s = .next t ∧ Quiet (s.modSlot n (fun x => { x with limit := false, limOffAt := some s.now })) t) ∧
  (∀ (n a : Nat) (s : State), (s.slot n).limOffAt = some a → (s.slot n).faultAt.isSome = true → (s.slot n).limit = false → a + 10 * US ≤ s.now →
    ∃ t, exec (.faultTimerReset n) s = .next t ∧ (t.slot n).faultAt = none ∧ (t.slot n).st = (s.slot n).st ∧ t.regs = s.regs ∧ SlotOnly n s t) ∧
  (∀ (n : Nat) (s : State), s.limitDue n = true → s.gateUp n = true → (s.slot n).st ≠ .holdthru → s.outranked n 4 = false →
    ∃ t, exec (.limitTimerExpiry n) s = .next t ∧ Tripped s t n 4 0 true)

/-- A reverse-current block takes both gates down on the HARD path with REV_BLOCK set and no trip; its end, 50 µs after its start at
the earliest, drives again the gates that the slot's state asks for (R88), or, while OFF_N is low, trips the slot (R136). A
pull-down releases to HOLD-OFF, or to the path that waited for it (R80, R96). A gate falls below 10.0 V, or below 1 V (R82, R189). -/
def Obligations.ReverseBlockAndPulldowns : Prop :=
  (∀ (n : Nat) (s : State), s.gateUp n = true → (s.slot n).revBlock = false → s.sf n 0x100 1 1 = 1 →
    ∃ t, exec (.reverseBlock n) s = .next t ∧ (t.slot n).revBlock = true ∧ (t.slot n).revAt = s.now ∧ Pulled s t n true ∧
      (t.slot n).st = (s.slot n).st ∧ (t.slot n).pg = (s.slot n).pg ∧ t.evtBit (slotPage n) 21 = true ∧ t.regs = s.regs ∧ SlotOnly n s t) ∧
  (∀ (n : Nat) (s : State), s.gateUp n = false ∨ (s.slot n).revBlock = true ∨ s.sf n 0x100 1 1 ≠ 1 →
    ∃ t, exec (.reverseBlock n) s = .next t ∧ Quiet s t) ∧
  (∀ (n : Nat) (s : State), (s.slot n).revBlock = true → (s.slot n).revAt + 50 * US ≤ s.now →
    ((s.slot n).st = .holdthru ∨ (s.gateUp n = true ∧ s.offN = false ∧ s.inOr n (s.slot n).deg = 0) →
      ∃ t, exec (.reverseBlockClear n) s = .next t ∧ Quiet ((s.modSlot n (fun x => { x with revBlock := false })).raiseGates n) t) ∧
    ((s.slot n).st ≠ .holdthru → s.gateUp n = true → s.offN = true →
      ∃ t, exec (.reverseBlockClear n) s = .next t ∧ Tripped s t n 0xF 0 true) ∧
    ((s.slot n).st ≠ .holdthru → s.gateUp n = false →
      ∃ t, exec (.reverseBlockClear n) s = .next t ∧ Quiet (s.modSlot n (fun x => { x with revBlock := false })) t)) ∧
  (∀ (n : Nat) (s : State), (s.slot n).revBlock = true → s.now < (s.slot n).revAt + 50 * US →
    ∃ t, exec (.reverseBlockClear n) s = .next t ∧ Quiet s t) ∧
  (∀ (n : Nat) (s : State), s.pkg.phase ≠ .powerOff →
    ((s.slot n).gA.mayRelease s.now = true →
      ∃ t, exec (.pulldownRelease n false) s = .next t ∧ (t.slot n).gA = (s.slot n).gA.release ∧
        (t.slot n).gB = (s.slot n).gB ∧ (t.slot n).st = (s.slot n).st ∧ (t.slot n).pg = (s.slot n).pg ∧ t.regs = s.regs ∧ SlotOnly n s t) ∧
    ((s.slot n).gB.mayRelease s.now = true →
      ∃ t, exec (.pulldownRelease n true) s = .next t ∧ (t.slot n).gB = (s.slot n).gB.release ∧
        (t.slot n).gA = (s.slot n).gA ∧ (t.slot n).st = (s.slot n).st ∧ (t.slot n).pg = (s.slot n).pg ∧ t.regs = s.regs ∧ SlotOnly n s t)) ∧
  (∀ (n : Nat) (s : State), s.pkg.phase ≠ .powerOff →
    (∃ t, exec (.gateBelow1v n false false) s = .next t ∧
      (t.slot n).gA = { (s.slot n).gA with low := true, enh := false, lowAt := if (s.slot n).gA.low then (s.slot n).gA.lowAt else s.now } ∧
      (t.slot n).gB = (s.slot n).gB ∧ (t.slot n).st = (s.slot n).st ∧ SlotOnly n s t) ∧
    (∃ t, exec (.gateBelow1v n true false) s = .next t ∧
      (t.slot n).gB = { (s.slot n).gB with low := true, enh := false, lowAt := if (s.slot n).gB.low then (s.slot n).gB.lowAt else s.now } ∧
      (t.slot n).gA = (s.slot n).gA ∧ (t.slot n).st = (s.slot n).st ∧ SlotOnly n s t) ∧
    (∃ t, exec (.gateBelow1v n false true) s = .next t ∧ Quiet (s.modSlot n (fun x => { x with gA := { x.gA with enh := false } })) t) ∧
    (∃ t, exec (.gateBelow1v n true true) s = .next t ∧ Quiet (s.modSlot n (fun x => { x with gB := { x.gB with enh := false } })) t))

/-! ## Slot states (04_insertion.md) -/

/-- ENABLE written 1 takes a slot from OFF to EMPTY and changes nothing in every other state; ENABLE written 0 takes it from every
other state to OFF, with both gates pulled down through the SOFT path, PG low and ENABLE 0 (R99). STOP in ON starts a graceful
turn-off of EWARN_LEAD ms, of one CORE cycle at least, with PG low and the gates as they are; a second one while it runs has no
effect (the model's choice, log entry 66). STOP in SEATED, WAITING and CHARGING, STOP_NOW in every state but OFF, and the end of the
lead time turn the slot off; where the state does not define them they are refused with WR_REJECT (R99, R115, R137). A turn-off
gives way to a condition of higher rank in its cycle (R100). -/
def Obligations.SlotEnableDisableAndStop : Prop :=
  (∀ (ini : Ini) (n : Nat) (s : State), s.takes ini (slotB n + 8) = true →
    ((s.slot n).st = .off →
      ∃ t, exec (.slotEnable ini n) s = .next t ∧ (t.slot n).st = .empty ∧ (t.slot n).prev = .off ∧ t.enabled n = true ∧
        GatesKept s t n ∧ SlotOnly n s t) ∧
    ((s.slot n).st ≠ .off → ∃ t, exec (.slotEnable ini n) s = .next t ∧ Quiet s t)) ∧
  (∀ (ini : Ini) (n : Nat) (s : State), s.takes ini (slotB n + 8) = true → s.outranked n rankOff = false →
    ((s.slot n).st ≠ .off →
      ∃ t, exec (.slotDisable ini n) s = .next t ∧ (t.slot n).st = .off ∧ (t.slot n).prev = (s.slot n).st ∧ (t.slot n).pg = false ∧
        t.enabled n = false ∧ Pulled s t n false ∧ SlotOnly n s t) ∧
    ((s.slot n).st = .off → ∃ t, exec (.slotDisable ini n) s = .next t ∧ Quiet s t)) ∧
  (∀ (ini : Ini) (n : Nat) (s : State), s.takes ini (slotCmd n) = true →
    ((s.slot n).st = .on → (s.slot n).offPend = none →
      ∃ t, exec (.stop ini n) s = .next t ∧ (t.slot n).st = .on ∧ (t.slot n).pg = false ∧
        (t.slot n).offPend = some (s.now + Nat.max 1 (s.sf n 0x14C 31 28 * MS)) ∧ (t.slot n).offWarn = (s.sf n 0x144 14 14 == 1) ∧
        GatesKept s t n ∧ t.regs = s.regs ∧ SlotOnly n s t) ∧
    ((s.slot n).st = .on → (s.slot n).offPend ≠ none → ∃ t, exec (.stop ini n) s = .next t ∧ Quiet s t) ∧
    ((s.slot n).st = .seated ∨ (s.slot n).st = .waiting ∨ (s.slot n).st = .charging → s.outranked n rankOther = false →
      ∃ t, exec (.stop ini n) s = .next t ∧ (t.slot n).st = .off ∧ (t.slot n).prev = (s.slot n).st ∧ (t.slot n).pg = false ∧
        t.enabled n = false ∧ Pulled s t n false ∧ SlotOnly n s t) ∧
    ((s.slot n).st ≠ .on → (s.slot n).st ≠ .seated → (s.slot n).st ≠ .waiting → (s.slot n).st ≠ .charging →
      ∃ t, exec (.stop ini n) s = .next t ∧ Quiet s t ∧ t.evtBit (slotPage n) 31 = true)) ∧
  (∀ (ini : Ini) (n : Nat) (s : State), s.takes ini (slotCmd n) = true →
    ((s.slot n).st ≠ .off → s.outranked n rankOff = false →
      ∃ t, exec (.stopNow ini n) s = .next t ∧ (t.slot n).st = .off ∧ (t.slot n).prev = (s.slot n).st ∧ (t.slot n).pg = false ∧
        t.enabled n = false ∧ Pulled s t n false ∧ SlotOnly n s t) ∧
    ((s.slot n).st = .off → ∃ t, exec (.stopNow ini n) s = .next t ∧ Quiet s t ∧ t.evtBit (slotPage n) 31 = true)) ∧
  (∀ (n a : Nat) (s : State), (s.slot n).offPend = some a → s.runs (dieOf n) = true → (s.slot n).st = .on → a ≤ s.now →
    s.outranked n rankOther = false →
    ∃ t, exec (.ewarnLeadExpiry n) s = .next t ∧ (t.slot n).st = .off ∧ (t.slot n).prev = .on ∧ (t.slot n).pg = false ∧
      t.enabled n = false ∧ Pulled s t n false ∧ SlotOnly n s t)

/-- CMD (R137, R153). GO in SEATED or WAITING is remembered (R107). TRIP trips a slot with a gate driven up on the HARD path with
cause SW_TRIP; a TRIPPED slot takes that cause, and a slot in COOLDOWN goes to LATCHED with it. CLEAR takes LATCHED to EMPTY
with the retry count 0, COOLDOWN to its retry or, with no card, to EMPTY, and LOCKOUT to where RELEASE would (R143). RESET_COUNT clears the
retry count and the REMEMBER timer. GO, TRIP and CLEAR in another state are refused with WR_REJECT. -/
def Obligations.SlotCommands : Prop :=
  (∀ (ini : Ini) (n : Nat) (s : State), s.takes ini (slotCmd n) = true →
    ((s.slot n).st = .seated ∨ (s.slot n).st = .waiting →
      ∃ t, exec (.go ini n) s = .next t ∧ Quiet (s.modSlot n (fun x => { x with ins := { x.ins with goDone := true } })) t) ∧
    ((s.slot n).st ≠ .seated → (s.slot n).st ≠ .waiting →
      ∃ t, exec (.go ini n) s = .next t ∧ Quiet s t ∧ t.evtBit (slotPage n) 31 = true)) ∧
  (∀ (ini : Ini) (n : Nat) (s : State), s.takes ini (slotCmd n) = true →
    (s.gateUp n = true → s.outranked n 7 = false →
      ∃ t, exec (.trip ini n) s = .next t ∧ Tripped s t n 0x10 0 true ∧ t.causeOf n = 0x10) ∧
    (s.gateUp n = false → (s.slot n).st = .tripped →
      ∃ t, exec (.trip ini n) s = .next t ∧ (t.slot n).st = .tripped ∧ (t.slot n).trip.cause = 0x10 ∧ (t.slot n).trip.detail = 0 ∧
        t.causeOf n = 0x10 ∧ GatesKept s t n ∧ SlotOnly n s t) ∧
    (s.gateUp n = false → (s.slot n).st = .cooldown →
      ∃ t, exec (.trip ini n) s = .next t ∧ (t.slot n).st = .latched ∧ (t.slot n).trip.cause = 0x10 ∧ (t.slot n).trip.detail = 0 ∧
        t.causeOf n = 0x10 ∧ (t.slot n).retry.cool = none ∧ GatesKept s t n ∧ SlotOnly n s t) ∧
    (s.gateUp n = false → (s.slot n).st ≠ .tripped → (s.slot n).st ≠ .cooldown →
      ∃ t, exec (.trip ini n) s = .next t ∧ Quiet s t ∧ t.evtBit (slotPage n) 31 = true)) ∧
  (∀ (ini : Ini) (n : Nat) (s : State), s.takes ini (slotCmd n) = true →
    (s.outranked n rankOther = false →
      ((s.slot n).st = .latched →
        ∃ t, exec (.clear ini n) s = .next t ∧ (t.slot n).st = .empty ∧ (t.slot n).retry.cnt = 0 ∧ GatesKept s t n ∧ SlotOnly n s t) ∧
      ((s.slot n).st = .cooldown →
        ∃ t, exec (.clear ini n) s = .next t ∧ (t.slot n).retry.cool = none ∧ (t.slot n).retry.cnt = (s.slot n).retry.cnt ∧
          GatesKept s t n ∧ SlotOnly n s t ∧
          (if (s.slot n).pres then (t.slot n).st = .seated ∧ (t.slot n).step = 2 else (t.slot n).st = .empty)) ∧
      ((s.slot n).st = .lockout →
        ((s.slot n).presN = false → ∃ t, exec (.clear ini n) s = .next t ∧ (t.slot n).st = .empty ∧ SlotOnly n s t) ∧
        ((s.slot n).presN = true → (s.slot n).trip.removed = true ∨
            ((s.slot n).held ≠ .waiting ∧ (s.slot n).held ≠ .charging ∧ (s.slot n).held ≠ .on) →
          ∃ t, exec (.clear ini n) s = .next t ∧ (t.slot n).st = .seated ∧ (t.slot n).step = 2 ∧ SlotOnly n s t) ∧
        ((s.slot n).presN = true → (s.slot n).trip.removed = false →
            (s.slot n).held = .waiting ∨ (s.slot n).held = .charging ∨ (s.slot n).held = .on →
            s.backup n = false ∨ (s.offN = false ∧ s.inOr n (s.slot n).deg = 0) →
          ∃ t, exec (.clear ini n) s = .next t ∧ (t.slot n).st = .waiting ∧ (t.slot n).prev = .lockout ∧ SlotOnly n s t))) ∧
    ((s.slot n).st ≠ .latched → (s.slot n).st ≠ .cooldown → (s.slot n).st ≠ .lockout →
      ∃ t, exec (.clear ini n) s = .next t ∧ Quiet s t ∧ t.evtBit (slotPage n) 31 = true)) ∧
  (∀ (ini : Ini) (n : Nat) (s : State), s.takes ini (slotCmd n) = true →
    ∃ t, exec (.resetCount ini n) s = .next t ∧ (t.slot n).retry.cnt = 0 ∧ (t.slot n).retry.remember = none ∧
      (t.slot n).st = (s.slot n).st ∧ GatesKept s t n ∧ t.regs = s.regs ∧ SlotOnly n s t)

/-- PRES_N falls and rises; low for PRES_DEB it seats a card in an EMPTY slot, and high for tREM it removes one from a slot of an
insertion or in ON, from COOLDOWN, and from TRIPPED and LOCKOUT, which keep their state (R101, R139, R142, R143). Pre-check step 1
passes with SHORT_VOUT 0 and step 2 with GATEB enhanced for 100 µs (R102, R104). The verdicts: VOUT near the bus for 1 s in step 1
(R103), VOUT rising in step 2 or, armed, in WAITING, with the role swap at once or after approval (R104, R105, R106), and the spare gate
that does not enhance in time (R104, R143). The non-working gate enhances (R82). A transition gives way to a condition of higher rank in its
cycle (R100, R125). -/
def Obligations.SeatingAndPrecheck : Prop :=
  (∀ (n : Nat) (s : State),
    (∃ t, exec (.cardSeated n true) s = .next t ∧ (t.slot n).presN = true ∧ (t.slot n).st = (s.slot n).st ∧
      (t.slot n).presAt = (if (s.slot n).presN then (s.slot n).presAt else s.now) ∧ GatesKept s t n ∧ t.regs = s.regs ∧ SlotOnly n s t) ∧
    (∃ t, exec (.cardRemoval n true) s = .next t ∧ (t.slot n).presN = false ∧ (t.slot n).st = (s.slot n).st ∧
      (t.slot n).presAt = (if (s.slot n).presN then s.now else (s.slot n).presAt) ∧ GatesKept s t n ∧ t.regs = s.regs ∧ SlotOnly n s t)) ∧
  (∀ (n : Nat) (s : State), s.runs (dieOf n) = true → (s.slot n).st = .empty → s.seatedBy n = true → s.outranked n rankOther = false →
    ∃ t, exec (.cardSeated n false) s = .next t ∧ (t.slot n).st = .seated ∧ (t.slot n).step = 2 ∧ (t.slot n).pres = true ∧
      (t.slot n).retry.remember = none ∧ (t.slot n).retry.cnt = (s.slot n).retry.cnt ∧
      t.evtBit (slotPage n) 20 = true ∧ GatesKept s t n ∧ SlotOnly n s t) ∧
  (∀ (n : Nat) (s : State), s.pkg.phase = .run → (s.slot n).removedBy s.now = true → s.outranked n rankRemoval = false →
    ((s.slot n).st = .seated ∨ (s.slot n).st = .waiting ∨ (s.slot n).st = .charging ∨ (s.slot n).st = .on →
      ∃ t, exec (.cardRemoval n false) s = .next t ∧ (t.slot n).st = .empty ∧ (t.slot n).prev = (s.slot n).st ∧ (t.slot n).pres = false ∧
        (t.slot n).pg = false ∧ Pulled s t n true ∧ t.evtBit (slotPage n) 13 = true ∧ SlotOnly n s t) ∧
    ((s.slot n).st = .cooldown →
      ∃ t, exec (.cardRemoval n false) s = .next t ∧ (t.slot n).st = .empty ∧ (t.slot n).prev = .cooldown ∧ (t.slot n).pres = false ∧
        (t.slot n).retry.cool = (s.slot n).retry.cool ∧ t.evtBit (slotPage n) 13 = true ∧ GatesKept s t n ∧ SlotOnly n s t) ∧
    ((s.slot n).st = .tripped ∨ (s.slot n).st = .lockout →
      ∃ t, exec (.cardRemoval n false) s = .next t ∧ (t.slot n).st = (s.slot n).st ∧ (t.slot n).pres = false ∧
        (t.slot n).trip.removed = true ∧ GatesKept s t n ∧ t.regs = s.regs ∧ SlotOnly n s t)) ∧
  (∀ (n : Nat) (s : State), s.runs (dieOf n) = true → (s.slot n).st = .seated → (s.slot n).step = 2 → s.shortVout n = false →
    s.outranked n rankOther = false →
    (s.backup n = false → ∃ t, exec (.precheck1Pass n) s = .next t ∧ (t.slot n).st = .waiting ∧ GatesKept s t n ∧ SlotOnly n s t) ∧
    (s.backup n = true → s.offN = false → s.inOr n (s.slot n).deg = 0 → (s.slot n).revBlock = false →
      ((s.slot n).role = true →
        ∃ t, exec (.precheck1Pass n) s = .next t ∧ (t.slot n).st = .waiting ∧ (t.slot n).gA = (s.slot n).gA.drive .enhance ∧
          (t.slot n).gB = (s.slot n).gB ∧ SlotOnly n s t) ∧
      ((s.slot n).role = false →
        ∃ t, exec (.precheck1Pass n) s = .next t ∧ (t.slot n).st = .seated ∧ (t.slot n).step = 3 ∧ (t.slot n).ins.stepAt = s.now ∧
          (t.slot n).gB = (s.slot n).gB.drive .enhance ∧ (t.slot n).gA = (s.slot n).gA ∧ SlotOnly n s t))) ∧
  (∀ (n : Nat) (s : State), s.runs (dieOf n) = true → (s.slot n).st = .seated → (s.slot n).step = 3 → (s.slot n).gB.enh = true →
    (s.slot n).gB.enhAt + 100 * US ≤ s.now → s.shortVout n = false → s.outranked n rankOther = false →
    ∃ t, exec (.precheck2Pass n) s = .next t ∧ (t.slot n).st = .waiting ∧ (t.slot n).prev = .seated ∧ GatesKept s t n ∧ SlotOnly n s t) ∧
  (∀ (n a : Nat) (s : State), s.runs (dieOf n) = true → (s.slot n).st = .seated → (s.slot n).step = 2 → (s.slot n).ins.nearAt = some a →
    a + SEC ≤ s.now →
    ∃ t, exec (.shortVerdict n) s = .next t ∧ (t.slot n).st = .tripped ∧ (t.slot n).prev = .seated ∧
      (t.slot n).trip.cause = (if s.backup n then 8 else 6) ∧ (t.slot n).trip.detail = 8 ∧ (t.slot n).ins.abort = 1 ∧ GatesKept s t n ∧
      SlotOnly n s t) ∧
  (∀ (n : Nat) (s : State), s.runs (dieOf n) = true → s.backup n = true →
    ((s.slot n).role = false → ((s.slot n).st = .seated ∧ (s.slot n).step = 3) ∨ ((s.slot n).st = .waiting ∧ (s.slot n).ins.armed = true) →
      s.outranked n rankOther = false →
      (s.approve 0 = false →
        ∃ t, exec (.passElementAShort n) s = .next t ∧ (t.slot n).role = true ∧ (t.slot n).st = .seated ∧ (t.slot n).step = 2 ∧
          (t.slot n).gB = (s.slot n).gB.pull s.now true ∧ (t.slot n).gA = (s.slot n).gA ∧ SlotOnly n s t) ∧
      (s.approve 0 = true →
        ∃ t, exec (.passElementAShort n) s = .next t ∧ (t.slot n).role = false ∧ (t.slot n).st = .seated ∧ (t.slot n).step = 0 ∧
          (t.slot n).ins.swapPending = true ∧ (t.slot n).gB = (s.slot n).gB.pull s.now true ∧ (t.slot n).gA = (s.slot n).gA ∧ SlotOnly n s t)) ∧
    ((s.slot n).role = true → (s.slot n).st = .waiting → (s.slot n).ins.armed = true →
      ∃ t, exec (.passElementAShort n) s = .next t ∧ Tripped s t n 8 8 true ∧ (t.slot n).ins.abort = 2)) ∧
  (∀ (n : Nat) (s : State), s.runs (dieOf n) = true → s.backup n = false → (s.slot n).st = .waiting → (s.slot n).ins.armed = true →
    ∃ t, exec (.passElementAShort n) s = .next t ∧ (t.slot n).st = .tripped ∧ (t.slot n).prev = .waiting ∧ (t.slot n).trip.cause = 6 ∧
      (t.slot n).trip.detail = 8 ∧ (t.slot n).ins.abort = 2 ∧ GatesKept s t n ∧ SlotOnly n s t) ∧
  (∀ (n : Nat) (s : State), s.runs (dieOf n) = true → s.outranked n rankOther = false →
    ((s.slot n).st = .seated → (s.slot n).step = 3 → (s.slot n).gB.enh = false → (s.slot n).ins.stepAt + 3 * MS ≤ s.now →
      ∃ t, exec (.spareGateTimeout n) s = .next t ∧ Tripped s t n 0xB 8 false ∧ (t.slot n).ins.abort = 3) ∧
    ((s.slot n).st = .waiting → (s.slot n).ins.spareEnh = true → (s.slot n).ins.spareAt + 3 * MS ≤ s.now →
      ∃ t, exec (.spareGateTimeout n) s = .next t ∧ Tripped s t n 0xB 0 false ∧ (t.slot n).ins.abort = 3)) ∧
  (∀ (n : Nat) (s : State), s.pkg.phase ≠ .powerOff → s.backup n = true →
    (s.workB n = false → (s.slot n).gB.path.isUp = true →
      ∃ t, exec (.spareEnhDone n) s = .next t ∧
        Quiet (s.modSlot n (fun x => { x with gB := x.gB.enhance s.now, ins := { x.ins with spareEnh := false } })) t) ∧
    (s.workB n = true → (s.slot n).gA.path.isUp = true →
      ∃ t, exec (.spareEnhDone n) s = .next t ∧
        Quiet (s.modSlot n (fun x => { x with gA := x.gA.enhance s.now, ins := { x.ins with spareEnh := false } })) t))

/-- Charging starts with every bit of WAIT_CAUSE 0: the timer, the insertion count, the working gate on the DAC path and a fitted
spare on the ENHANCE path (R83, R107, R108). Its learning window ends after 32 samples and 5 % of the bus: LEARN_C and LEARN_G take the
fit, or lose VALID without one, and a capacitance outside its limits ends the insertion (R110). A bus sag pauses it, with the
working gate pulled down through the SOFT path (R111); the enhanced working gate ends the handover in ON (R112), and outside the handover
sets its ENH bit alone (R82). Each gives way to a condition of higher rank in its cycle (R100). -/
def Obligations.ChargingAndHandover : Prop :=
  (∀ (n : Nat) (s : State), s.runs (dieOf n) = true → (s.slot n).st = .waiting → s.waitCause n = 0 → s.offN = false →
    s.inOr n (s.slot n).deg = 0 → (s.slot n).revBlock = false → s.outranked n rankOther = false →
    ∃ t, exec (.chargingStart n) s = .next t ∧ (t.slot n).st = .charging ∧ (t.slot n).prev = .waiting ∧
      (t.slot n).ins.timer = s.now + s.sf n 0x14C 15 0 * MS ∧ (t.slot n).wear.inserts = sat sat32 ((s.slot n).wear.inserts + 1) ∧
      (t.slot n).gA = (s.slot n).gA.drive (if s.workB n then .enhance else .dac) ∧
      (t.slot n).gB = (if s.workB n then (s.slot n).gB.drive .dac else if s.backup n then (s.slot n).gB.drive .enhance else (s.slot n).gB) ∧
      SlotOnly n s t) ∧
  (∀ (n : Nat) (s : State), s.runs (dieOf n) = true → (s.slot n).st = .charging → (s.slot n).ins.winDone = false →
    32 ≤ (s.slot n).ins.n → (s.slot n).ins.five = true →
    (fitOf (s.slot n).ins (s.sf n 0x104 23 0) = none →
      ∃ t, exec (.learningWindowEnd n) s = .next t ∧ (t.slot n).ins.winDone = true ∧ (t.slot n).st = .charging ∧
        t.rf (slotB n + 0x158) 31 31 = 0 ∧ t.rf (slotB n + 0x15C) 31 31 = 0 ∧ GatesKept s t n ∧ SlotOnly n s t) ∧
    (∀ c g, fitOf (s.slot n).ins (s.sf n 0x104 23 0) = some (c, g) → 0 < c →
      ((s.sf n 0x150 15 0 : Nat) : Rat) ≤ c * 1000000 → c * 1000000 ≤ ((10 * s.sf n 0x150 31 16 : Nat) : Rat) →
      ∃ t, exec (.learningWindowEnd n) s = .next t ∧ (t.slot n).ins.winDone = true ∧ (t.slot n).st = .charging ∧
        t.rf (slotB n + 0x158) 31 31 = 1 ∧ t.rf (slotB n + 0x158) 23 0 = sat 0xFFFFFF (openRound 4 (c * 10000000)).toNat ∧
        t.rf (slotB n + 0x15C) 31 31 = 1 ∧ t.rf (slotB n + 0x15C) 23 0 = sat 0xFFFFFF (openRound 5 (g * 1000000)).toNat ∧
        GatesKept s t n ∧ SlotOnly n s t) ∧
    (∀ c g, fitOf (s.slot n).ins (s.sf n 0x104 23 0) = some (c, g) → 0 < c →
      c * 1000000 < ((s.sf n 0x150 15 0 : Nat) : Rat) ∨ ((10 * s.sf n 0x150 31 16 : Nat) : Rat) < c * 1000000 →
      s.outranked n rankLockout = false →
      ∃ t, exec (.learningWindowEnd n) s = .next t ∧ Tripped s t n 5 0 false ∧ (t.slot n).ins.abort = 4)) ∧
  (∀ (n : Nat) (s : State), s.runs (dieOf n) = true → (s.slot n).st = .charging → s.busBelowWarn (dieOf n) = true →
    s.outranked n rankOther = false →
    ∃ t, exec (.insertionPause n) s = .next t ∧ (t.slot n).st = .waiting ∧ (t.slot n).prev = .charging ∧ SlotOnly n s t ∧
      (if s.workB n then (t.slot n).gB = (s.slot n).gB.pull s.now false ∧ (t.slot n).gA = (s.slot n).gA
       else (t.slot n).gA = (s.slot n).gA.pull s.now false ∧ (t.slot n).gB = (s.slot n).gB)) ∧
  (∀ (n : Nat) (s : State), s.pkg.phase ≠ .powerOff → (s.workGate n).path.isUp = true → s.outranked n rankOther = false →
    (s.runs (dieOf n) = true → (s.slot n).st = .charging → (s.slot n).step = 7 →
      ∃ t, exec (.insertionDone n) s = .next t ∧ (t.slot n).st = .on ∧ (t.slot n).prev = .charging ∧ (t.slot n).ins.abort = 0 ∧
        t.evtBit (slotPage n) 19 = true ∧ SlotOnly n s t ∧
        (if s.workB n then (t.slot n).gB = (s.slot n).gB.enhance s.now ∧ (t.slot n).gA = (s.slot n).gA
         else (t.slot n).gA = (s.slot n).gA.enhance s.now ∧ (t.slot n).gB = (s.slot n).gB)) ∧
    ((s.slot n).st ≠ .charging ∨ (s.slot n).step ≠ 7 →
      ∃ t, exec (.insertionDone n) s = .next t ∧
        Quiet (s.modSlot n (fun x => if s.workB n then { x with gB := x.gB.enhance s.now } else { x with gA := x.gA.enhance s.now })) t))

/-- The insertion timer (R111), the handover time (R111, R112) and the loss of the feedback (R292, R293) end an insertion through
the SOFT path, where no other condition of the cycle ranks before them (R125). -/
def Obligations.InsertionTimeouts : Prop :=
  (∀ (n : Nat) (s : State), s.runs (dieOf n) = true → (s.slot n).st = .charging → (s.slot n).step ≠ 7 → (s.slot n).ins.timer ≤ s.now →
    s.outranked n rankOther = false →
    ∃ t, exec (.insertTimeout n) s = .next t ∧ Tripped s t n 0xB 0 false ∧ (t.slot n).ins.abort = 6) ∧
  (∀ (n : Nat) (s : State), s.runs (dieOf n) = true → (s.slot n).st = .charging → (s.slot n).step = 7 →
    (s.slot n).ins.handAt + 5 * MS ≤ s.now → s.outranked n rankOther = false →
    ∃ t, exec (.handoverTimeout n) s = .next t ∧ Tripped s t n 0xB 0 false ∧ (t.slot n).ins.abort = 7) ∧
  (∀ (n : Nat) (s : State), s.runs (dieOf n) = true → s.supervised n = true → (s.ctx (dieOf n) (s.ctxOf n)).fbAt + 5120 ≤ s.now →
    s.outranked n rankOther = false →
    ∃ t, exec (.fbLost n) s = .next t ∧ Tripped s t n 0xC 0 false ∧ (t.slot n).ins.abort = 8)

/-- PG is released after PG_DELAY, and while the fault timer runs it stays low with PG_DEFER (R113, R144). The bus's part in EWARN_N
ends 1 ms after VBUS_A is back (R116). The REMEMBER timer in EMPTY clears the retry count (R142). -/
def Obligations.SlotTimersRunOut : Prop :=
  (∀ (n a : Nat) (s : State), (s.slot n).prot.pgOkAt = some a → s.runs (dieOf n) = true → (s.slot n).st = .on → (s.slot n).pg = false →
    (s.slot n).offPend = none → a + s.sf n 0x14C 27 20 * MS ≤ s.now →
    ((s.slot n).faultAt = none →
      ∃ t, exec (.pgRelease n) s = .next t ∧ (t.slot n).pg = true ∧ (t.slot n).st = .on ∧ t.evtBit (slotPage n) 15 = true ∧
        GatesKept s t n ∧ SlotOnly n s t) ∧
    ((s.slot n).faultAt ≠ none → ∃ t, exec (.pgRelease n) s = .next t ∧ Quiet s t ∧ t.evtBit (slotPage n) 8 = true)) ∧
  (∀ (d a : Nat) (s : State), (s.die d).belv.busOkAt = some a → s.runs d = true → (s.die d).belv.busWarn = true → a + MS ≤ s.now →
    ∃ t, exec (.ewarnBusEnd d) s = .next t ∧ Quiet (s.modDie d (fun x => { x with belv := { x.belv with busWarn := false, busOkAt := none } })) t) ∧
  (∀ (n a : Nat) (s : State), (s.slot n).retry.remember = some a → s.runs (dieOf n) = true → (s.slot n).st = .empty → a ≤ s.now →
    ∃ t, exec (.rememberExpiry n) s = .next t ∧ (t.slot n).retry.cnt = 0 ∧ (t.slot n).retry.remember = none ∧ (t.slot n).st = .empty ∧
      GatesKept s t n ∧ t.regs = s.regs ∧ SlotOnly n s t)

/-- STABLE_TIME (R141): it runs from the entry to ON, its end clears the retry count and sets COUNT_RESET where the count was
not 0, and a reverse-current block and its end neither leave ON nor restart it. -/
def Obligations.StableTimeClearsTheRetryCount : Prop :=
  (∀ (n : Nat) (s : State), s.runs (dieOf n) = true → (s.slot n).st = .charging → (s.slot n).step = 7 →
    (s.workGate n).path.isUp = true → s.outranked n rankOther = false →
    ∃ t, exec (.insertionDone n) s = .next t ∧ (t.slot n).st = .on ∧
      (t.slot n).retry.stable = some (s.now + s.sf n 0x1B8 31 16 * SEC)) ∧
  (∀ (n a : Nat) (s : State), (s.slot n).retry.stable = some a → s.runs (dieOf n) = true → (s.slot n).st = .on → a ≤ s.now →
    ∃ t, exec (.stableTimeExpiry n) s = .next t ∧ (t.slot n).retry.cnt = 0 ∧ (t.slot n).retry.stable = none ∧ (t.slot n).st = .on ∧
      t.evtBit (slotPage n) 6 = (s.evtBit (slotPage n) 6 || decide ((s.slot n).retry.cnt ≠ 0)) ∧
      t.regs = s.regs ∧ SlotOnly n s t) ∧
  (∀ (n : Nat) (s : State), s.gateUp n = true → (s.slot n).revBlock = false → s.sf n 0x100 1 1 = 1 → (s.slot n).st = .on →
    ∃ t, exec (.reverseBlock n) s = .next t ∧ (t.slot n).revBlock = true ∧ (t.slot n).st = .on ∧
      (t.slot n).retry = (s.slot n).retry) ∧
  (∀ (n : Nat) (s : State), (s.slot n).revBlock = true → (s.slot n).revAt + 50 * US ≤ s.now → (s.slot n).st = .on → s.offN = false →
    s.inOr n (s.slot n).deg = 0 →
    ∃ t, exec (.reverseBlockClear n) s = .next t ∧ (t.slot n).revBlock = false ∧ (t.slot n).st = .on ∧
      (t.slot n).retry = (s.slot n).retry)

/-! ## Samples, trips and retries (05_trips_and_retries.md) -/

/-- A control sample on the grid of R213 gives VBUS_A its code and OVR, and a slot in EMPTY both of its codes, the levels of its SHORT
comparators and one sample more (R84, R213, R246); it changes neither its state nor its gates. -/
def Obligations.ControlSampleTakesCodes : Prop :=
  (∀ (r : DieSamp) (s : State), s.runs r.die = true → (s.now - s.pkg.epoch) % 640 = 0 → (s.die r.die).belv.fullAt = none → inOrder r = [] →
    ∃ t, exec (.controlSample r) s = .next t ∧ (t.die r.die).belv.busCode = (s.ctlCode r.die chBus r.bus).1.toNat ∧
      (t.die r.die).belv.busOvr = (s.ctlCode r.die chBus r.bus).2 ∧ t.feram = s.feram ∧ t.mer = s.mer ∧ t.frames = s.frames ∧
      ∀ n, (t.slot n).st = (s.slot n).st ∧ GatesKept s t n) ∧
  (∀ (d : Nat) (b : Samp) (x : SlotSamp) (s : State), s.runs d = true → (s.now - s.pkg.epoch) % 640 = 0 →
    (s.die d).belv.fullAt = none → x.slot < 16 → (s.slot (slotOf d x.slot)).st = .empty →
    ∃ t, exec (.controlSample ⟨d, b, [x]⟩) s = .next t ∧ (t.slot (slotOf d x.slot)).st = .empty ∧
      (t.slot (slotOf d x.slot)).ctl.iCode = (s.ctlCode d (chI x.slot) x.i).1 ∧
      (t.slot (slotOf d x.slot)).ctl.vCode = (s.ctlCode d (chV x.slot) x.v).1.toNat ∧
      (t.slot (slotOf d x.slot)).ctl.started = sat 65535 ((s.slot (slotOf d x.slot)).ctl.started + 1) ∧
      (t.slot (slotOf d x.slot)).shM = (s.slot (slotOf d x.slot)).shM.see s.now x.shMid ∧
      (t.slot (slotOf d x.slot)).shV = (s.slot (slotOf d x.slot)).shV.see s.now x.shVout ∧ GatesKept s t (slotOf d x.slot))

/-- The timed-overcurrent registers: a point is held, and a write of TOC_CFG with valid fields commits the held points and clears the
accumulator (R128, R130). The energy of a slot is cleared with its counts; a frame accumulated in the same CORE cycle is applied after
the clear (R261). -/
def Obligations.TimedOvercurrentAndEnergyRegisters : Prop :=
  (∀ (ini : Ini) (n i : Nat) (v : Word) (s : State), i < 8 → s.takesLocked ini (slotB n + 0x190 + 4 * i) = true → 9 ≤ fld v 31 24 → 10 ≤ fld v 23 0 →
    ∃ t, exec (.tocPtWrite ini n i v) s = .next t ∧ t.tocPt n i = mkWord [(24, fld v 31 24), (0, fld v 23 0)] ∧ t.regs = s.regs ∧
      (t.slot n).st = (s.slot n).st ∧ GatesKept s t n ∧ SlotOnly n s t) ∧
  (∀ (ini : Ini) (n : Nat) (v : Word) (s : State), s.takesLocked ini (slotB n + 0x180) = true → 100 ≤ fld v 31 16 → fld v 31 16 ≤ 10000 →
    fld v 1 0 ≤ 1 ∨ (fld v 1 0 = 2 ∧ s.tocOrdered n = true) →
    ∃ t, exec (.tocCfgWrite ini n v) s = .next t ∧ t.reg (slotB n + 0x180) = mkWord [(16, fld v 31 16), (0, fld v 1 0)] ∧
      (∀ i w, (s.slot n).prot.ptHeld = [(i, w)] → i < 8 → t.reg (slotB n + 0x190 + 4 * i) = w) ∧
      (t.slot n).prot.ptHeld = [] ∧ (t.slot n).prot.acc = 0 ∧ (t.slot n).st = (s.slot n).st ∧ GatesKept s t n ∧ SlotOnly n s t) ∧
  (∀ (ini : Ini) (n : Nat) (s : State), s.takes ini (slotB n + 0xB4) = true →
    ((s.slot n).meter.accAt ≠ some s.now →
      ∃ t, exec (.energyClear ini n) s = .next t ∧
        Quiet (s.modSlot n (fun x => { x with meter := { x.meter with energy := 0, frames := 0, flagged := 0 } })) t) ∧
    ((s.slot n).meter.accAt = some s.now →
      ∃ t, exec (.energyClear ini n) s = .next t ∧
        Quiet (s.modSlot n (fun x => { x with meter := { x.meter with
          energy := clampI (-(2 ^ 95)) (2 ^ 95 - 1) x.meter.accE, frames := 1, flagged := b2n x.meter.accF } })) t))

/-- The stuck-current verdict latches the slot (R134). The end of the dwell latches it, or starts its cooldown, in EMPTY after a removal
(R138, R139, R140). The cooldown, and after BUS_OV the millisecond of R133 besides, ends in a retry from pre-check step 1 with RETRY, or in
EMPTY with no card (R139). Each leaves the gates as they are; the dwell and the cooldown give way to a condition of higher rank (R100). -/
def Obligations.DwellVerdictAndCooldown : Prop :=
  (∀ (n : Nat) (s : State), s.runs (dieOf n) = true → (s.slot n).st = .tripped → (s.slot n).trip.check = true → 8 ≤ (s.slot n).trip.stuckN →
    8 ≤ (s.slot n).trip.stuckHi →
    ∃ t, exec (.stuckCurrentVerdict n) s = .next t ∧ (t.slot n).st = .latched ∧ (t.slot n).prev = .tripped ∧ (t.slot n).trip.detail = 7 ∧
      (t.slot n).trip.cause = (if s.backup n then (if (s.slot n).role then 7 else 8) else 6) ∧ t.evtBit (slotPage n) 11 = true ∧
      GatesKept s t n ∧ SlotOnly n s t) ∧
  (∀ (n : Nat) (s : State), s.runs (dieOf n) = true → (s.slot n).st = .tripped → s.dwellOver n = true → s.outranked n rankOther = false →
    ∃ t, exec (.tripDwellEnd n) s = .next t ∧ (t.slot n).trip.cause = (s.slot n).trip.cause ∧ (t.slot n).trip.due = false ∧
      GatesKept s t n ∧ SlotOnly n s t ∧
      (if s.latches n (s.slot n).trip.cause || decide (s.sf n 0x1B4 11 8 < (s.slot n).retry.cnt) then (t.slot n).st = .latched
       else if (s.slot n).trip.removed then (t.slot n).st = .empty ∧ (t.slot n).retry.cool = some (s.now + s.coolTime n)
       else (t.slot n).st = .cooldown ∧ (t.slot n).retry.cool = some (s.now + s.coolTime n))) ∧
  (∀ (n a : Nat) (s : State), s.runs (dieOf n) = true → (s.slot n).st = .cooldown → (s.slot n).retry.cool = some a → a ≤ s.now →
    ((s.slot n).retry.busOv = false ∨ ∃ b, (s.slot n).retry.busOkAt = some b ∧ b + MS ≤ s.now) → s.outranked n rankOther = false →
    ∃ t, exec (.cooldownExpiry n) s = .next t ∧ (t.slot n).retry.cool = none ∧ (t.slot n).retry.cnt = (s.slot n).retry.cnt ∧
      GatesKept s t n ∧ SlotOnly n s t ∧
      (if (s.slot n).pres then (t.slot n).st = .seated ∧ (t.slot n).step = 2 ∧ t.evtBit (slotPage n) 7 = true
       else (t.slot n).st = .empty))

/-! ## Temperatures and the survey (06_thermal.md, 08_belvedere_conversion.md) -/

/-- A lane period updates the stages of both elements of every slot of the die from the mean of its samples and begins the next mean; an
element that waits for its first sample after a return is left alone (R159, R162, R298). A stale thermistor loses VALID with TFET_FAULT
(R165). A graticule sensor whose last three checks passed is readmitted; another is refused with WR_REJECT (R169). -/
def Obligations.ThermalUpdateAndSensors : Prop :=
  (∀ (d : Nat) (s : State), s.runs d = true → (s.now - s.pkg.epoch) % 10000 = 0 →
    ∃ t, exec (.thermalModelUpdate d) s = .next t ∧ (t.die d).eng.lanePeriod = (s.now - s.pkg.epoch) / 10000 ∧
      (∀ n ∈ slotsOf d, ∀ l, l = (List.range (s.sf n 0x200 2 0)).map (fun i => (s.sf n (0x220 + 8 * i) 15 0, s.sf n (0x224 + 8 * i) 23 0)) →
        (s.elemWaits n false = false →
          (t.slot n).eA.rise = ((s.slot n).eA.update l).rise ∧ (t.slot n).eA.pn = 0 ∧ (t.slot n).eA.psum = 0) ∧
        (s.elemWaits n true = false → s.backup n = true →
          (t.slot n).eB.rise = ((s.slot n).eB.update l).rise ∧ (t.slot n).eB.pn = 0 ∧ (t.slot n).eB.psum = 0) ∧
        (s.elemWaits n false = true → (t.slot n).eA = (s.slot n).eA)) ∧
      (∀ n, dieOf n ≠ d → t.slot n = s.slot n)) ∧
  (∀ (n : Nat) (s : State), s.runs (dieOf n) = true → s.tfetOld n = true →
    ∃ t, exec (.tfetStale n) s = .next t ∧ (t.slot n).tfet.wasValid = false ∧
      ((s.slot n).tfet.wasValid = true → t.evtBit (slotPage n) 5 = true) ∧
      (t.slot n).st = (s.slot n).st ∧ GatesKept s t n ∧ t.regs = s.regs ∧ SlotOnly n s t) ∧
  (∀ (ini : Ini) (d i : Nat) (s : State), i < 9 → s.takes ini (dieB d + 0x22C) = true →
    (nbit (s.die d).grat.valid i = false → (s.die d).grat.passes.getD i 0 = 3 →
      ∃ t, exec (.gratReadmit ini d (2 ^ i)) s = .next t ∧ nbit (t.die d).grat.valid i = true ∧ t.slots = s.slots ∧ t.regs = s.regs) ∧
    (nbit (s.die d).grat.valid i = true ∨ (s.die d).grat.passes.getD i 0 ≠ 3 →
      ∃ t, exec (.gratReadmit ini d (2 ^ i)) s = .next t ∧ Quiet s t ∧ t.evtBit (pageNo (dieB d)) 31 = true))

/-- A survey step that belongs to no thermistor test ends and the next channel of the scan begins, after the results of a frame that ends
in the same CORE cycle (R227, R249); the end of a scan begins the next one (R226). A write of OPEN_CTRL.START starts an open-wire test, or
is refused while a requested one runs (R232); the end of a test sets its event and starts the request that waits (R233, R236). -/
def Obligations.SurveyAndOpenWire : Prop :=
  (∀ (d : Nat) (x : Samp) (s : State), s.runs d = true → (s.die d).belv.survCh < 32 → (s.die d).belv.fullAt = none →
    (s.die d).belv.survAt + 51600 ≤ s.now →
    (s.boundaryWaits = false → (∀ r, (s.die d).belv.openRun = some r → r.tStep = 0) →
      ∃ t, exec (.surveyStepEnd d x) s = .next t ∧ (t.die d).belv.survCh = nextCh (s.die d).belv.survEff ((s.die d).belv.survCh + 1) ∧
        (t.die d).belv.survAt = s.now ∧ t.feram = s.feram ∧ ∀ n, (t.slot n).st = (s.slot n).st ∧ GatesKept s t n) ∧
    (s.boundaryWaits = true → ∃ t, exec (.surveyStepEnd d x) s = .next t ∧ Quiet (s.putOff (.surveyStepEnd d x)) t)) ∧
  (∀ (d a b : Nat) (s : State), s.runs d = true → (s.die d).belv.survCh = 32 →
    ∃ t, exec (.surveyScanEnd d a b) s = .next t ∧ (t.die d).belv.survCh = nextCh (t.die d).belv.survEff 0 ∧ (t.die d).belv.survAt = s.now ∧
      t.slots = s.slots ∧ t.feram = s.feram) ∧
  (∀ (ini : Ini) (d : Nat) (v : Word) (s : State), s.takes ini (belvB d + 0x130) = true →
    ((s.die d).belv.openRun = none → bit v 8 = true → fld v 5 4 ≤ 2 →
      ∃ t r, exec (.openWireStart ini d v) s = .next t ∧ (t.die d).belv.openRun = some r ∧ r.auto = false ∧ r.frame = 0 ∧ r.at_ = s.now ∧
        r.current = fld v 5 4 ∧ t.slots = s.slots ∧ t.feram = s.feram) ∧
    (∀ r, (s.die d).belv.openRun = some r → r.auto = false → bit v 8 = true →
      ∃ t, exec (.openWireStart ini d v) s = .next t ∧ Quiet s t ∧ t.evtBit (pageNo (belvB d)) 31 = true)) ∧
  (∀ (d : Nat) (r : OpenRun) (s : State), (s.die d).belv.openRun = some r → s.runs d = true → s.openEnded d r = true →
    ((s.die d).belv.openReq = none →
      ∃ t, exec (.openWireDone d) s = .next t ∧ (t.die d).belv.openRun = none ∧ t.evtBit (pageNo (belvB d)) 5 = true ∧ t.feram = s.feram) ∧
    (∀ q, (s.die d).belv.openReq = some q →
      ∃ t u, exec (.openWireDone d) s = .next t ∧ (t.die d).belv.openRun = some u ∧ u.current = q.current ∧ u.at_ = s.now ∧
        (t.die d).belv.openReq = none ∧ t.evtBit (pageNo (belvB d)) 5 = true ∧ t.feram = s.feram))

/-! ## Terraces (07_terraces.md) -/

/-- The command by which a terrace message of a kind arrives. -/
def terrCmd (m : Msg) : Instr :=
  match m.kind with
  | .restrain => .restrainReceive m
  | .cleared => .clearedReceive m
  | .lockout => .lockoutReceive m
  | .release => .releaseReceive m
  | .upstreamOpen => .upstreamOpenReceive m

/-- The five terrace messages at their target (R185 to R191). A repeated copy changes nothing, and a refused one is reported and leaves the
slots alone. RESTRAIN at a waiting slot with a gate driven up enters the table or renews its entry, with an event where the table is full, and
turns WAIT into HOLD; CLEARED takes its entry out, and in HOLD the last one trips the slot, or lets it stand down. LOCKOUT takes a slot from
SEATED, WAITING, CHARGING, ON, TRIPPED or COOLDOWN to LOCKOUT, its gates on the SOFT path, and counts no retry (R143); RELEASE takes it out
again, to WAITING, SEATED or EMPTY. UPSTREAM_OPEN trips a slot with a gate driven up, and is recorded on any other (R135). -/
def Obligations.TerraceMessagesAct : Prop :=
  (∀ (m : Msg) (s : State), s.inRun = true →
    (s.repeated m = true → ∃ t, exec (terrCmd m) s = .next t ∧ Quiet s t) ∧
    (s.repeated m = false → s.refuseReason m ≠ 0 → m.kind ≠ .lockout ∨ s.outranked m.tgtSlot rankLockout = false →
      ∃ t, exec (terrCmd m) s = .next t ∧ t.slots = s.slots ∧ t.evtBit (pageNo terrB) 7 = true)) ∧
  (∀ (m : Msg) (e : Entry) (s : State), m.kind = .restrain → e = { src := m.srcAddr, slot := m.srcSlot, incident := m.incident, at_ := s.now } →
    s.inRun = true → s.repeated m = false → s.refuseReason m = 0 →
    (s.gateUp m.tgtSlot = true → s.waiter m.tgtSlot = true →
      ((s.slot m.tgtSlot).terr.entries.any (fun x => x.src == e.src && x.slot == e.slot) = false → (s.slot m.tgtSlot).terr.entries.length < 8 →
        ∃ t, exec (.restrainReceive m) s = .next t ∧ SlotOnly m.tgtSlot s t ∧
          (t.slot m.tgtSlot).terr.entries = (s.slot m.tgtSlot).terr.entries ++ [e] ∧ (t.slot m.tgtSlot).st = (s.slot m.tgtSlot).st ∧
          (t.slot m.tgtSlot).terr.sub = (if (s.slot m.tgtSlot).terr.sub = .wait then .hold else (s.slot m.tgtSlot).terr.sub) ∧ GatesKept s t m.tgtSlot) ∧
      ((s.slot m.tgtSlot).terr.entries.any (fun x => x.src == e.src && x.slot == e.slot) = true →
        ∃ t, exec (.restrainReceive m) s = .next t ∧ SlotOnly m.tgtSlot s t ∧ (t.slot m.tgtSlot).st = (s.slot m.tgtSlot).st ∧
          (t.slot m.tgtSlot).terr.entries =
            (s.slot m.tgtSlot).terr.entries.map (fun x => if x.src == e.src && x.slot == e.slot then e else x) ∧
          (t.slot m.tgtSlot).terr.sub = (if (s.slot m.tgtSlot).terr.sub = .wait then .hold else (s.slot m.tgtSlot).terr.sub) ∧ GatesKept s t m.tgtSlot) ∧
      ((s.slot m.tgtSlot).terr.entries.any (fun x => x.src == e.src && x.slot == e.slot) = false → 8 ≤ (s.slot m.tgtSlot).terr.entries.length →
        ∃ t, exec (.restrainReceive m) s = .next t ∧ t.slots = s.slots ∧ t.evtBit (pageNo terrB) 5 = true)) ∧
    (s.gateUp m.tgtSlot = false ∨ s.waiter m.tgtSlot = false → ∃ t, exec (.restrainReceive m) s = .next t ∧ t.slots = s.slots)) ∧
  (∀ (m : Msg) (l : List Entry) (s : State), m.kind = .cleared →
    l = (s.slot m.tgtSlot).terr.entries.filter (fun x => !(x.src == m.srcAddr && x.slot == m.srcSlot && x.incident == m.incident)) →
    s.inRun = true → s.repeated m = false → s.refuseReason m = 0 →
    ((s.slot m.tgtSlot).terr.sub ≠ .hold ∨ l ≠ [] ∨ (s.slot m.tgtSlot).terr.entries = [] →
      ∃ t, exec (.clearedReceive m) s = .next t ∧ SlotOnly m.tgtSlot s t ∧ (t.slot m.tgtSlot).st = (s.slot m.tgtSlot).st ∧
        (t.slot m.tgtSlot).terr.sub = (s.slot m.tgtSlot).terr.sub ∧ (t.slot m.tgtSlot).terr.entries = l ∧ GatesKept s t m.tgtSlot) ∧
    ((s.slot m.tgtSlot).terr.sub = .hold → l = [] → (s.slot m.tgtSlot).terr.entries ≠ [] →
      (s.fastOn m.tgtSlot = true → ∃ t, exec (.clearedReceive m) s = .next t ∧ Tripped s t m.tgtSlot 1 0 true) ∧
      (s.fastOn m.tgtSlot = false →
        ∃ t, exec (.clearedReceive m) s = .next t ∧ SlotOnly m.tgtSlot s t ∧ (t.slot m.tgtSlot).st = (s.slot m.tgtSlot).st ∧
          (t.slot m.tgtSlot).terr.sub = .idle ∧ (t.slot m.tgtSlot).terr.entries = [] ∧ t.evtBit (pageNo terrB) 0 = true ∧ GatesKept s t m.tgtSlot))) ∧
  (∀ (m : Msg) (s : State), m.kind = .lockout → s.inRun = true → s.repeated m = false → s.refuseReason m = 0 →
    s.outranked m.tgtSlot rankLockout = false →
    ((s.slot m.tgtSlot).st.locksOut = true → (s.slot m.tgtSlot).trip.unsettled = none →
      ∃ t, exec (.lockoutReceive m) s = .next t ∧ SlotOnly m.tgtSlot s t ∧ (t.slot m.tgtSlot).st = .lockout ∧
        (t.slot m.tgtSlot).held = (s.slot m.tgtSlot).st ∧ (t.slot m.tgtSlot).retry.cnt = (s.slot m.tgtSlot).retry.cnt ∧
        (t.slot m.tgtSlot).trip.cause = 0xE ∧ (t.slot m.tgtSlot).pg = false ∧ t.evtBit (slotPage m.tgtSlot) 10 = true ∧
        (s.gateUp m.tgtSlot = true → Pulled s t m.tgtSlot false) ∧ (s.gateUp m.tgtSlot = false → GatesKept s t m.tgtSlot)) ∧
    ((s.slot m.tgtSlot).st.locksOut = false → ∃ t, exec (.lockoutReceive m) s = .next t ∧ t.slots = s.slots)) ∧
  (∀ (m : Msg) (s : State), m.kind = .release → s.inRun = true → s.repeated m = false → s.refuseReason m = 0 →
    ((s.slot m.tgtSlot).st = .lockout →
      ((s.slot m.tgtSlot).presN = false → ∃ t, exec (.releaseReceive m) s = .next t ∧ SlotOnly m.tgtSlot s t ∧ (t.slot m.tgtSlot).st = .empty) ∧
      ((s.slot m.tgtSlot).presN = true → (s.slot m.tgtSlot).trip.removed = true ∨
          ((s.slot m.tgtSlot).held ≠ .waiting ∧ (s.slot m.tgtSlot).held ≠ .charging ∧ (s.slot m.tgtSlot).held ≠ .on) →
        ∃ t, exec (.releaseReceive m) s = .next t ∧ SlotOnly m.tgtSlot s t ∧ (t.slot m.tgtSlot).st = .seated ∧ (t.slot m.tgtSlot).step = 2) ∧
      ((s.slot m.tgtSlot).presN = true → (s.slot m.tgtSlot).trip.removed = false →
          (s.slot m.tgtSlot).held = .waiting ∨ (s.slot m.tgtSlot).held = .charging ∨ (s.slot m.tgtSlot).held = .on →
          s.backup m.tgtSlot = false ∨ (s.offN = false ∧ s.inOr m.tgtSlot (s.slot m.tgtSlot).deg = 0) →
        ∃ t, exec (.releaseReceive m) s = .next t ∧ SlotOnly m.tgtSlot s t ∧ (t.slot m.tgtSlot).st = .waiting ∧ (t.slot m.tgtSlot).prev = .lockout)) ∧
    ((s.slot m.tgtSlot).st ≠ .lockout → ∃ t, exec (.releaseReceive m) s = .next t ∧ t.slots = s.slots)) ∧
  (∀ (m : Msg) (s : State), m.kind = .upstreamOpen → s.inRun = true → s.repeated m = false → s.refuseReason m = 0 → (s.slot m.tgtSlot).st ≠ .holdthru →
    (s.gateUp m.tgtSlot = true → s.outranked m.tgtSlot 3 = false →
      ∃ t, exec (.upstreamOpenReceive m) s = .next t ∧ Tripped s t m.tgtSlot 6 6 true ∧ (t.slot m.tgtSlot).trip.downAddr = m.srcAddr ∧
        (t.slot m.tgtSlot).trip.downSlot = m.srcSlot ∧ (t.slot m.tgtSlot).openWarn = true) ∧
    (s.gateUp m.tgtSlot = false ∨ s.outranked m.tgtSlot 3 = true →
      ∃ t, exec (.upstreamOpenReceive m) s = .next t ∧ SlotOnly m.tgtSlot s t ∧ (t.slot m.tgtSlot).st = (s.slot m.tgtSlot).st ∧
        (t.slot m.tgtSlot).openWarn = ((s.slot m.tgtSlot).openWarn || !s.gatesOff m.tgtSlot) ∧ GatesKept s t m.tgtSlot))

/-- The due copies of a slot's messages leave at their times, and are dropped while the slot sends nothing (R185, R201). The end of an
unrestrained WAIT, or of HOLD, with FAST asserted trips the slot, where no cause of the cycle ranks before FAST (R125, R191). A stale entry
goes (R190). TERR disabled clears every table and list; a slot in WAIT or HOLD with FAST asserted trips, and another stands down, from HOLD with
STOOD_DOWN (R202). -/
def Obligations.TerraceTimersAndDisable : Prop :=
  (∀ (n : Nat) (s : State), s.inRun = true →
    (s.terrSlot n = true →
      ∃ t, exec (.messageCopyRepeat n) s = .next t ∧ t.slots = s.slots ∧ t.dies = s.dies ∧
        t.copies = s.copies.filterMap (fun c => if c.slot == n && decide (c.due ≤ s.now) then
          (if c.left ≤ 1 then none else some { c with left := c.left - 1, due := c.due + c.gap }) else some c) ∧
        ∀ c ∈ s.copies, c.slot = n → c.due ≤ s.now → c.isLocal = true → (s.now, Out.terrLocal c.msg) ∈ t.outbox) ∧
    (s.terrSlot n = false →
      ∃ t, exec (.messageCopyRepeat n) s = .next t ∧ t.slots = s.slots ∧ t.dies = s.dies ∧ t.copies = s.copies.filter (fun c => c.slot != n))) ∧
  (∀ (n : Nat) (w : Win) (s : State), s.waitOver n = true → s.outranked n 2 = false → (s.slot n).winF = some w → w.winEnd ≤ s.now →
    ∃ t, exec (.waitExpiry n) s = .next t ∧
      Tripped s t n (s.classify n false w.copies).1 (if (s.classify n false w.copies).1 = 0x11 then (s.classify n false w.copies).2 else 0) true) ∧
  (∀ (n : Nat) (s : State), s.holdOver n = true → s.outranked n 2 = false →
    ∃ t, exec (.holdExpiry n) s = .next t ∧ Tripped s t n 1 5 true ∧ t.evtBit (pageNo terrB) 3 = true) ∧
  (∀ (n a k : Nat) (e : Entry) (s : State), (s.slot n).terr.entries.find? (fun e => e.src == a && e.slot == k) = some e → s.waiter n = true →
    (s.slot n).terr.sub ≠ .hold → e.at_ + s.holdCyc (s.level n) + s.waitCyc (s.level n) ≤ s.now →
    ∃ t, exec (.entryStale n a k) s = .next t ∧ (t.slot n).terr.entries = (s.slot n).terr.entries.filter (fun x => !(x == e)) ∧
      t.evtBit (pageNo terrB) 4 = true ∧ (t.slot n).st = (s.slot n).st ∧ GatesKept s t n ∧ t.regs = s.regs ∧ SlotOnly n s t) ∧
  (∀ (ini : Ini) (s : State), s.takes ini (terrB + 8) = true →
    ∃ t, exec (.terrDisable ini) s = .next t ∧ t.terrOn = false ∧ t.copies = [] ∧
      ∀ n, (t.slot n).terr.entries = [] ∧ (t.slot n).terr.lockList = [] ∧ (t.slot n).terr.out = false ∧
        ((s.slot n).terr.sub = .idle → (t.slot n).st = (s.slot n).st ∧ GatesKept s t n) ∧
        ((s.slot n).terr.sub ≠ .idle → s.fastOn n = false →
          (t.slot n).st = (s.slot n).st ∧ (t.slot n).terr.sub = .idle ∧ GatesKept s t n ∧
          ((s.slot n).terr.sub = .hold → t.evtBit (pageNo terrB) 0 = true)) ∧
        ((s.slot n).terr.sub ≠ .idle → s.fastOn n = true → (t.slot n).st = .tripped ∧ (t.slot n).pg = false ∧ Pulled s t n true))

/-- A write of TERR_CFG, TGT0 or TGT1 of a slot in WAIT or HOLD or with RESTRAIN outstanding, and a write of LEVEL_CFGn
while a slot of level n is in WAIT or HOLD, is refused: WR_REJECT, and nothing else changes (R193). -/
def Obligations.TerraceSettingsRefusedWhileWaiting : Prop :=
  (∀ (ini : Ini) (n o : Nat) (v : Word) (s : State), n < 128 → o = 0x280 ∨ o = 0x284 ∨ o = 0x288 →
    s.takesLocked ini (slotB n + o) = true → (s.slot n).terr.sub ≠ .idle ∨ (s.slot n).terr.out = true →
    ∃ t, exec (.registerWrite ini (slotB n + o) v) s = .next t ∧ Quiet s t ∧ t.evtBit (slotPage n) 31 = true) ∧
  (∀ (ini : Ini) (n k : Nat) (v : Word) (s : State), 1 ≤ k → k ≤ 7 → s.takesLocked ini (terrB + 0x40 + 4 * k) = true →
    (s.slot n).terr.sub ≠ .idle → s.level n = k →
    ∃ t, exec (.registerWrite ini (terrB + 0x40 + 4 * k) v) s = .next t ∧ Quiet s t ∧ t.evtBit (pageNo terrB) 31 = true)

/-! ## Frames, results and calibration (08_belvedere_conversion.md, 09_results_calibration.md) -/

/-- The delay of a trigger source that runs (R219). -/
def trigPend (f : Frames) : TrigSrc → Option Nat
  | .meridian => f.pendMer
  | .trig => f.pendTrig
  | .software => f.pendSw

/-- A frame boundary begins the next frame (R216, R217). A pulse on TRIG within its width limits, or SW_TRIG, starts a delay; a pulse outside
them, and a trigger while the delay of its source runs, are counted as events alone, and a disabled source is ignored (R219, R220). The end of
the delay of a hardware source re-phases the frames, or within ten cycles of a boundary trims them to it; that of SW_TRIG asks for a snapshot
(R221, R222). -/
def Obligations.FramesAndTriggers : Prop :=
  (∀ (rs : List DieSamp) (s : State), s.inRun = true → s.frames.run = true → s.frames.nextAt ≤ s.now →
    ∃ t, exec (.frameBoundary rs) s = .next t ∧ t.frames.started = true ∧ t.frames.startAt = s.now ∧
      t.frames.num = (if s.frames.started then s.frames.load.getD ((s.frames.num + 1) % 256) else s.frames.load.getD s.frames.num) ∧
      t.frames.nextAt = s.frames.nextAt + 2560 * 2 ^ t.frames.osr ∧ t.frames.load = none ∧ t.feram = s.feram) ∧
  (∀ (low : Bool) (width : Nat) (s : State), s.leadIn = true → bit s.trigCfg 4 = low →
    (bit s.trigCfg 1 = true → width ≤ 65535 → s.rf (trigB + 0x14) 15 0 ≤ width → width ≤ s.rf (trigB + 0x14) 31 16 →
      (s.frames.pendTrig = none →
        ∃ t, exec (.trigPulse low width) s = .next t ∧ t.frames = { s.frames with pendTrig := some (s.now + s.rf (trigB + 12) 15 0) } ∧
          t.slots = s.slots ∧ t.dies = s.dies) ∧
      (s.frames.pendTrig ≠ none →
        ∃ t, exec (.trigPulse low width) s = .next t ∧ t.frames = s.frames ∧ t.evtBit (pageNo (belvB s.pkg.lead)) 3 = true ∧
          t.slots = s.slots ∧ t.dies = s.dies)) ∧
    (bit s.trigCfg 1 = true → width < s.rf (trigB + 0x14) 15 0 ∨ s.rf (trigB + 0x14) 31 16 < width →
      ∃ t, exec (.trigPulse low width) s = .next t ∧ t.frames = s.frames ∧ t.evtBit (pageNo (belvB s.pkg.lead)) 4 = true ∧
        t.slots = s.slots ∧ t.dies = s.dies)) ∧
  (∀ (ini : Ini) (s : State), s.takes ini (belvB s.pkg.lead + 0x58) = true →
    (bit s.trigCfg 2 = true → s.frames.pendSw = none →
      ∃ t, exec (.softwareTrigger ini) s = .next t ∧ t.frames = { s.frames with pendSw := some (s.now + s.rf (trigB + 16) 15 0) } ∧
        t.slots = s.slots ∧ t.dies = s.dies) ∧
    (bit s.trigCfg 2 = true → s.frames.pendSw ≠ none →
      ∃ t, exec (.softwareTrigger ini) s = .next t ∧ Quiet s t ∧ t.evtBit (pageNo (belvB s.pkg.lead)) 3 = true) ∧
    (bit s.trigCfg 2 = false → ∃ t, exec (.softwareTrigger ini) s = .next t ∧ Quiet s t)) ∧
  (∀ (a : Nat) (s : State), s.frames.pendSw = some a → s.inRun = true → s.frames.run = true → a ≤ s.now →
    ∃ t, exec (.triggerDelayEnd .software) s = .next t ∧ Quiet { s with frames := { s.frames with pendSw := none, selNext := true, snapNext := true } } t) ∧
  (∀ (src : TrigSrc) (a : Nat) (s : State), src ≠ .software → trigPend s.frames src = some a → s.frames.pendMer ≠ s.frames.pendTrig →
    s.inRun = true → s.frames.run = true → a ≤ s.now → s.frames.started = true → s.frames.bAt ≠ some s.now →
    (s.frames.startAt + 10 < s.now → s.now + 10 < s.frames.nextAt →
      ∃ t, exec (.triggerDelayEnd src) s = .next t ∧ t.frames.startAt = s.now ∧ trigPend t.frames src = none ∧
        t.frames.nextAt = s.now + 2560 * 2 ^ t.frames.osr ∧ t.feram = s.feram) ∧
    (s.now ≤ s.frames.nextAt → s.frames.nextAt ≤ s.now + 10 →
      ∃ t, exec (.triggerDelayEnd src) s = .next t ∧ t.frames.startAt = s.frames.startAt ∧ trigPend t.frames src = none ∧
        t.frames.nextAt = s.now ∧ t.frames.bTrim = true ∧ t.slots = s.slots ∧ t.dies = s.dies) ∧
    (s.now ≤ s.frames.startAt + 10 → s.now + 10 < s.frames.nextAt →
      ∃ t, exec (.triggerDelayEnd src) s = .next t ∧ t.frames.startAt = s.frames.startAt ∧ trigPend t.frames src = none ∧
        t.frames.nextAt = s.now + s.period ∧ t.slots = s.slots ∧ t.dies = s.dies))

/-- The QUEUE port: a pop takes the head entry of the source whose turn it is, an empty port reads 0 with its event, and a pop of the ring that
meets one of the QSPI host in its CORE cycle is served after it (R251, R252, R254). Streams: once FLUSH has passed since its oldest entry came,
a frame for a destination that can be reached leaves with what it holds, and the entries of a received frame join the receive queue, which is
dropped from where it is full and where RX is off (R255, R256). -/
def Obligations.QueuePortAndStreams : Prop :=
  (∀ (ini : Ini) (k : Nat) (s : State), ini = .qspi ∨ s.qspiPops = false → s.serving = true → s.refusal (queueB + 0x40) = 0 →
    s.nextSrc true = some k →
    (k ≠ 8 →
      ∃ t, exec (.queuePop ini) s = .next t ∧ t.rsp = [BitVec.ofNat 32 ((s.die k).belv.queue.headD (0, 0)).1.toNat] ∧
        mget 0 t.shadow (shKey ini (queueB + 0x44)) = BitVec.ofNat 32 (((s.die k).belv.queue.headD (0, 0)).1.toNat / 2 ^ 32) ∧
        (t.die k).belv.queue = (s.die k).belv.queue.tail ∧ (∀ e, e ≠ k → t.die e = s.die e) ∧
        t.slots = s.slots ∧ t.regs = s.regs ∧ t.qport.rxq = s.qport.rxq) ∧
    (k = 8 →
      ∃ t, exec (.queuePop ini) s = .next t ∧ t.rsp = [BitVec.ofNat 32 (s.qport.rxq.headD (0, 0)).1.toNat] ∧
        mget 0 t.shadow (shKey ini (queueB + 0x44)) = BitVec.ofNat 32 ((s.qport.rxq.headD (0, 0)).1.toNat / 2 ^ 32) ∧
        mget 0 t.shadow (shKey ini (queueB + 0x48)) = mkWord [(0, (s.qport.rxq.headD (0, 0)).2), (31, 1)] ∧
        t.qport.rxq = s.qport.rxq.tail ∧ t.dies = s.dies ∧ t.slots = s.slots ∧ t.regs = s.regs)) ∧
  (∀ (ini : Ini) (s : State), ini ≠ .qspi → s.qspiPops = true → ∃ t, exec (.queuePop ini) s = .next t ∧ Quiet (s.putOff (.queuePop ini)) t) ∧
  (∀ (ini : Ini) (s : State), ini = .qspi ∨ s.qspiPops = false → s.serving = true → s.refusal (queueB + 0x40) = 0 → s.nextSrc true = none →
    ∃ t, exec (.queuePop ini) s = .next t ∧ t.rsp = [0] ∧ t.evtBit (pageNo queueB) 0 = true ∧ t.dies = s.dies ∧ t.slots = s.slots) ∧
  (∀ s : State, s.serving = true → s.qDies = 0 → s.qport.asm ≠ [] → s.reaches s.qport.asmDest = true →
    s.qport.asmAt + s.rf (queueB + 0x70) 7 0 * US ≤ s.now →
    ∃ t, exec .streamFlushTimeout s = .next t ∧ t.qport = { s.qport with asm := [], seq := (s.qport.seq + 1) % 65536 } ∧
      t.rf (queueB + 0x74) 15 0 = s.qport.seq % 65536 ∧ t.slots = s.slots ∧ t.dies = s.dies) ∧
  (∀ (src seq : Nat) (es : List (BitVec 64)) (s : State), s.serving = true →
    (s.rf (queueB + 0x60) 31 31 = 1 → s.qport.rxq.length + es.length ≤ 4096 →
      ∃ t, exec (.streamReceive src seq es) s = .next t ∧ t.qport.rxq = s.qport.rxq ++ es.map (fun e => (e, src)) ∧ t.slots = s.slots ∧ t.dies = s.dies) ∧
    (s.rf (queueB + 0x60) 31 31 = 1 → 4096 ≤ s.qport.rxq.length → es ≠ [] →
      ∃ t, exec (.streamReceive src seq es) s = .next t ∧ t.qport.rxq = s.qport.rxq ∧ t.evtBit (pageNo queueB) 2 = true ∧ t.slots = s.slots ∧
        t.dies = s.dies) ∧
    (s.rf (queueB + 0x60) 31 31 ≠ 1 →
      ∃ t, exec (.streamReceive src seq es) s = .next t ∧ t.qport = s.qport ∧ t.slots = s.slots ∧ t.dies = s.dies))

/-- QUEUE_PEEK_LO (R253): the head entry in its three words, without removing it; an empty port reads 0 without an event;
the next pop of any initiator takes the entry that was peeked. -/
def Obligations.QueuePeekLeavesTheHead : Prop :=
  (∀ (ini : Ini) (k : Nat) (s : State), s.serving = true → s.refusal (queueB + 0x50) = 0 → s.nextSrc true = some k →
    ∃ t, exec (.queuePeek ini) s = .next t ∧ t.dies = s.dies ∧ t.slots = s.slots ∧ t.regs = s.regs ∧
      t.qport = { s.qport with commit := some k } ∧
      (k ≠ 8 → t.rsp = [BitVec.ofNat 32 ((s.die k).belv.queue.headD (0, 0)).1.toNat] ∧
        mget 0 t.shadow (shKey ini (queueB + 0x54)) = BitVec.ofNat 32 (((s.die k).belv.queue.headD (0, 0)).1.toNat / 2 ^ 32) ∧
        mget 0 t.shadow (shKey ini (queueB + 0x58)) = 0) ∧
      (k = 8 → t.rsp = [BitVec.ofNat 32 (s.qport.rxq.headD (0, 0)).1.toNat] ∧
        mget 0 t.shadow (shKey ini (queueB + 0x54)) = BitVec.ofNat 32 ((s.qport.rxq.headD (0, 0)).1.toNat / 2 ^ 32) ∧
        mget 0 t.shadow (shKey ini (queueB + 0x58)) = mkWord [(0, (s.qport.rxq.headD (0, 0)).2), (31, 1)])) ∧
  (∀ (ini : Ini) (s : State), s.serving = true → s.refusal (queueB + 0x50) = 0 → s.nextSrc true = none →
    ∃ t, exec (.queuePeek ini) s = .next t ∧ t.rsp = [0] ∧ mget 0 t.shadow (shKey ini (queueB + 0x54)) = 0 ∧
      mget 0 t.shadow (shKey ini (queueB + 0x58)) = 0 ∧ t.dies = s.dies ∧ t.qport = s.qport ∧ t.slots = s.slots ∧ t.regs = s.regs ∧
      (t.page (pageNo queueB)).evt = (s.page (pageNo queueB)).evt) ∧
  (∀ (ini j : Ini) (k : Nat) (s : State), j = .qspi ∨ s.qspiPops = false → s.serving = true → s.refusal (queueB + 0x50) = 0 → s.nextSrc true = some k →
    ∃ t u, exec (.queuePeek ini) s = .next t ∧ exec (.queuePop j) t = .next u ∧ u.rsp = t.rsp ∧
      mget 0 u.shadow (shKey j (queueB + 0x44)) = mget 0 t.shadow (shKey ini (queueB + 0x54)) ∧
      mget 0 u.shadow (shKey j (queueB + 0x48)) = mget 0 t.shadow (shKey ini (queueB + 0x58)))

/-- Full calibration starts while no slot of the die is live, is refused while one is, and ends after 106 ms (R264). Rolling calibration: a round
on request, unless one runs; a step on a spare, or on a modulator in service with a free spare as its stand-in; the end of a parallel run; and a
measured pair, which within its limits waits for the next frame boundary and comes into force at it, and outside them is dropped with its event
(R245, R263, R265, R266). -/
def Obligations.Calibration : Prop :=
  (∀ (ini : Ini) (d : Nat) (s : State), s.takes ini (belvB d + 0x444) = true → (s.die d).belv.fullAt = none →
    ((∀ n ∈ slotsOf d, (s.slot n).st = .off ∨ (s.slot n).st = .empty ∨ (s.slot n).st = .cooldown ∨ (s.slot n).st = .latched ∨ (s.slot n).st = .lockout) →
      ∃ t, exec (.fullCalibration ini d) s = .next t ∧ (t.die d).belv.fullAt = some s.now ∧ (t.die d).belv.roll = none ∧ t.slots = s.slots ∧ t.regs = s.regs) ∧
    (∀ n ∈ slotsOf d, (s.slot n).st = .seated ∨ (s.slot n).st = .waiting ∨ (s.slot n).st = .charging ∨ (s.slot n).st = .on ∨ (s.slot n).st = .tripped →
      ∃ t, exec (.fullCalibration ini d) s = .next t ∧ Quiet s t ∧ t.evtBit (pageNo (belvB d)) 31 = true)) ∧
  (∀ (d a : Nat) (pairs : List (Int × Int)) (s : State), (s.die d).belv.fullAt = some a → s.runs d = true → a + 106 * MS ≤ s.now →
    ∃ t, exec (.fullCalibrationDone d pairs) s = .next t ∧ (t.die d).belv.fullAt = none ∧ t.evtBit (pageNo (belvB d)) 11 = true ∧ t.feram = s.feram) ∧
  (∀ (ini : Ini) (d : Nat) (s : State), s.takes ini (belvB d + 0x444) = true →
    ((s.die d).belv.roll = none →
      ∃ t, exec (.rollOnce ini d) s = .next t ∧ (t.die d).belv.roll = some { once := true, left := s.rollOrder d } ∧ t.slots = s.slots ∧ t.regs = s.regs) ∧
    ((s.die d).belv.roll ≠ none → ∃ t, exec (.rollOnce ini d) s = .next t ∧ Quiet s t)) ∧
  (∀ (d m : Nat) (rest : List Nat) (r : Roll) (s : State), s.runs d = true → (s.die d).belv.swap = none → (s.die d).belv.swapQ = [] →
    (s.die d).belv.fullAt = none → (s.die d).belv.roll = some r → r.phase = 0 → r.once = true ∨ s.rf (belvB d + 0x440) 1 1 = 1 → r.left = m :: rest →
    (s.modState d m = 0 →
      ∃ t, exec (.rollingStepStart d) s = .next t ∧
        Quiet (s.modBelv d (fun b => { b with roll := some { r with left := rest, mod := m, idx := 34, spare := none, phase := 2, at_ := s.now } })) t) ∧
    (∀ sp, s.modState d m = 1 → s.freeSpare d (s.modIdx d m) = some sp →
      ∃ t, exec (.rollingStepStart d) s = .next t ∧
        Quiet ((s.modMod d sp (fun x => { x with state := 2 })).modBelv d (fun b =>
          { b with roll := some { r with left := rest, mod := m, idx := s.modIdx d m, spare := some sp, phase := 1, at_ := s.now } })) t)) ∧
  (∀ (d : Nat) (r : Roll) (s : State), (s.die d).belv.roll = some r → s.runs d = true → r.handing = false →
    (r.phase = 1 ∧ r.at_ + 10 * MS ≤ s.now) ∨ (r.phase = 4 ∧ r.at_ + Nat.max (2 * MS) (5 * s.period) ≤ s.now) →
    ∃ t, exec (.rollingParallelEnd d) s = .next t ∧ Quiet (s.modBelv d (fun b => { b with roll := some { r with handing := true } })) t) ∧
  (∀ (d : Nat) (zs fs : Int) (r : Roll) (s : State), (s.die d).belv.roll = some r → s.runs d = true → r.phase = 2 → r.at_ + 80 * MS ≤ s.now →
    (zs.natAbs ≤ 65536 * 256 → (fs - zs - 6291456 * 256).natAbs ≤ 125829 * 256 →
      ∃ t, exec (.selfCalDone d zs fs) s = .next t ∧ (r.mod, zs, fs) ∈ (t.die d).belv.adopt ∧ t.slots = s.slots ∧ t.feram = s.feram) ∧
    (65536 * 256 < zs.natAbs ∨ 125829 * 256 < (fs - zs - 6291456 * 256).natAbs →
      ∃ t, exec (.selfCalDone d zs fs) s = .next t ∧ (t.die d).belv.adopt = (s.die d).belv.adopt ∧ t.evtBit (pageNo (belvB d)) 8 = true ∧
        t.slots = s.slots ∧ t.feram = s.feram)) ∧
  (∀ (d m : Nat) (zs fs : Int) (rs : List DieSamp) (s : State), s.inRun = true → s.frames.run = true → s.frames.nextAt ≤ s.now → d ∈ s.presentDies →
    s.runs d = true → (s.die d).belv.adopt = [(m, zs, fs)] → m < (s.die d).belv.mods.length → (s.die d).belv.swap = none →
    (s.die d).belv.swapQ = [] → (s.die d).pow.refSwap = false →
    ∃ t, exec (.frameBoundary rs) s = .next t ∧ ((t.die d).belv.modl m).zs = zs ∧ ((t.die d).belv.modl m).fs = fs ∧ (t.die d).belv.adopt = [])

/-! ## The Contour engine (10_contour_engine.md) -/

/-- A loop period of a die counts its tick, of 24 CORE cycles where no context is bound (R278). At its write cycle, or in ASAP, a code that is
ready goes to the DAC, and to the gate unless another path acts there; one that is not ready is an overrun (R286, R287, R289). A parity error fails
an unbound context and leaves a bound one to its reads (R297). The lane serves its oldest request (R298). -/
def Obligations.LoopDacParityAndLane : Prop :=
  (∀ (d : Nat) (errs : List (Nat × Nat × Nat)) (s : State), s.runs d = true → (s.now - s.pkg.epoch) % 1000 = 0 →
    ∃ t, exec (.loopPeriod d errs) s = .next t ∧ (t.die d).eng.tick = (s.now - s.pkg.epoch) / 1000 ∧ t.slots = s.slots ∧ t.feram = s.feram ∧
      (s.anyBound d = false → (t.die d).eng.tickLen = 24)) ∧
  (∀ (d n : Nat) (code : Int) (s : State), s.runs d = true → (s.ctx d n).bound = true → (s.ctx d n).fallback = false → (s.ctx d n).out = some code →
    ((bit (s.reg (ctxB d n)) 8 = true ∧ (s.ctx d n).outAt < s.now) ∨
      (bit (s.reg (ctxB d n)) 8 = false ∧ (s.ctx d n).outAt ≤ s.now ∧
        s.now = (s.ctx d n).perAt + (if s.rf (ctxB d n) 15 12 = 0 then 16 else s.rf (ctxB d n) 15 12) * 1000 * rateDiv (s.ctx d n).rate / 16) →
      ∃ t, exec (.dacWrite d n) s = .next t ∧ (t.ctx d n).code = code ∧ (t.ctx d n).out = none ∧ (t.ctx d n).consec = 0 ∧
        (t.ctx d n).applied = (if s.disconnected d n then (s.ctx d n).applied else code) ∧ t.slots = s.slots ∧ t.regs = s.regs) ∧
    (bit (s.reg (ctxB d n)) 8 = false → s.now < (s.ctx d n).outAt → (s.ctx d n).consec < 2 →
      s.now = (s.ctx d n).perAt + (if s.rf (ctxB d n) 15 12 = 0 then 16 else s.rf (ctxB d n) 15 12) * 1000 * rateDiv (s.ctx d n).rate / 16 →
      ∃ t, exec (.dacWrite d n) s = .next t ∧ (t.ctx d n).code = (s.ctx d n).code ∧ (t.ctx d n).out = none ∧
        (t.ctx d n).consec = (s.ctx d n).consec + 1 ∧ t.evtBit (pageNo (contB d)) 1 = true ∧ t.slots = s.slots)) ∧
  (∀ (d n k w : Nat) (s : State), s.runs d = true → (s.now - s.pkg.epoch) % 1024000 = 0 → n < 18 → k < 8 → w < 6 →
    ((s.die d).eng.ctxs.length = 18 → (s.ctx d n).bound = false → (s.ctx d n).failed = false →
      ∃ t, exec (.parityScan d [(n, k, w)]) s = .next t ∧ (t.ctx d n).failed = true ∧ t.evtBit (pageNo (contB d)) 6 = true ∧ t.slots = s.slots) ∧
    ((s.ctx d n).bound = true → ∃ t, exec (.parityScan d [(n, k, w)]) s = .next t ∧ Quiet s t)) ∧
  (∀ (d : Nat) (r : LaneReq) (rest : List LaneReq) (s : State), (s.die d).eng.lane = r :: rest → s.runs d = true →
    ∃ t, exec (.laneRequestDone d) s = .next t ∧ (t.die d).eng.lane = rest ∧ t.feram = s.feram ∧ t.frames = s.frames ∧ t.mer = s.mer ∧
      ∀ n, r ≠ .fit n → t.slot n = s.slot n)

/-- COMMIT replaces the active bank of an unbound context and waits on a bound one; the counters and maxima are cleared
(R279, R294, R295, R310). -/
def Obligations.CommitAndCounters : Prop :=
  (∀ (ini : Ini) (d n : Nat) (s : State), d < 8 → n < 18 → s.takesLocked ini (ctxB d n + 0x18) = true → s.commitOk d n = true →
    (s.ctx d n).bound = false →
    ∃ t, exec (.commit ini d n) s = .next t ∧ t.evtBit (pageNo (contB d)) 7 = true ∧ t.slots = s.slots ∧
      ∀ k < 8, ∀ o ∈ secWords, t.reg (activeA d n k o) = s.reg (editA d n k o)) ∧
  (∀ (ini : Ini) (d n : Nat) (s : State), s.takesLocked ini (ctxB d n + 0x18) = true → s.commitOk d n = true → (s.ctx d n).bound = true →
    ∃ t, exec (.commit ini d n) s = .next t ∧ Quiet (s.modCtx d n (fun c => { c with commitPend := true })) t) ∧
  (∀ (ini : Ini) (d n : Nat) (s : State), s.takesLocked ini (ctxB d n + 0x18) = true →
    ∃ t, exec (.clrCnt ini d n) s = .next t ∧ t.reg (ctxB d n + 0x24) = 0 ∧ t.rf (ctxB d n + 0x20) 28 16 = 0 ∧ t.slots = s.slots ∧ t.dies = s.dies) ∧
  (∀ (ini : Ini) (d : Nat) (s : State), s.takes ini (contB d + 0x4C) = true →
    ∃ t, exec (.clrMax ini d) s = .next t ∧ t.rf (contB d + 0x48) 26 16 = 0 ∧ (∀ n < 18, t.rf (ctxB d n + 0x20) 28 16 = 0) ∧
      t.slots = s.slots ∧ t.dies = s.dies)

/-- COMMIT checks the sections of the edit bank that the context would compute (R295): with an INTEGRATOR section whose a1 is
not −1 or whose a2 is not 0, or with two INTEGRATOR sections, it is refused with WR_REJECT and copies nothing; otherwise it
is not refused. -/
def Obligations.CommitChecksIntegrators : Prop :=
  (∀ (ini : Ini) (d n k : Nat) (s : State), s.takesLocked ini (ctxB d n + 0x18) = true → k < s.rf (ctxB d n) 7 4 →
    bit (s.reg (editA d n k 20)) 0 = true → s.reg (editA d n k 12) ≠ 0xF0000000 ∨ s.reg (editA d n k 16) ≠ 0 →
    ∃ t, exec (.commit ini d n) s = .next t ∧ Quiet s t ∧ t.evtBit (pageNo (contB d)) 31 = true) ∧
  (∀ (ini : Ini) (d n j k : Nat) (s : State), s.takesLocked ini (ctxB d n + 0x18) = true → j < k → k < s.rf (ctxB d n) 7 4 →
    bit (s.reg (editA d n j 20)) 0 = true → bit (s.reg (editA d n k 20)) 0 = true →
    ∃ t, exec (.commit ini d n) s = .next t ∧ Quiet s t ∧ t.evtBit (pageNo (contB d)) 31 = true) ∧
  (∀ (ini : Ini) (d n : Nat) (s : State), s.takesLocked ini (ctxB d n + 0x18) = true →
    (∀ k < s.rf (ctxB d n) 7 4, bit (s.reg (editA d n k 20)) 0 = true →
      s.reg (editA d n k 12) = 0xF0000000 ∧ s.reg (editA d n k 16) = 0 ∧ ∀ j < k, bit (s.reg (editA d n j 20)) 0 = false) →
    ∃ t, exec (.commit ini d n) s = .next t ∧ t.evtBit (pageNo (contB d)) 31 = s.evtBit (pageNo (contB d)) 31)

/-- The test generator is armed, and refused while it is armed or runs; it stops by STOP, its delay ends, and its sequence ends (R302). The
capture is armed, and refused while it is armed or triggered; it is forced while armed, aborted, and done with its last word (R304). -/
def Obligations.TestGeneratorAndCapture : Prop :=
  (∀ (ini : Ini) (d : Nat) (s : State), s.takesLocked ini (contB d + 0x608) = true →
    ((s.die d).eng.test.armed = false → (s.die d).eng.test.running = false →
      ∃ t, exec (.testArm ini d) s = .next t ∧ (t.die d).eng.test.armed = !(t.die d).eng.test.running ∧ t.slots = s.slots ∧ t.regs = s.regs) ∧
    ((s.die d).eng.test.armed = true ∨ (s.die d).eng.test.running = true →
      ∃ t, exec (.testArm ini d) s = .next t ∧ Quiet s t ∧ t.evtBit (pageNo (contB d)) 31 = true)) ∧
  (∀ (ini : Ini) (d : Nat) (s : State), s.takes ini (contB d + 0x608) = true →
    ((s.die d).eng.test.running = true ∨ (s.die d).eng.test.armed = true →
      ∃ t, exec (.testStop ini d) s = .next t ∧ (t.die d).eng.test.running = false ∧ (t.die d).eng.test.armed = false ∧
        (t.die d).eng.test.end_ = 2 ∧ t.evtBit (pageNo (contB d)) 10 = true ∧ t.slots = s.slots ∧ t.regs = s.regs) ∧
    ((s.die d).eng.test.running = false → (s.die d).eng.test.armed = false → ∃ t, exec (.testStop ini d) s = .next t ∧ Quiet s t)) ∧
  (∀ (d : Nat) (s : State), s.runs d = true → (s.die d).eng.test.running = true → (s.die d).eng.test.inj = false → (s.die d).eng.test.delay = 0 →
    ∃ t, exec (.testDelayEnd d) s = .next t ∧ Quiet (s.modTest d (fun t => { t with inj := true })) t) ∧
  (∀ (d : Nat) (s : State), s.runs d = true → (s.die d).eng.test.running = true → (s.die d).eng.test.seqOver = true →
    ∃ t, exec (.testEnd d) s = .next t ∧ (t.die d).eng.test.running = false ∧ (t.die d).eng.test.end_ = 1 ∧
      t.evtBit (pageNo (contB d)) 10 = true ∧ t.slots = s.slots ∧ t.regs = s.regs) ∧
  (∀ (ini : Ini) (d : Nat) (s : State), s.takes ini (contB d + 0x68C) = true →
    ((s.die d).eng.cap.state ≠ 1 → (s.die d).eng.cap.state ≠ 2 →
      ∃ t, exec (.capArm ini d) s = .next t ∧ Quiet (s.modCap d (fun _ => { state := 1 })) t) ∧
    ((s.die d).eng.cap.state = 1 ∨ (s.die d).eng.cap.state = 2 →
      ∃ t, exec (.capArm ini d) s = .next t ∧ Quiet s t ∧ t.evtBit (pageNo (contB d)) 31 = true) ∧
    ((s.die d).eng.cap.state = 1 → ∃ t, exec (.capForce ini d) s = .next t ∧ Quiet (s.modCap d (fun c => { c with force := true })) t) ∧
    ((s.die d).eng.cap.state ≠ 1 → ∃ t, exec (.capForce ini d) s = .next t ∧ Quiet s t) ∧
    (∃ t, exec (.capAbort ini d) s = .next t ∧ Quiet (s.modCap d (fun _ => {})) t)) ∧
  (∀ (d : Nat) (s : State), s.runs d = true → (s.die d).eng.cap.state = 2 → (s.die d).eng.cap.left = 0 →
    ∃ t, exec (.capDone d) s = .next t ∧ (t.die d).eng.cap.state = 3 ∧ (t.die d).eng.cap.partial_ = false ∧
      t.evtBit (pageNo (contB d)) 9 = true ∧ t.slots = s.slots ∧ t.regs = s.regs)

/-! ## The Ceane ring (11_ceane_ring.md) -/

/-- A port's link: ALIGN, where RX_OK is sent as 1, UP, with its event and RESYNC, a re-lock, counted, FAILED with the pair wrapped, and SEEK
again after 100 µs (R319, R328, R330). A link word that does not clear a gap window is kept back for its end (R334). -/
def Obligations.LinkStates : Prop :=
  (∀ (p : Nat) (s : State), s.runs (portDie p) = true → (s.port p).link = 1 →
    ∃ t, exec (.linkAlign p) s = .next t ∧ (t.port p).link = 2 ∧ (t.port p).since = s.now ∧ t.slots = s.slots ∧ t.dies = s.dies ∧
      (p < 4 → (s.port p).okWas = false → (s.now, Out.rxOk p true) ∈ t.outbox)) ∧
  (∀ (p : Nat) (r : Routes) (s : State), p < 4 → s.runs (portDie p) = true → (s.port p).link = 2 →
    ∃ t, exec (.linkUp p r) s = .next t ∧ (t.port p).link = 3 ∧ t.routes = r ∧ t.feram = s.feram ∧ t.evtBit (pageNo (ringB (p / 2))) 3 = true ∧
      if s.clearsWindow (p / 2) s.now 12 then (s.now, Out.resync p (s.port p).rxSeq s.ident.uid) ∈ t.outbox
      else Out.resync p (s.port p).rxSeq s.ident.uid ∈ (t.port p).kept) ∧
  (∀ (p : Nat) (r : Routes) (s : State), p < 4 → s.portUp p = true →
    ∃ t, exec (.linkRelock p r) s = .next t ∧ (t.port p).link = 2 ∧ (t.port p).holdTx = true ∧ t.routes = r ∧ t.feram = s.feram ∧
      t.rf (portReg p) 31 16 = sat 65535 (s.rf (portReg p) 31 16 + 1)) ∧
  (∀ (p cause : Nat) (r : Routes) (s : State), p < 4 → s.runs (portDie p) = true → (s.port p).link = 3 ∨ ((s.port p).link = 2 ∧ cause = 1) →
    ∃ t, exec (.linkFailed p cause r) s = .next t ∧ (t.port p).link = 4 ∧ (t.port p).wrapped = true ∧ (t.port p).tx = [] ∧
      (t.port p).kept = [] ∧ t.routes = r ∧ t.feram = s.feram ∧ t.evtBit (pageNo (ringB (p / 2))) 2 = true ∧
      t.evtBit (pageNo (ringB (p / 2))) 4 = true) ∧
  (∀ (p : Nat) (s : State), s.runs (portDie p) = true → (s.port p).link = 4 → (s.port p).since + 100 * US ≤ s.now →
    ∃ t, exec (.linkRetry p) s = .next t ∧ (t.port p).link = 1 ∧ (t.port p).wrapped = (s.port p).wrapped ∧ t.slots = s.slots ∧ t.dies = s.dies)

/-- Acknowledgement and replay: an ACK drops what it covers; a NAK sends the frames from the one it names again, and a timeout of 2 µs the
oldest frame; the fourth failure of the oldest frame fails the link; RESYNC records the partner, and with it the frames that are still to send
(R326, R327, R331). A link word with a bad check is counted and ignored (R326). -/
def Obligations.AcknowledgementAndReplay : Prop :=
  (∀ (p : Nat) (rx : Line) (s : State), s.portUp p = true → rx.word = none →
    (∃ t, exec (.ackReceive p rx) s = .next t ∧ t.rf (linkCnt p) 15 0 = sat 65535 (s.rf (linkCnt p) 15 0 + Nat.max 1 (violations rx.chars)) ∧
      (t.port p).tries = (s.port p).tries ∧ t.slots = s.slots ∧ t.dies = s.dies) ∧
    (∃ t, exec (.nakReceive p rx) s = .next t ∧ t.rf (linkCnt p) 15 0 = sat 65535 (s.rf (linkCnt p) 15 0 + Nat.max 1 (violations rx.chars)) ∧
      (t.port p).tries = (s.port p).tries ∧ t.slots = s.slots ∧ t.dies = s.dies) ∧
    (∃ t, exec (.resyncReceive p rx) s = .next t ∧ t.rf (linkCnt p) 15 0 = sat 65535 (s.rf (linkCnt p) 15 0 + Nat.max 1 (violations rx.chars)) ∧
      (t.port p).uid = (s.port p).uid ∧ t.slots = s.slots ∧ t.dies = s.dies)) ∧
  (∀ (p seq : Nat) (rx : Line) (f : Frame) (r : List Frame) (s : State), s.portUp p = true → rx.word = some (.ack seq) →
    txFrom seq (s.port p).tx = f :: r →
    ∃ t l, exec (.ackReceive p rx) s = .next t ∧ (t.port p).tx = r ++ l ∧ (t.port p).tries = 0 ∧ t.slots = s.slots ∧ t.dies = s.dies) ∧
  (∀ (p seq : Nat) (rx : Line) (f : Frame) (r : List Frame) (s : State), s.portUp p = true → rx.word = some (.nak seq) →
    (txFrom seq (s.port p).tx = f :: r → (s.port p).tries < 3 →
      ∃ t, exec (.nakReceive p rx) s = .next t ∧ (f :: r) <+: (t.port p).tx ∧ (t.port p).link = 3 ∧ (t.port p).oldAt = s.now ∧
        (s.clearsWindow (p / 2) s.now f.size = true → (s.now, Out.frame p f) ∈ t.outbox) ∧ t.slots = s.slots) ∧
    ((s.port p).tx = f :: r → f.lseq = seq → 3 ≤ (s.port p).tries →
      ∃ t, exec (.nakReceive p rx) s = .next t ∧ (t.port p).link = 4 ∧ (t.port p).wrapped = true ∧ t.feram = s.feram)) ∧
  (∀ (p : Nat) (f : Frame) (r : List Frame) (s : State), s.portUp p = true → (s.port p).tx = f :: r → (s.port p).holdTx = false →
    s.inWindow (p / 2) = false → 2000 ≤ s.replayNs p →
    ((s.port p).tries < 3 →
      ∃ t, exec (.replayTimeout p) s = .next t ∧ (t.port p).tries = (s.port p).tries + 1 ∧ (f :: r) <+: (t.port p).tx ∧ (t.port p).oldAt = s.now ∧
        (s.clearsWindow (p / 2) s.now f.size = true → (s.now, Out.frame p f) ∈ t.outbox) ∧ t.slots = s.slots) ∧
    (3 ≤ (s.port p).tries →
      ∃ t, exec (.replayTimeout p) s = .next t ∧ (t.port p).link = 4 ∧ (t.port p).wrapped = true ∧ t.feram = s.feram)) ∧
  (∀ (p seq uid : Nat) (rx : Line) (s : State), s.portUp p = true → rx.word = some (.resync seq uid) →
    ∃ t, exec (.resyncReceive p rx) s = .next t ∧ (t.port p).uid = some uid ∧ (t.port p).holdTx = false ∧ (t.port p).tries = 0 ∧
      ((s.port p).uid = some uid → txFrom seq (s.port p).tx <+: (t.port p).tx ∧ (t.port p).rxRec = (s.port p).rxRec) ∧
      ((s.port p).uid ≠ some uid → renumber seq (s.port p).tx <+: (t.port p).tx ∧ (t.port p).rxRec = 0) ∧ t.slots = s.slots ∧ t.dies = s.dies)

/-- A normal frame whose check fails is answered with NAK, one that ended with EOF_BAD is discarded, and one in sequence is acknowledged; a
request of it for this part waits in the target queue (R322, R327, R347). An urgent frame for another part goes on with the weight of its link
spent, with its check inverted where it failed; one for this part is received as its kind, unless it failed, and one of this part's own ends
(R186, R325). -/
def Obligations.FramesReceived : Prop :=
  (∀ (p : Nat) (rx : Line) (o : Option Routes) (s : State), s.portUp p = true → (∀ f, rx.frame.f = some f → f.ftype ≠ .time) →
    (rx.frame.ok = false → rx.frame.bad = false →
      ∃ t, exec (.normalFrameReceive p rx o) s = .next t ∧
        (if s.clearsWindow (p / 2) s.now 4 then (s.now, Out.nak p (s.port p).rxSeq) ∈ t.outbox else Out.nak p (s.port p).rxSeq ∈ (t.port p).kept) ∧
        (t.port p).rxSeq = (s.port p).rxSeq ∧ t.rf (linkCnt p) 15 0 = sat 65535 (s.rf (linkCnt p) 15 0 + rx.frame.errors) ∧
        t.slots = s.slots ∧ t.dies = s.dies ∧ t.xact = s.xact) ∧
    (rx.frame.bad = true →
      ∃ t, exec (.normalFrameReceive p rx o) s = .next t ∧ (t.port p).rxSeq = (s.port p).rxSeq ∧ t.slots = s.slots ∧ t.dies = s.dies ∧
        t.xact = s.xact)) ∧
  (∀ (p : Nat) (rx : Line) (o : Option Routes) (f : Frame) (s : State), s.portUp p = true → rx.frame.f = some f → f.ftype ≠ .time →
    rx.frame.ok = true → rx.frame.bad = false → f.lseq = (s.port p).rxSeq →
    ∃ t, exec (.normalFrameReceive p rx o) s = .next t ∧
      (s.clearsWindow (p / 2) s.now 4 = true → (s.now, Out.ack p f.lseq) ∈ t.outbox) ∧ (t.port p).rxSeq = (f.lseq + 1) % 256 ∧
      t.feram = s.feram ∧ (∀ n, (t.slot n).st = (s.slot n).st) ∧
      (f.wrap = false → f.ftype = .read ∨ f.ftype = .write → f.bcast = false → s.isOwn f.dest = true → s.inserted (p / 2) f = false →
        s.primaryLeg p = true → s.xact.tq.length < 64 → (s.pair (p / 2)).leaving = false →
        t.xact.tq = s.xact.tq ++ [(s.now, f)])) ∧
  (∀ (p : Nat) (rx : Line) (m : Msg) (ok : Bool) (s : State), s.portUp p = true → rx.urgent = some (m, ok) → s.isOwn m.srcAddr = false →
    (s.isOwn m.tgtAddr = false → s.crosses (p / 2) (m.tgtAddr / 128) = false → m.hops ≠ 0 → p % 2 = 0 → (s.port (p + 1)).wrapped = false →
      ∃ t, exec (.urgentFrameReceive p rx) s = .next t ∧ (s.now, Out.urgent (p + 1) { m with hops := m.hops - s.weight (p + 1) } (!ok)) ∈ t.outbox ∧
        t.slots = s.slots ∧ t.dies = s.dies) ∧
    (s.isOwn m.tgtAddr = true → ok = true → exec (.urgentFrameReceive p rx) s = exec (terrCmd m) s) ∧
    (s.isOwn m.tgtAddr = true → ok = false → ∃ t, exec (.urgentFrameReceive p rx) s = .next t ∧ t.slots = s.slots ∧ t.dies = s.dies)) ∧
  (∀ (p : Nat) (rx : Line) (m : Msg) (s : State), s.portUp p = true → rx.urgent = some (m, true) → s.isOwn m.srcAddr = true →
    ∃ t, exec (.urgentFrameReceive p rx) s = .next t ∧ Quiet s t)

/-- Keeper election and enumeration: the own claim makes the keeper of a new ring, NODE 0, and a better claim ends a candidacy; no election
runs on a child ring (R332). The position that COUNT brings, the requests the keeper gathers or answers, and the number that ASSIGN gives or
refuses (R333, R341). A frame on a counter-direction leg goes on and has no other effect (R330). -/
def Obligations.ElectionAndEnumeration : Prop :=
  (∀ (p pri uid src ttl : Nat) (s : State), s.portUp p = true → s.primaryLeg p = true →
    (s.elects (p / 2) = true → uid = s.ident.uid → (s.pair (p / 2)).claimSent = true → (s.pair (p / 2)).keeper = false →
      (s.pair (p / 2)).joined = false →
      ∃ t, exec (.claimReceive p pri uid src ttl) s = .next t ∧ (t.pair (p / 2)).keeper = true ∧ (t.pair (p / 2)).node = 0 ∧
        (t.pair (p / 2)).forming = true ∧ t.feram = s.feram) ∧
    (s.elects (p / 2) = true → uid ≠ s.ident.uid → pri < s.keepPri (p / 2) ∨ (pri = s.keepPri (p / 2) ∧ uid < s.ident.uid) →
      ∃ t, exec (.claimReceive p pri uid src ttl) s = .next t ∧ (t.pair (p / 2)).keeper = false ∧ (t.pair (p / 2)).elected = true ∧
        t.slots = s.slots ∧ t.dies = s.dies) ∧
    (s.elects (p / 2) = false → ∃ t, exec (.claimReceive p pri uid src ttl) s = .next t ∧ Quiet s t)) ∧
  (∀ (p pri uid src pos members collect window keeper node ring ttl xseq : Nat) (q c : Option Nat) (pin : Bool) (r : Routes) (i : Instr) (s : State),
    s.primaryLeg p = false →
    i = .claimReceive p pri uid src ttl ∨ i = .countReceive p pos ttl ∨ i = .joinReqReceive p uid pos q pin ttl ∨
      i = .assignReceive p uid node ring c r ttl ∨ i = .gapReceive p members collect window keeper ttl xseq →
    ∃ t, exec i s = .next t ∧ t.pairAB = s.pairAB.driven t.pairAB ∧ t.pairCD = s.pairCD.driven t.pairCD ∧ t.slots = s.slots ∧ t.dies = s.dies ∧
      t.mer = s.mer ∧ t.routes = s.routes) ∧
  (∀ (p pos ttl : Nat) (s : State), s.portUp p = true → s.primaryLeg p = true →
    ((s.pair (p / 2)).keeper = false →
      ∃ t, exec (.countReceive p pos ttl) s = .next t ∧ (t.pair (p / 2)).pos = some pos ∧ t.slots = s.slots ∧ t.dies = s.dies) ∧
    ((s.pair (p / 2)).keeper = true → (s.pair (p / 2)).forming = true → (s.pair (p / 2)).reqs.length < pos →
      ∃ t, exec (.countReceive p pos ttl) s = .next t ∧ (t.pair (p / 2)).expect = some pos ∧ t.slots = s.slots ∧ t.dies = s.dies)) ∧
  (∀ (p uid pos ttl : Nat) (req : Option Nat) (pin : Bool) (s : State), s.portUp p = true → s.primaryLeg p = true → (s.pair (p / 2)).keeper = true →
    ((s.pair (p / 2)).forming = true → (s.pair (p / 2)).expect = none →
      ∃ t, exec (.joinReqReceive p uid pos req pin ttl) s = .next t ∧
        (t.pair (p / 2)).reqs = (s.pair (p / 2)).reqs ++ [{ uid := uid, pos := pos, req := req, pin := pin }] ∧ t.slots = s.slots ∧ t.dies = s.dies) ∧
    ((s.pair (p / 2)).forming = false → ∀ n, (s.pair (p / 2)).number { uid := uid, pos := pos, req := req, pin := pin } = .inl n →
      ∃ t, exec (.joinReqReceive p uid pos req pin ttl) s = .next t ∧ (n, uid) ∈ (t.pair (p / 2)).taken ∧ t.slots = s.slots ∧ t.dies = s.dies)) ∧
  (∀ (p node ring ttl : Nat) (r : Routes) (s : State), p < 4 → s.portUp p = true → s.primaryLeg p = true → (s.pair (p / 2)).keeper = false →
    (s.pair (p / 2)).joined = false → (s.pair (p / 2)).join = 3 → p / 2 = 0 ∨ s.pairMode 1 ≠ 2 →
    (∃ t, exec (.assignReceive p s.ident.uid node ring none r ttl) s = .next t ∧ (t.pair (p / 2)).joined = true ∧ (t.pair (p / 2)).node = node ∧
      (t.pair (p / 2)).ringId = ring ∧ t.routes = r ∧ t.feram = s.feram) ∧
    (∀ c, ∃ t, exec (.assignReceive p s.ident.uid node ring (some c) r ttl) s = .next t ∧ (t.pair (p / 2)).joined = false ∧
      (t.pair (p / 2)).join = 0 ∧ (t.pair (p / 2)).refused = true ∧ (t.pair (p / 2)).wicketOpen = false ∧
      t.evtBit (pageNo (ringB (p / 2))) (if c = 1 then 10 else 9) = true))

/-- The gap: the keeper's frame, whose window begins 200 µs later (the model's choice, log entry 30), and its return; its receipt on a pair that
is IN or waits, where a window beyond the check of R374 is not taken; what happens in the window; and its loss, with a new election but on a
child ring (R334, R335, R341, R343, R374). A pair joins, a CHILD pair as keeper of its own ring, and leaves (R341, R343). -/
def Obligations.GapJoinAndLeave : Prop :=
  (∀ (k : Nat) (s : State), s.runs k = true → s.gapKeeper k = true → (s.pair k).lastGap + s.gapPer k ≤ s.now →
    ∃ t, exec (.gapSend k) s = .next t ∧ (t.pair k).lastGap = s.now ∧ (t.pair k).window = some (s.nowNs + 200000) ∧ (t.pair k).served = false ∧
      (t.pair k).members = (s.pair k).nextMembers ∧ t.slots = s.slots ∧ t.dies = s.dies) ∧
  (∀ (p members collect window keeper ttl xseq : Nat) (s : State), s.runs (p / 2) = true → s.primaryLeg p = true → (s.pair (p / 2)).join ≠ 0 →
    (s.gapKeeper (p / 2) = true → keeper = s.addrOn (p / 2) →
      ∃ t, exec (.gapReceive p members collect window keeper ttl xseq) s = .next t ∧
        (t.pair (p / 2)).nextMembers = collect ||| 2 ^ (s.pair (p / 2)).node ∧ t.slots = s.slots ∧ t.dies = s.dies) ∧
    (s.gapKeeper (p / 2) = false → (s.pair (p / 2)).keeperAddr = some keeper →
      ((s.pair (p / 2)).join = 3 → (s.pair (p / 2)).joined = true → s.windowOk (p / 2) window = true →
        ∃ t, exec (.gapReceive p members collect window keeper ttl xseq) s = .next t ∧ (t.pair (p / 2)).window = some window ∧
          (t.pair (p / 2)).served = false ∧ (t.pair (p / 2)).lastGap = s.now ∧ (t.pair (p / 2)).members = members ∧
          t.slots = s.slots ∧ t.dies = s.dies) ∧
      ((s.pair (p / 2)).join = 2 → s.windowOk (p / 2) window = true →
        ∃ t, exec (.gapReceive p members collect window keeper ttl xseq) s = .next t ∧ (t.pair (p / 2)).window = some window ∧
          (t.pair (p / 2)).served = false ∧ (t.pair (p / 2)).join = 2 ∧ t.slots = s.slots ∧ t.dies = s.dies) ∧
      (s.windowOk (p / 2) window = false →
        ∃ t, exec (.gapReceive p members collect window keeper ttl xseq) s = .next t ∧ (t.pair (p / 2)).window = (s.pair (p / 2)).window ∧
          (t.pair (p / 2)).lastGap = s.now ∧ t.slots = s.slots ∧ t.dies = s.dies))) ∧
  (∀ (k w : Nat) (r : Routes) (s : State), k < 2 → (s.pair k).window = some w → s.runs k = true → w ≤ s.nowNs →
    ((s.pair k).served = false →
      ((s.pair k).join = 2 → (s.pair k).wicketOpen = false →
        ∃ t, exec (.gapWindowStart k r) s = .next t ∧ (t.pair k).wicketOpen = true ∧ (t.pair k).served = true ∧ t.slots = s.slots ∧ t.dies = s.dies) ∧
      ((s.pair k).join = 3 → (s.pair k).leaving = true → (s.pair k).drained = true →
        ∃ t, exec (.gapWindowStart k r) s = .next t ∧ (t.pair k).wicketOpen = false ∧ (t.pair k).join = 0 ∧ (t.pair k).joined = false ∧
          t.evtBit (pageNo (ringB k)) 1 = true ∧ t.feram = s.feram) ∧
      (∀ p, p / 2 = k → p < s.ports.length → (s.pair k).join = 3 → (s.pair k).leaving = false → (s.port p).wrapped = true →
        (s.port p).unwrapDue = true →
        ∃ t, exec (.gapWindowStart k r) s = .next t ∧ (t.port p).wrapped = false ∧ t.routes = r ∧ t.evtBit (pageNo (ringB k)) 5 = true ∧
          t.feram = s.feram)) ∧
    ((s.pair k).served = true → ∃ t, exec (.gapWindowStart k r) s = .next t ∧ Quiet s t)) ∧
  (∀ (k : Nat) (s : State), k < 2 → s.runs k = true → s.gapKeeper k = false → (s.pair k).lastGap + 3 * s.gapPer k ≤ s.now →
    ((s.pair k).join = 3 → s.pairMode k ≠ 3 → s.elects k = true →
      ∃ t, exec (.gapLost k) s = .next t ∧ (t.pair k).elected = true ∧ (t.pair k).keeper = false ∧ (t.pair k).lastGap = s.now ∧
        t.evtBit (pageNo (ringB k)) 6 = true ∧ t.slots = s.slots) ∧
    ((s.pair k).join = 3 → s.pairMode k = 3 →
      ∃ t, exec (.gapLost k) s = .next t ∧ Quiet (s.modPair k (fun x => { x with lastGap := s.now })) t) ∧
    ((s.pair k).join = 1 ∨ (s.pair k).join = 2 →
      ∃ t, exec (.gapLost k) s = .next t ∧ (t.pair k).join = 3 ∧ (t.pair k).wicketOpen = true ∧ (t.pair k).lastGap = s.now ∧ t.feram = s.feram)) ∧
  (∀ (ini : Ini) (k : Nat) (s : State), k < 2 → s.takes ini (ringB k + 0x44) = true →
    ((s.pair k).join = 0 → s.runs k = true → s.pkg.testHold = false →
      (s.pairMode k = 1 ∨ s.pairMode k = 2 →
        ∃ t, exec (.join ini k) s = .next t ∧ (t.pair k).join = (if s.mer.st = 1 then 2 else 1) ∧ (t.pair k).refused = false ∧
          t.slots = s.slots ∧ t.dies = s.dies) ∧
      (s.pairMode k = 3 →
        ∃ t, exec (.join ini k) s = .next t ∧ (t.pair k).join = 3 ∧ (t.pair k).keeper = true ∧ (t.pair k).node = 0 ∧
          (t.pair k).ringId = s.rf (ringB k + 0x40) 22 16 ∧ (t.pair k).forming = true ∧ (t.pair k).wicketOpen = true ∧ t.slots = s.slots)) ∧
    (s.pairMode k = 0 ∨ (s.pair k).join ≠ 0 ∨ s.pkg.testHold = true → ∃ t, exec (.join ini k) s = .next t ∧ Quiet s t)) ∧
  (∀ (ini : Ini) (k : Nat) (s : State), k < 2 → s.takes ini (ringB k + 0x44) = true →
    ((s.pair k).joined = true →
      ∃ t, exec (.leave ini k) s = .next t ∧ Quiet (s.modPair k (fun x => { x with leaving := true, drained := false })) t) ∧
    ((s.pair k).joined = false → (s.pair k).join ≠ 0 →
      ∃ t, exec (.leave ini k) s = .next t ∧ (t.pair k).join = 0 ∧ (t.pair k).wicketOpen = false ∧ t.feram = s.feram) ∧
    ((s.pair k).joined = false → (s.pair k).join = 0 → ∃ t, exec (.leave ini k) s = .next t ∧ Quiet s t)) ∧
  (∀ (k : Nat) (s : State), s.runs k = true → (s.pair k).leaving = true →
    (s.xact.tq = [] → ∃ t, exec (.leaveDrainDone k) s = .next t ∧ Quiet (s.modPair k (fun x => { x with drained := true })) t) ∧
    (s.xact.tq ≠ [] → ∃ t, exec (.leaveDrainDone k) s = .next t ∧ Quiet s t))

/-- Transactions: an ISSUE takes a free tag, has no tag to take, or is refused for its range; a pop frees the tag of the head completion, and
an empty queue reads 0; a timeout completes, a BUSY is sent again after 5 µs, and TMO_CFG is written, but not below its floor (R344, R345, R346,
R347). The request at the head of the target queue: a READ is served and remembered, a repeat discarded, and a WRITE that the filter refuses
changes nothing (R331, R347, R349); one that reads QUEUE_LO goes after the QSPI host's read of the same CORE cycle (R254). -/
def Obligations.TransactionsAndRequests : Prop :=
  (∀ (ini : Ini) (v : Word) (s : State), s.takes ini (xactB + 0x48) = true →
    (fld v 31 30 = 1 → s.rf (xactB + 0x40) 31 31 = 0 → badRange (s.rf (xactB + 0x44) 23 0 / 4 * 4) (fld v 22 16) = false →
      s.xact.addrSet = true → s.xact.tags.length = 64 →
      (s.freeTags ≠ [] →
        ∃ t k, exec (.issue ini v) s = .next t ∧ (s.tag k).st = 0 ∧ (t.tag k).st ≠ 0 ∧ (t.tag k).epoch = ((s.tag k).epoch + 1) % 4 ∧
          t.reg (xactB + 0x4C) = mkWord [(0, k), (31, 1)] ∧ t.xact.addrSet = false ∧ t.slots = s.slots ∧ t.dies = s.dies) ∧
      (s.freeTags = [] →
        ∃ t, exec (.issue ini v) s = .next t ∧ Quiet (s.setReg (xactB + 0x4C) 0) t ∧ t.evtBit (pageNo xactB) 1 = true)) ∧
    (fld v 31 30 = 0 ∨ fld v 31 30 = 3 ∨ badRange (s.rf (xactB + 0x44) 23 0 / 4 * 4) (fld v 22 16) = true ∨ s.xact.addrSet = false →
      ∃ t, exec (.issue ini v) s = .next t ∧ Quiet s t ∧ t.evtBit (pageNo xactB) 31 = true)) ∧
  (∀ (ini : Ini) (s : State), s.serving = true → s.refusal (xactB + 0x60) = 0 →
    (∀ (c : Cpl) (r : List Cpl), s.xact.cpl = c :: r →
      ∃ t, exec (.cplPop ini) s = .next t ∧ t.xact.cpl = r ∧ (t.tag c.tag).st = 0 ∧ t.rsp = [c.lo] ∧ t.slots = s.slots ∧ t.dies = s.dies ∧ t.regs = s.regs) ∧
    (s.xact.cpl = [] →
      ∃ t, exec (.cplPop ini) s = .next t ∧ t.rsp = [0] ∧ t.evtBit (pageNo xactB) 4 = true ∧ t.xact = s.xact ∧ t.slots = s.slots ∧
        t.dies = s.dies ∧ t.regs = s.regs)) ∧
  (∀ (k : Nat) (s : State), s.serving = true → (s.tag k).st = 1 → (s.tag k).sentAt + s.rf (xactB + 0x54) 19 0 * US ≤ s.now →
    ∃ t c, exec (.xactTimeout k) s = .next t ∧ t.xact.cpl = s.xact.cpl ++ [c] ∧ c.tag = k ∧ c.status = 6 ∧ (t.tag k).st = 2 ∧
      t.rf (xactB + 0x68) 15 0 = sat 65535 (s.rf (xactB + 0x68) 15 0 + 1) ∧ t.slots = s.slots ∧ t.dies = s.dies) ∧
  (∀ (k a : Nat) (s : State), s.serving = true → (s.tag k).st = 1 → (s.tag k).busyAt = some a → a + 5 * US ≤ s.now →
    ∃ t, exec (.busyResend k) s = .next t ∧ (t.tag k).retries = (s.tag k).retries + 1 ∧ t.slots = s.slots ∧ t.dies = s.dies) ∧
  (∀ (ini : Ini) (v : Word) (s : State), s.takes ini (xactB + 0x54) = true → 10 ≤ fld v 19 0 → fld v 19 0 ≤ 1000000 →
    (s.tmoFloor (fld v 31 24) ≤ fld v 19 0 →
      ∃ t, exec (.tmoCfgWrite ini v) s = .next t ∧ Quiet (s.setReg (xactB + 0x54) (mkWord [(0, fld v 19 0), (24, fld v 31 24)])) t) ∧
    (fld v 19 0 < s.tmoFloor (fld v 31 24) →
      ∃ t, exec (.tmoCfgWrite ini v) s = .next t ∧ Quiet s t ∧ t.evtBit (pageNo xactB) 31 = true)) ∧
  (∀ (k : Nat) (f : Frame) (rest : List (Nat × Frame)) (late : Late) (s : State), s.serving = true → s.xact.tq = (k, f) :: rest →
    (s.ringPops = false ∨ s.qspiPops = false →
      (s.xact.recent.contains (f.src, f.tag, f.epoch) = true →
        ∃ t, exec (.requestServe late) s = .next t ∧ t.xact.tq = rest ∧ t.xact.recent = s.xact.recent ∧ t.slots = s.slots ∧ t.dies = s.dies) ∧
      (s.xact.recent.contains (f.src, f.tag, f.epoch) = false →
        (f.ftype = .read →
          ∃ t, exec (.requestServe late) s = .next t ∧ t.xact.tq = rest ∧ (f.src, f.tag, f.epoch) ∈ t.xact.recent ∧ t.slots = s.slots ∧ t.rsp = s.rsp) ∧
        (f.ftype = .write → s.isOwn f.src = false → s.filtered f.src = true →
          ∃ t, exec (.requestServe late) s = .next t ∧ t.xact.tq = rest ∧ t.evtBit (pageNo xactB) 5 = true ∧ t.slots = s.slots ∧ t.dies = s.dies))) ∧
    (s.ringPops = true → s.qspiPops = true → ∃ t, exec (.requestServe late) s = .next t ∧ Quiet (s.putOff (.requestServe late)) t))

/-! ## Meridian time (12_meridian_time.md) -/

/-- PPS_IN: an accepted edge is the last one, an edge out of its tolerance is reported alone, and 1.5 s without an edge lose it, and the
source of a root with it; a time source that is silent for three periods takes LOCKED to HOLDOVER (R363, R369). ARM, DISARM, REACQUIRE and
TRAIN, which is refused where it cannot run (R368, R369, R371). -/
def Obligations.TimeSourceAndServoCommands : Prop :=
  (∀ (falling : Bool) (c : Nat) (s : State), s.leadIn = true → bit (s.reg (merB + 0x88)) 31 = true → bit (s.reg (merB + 0x88)) 30 = falling →
    s.mer.train = none →
    (s.mer.ppsLast = none → s.merRole ≠ 1 →
      ∃ t, exec (.ppsInEdge falling c) s = .next t ∧ t.mer.ppsLast = some c ∧ t.mer.ppsAt = s.now ∧ t.mer.tod = none ∧
        t.mer.label = s.mer.tod.getD (s.mer.label + 1) ∧ t.mer.count = s.mer.count ∧ t.slots = s.slots ∧ t.dies = s.dies) ∧
    (∀ a, s.mer.ppsLast = some a → 250000 < ((c : Int) - a - 1000000000).natAbs →
      ∃ t, exec (.ppsInEdge falling c) s = .next t ∧ t.mer = s.mer ∧ t.evtBit (pageNo merB) 7 = true ∧ t.slots = s.slots ∧ t.dies = s.dies)) ∧
  (∀ s : State, s.inRun = true → s.mer.ppsAt + SEC + SEC / 2 ≤ s.now →
    (s.merRole ≠ 1 → ∃ t, exec .ppsInLost s = .next t ∧ Quiet { s with mer := { s.mer with ppsLast := none } } t) ∧
    (s.merRole = 1 → s.mer.st = 1 ∨ s.mer.st = 3 →
      ∃ t, exec .ppsInLost s = .next t ∧ t.mer.ppsLast = none ∧ t.mer.st = 2 ∧ t.mer.cause = 1 ∧ t.mer.count = s.mer.count ∧ t.slots = s.slots)) ∧
  (∀ s : State, s.inRun = true → s.merRole ≠ 1 → s.mer.st = 1 → s.mer.lastAt + 3 * s.timePer ≤ s.now →
    ∃ t, exec .timeSourceLost s = .next t ∧ t.mer.st = 2 ∧ t.mer.cause = 1 ∧ t.mer.count = s.mer.count ∧ t.mer.rate = s.mer.integ ∧ t.slots = s.slots) ∧
  (∀ (ini : Ini) (s : State), s.takes ini (merB + 0x50) = true → ∃ t, exec (.arm ini) s = .next t ∧ Quiet { s with mer := { s.mer with armed := true } } t) ∧
  (∀ (ini : Ini) (s : State), s.takes ini (merB + 0x50) = true → ∃ t, exec (.disarm ini) s = .next t ∧ Quiet { s with mer := { s.mer with armed := false } } t) ∧
  (∀ (ini : Ini) (s : State), s.takes ini (merB + 0x54) = true →
    ∃ t, exec (.reacquire ini) s = .next t ∧ t.mer.armed = true ∧ t.mer.fit = [] ∧ t.mer.fitDone = false ∧ t.mer.count = s.mer.count ∧
      t.mer.st = (if s.merRole = 2 then 2 else 0) ∧ t.slots = s.slots) ∧
  (∀ (ini : Ini) (s : State), s.takes ini (merB + 0x54) = true →
    (∀ p, s.mer.port = some p → s.mer.st = 1 → s.merRole ≠ 1 → s.rf (merB + 0x88) 31 31 = 1 → (s.port p).nbState = 1 →
      ∃ t, exec (.train ini) s = .next t ∧ Quiet { s with mer := { s.mer with
        train := some { port := p, left := s.rf (merB + 0x140) 7 0, edges := [], at_ := s.now }, trainStat := 2 ^ 31 + p * 2 ^ 24 } } t) ∧
    (s.mer.port = none ∨ s.mer.st ≠ 1 ∨ s.merRole = 1 ∨ s.rf (merB + 0x88) 31 31 ≠ 1 →
      ∃ t, exec (.train ini) s = .next t ∧ Quiet s t ∧ t.evtBit (pageNo merB) 31 = true))

/-- The neighbour exchange: a probe leaves with its own stamp, an ECHO answers one, the four stamps give the offset and the
delay, and a tapped probe gives an offset one way; a frame whose check fails has no effect, and an ECHO that answers no probe gives no sample
(R364, R365, R366). Host probes, refused on a port that is not UP, and their stamps (R377). A frame that does not clear a gap window is kept
back for its end (R334). -/
def Obligations.TimeProbesAndEchoes : Prop :=
  (∀ (p t1 : Nat) (f : Frame) (s : State), s.portUp p = true → (∀ a, (s.port p).probeAt = some a → a + s.timePer ≤ s.now) →
    f = s.timeFrame 1 (stampBytes t1 ++ [s.merSteps, s.merByte]) →
    ∃ t, exec (.timeProbeSend p t1) s = .next t ∧ (t.port p).probeT1 = some t1 ∧ (t.port p).probeAt = some s.now ∧ t.slots = s.slots ∧ t.dies = s.dies ∧
      if s.clearsWindow (p / 2) s.now f.size then (s.now, Out.frame p f) ∈ t.outbox else Out.frame p f ∈ (t.port p).kept) ∧
  (∀ (p t1 t2 t3 steps st q : Nat) (s : State), s.portUp p = true →
    ∃ t a b f, exec (.probeReceive p t1 t2 t3 steps st q true) s = .next t ∧ (t.port p).nbSteps = steps ∧ (t.port p).nbState = st ∧
      f = s.timeFrame 2 (stampBytes t1 ++ stampBytes t2 ++ stampBytes t3 ++ [a, b]) ∧ t.slots = s.slots ∧ t.dies = s.dies ∧
      if s.clearsWindow (p / 2) s.now f.size then (s.now, Out.frame p f) ∈ t.outbox else Out.frame p f ∈ (t.port p).kept) ∧
  (∀ (p t1 t2 t3 t4 steps st q : Nat) (r : Routes) (s : State), s.portUp p = true →
    ((s.port p).probeT1 = some t1 → t3 ≤ t2 + 50000 → t4 ≤ t1 + 100000 →
      ∃ t, exec (.echoReceive p t1 t2 t3 t4 steps st q true r) s = .next t ∧ (t.port p).heardAt = some s.now ∧
        (t.port p).delays.head? = some ((((t4 : Int) - t1) - ((t3 : Int) - t2)) * 500) ∧
        (t.port p).theta = (((t2 : Int) - t1) - ((t4 : Int) - t3)) * 500 - s.portAsym p ∧ t.feram = s.feram ∧ ∀ n, (t.slot n).st = (s.slot n).st) ∧
    ((s.port p).probeT1 ≠ some t1 →
      ∃ t, exec (.echoReceive p t1 t2 t3 t4 steps st q true r) s = .next t ∧ (t.port p).delays = (s.port p).delays ∧
        (t.port p).theta = (s.port p).theta ∧ (t.port p).nbSteps = steps ∧ t.mer.offset = s.mer.offset ∧ t.mer.count = s.mer.count ∧ t.slots = s.slots)) ∧
  (∀ (p t1 t2 steps st q : Nat) (s : State), p < s.ports.length → s.runs (p / 2) = true → (s.pair (p / 2)).join = 1 → (s.pair (p / 2)).wicketOpen = false →
    steps ≠ 255 → s.merRole = 0 → s.mer.refLost = false → s.hearsTime (if p % 2 == 0 then p + 1 else p - 1) = false → (s.port p).delays = [] →
    ∃ t, exec (.tappedProbe p t1 t2 steps st q true) s = .next t ∧ (t.port p).theta = ((t2 : Int) - t1) * 1000 ∧ t.mer.offset = ((t2 : Int) - t1) * 1000 ∧
      t.mer.lastAt = s.now ∧ t.slots = s.slots) ∧
  (∀ (p t1 t2 t3 t4 steps st q id src : Nat) (r : Routes) (i : Instr) (s : State),
    i = .probeReceive p t1 t2 t3 steps st q false ∨ i = .echoReceive p t1 t2 t3 t4 steps st q false r ∨ i = .tappedProbe p t1 t2 steps st q false ∨
      i = .hostProbeReceive p t2 id src false →
    ∃ t, exec i s = .next t ∧ Quiet s t) ∧
  (∀ (ini : Ini) (v : Word) (t1 : Nat) (f : Frame) (s : State), s.takes ini (merB + 0xA0) = true →
    (s.portUp (fld v 17 16) = true → f = s.timeFrame 3 (stampBytes t1 ++ [fld v 7 0, 0]) →
      ∃ t, exec (.hostProbe ini v t1) s = .next t ∧
        (if s.clearsWindow (fld v 17 16 / 2) s.now f.size then (s.now, Out.frame (fld v 17 16) f) ∈ t.outbox
          else Out.frame (fld v 17 16) f ∈ (t.port (fld v 17 16)).kept) ∧ t.slots = s.slots ∧ t.dies = s.dies ∧
        (s.mer.txs.length < 8 → t.mer = { s.mer with txs := s.mer.txs ++ [(t1, fld v 17 16, fld v 7 0)] } ∧ t.regs = s.regs) ∧
        (8 ≤ s.mer.txs.length → t.mer = s.mer ∧ t.evtBit (pageNo merB) 6 = true)) ∧
    (s.portUp (fld v 17 16) = false →
      ∃ t, exec (.hostProbe ini v t1) s = .next t ∧ Quiet s t ∧ t.evtBit (pageNo merB) 31 = true)) ∧
  (∀ (p t2 id src : Nat) (s : State), s.portUp p = true →
    ∃ t, exec (.hostProbeReceive p t2 id src true) s = .next t ∧ t.reg (merB + 0xC0 + 16 * p) = BitVec.ofNat 32 (t2 % 1000000000) ∧
      t.reg (merB + 0xC4 + 16 * p) = BitVec.ofNat 32 (t2 / 1000000000) ∧ t.reg (merB + 0xCC + 16 * p) = BitVec.ofNat 32 (src % 16384) ∧
      t.evtBit (pageNo merB) 12 = true ∧ t.mer = s.mer ∧ t.slots = s.slots ∧ t.dies = s.dies) ∧
  (∀ (ini : Ini) (s : State), s.serving = true → s.refusal (merB + 0xA4) = 0 →
    (∀ (a p id : Nat) (r : List (Nat × Nat × Nat)), s.mer.txs = (a, p, id) :: r →
      ∃ t, exec (.txsPop ini) s = .next t ∧ t.mer = { s.mer with txs := r } ∧ t.rsp = [BitVec.ofNat 32 (a % 1000000000)] ∧ t.slots = s.slots ∧ t.regs = s.regs) ∧
    (s.mer.txs = [] →
      ∃ t, exec (.txsPop ini) s = .next t ∧ t.mer = s.mer ∧ t.rsp = [0] ∧ t.slots = s.slots ∧ t.regs = s.regs))

/-- The scheduled timers, of which a single occurrence that has passed fires late, in a later CORE cycle, and PPS_OUT (R375, R376). -/
def Obligations.TimersAndPulseOutput : Prop :=
  (∀ (ini : Ini) (n : Nat) (v : Word) (s : State), n < 16 → s.mer.timers.length = 16 → s.takes ini (tmrB n + 0x10) = true →
    ∃ t, exec (.tmrCfgWrite ini n v) s = .next t ∧ (t.tmr n).active = bit v 31 ∧
      (bit v 31 = true → (t.tmr n).start = (s.rf (tmrB n + 8) 15 0 * 2 ^ 32 + (s.reg (tmrB n + 4)).toNat) * 1000000000 + s.rf (tmrB n) 29 0 ∧
        (t.tmr n).period = (s.reg (tmrB n + 0xC)).toNat) ∧
      (∀ m, m ≠ n → t.tmr m = s.tmr m) ∧ t.slots = s.slots ∧ t.dies = s.dies) ∧
  (∀ (n : Nat) (s : State), s.inRun = true → (s.tmr n).active = true →
    (if (s.tmr n).lateNow then (s.tmr n).setAt < s.now else (s.tmr n).next ≤ s.nowNs) →
    ∃ t, exec (.timerFire n) s = .next t ∧ (t.tmr n).k = (s.tmr n).k + 1 ∧ (t.tmr n).fires = ((s.tmr n).fires + 1) % 2 ^ 24 ∧
      (t.tmr n).late = (s.tmr n).lateNow ∧ (t.tmr n).active = decide ((s.tmr n).period ≠ 0) ∧ t.slots = s.slots ∧ t.dies = s.dies) ∧
  (∀ s : State, s.inRun = true → (s.mer.ppsNext : Int) ≤ s.ppsSec →
    ∃ t, exec .ppsOutPulse s = .next t ∧ t.mer = { s.mer with ppsNext := (s.ppsSec + 1).toNat } ∧
      (s.ppsGate = true → s.rf (merB + 0x94) 24 24 = 0 → (s.now, s.ppsPulse) ∈ t.outbox) ∧ t.slots = s.slots ∧ t.dies = s.dies ∧ t.regs = s.regs)

/-! ## The Nursery (13_nursery.md) -/

/-- APPROVE excludes the comparator copy that the head request names and DECLINE starts its count from zero; either way the
request leaves the queue, and with none waiting, or another named, the write is refused (R385, R387). RESTORE_ROLE, READMIT_CMP and RESET_WEAR
on a slot; FAIL_MOD of a spare modulator; the end of a swap's parallel run (R386, R387, R388, R393). MOVE_LEAD names the die that takes the lead
role, the hand-over drops what the lead die alone held, and the wear counters are saved every SAVE seconds (R392, R393). -/
def Obligations.NurseryOperationsAndLeadMove : Prop :=
  (∀ (ini : Ini) (v : Word) (n : Nat) (s : State), s.takesLocked ini nursCmdA = true → fld (setFld v 31 28 3) 14 8 = n → fld (setFld v 31 28 3) 31 28 = 3 →
    (s.idleSlot n = true → s.backup n = true → (s.slot n).role = true →
      ∃ t, exec (.restoreRole ini v) s = .next t ∧ (t.slot n).role = false ∧ (t.slot n).st = (s.slot n).st ∧ t.regs = s.regs ∧ SlotOnly n s t) ∧
    (s.idleSlot n = false ∨ (s.slot n).role = false →
      ∃ t, exec (.restoreRole ini v) s = .next t ∧ Quiet s t ∧ t.evtBit (pageNo nursB) 31 = true)) ∧
  (∀ (ini : Ini) (v : Word) (n c : Nat) (s : State), s.takesLocked ini nursCmdA = true → fld (setFld v 31 28 4) 14 8 = n → fld (setFld v 31 28 4) 3 0 = c →
    fld (setFld v 31 28 4) 31 28 = 4 → s.idleSlot n = true → c < 4 →
    (nbit (s.excl n) c = true →
      ∃ t, exec (.readmitCmp ini v) s = .next t ∧ nbit (t.excl n) c = false ∧ (t.slot n).lone = (s.slot n).lone.set c 0 ∧ SlotOnly n s t) ∧
    (nbit (s.excl n) c = false →
      ∃ t, exec (.readmitCmp ini v) s = .next t ∧ Quiet s t ∧ t.evtBit (pageNo nursB) 31 = true)) ∧
  (∀ (ini : Ini) (v : Word) (n : Nat) (s : State), s.takesLocked ini nursCmdA = true → fld (setFld v 31 28 7) 14 8 = n →
    fld (setFld v 31 28 7) 31 28 = 7 → s.slotHere n = true →
    (fld (setFld v 31 28 7) 3 0 = 0 → ∃ t, exec (.resetWear ini v) s = .next t ∧ (t.slot n).eA.cycles = 0 ∧ t.regs = s.regs ∧ SlotOnly n s t) ∧
    (fld (setFld v 31 28 7) 3 0 = 1 → ∃ t, exec (.resetWear ini v) s = .next t ∧ (t.slot n).eB.cycles = 0 ∧ t.regs = s.regs ∧ SlotOnly n s t) ∧
    (fld (setFld v 31 28 7) 3 0 = 2 →
      ∃ t, exec (.resetWear ini v) s = .next t ∧ (t.slot n).wear.trips = 0 ∧ (t.slot n).wear.inserts = 0 ∧ (t.slot n).wear.disagree = 0 ∧
        t.regs = s.regs ∧ SlotOnly n s t)) ∧
  (∀ (ini : Ini) (v : Word) (d m : Nat) (s : State), s.takesLocked ini nursCmdA = true → fld (setFld v 31 28 6) 18 16 = d → fld (setFld v 31 28 6) 14 8 = m →
    fld (setFld v 31 28 6) 31 28 = 6 → s.runs d = true → m < 38 → (s.die d).belv.mods.length = 38 → s.modIdx d m = 34 → s.modState d m = 0 → (s.die d).belv.roll = none →
    ∃ t, exec (.failMod ini v) s = .next t ∧ t.modState d m = 3 ∧ t.slots = s.slots ∧ t.regs = s.regs) ∧
  (∀ (d : Nat) (diff : Int) (r : SwapRun) (s : State), (s.die d).belv.swap = some r → s.runs d = true → r.handing = false →
    r.at_ + (if r.idx == 33 then 51600 else 64 * s.period) ≤ s.now →
    ∃ t, exec (.modSwapParallelEnd d true diff) s = .next t ∧ Quiet (s.modBelv d (fun b => { b with swap := some { r with handing := true, diff := diff } })) t) ∧
  (∀ (ini : Ini) (v : Word) (d : Nat) (s : State), s.takesLocked ini nursCmdA = true → fld (setFld v 31 28 5) 18 16 = d → fld (setFld v 31 28 5) 31 28 = 5 →
    (d < 2 → d ≠ s.pkg.lead → s.runs d = true →
      ∃ t, exec (.moveLead ini v) s = .next t ∧ Quiet { s with pkg := { s.pkg with hand := some d, handLost := false } } t) ∧
    (2 ≤ d ∨ d = s.pkg.lead ∨ s.runs d = false →
      ∃ t, exec (.moveLead ini v) s = .next t ∧ Quiet s t ∧ t.evtBit (pageNo nursB) 31 = true)) ∧
  (∀ (d : Nat) (s : State), s.pkg.hand = some d → s.pkg.handLost = false → s.inRun = true → s.runs d = true →
    ∃ t, exec .leadHandoverDone s = .next t ∧ t.pkg.lead = d ∧ t.pkg.hand = none ∧ t.nurs = [] ∧ t.shadow = [] ∧ t.xact.cpl = [] ∧ t.qport.rxq = [] ∧
      t.slots = s.slots ∧ t.feram = s.feram) ∧
  (∀ s : State, s.inRun = true → s.pkg.wearAt + s.rf (nursB + 0x50) 11 0 * SEC ≤ s.now →
    ∃ t, exec .wearSave s = .next t ∧ t.pkg.wearAt = s.now ∧ t.slots = s.slots ∧
      ((∀ d, s.present d = true → s.feramBlocked d = true) → t.feram = s.feram ∧ t.dies = s.dies ∧ t.regs = s.regs) ∧
      (s.presentDies = [0] → s.feramBlocked 0 = false → (∀ r, mget 0 (s.die 0).rowWear r + 1 < rowLimit) → (s.slot 0).wear.trips < 2 ^ 32 →
        t.regs = s.regs ∧ unle (t.keepRead 0 0x4C 4) = (s.slot 0).wear.trips)) ∧
  (∀ (ini : Ini) (v : Word) (r : NReq) (rest : List NReq) (s : State), s.takesLocked ini nursCmdA = true → s.nurs = r :: rest →
    r.named (setFld v 31 28 1) = true → r.kind = 1 → r.sub < 4 → nbit (s.excl r.inst) (if r.sub % 2 == 0 then r.sub + 1 else r.sub - 1) = false →
    ∃ t, exec (.approve ini v) s = .next t ∧ t.nurs = rest ∧ nbit (t.excl r.inst) r.sub = true ∧ (t.slot r.inst).st = (s.slot r.inst).st ∧
      GatesKept s t r.inst ∧ (∀ m, m ≠ r.inst → t.slot m = s.slot m) ∧ t.feram = s.feram) ∧
  (∀ (ini : Ini) (v : Word) (r : NReq) (rest : List NReq) (s : State), s.takesLocked ini nursCmdA = true → s.nurs = r :: rest →
    r.named (setFld v 31 28 2) = true → r.kind = 1 →
    ∃ t, exec (.decline ini v) s = .next t ∧ t.nurs = rest ∧ (t.slot r.inst).lone = (s.slot r.inst).lone.set r.sub 0 ∧ t.regs = s.regs ∧ SlotOnly r.inst s t) ∧
  (∀ (ini : Ini) (v : Word) (s : State), s.takesLocked ini nursCmdA = true →
    (s.nurs = [] ∨ (∃ r rest, s.nurs = r :: rest ∧ r.named (setFld v 31 28 1) = false) →
      ∃ t, exec (.approve ini v) s = .next t ∧ Quiet s t ∧ t.evtBit (pageNo nursB) 31 = true) ∧
    (s.nurs = [] ∨ (∃ r rest, s.nurs = r :: rest ∧ r.named (setFld v 31 28 2) = false) →
      ∃ t, exec (.decline ini v) s = .next t ∧ Quiet s t ∧ t.evtBit (pageNo nursB) 31 = true))

/-! ## Configuration, store and log (14_config_store_log.md) -/

/-- SAVE and COMMIT start a save, OPEN_STAGE and ABORT open and close the stage, a window write lands in it, and SAVE_DONE
ends the save, after the log records that wait and with no FeRAM blocked (R173, R403, R404, R411, R412, R413). SAVE with a stage open ends BUSY; COMMIT and ABORT without one,
OPEN_STAGE over one, and a window write outside it are refused (R404, R411, R412). -/
def Obligations.ConfigurationStore : Prop :=
  (∀ (ini : Ini) (s : State), s.takesLocked ini (cfgB + 0x48) = true →
    (s.cfg.stage = none → s.saveBar s.saveRecs.length = 0 →
      ∃ t v, exec (.save ini) s = .next t ∧ t.cfg = { s.cfg with save := some v } ∧ v.op = 1 ∧ v.seq = s.newestSeq + 1 ∧ v.copy = s.stageOf ∧
        v.records = s.saveRecs.length ∧ t.feram = s.feram) ∧
    (s.cfg.stage ≠ none →
      ∃ t, exec (.save ini) s = .next t ∧ t.cfg = { s.cfg with result := 2 * 2 ^ 16 + 2 ^ 24 } ∧ t.evtBit (pageNo cfgB) 2 = true ∧ t.feram = s.feram) ∧
    (s.cfg.stage = none → s.cfg.save = none →
      ∃ t, exec (.openStage ini) s = .next t ∧ Quiet { s with cfg := { s.cfg with stage := some [], stageCopy := s.stageOf } } t) ∧
    (s.cfg.stage ≠ none → s.cfg.save = none →
      ∃ t, exec (.openStage ini) s = .next t ∧ Quiet s t ∧ t.evtBit (pageNo cfgB) 31 = true) ∧
    (s.cfg.stage ≠ none → s.saveBar 0 = 0 → imgStatus s.ident.part.code s.ident.uid s.stageImage = 0 → s.newestSeq < imgSeq s.stageImage →
      ∃ t v, exec (.commitStage ini) s = .next t ∧ t.cfg = { s.cfg with save := some v } ∧ v.op = 2 ∧ v.copy = s.cfg.stageCopy ∧ v.image = s.stageImage ∧
        t.feram = s.feram) ∧
    (s.cfg.stage = none → ∃ t, exec (.commitStage ini) s = .next t ∧ Quiet s t ∧ t.evtBit (pageNo cfgB) 31 = true) ∧
    (s.cfg.stage ≠ none → ∃ t, exec (.abort ini) s = .next t ∧ Quiet { s with cfg := { s.cfg with stage := none } } t) ∧
    (s.cfg.stage = none → ∃ t, exec (.abort ini) s = .next t ∧ Quiet s t ∧ t.evtBit (pageNo cfgB) 31 = true)) ∧
  (∀ (ini : Ini) (a : Nat) (v : Word) (l : Loc) (s : State), locate a = some l → l.blk = .feram → s.serving = true → s.refusal a = 0 →
    (∀ (o : Nat) (m : List (Nat × Byte)), s.stageOff a = some o → s.cfg.stage = some m →
      ∃ t, exec (.stageWindowWrite ini a v) s = .next t ∧ Quiet { s with cfg := { s.cfg with stage := some (writeBytes (le 4 v.toNat) (o / 4 * 4) m) } } t) ∧
    (s.stageOff a = none → ∃ t, exec (.stageWindowWrite ini a v) s = .next t ∧ Quiet s t ∧ t.evtBit (pageNo cfgB) 3 = true)) ∧
  (∀ (v : Save) (s : State), s.cfg.save = some v → s.inRun = true →
    (s.storeDies.any s.logWaits = false → s.storeDies.any s.feramBlocked = false →
      (∃ t, exec (.saveDone true) s = .next t ∧ t.cfg.save = none ∧ t.slots = s.slots ∧
        ((∀ d r, mget 0 (s.die d).rowWear r + 1 < rowLimit) →
          t.cfg.result = v.records + (if s.storeDies.length = 2 then 0 else 1) * 2 ^ 16 + v.op * 2 ^ 24)) ∧
      (∃ t, exec (.saveDone false) s = .next t ∧ t.cfg.save = none ∧ t.slots = s.slots ∧ t.cfg.result = 12 * 2 ^ 16 + v.op * 2 ^ 24)) ∧
    (s.storeDies.any s.logWaits = true ∨ s.storeDies.any s.feramBlocked = true → ∃ t, exec (.saveDone true) s = .next t ∧ Quiet s t))

/-- The oldest record of a die's queue is written at NEXT, its read-back differing at most once, and reads there; the coalesced record is written
out, a record is read, and the log is cleared up to NEXT, unless the FeRAM is barred (R418, R419, R421, R422, R423). A snapshot is complete with
its 2,048 samples from the trip, and its buffer is free once it is saved, which waits for the log records and for 32 µs a row (R147, R148, R403, R424). -/
def Obligations.LogAndSnapshots : Prop :=
  (∀ (d fails : Nat) (r : Rec) (rest : List Rec) (s : State), (s.die d).log.queue = r :: rest → s.present d = true → s.feramBlocked d = false →
    fails ≤ 1 → mget 0 (s.die d).rowWear ((logBase d + 32 * (s.die d).log.next) / 64) + 1 + fails < rowLimit →
    ∃ t, exec (.feramRowWrite d fails) s = .next t ∧ (t.die d).log.queue = rest ∧ (t.die d).log.next = ((s.die d).log.next + 1) % 4096 ∧
      (t.die d).log.count = sat 4096 ((s.die d).log.count + 1) ∧ t.evtBit (pageNo logB) 0 = true ∧ t.slots = s.slots ∧
      mget 0 (t.die d).rowWear ((logBase d + 32 * (s.die d).log.next) / 64) =
        mget 0 (s.die d).rowWear ((logBase d + 32 * (s.die d).log.next) / 64) + 1 + fails ∧
      (r.data.length = 12 →
        t.logicalRead d (logBase d + 32 * (s.die d).log.next) 32 = (r.bytes d).map (· % 256))) ∧
  (∀ (d : Nat) (r : Rec) (s : State), (s.die d).log.coal = some r → s.runs d = true → r.at_ + s.rf (logB + 0x40) 13 0 * MS ≤ s.now →
    ∃ t, exec (.coalesceFlush d) s = .next t ∧ (t.die d).log.coal = none ∧ t.slots = s.slots ∧ t.feram = s.feram ∧ t.regs = s.regs) ∧
  (∀ (ini : Ini) (s : State), s.serving = true → s.refusal (logB + 0x48) = 0 → bit (s.reg (logB + 0x44)) 31 = true →
    ∃ t, exec (.logRead ini) s = .next t ∧ t.rsp.length = 1 ∧ t.rf (logB + 0x44) 11 0 = (s.rf (logB + 0x44) 11 0 + 1) % 4096 ∧ t.slots = s.slots ∧
      t.dies = s.dies ∧ t.feram = s.feram) ∧
  (∀ (ini : Ini) (mask d : Nat) (s : State), s.takesLocked ini (logB + 0x70) = true → s.present d = true → nbit mask d = true →
    ((s.presentDies.filter (nbit mask)).any s.feramBlocked = false →
      ∃ t, exec (.logClear ini mask) s = .next t ∧ (t.die d).log.count = 0 ∧ (t.die d).log.oldest = (s.die d).log.next ∧ t.slots = s.slots) ∧
    ((s.presentDies.filter (nbit mask)).any s.feramBlocked = true →
      ∃ t, exec (.logClear ini mask) s = .next t ∧ Quiet s t ∧ t.evtBit (pageNo logB) 31 = true)) ∧
  (∀ (d b : Nat) (sn : Snap) (s : State), (s.die d).snaps.getD b none = some sn → s.runs d = true → 2048 ≤ sn.post →
    ∃ t, exec (.snapshotComplete d b) s = .next t ∧ (t.die d).snaps.getD b none = some { sn with full := true, fullAt := s.now } ∧ t.slots = s.slots ∧
      t.feram = s.feram ∧ t.regs = s.regs) ∧
  (∀ (d b : Nat) (sn : Snap) (s : State), (s.die d).snaps.getD b none = some sn → s.runs d = true → s.feramBlocked d = false → sn.full = true →
    (s.logWaits d = false → s.snapSpaced d sn = true → (∀ r, mget 0 (s.die d).rowWear r + 1 < rowLimit) →
      ∃ t, exec (.snapshotSaved d b) s = .next t ∧ (t.die d).snaps.getD b none = none ∧ (t.die d).last = (s.die d).last.set b (some sn) ∧
        (t.die d).log.snapSlot = ((s.die d).log.snapSlot + 1) % snapSlots d ∧ t.slots = s.slots) ∧
    (s.logWaits d = true ∨ s.snapSpaced d sn = false → ∃ t, exec (.snapshotSaved d b) s = .next t ∧ Quiet s t))

/-! ## Modes and the host interface (15_reset_states_modes.md, 16_pins_host_electrical.md) -/

/-- A mode is requested (R446). QSPI frames in RUN, while a die serves the host: a READ answers as many words as asked, a WRITE of one word of
the PKG page is that register's write, WIDTH_RESET selects one line, and the two errors are counted (R460, R461, R464). The test port: an access
outside RUN does not complete, one in RUN is the QSPI host's, and an instruction that holds the pins closes both Wickets and trips every slot with
a gate driven up on the HARD path, until another is loaded (R465, R466, R467). -/
def Obligations.ModeHostAndTestPort : Prop :=
  (∀ (ini : Ini) (v : Word) (s : State), s.takes ini (modeB + 0x40) = true →
    ∃ t, exec (.modeRequest ini v) s = .next t ∧
      Quiet { s.setReg (modeB + 0x40) (mkWord [(0, fld v 2 0)]) with pkg := { s.pkg with modeReq := some (fld v 2 0) } } t) ∧
  (∀ (m : Bool) (s : State), s.inRun = true → s.pkg.hand.isSome = true ∨ s.present s.pkg.lead = true →
    (∀ (a n : Nat) (late : Late), ∃ t, exec (.read m a n late) s = .next t ∧ t.rsp.length = n ∧ t.pkg.mode3 = m) ∧
    (∃ t, exec (.widthReset m) s = .next t ∧ t.reg (hostB + 0x40) = 0 ∧ t.pkg.width = 0 ∧ t.rsp = [] ∧ t.slots = s.slots ∧ t.dies = s.dies) ∧
    (∃ t, exec (.cmdErr m) s = .next t ∧ t.rf (hostB + 0x48) 15 0 = sat 65535 (s.rf (hostB + 0x48) 15 0 + 1) ∧ t.evtBit (pageNo hostB) 1 = true ∧
      t.slots = s.slots ∧ t.dies = s.dies) ∧
    (∀ (wr : Bool) (a : Nat), ∃ t, exec (.frameErr m wr a [] []) s = .next t ∧
      t.rf (hostB + 0x48) 31 16 = sat 65535 (s.rf (hostB + 0x48) 31 16 + 1) ∧ t.evtBit (pageNo hostB) 0 = true ∧ t.slots = s.slots ∧ t.dies = s.dies)) ∧
  (∀ (m : Bool) (a : Nat) (v : Word) (l : Loc) (r : Row) (s : State), s.inRun = true → locate (a / 4 * 4) = some l → l.blk = .pkg → 0x40 ≤ l.off →
    rowAt l = some r → r.acc = .rw → s.takes .qspi (a / 4 * 4) = true → lockedFor l r v = false →
    ∃ t, exec (.write m a [v] []) s = .next t ∧ t.reg (pkgB + l.off) = (r.merge (s.reg (pkgB + l.off)) v).1 ∧ t.pkg.mode3 = m ∧ t.slots = s.slots ∧ t.dies = s.dies) ∧
  (∀ (wr : Bool) (a : Nat) (v : Word) (late : Late) (s : State), s.pkg.phase ≠ .powerOff → s.inRun = false →
    ∃ t, exec (.regaccess wr a v late) s = .next t ∧ Quiet { s with pkg := { s.pkg with dr := drWord false a v } } t) ∧
  (∀ (a : Nat) (v : Word) (late : Late) (s : State), s.inRun = true →
    (∃ t, exec (.regaccess false a v late) s = .next t ∧ t.pkg.dr = drWord true a (t.rsp.headD 0) ∧ t.slots = s.slots) ∧
    (∃ t, exec (.regaccess true a v late) s = .next t ∧ t.pkg.dr = drWord t.inRun a v)) ∧
  (∀ (c : Nat) (s : State), s.pkg.phase ≠ .powerOff →
    (s.pkg.testHold = false → holdsSlots (testCode c) = true →
      ∃ t, exec (.testInstructionLoad c) s = .next t ∧ t.pkg.testInstr = testCode c ∧ t.pkg.testHold = true ∧ t.feram = s.feram ∧
        t.pairAB.wicketOpen = false ∧ t.pairCD.wicketOpen = false ∧
        ∀ n, s.gateUp n = true → (s.slot n).st ≠ .holdthru →
          (t.slot n).st = .tripped ∧ (t.slot n).trip.cause = 0xF ∧ (t.slot n).gA = (s.slot n).gA.pull s.now true) ∧
    (holdsSlots (testCode c) = false →
      ∃ t, exec (.testInstructionLoad c) s = .next t ∧
        Quiet { s with pkg := { s.pkg with testInstr := testCode c, testHold := false } } t) ∧
    (s.pkg.testHold = true → holdsSlots (testCode c) = true →
      ∃ t, exec (.testInstructionLoad c) s = .next t ∧ Quiet { s with pkg := { s.pkg with testInstr := testCode c } } t))
end

