-- ==== Sys2Proof/Laws/Maps.lean ====
section
/-! SUPPORT. The sparse maps that State is built from: reading after writing, and that a write keeps the canonical form. -/
namespace Sys2Proof

@[simp] theorem mget_nil {α : Type} (d : α) (k : Nat) : mget d [] k = d := rfl

theorem mget_cons {α : Type} (d : α) (e : Nat × α) (m : List (Nat × α)) (k : Nat) :
    mget d (e :: m) k = if e.1 = k then e.2 else mget d m k := by
  unfold mget
  by_cases h : e.1 = k <;> simp [h]

theorem mget_filter_ne {α : Type} (d : α) (m : List (Nat × α)) {j k : Nat} (h : k ≠ j) :
    mget d (m.filter (fun e => !(e.1 == j))) k = mget d m k := by
  induction m with
  | nil => rfl
  | cons e m ih =>
    by_cases he : e.1 = j
    · have : ¬ e.1 = k := fun hk => h (hk.symm.trans he)
      simp [he, mget_cons, ih, Ne.symm h]
    · simp [he, mget_cons, ih]

theorem mget_filter_self {α : Type} (d : α) (m : List (Nat × α)) (k : Nat) :
    mget d (m.filter (fun e => !(e.1 == k))) k = d := by
  induction m with
  | nil => rfl
  | cons e m ih => by_cases he : e.1 = k <;> simp [he, mget_cons, ih]

theorem mget_minsert {α : Type} (d v : α) (j k : Nat) (m : List (Nat × α)) (h : ∀ e ∈ m, e.1 ≠ j) :
    mget d (minsert j v m) k = if j = k then v else mget d m k := by
  induction m with
  | nil => simp [minsert, mget_cons]
  | cons e m ih =>
    unfold minsert
    split
    · simp [mget_cons]
    · have he : e.1 ≠ j := h e (by simp)
      have hm : ∀ x ∈ m, x.1 ≠ j := fun x hx => h x (by simp [hx])
      rw [mget_cons, ih hm, mget_cons]
      by_cases hk : e.1 = k
      · have : ¬ j = k := fun hj => he (hk.trans hj.symm)
        simp [hk, this]
      · simp [hk]

/-- Reading the key just written gives the value written. -/
@[simp] theorem mget_mset_self {α : Type} [DecidableEq α] (d : α) (m : List (Nat × α)) (k : Nat) (v : α) :
    mget d (mset d m k v) k = v := by
  unfold mset
  by_cases hv : v = d
  · simp [hv, mget_filter_self]
  · simp only [hv, if_false]
    rw [mget_minsert]
    · simp
    · intro e he
      have h := (List.mem_filter.mp he).2
      simpa using h

/-- A write leaves every other key as it was. -/
theorem mget_mset_ne {α : Type} [DecidableEq α] (d : α) (m : List (Nat × α)) {j k : Nat} (v : α) (h : k ≠ j) :
    mget d (mset d m j v) k = mget d m k := by
  unfold mset
  by_cases hv : v = d
  · simp [hv, mget_filter_ne d m h]
  · simp only [hv, if_false]
    rw [mget_minsert]
    · simp [Ne.symm h, mget_filter_ne d m h]
    · intro e he
      have h := (List.mem_filter.mp he).2
      simpa using h

theorem mget_mset {α : Type} [DecidableEq α] (d : α) (m : List (Nat × α)) (j k : Nat) (v : α) :
    mget d (mset d m j v) k = if k = j then v else mget d m k := by
  by_cases h : k = j
  · subst h; simp
  · simp [h, mget_mset_ne d m v h]

/-! ## The canonical form -/

@[simp] theorem mwf_nil {α : Type} [DecidableEq α] (d : α) : mwf d [] = true := rfl

theorem mkeysRising_iff {α : Type} (m : List (Nat × α)) : mkeysRising m = true ↔ m.Pairwise (fun a b => a.1 < b.1) := by
  induction m with
  | nil => simp [mkeysRising]
  | cons a m ih =>
    cases m with
    | nil => simp [mkeysRising]
    | cons b r =>
      rw [mkeysRising, Bool.and_eq_true, decide_eq_true_eq, ih, List.pairwise_cons (a := a)]
      constructor
      · rintro ⟨hab, h⟩
        refine ⟨fun x hx => ?_, h⟩
        rcases List.mem_cons.mp hx with rfl | hx
        · exact hab
        · exact Nat.lt_trans hab ((List.pairwise_cons.mp h).1 x hx)
      · rintro ⟨ha, h⟩
        exact ⟨ha b (by simp), h⟩

theorem mnoDefault_iff {α : Type} [DecidableEq α] (d : α) (m : List (Nat × α)) :
    mnoDefault d m = true ↔ ∀ e ∈ m, e.2 ≠ d := by
  simp [mnoDefault, List.all_eq_true]

theorem mwf_iff {α : Type} [DecidableEq α] (d : α) (m : List (Nat × α)) :
    mwf d m = true ↔ m.Pairwise (fun a b => a.1 < b.1) ∧ ∀ e ∈ m, e.2 ≠ d := by
  rw [mwf, Bool.and_eq_true, mkeysRising_iff, mnoDefault_iff]

/-- Leaving entries out keeps the form. -/
theorem mwf_filter {α : Type} [DecidableEq α] (d : α) (m : List (Nat × α)) (p : Nat × α → Bool) (h : mwf d m = true) :
    mwf d (m.filter p) = true := by
  rw [mwf_iff] at *
  exact ⟨h.1.filter p, fun e he => h.2 e (List.mem_filter.mp he).1⟩

theorem mem_minsert {α : Type} {k : Nat} {v : α} {m : List (Nat × α)} {e : Nat × α} (h : e ∈ minsert k v m) :
    e = (k, v) ∨ e ∈ m := by
  induction m with
  | nil => simpa [minsert] using h
  | cons a m ih =>
    unfold minsert at h
    split at h
    · rcases List.mem_cons.mp h with h | h
      · exact .inl h
      · exact .inr h
    · rcases List.mem_cons.mp h with h | h
      · exact .inr (by simp [h])
      · rcases ih h with h | h
        · exact .inl h
        · exact .inr (by simp [h])

theorem minsert_rising {α : Type} (k : Nat) (v : α) (m : List (Nat × α)) (h : m.Pairwise (fun a b => a.1 < b.1))
    (hk : ∀ e ∈ m, e.1 ≠ k) : (minsert k v m).Pairwise (fun a b => a.1 < b.1) := by
  induction m with
  | nil => simp [minsert]
  | cons a m ih =>
    have hp := List.pairwise_cons.mp h
    unfold minsert
    split
    · rename_i hlt
      refine List.pairwise_cons.mpr ⟨fun x hx => ?_, h⟩
      rcases List.mem_cons.mp hx with rfl | hx
      · exact hlt
      · exact Nat.lt_trans hlt (hp.1 x hx)
    · rename_i hlt
      refine List.pairwise_cons.mpr ⟨fun x hx => ?_, ih hp.2 (fun e he => hk e (by simp [he]))⟩
      rcases mem_minsert hx with rfl | hx
      · have := hk a (by simp)
        show a.1 < k
        omega
      · exact hp.1 x hx

/-- A write keeps the canonical form. -/
theorem mwf_mset {α : Type} [DecidableEq α] (d : α) (m : List (Nat × α)) (k : Nat) (v : α) (h : mwf d m = true) :
    mwf d (mset d m k v) = true := by
  have hf := mwf_filter d m (fun e => !(e.1 == k)) h
  unfold mset
  split
  · exact hf
  · rename_i hv
    rw [mwf_iff] at hf ⊢
    refine ⟨minsert_rising k v _ hf.1 ?_, fun e he => ?_⟩
    · intro e he
      simpa using (List.mem_filter.mp he).2
    · rcases mem_minsert he with rfl | he
      · exact hv
      · exact hf.2 e he

end Sys2Proof
end

