-- ==== Sys2Proof/Laws/State.lean ====
section
/-! SUPPORT. One lemma for each field of State and each primitive update, and reading a home after writing one. -/
namespace Sys2Proof.Machine

/-! ## setSlot -/

@[simp] theorem State.setSlot_now (s : State) (n : Nat) (v : Slot) : (s.setSlot n v).now = s.now := (rfl)
@[simp] theorem State.setSlot_ident (s : State) (n : Nat) (v : Slot) : (s.setSlot n v).ident = s.ident := (rfl)
@[simp] theorem State.setSlot_pkg (s : State) (n : Nat) (v : Slot) : (s.setSlot n v).pkg = s.pkg := (rfl)
@[simp] theorem State.setSlot_regs (s : State) (n : Nat) (v : Slot) : (s.setSlot n v).regs = s.regs := (rfl)
@[simp] theorem State.setSlot_pages (s : State) (n : Nat) (v : Slot) : (s.setSlot n v).pages = s.pages := (rfl)
@[simp] theorem State.setSlot_slots (s : State) (n : Nat) (v : Slot) : (s.setSlot n v).slots = mset {} s.slots n v := (rfl)
@[simp] theorem State.setSlot_dies (s : State) (n : Nat) (v : Slot) : (s.setSlot n v).dies = s.dies := (rfl)
@[simp] theorem State.setSlot_frames (s : State) (n : Nat) (v : Slot) : (s.setSlot n v).frames = s.frames := (rfl)
@[simp] theorem State.setSlot_qport (s : State) (n : Nat) (v : Slot) : (s.setSlot n v).qport = s.qport := (rfl)
@[simp] theorem State.setSlot_ports (s : State) (n : Nat) (v : Slot) : (s.setSlot n v).ports = s.ports := (rfl)
@[simp] theorem State.setSlot_pairAB (s : State) (n : Nat) (v : Slot) : (s.setSlot n v).pairAB = s.pairAB := (rfl)
@[simp] theorem State.setSlot_pairCD (s : State) (n : Nat) (v : Slot) : (s.setSlot n v).pairCD = s.pairCD := (rfl)
@[simp] theorem State.setSlot_routes (s : State) (n : Nat) (v : Slot) : (s.setSlot n v).routes = s.routes := (rfl)
@[simp] theorem State.setSlot_mer (s : State) (n : Nat) (v : Slot) : (s.setSlot n v).mer = s.mer := (rfl)
@[simp] theorem State.setSlot_xact (s : State) (n : Nat) (v : Slot) : (s.setSlot n v).xact = s.xact := (rfl)
@[simp] theorem State.setSlot_nurs (s : State) (n : Nat) (v : Slot) : (s.setSlot n v).nurs = s.nurs := (rfl)
@[simp] theorem State.setSlot_cfg (s : State) (n : Nat) (v : Slot) : (s.setSlot n v).cfg = s.cfg := (rfl)
@[simp] theorem State.setSlot_feram (s : State) (n : Nat) (v : Slot) : (s.setSlot n v).feram = s.feram := (rfl)
@[simp] theorem State.setSlot_capt (s : State) (n : Nat) (v : Slot) : (s.setSlot n v).capt = s.capt := (rfl)
@[simp] theorem State.setSlot_shadow (s : State) (n : Nat) (v : Slot) : (s.setSlot n v).shadow = s.shadow := (rfl)
@[simp] theorem State.setSlot_fresh (s : State) (n : Nat) (v : Slot) : (s.setSlot n v).fresh = s.fresh := (rfl)
@[simp] theorem State.setSlot_copies (s : State) (n : Nat) (v : Slot) : (s.setSlot n v).copies = s.copies := (rfl)
@[simp] theorem State.setSlot_heard (s : State) (n : Nat) (v : Slot) : (s.setSlot n v).heard = s.heard := (rfl)
@[simp] theorem State.setSlot_outbox (s : State) (n : Nat) (v : Slot) : (s.setSlot n v).outbox = s.outbox := (rfl)
@[simp] theorem State.setSlot_rsp (s : State) (n : Nat) (v : Slot) : (s.setSlot n v).rsp = s.rsp := (rfl)
@[simp] theorem State.setSlot_free (s : State) (n : Nat) (v : Slot) : (s.setSlot n v).free = s.free := (rfl)
@[simp] theorem State.setSlot_later (s : State) (n : Nat) (v : Slot) : (s.setSlot n v).later = s.later := (rfl)
@[simp] theorem State.setSlot_pending (s : State) (n : Nat) (v : Slot) : (s.setSlot n v).pending = s.pending := (rfl)

/-! ## setDie -/

@[simp] theorem State.setDie_now (s : State) (d : Nat) (v : Die) : (s.setDie d v).now = s.now := (rfl)
@[simp] theorem State.setDie_ident (s : State) (d : Nat) (v : Die) : (s.setDie d v).ident = s.ident := (rfl)
@[simp] theorem State.setDie_pkg (s : State) (d : Nat) (v : Die) : (s.setDie d v).pkg = s.pkg := (rfl)
@[simp] theorem State.setDie_regs (s : State) (d : Nat) (v : Die) : (s.setDie d v).regs = s.regs := (rfl)
@[simp] theorem State.setDie_pages (s : State) (d : Nat) (v : Die) : (s.setDie d v).pages = s.pages := (rfl)
@[simp] theorem State.setDie_slots (s : State) (d : Nat) (v : Die) : (s.setDie d v).slots = s.slots := (rfl)
@[simp] theorem State.setDie_dies (s : State) (d : Nat) (v : Die) : (s.setDie d v).dies = mset {} s.dies d v := (rfl)
@[simp] theorem State.setDie_frames (s : State) (d : Nat) (v : Die) : (s.setDie d v).frames = s.frames := (rfl)
@[simp] theorem State.setDie_qport (s : State) (d : Nat) (v : Die) : (s.setDie d v).qport = s.qport := (rfl)
@[simp] theorem State.setDie_ports (s : State) (d : Nat) (v : Die) : (s.setDie d v).ports = s.ports := (rfl)
@[simp] theorem State.setDie_pairAB (s : State) (d : Nat) (v : Die) : (s.setDie d v).pairAB = s.pairAB := (rfl)
@[simp] theorem State.setDie_pairCD (s : State) (d : Nat) (v : Die) : (s.setDie d v).pairCD = s.pairCD := (rfl)
@[simp] theorem State.setDie_routes (s : State) (d : Nat) (v : Die) : (s.setDie d v).routes = s.routes := (rfl)
@[simp] theorem State.setDie_mer (s : State) (d : Nat) (v : Die) : (s.setDie d v).mer = s.mer := (rfl)
@[simp] theorem State.setDie_xact (s : State) (d : Nat) (v : Die) : (s.setDie d v).xact = s.xact := (rfl)
@[simp] theorem State.setDie_nurs (s : State) (d : Nat) (v : Die) : (s.setDie d v).nurs = s.nurs := (rfl)
@[simp] theorem State.setDie_cfg (s : State) (d : Nat) (v : Die) : (s.setDie d v).cfg = s.cfg := (rfl)
@[simp] theorem State.setDie_feram (s : State) (d : Nat) (v : Die) : (s.setDie d v).feram = s.feram := (rfl)
@[simp] theorem State.setDie_capt (s : State) (d : Nat) (v : Die) : (s.setDie d v).capt = s.capt := (rfl)
@[simp] theorem State.setDie_shadow (s : State) (d : Nat) (v : Die) : (s.setDie d v).shadow = s.shadow := (rfl)
@[simp] theorem State.setDie_fresh (s : State) (d : Nat) (v : Die) : (s.setDie d v).fresh = s.fresh := (rfl)
@[simp] theorem State.setDie_copies (s : State) (d : Nat) (v : Die) : (s.setDie d v).copies = s.copies := (rfl)
@[simp] theorem State.setDie_heard (s : State) (d : Nat) (v : Die) : (s.setDie d v).heard = s.heard := (rfl)
@[simp] theorem State.setDie_outbox (s : State) (d : Nat) (v : Die) : (s.setDie d v).outbox = s.outbox := (rfl)
@[simp] theorem State.setDie_rsp (s : State) (d : Nat) (v : Die) : (s.setDie d v).rsp = s.rsp := (rfl)
@[simp] theorem State.setDie_free (s : State) (d : Nat) (v : Die) : (s.setDie d v).free = s.free := (rfl)
@[simp] theorem State.setDie_later (s : State) (d : Nat) (v : Die) : (s.setDie d v).later = s.later := (rfl)
@[simp] theorem State.setDie_pending (s : State) (d : Nat) (v : Die) : (s.setDie d v).pending = s.pending := (rfl)

/-! ## setPage -/

@[simp] theorem State.setPage_now (s : State) (p : Nat) (v : Page) : (s.setPage p v).now = s.now := (rfl)
@[simp] theorem State.setPage_ident (s : State) (p : Nat) (v : Page) : (s.setPage p v).ident = s.ident := (rfl)
@[simp] theorem State.setPage_pkg (s : State) (p : Nat) (v : Page) : (s.setPage p v).pkg = s.pkg := (rfl)
@[simp] theorem State.setPage_regs (s : State) (p : Nat) (v : Page) : (s.setPage p v).regs = s.regs := (rfl)
@[simp] theorem State.setPage_pages (s : State) (p : Nat) (v : Page) : (s.setPage p v).pages = mset {} s.pages p v := (rfl)
@[simp] theorem State.setPage_slots (s : State) (p : Nat) (v : Page) : (s.setPage p v).slots = s.slots := (rfl)
@[simp] theorem State.setPage_dies (s : State) (p : Nat) (v : Page) : (s.setPage p v).dies = s.dies := (rfl)
@[simp] theorem State.setPage_frames (s : State) (p : Nat) (v : Page) : (s.setPage p v).frames = s.frames := (rfl)
@[simp] theorem State.setPage_qport (s : State) (p : Nat) (v : Page) : (s.setPage p v).qport = s.qport := (rfl)
@[simp] theorem State.setPage_ports (s : State) (p : Nat) (v : Page) : (s.setPage p v).ports = s.ports := (rfl)
@[simp] theorem State.setPage_pairAB (s : State) (p : Nat) (v : Page) : (s.setPage p v).pairAB = s.pairAB := (rfl)
@[simp] theorem State.setPage_pairCD (s : State) (p : Nat) (v : Page) : (s.setPage p v).pairCD = s.pairCD := (rfl)
@[simp] theorem State.setPage_routes (s : State) (p : Nat) (v : Page) : (s.setPage p v).routes = s.routes := (rfl)
@[simp] theorem State.setPage_mer (s : State) (p : Nat) (v : Page) : (s.setPage p v).mer = s.mer := (rfl)
@[simp] theorem State.setPage_xact (s : State) (p : Nat) (v : Page) : (s.setPage p v).xact = s.xact := (rfl)
@[simp] theorem State.setPage_nurs (s : State) (p : Nat) (v : Page) : (s.setPage p v).nurs = s.nurs := (rfl)
@[simp] theorem State.setPage_cfg (s : State) (p : Nat) (v : Page) : (s.setPage p v).cfg = s.cfg := (rfl)
@[simp] theorem State.setPage_feram (s : State) (p : Nat) (v : Page) : (s.setPage p v).feram = s.feram := (rfl)
@[simp] theorem State.setPage_capt (s : State) (p : Nat) (v : Page) : (s.setPage p v).capt = s.capt := (rfl)
@[simp] theorem State.setPage_shadow (s : State) (p : Nat) (v : Page) : (s.setPage p v).shadow = s.shadow := (rfl)
@[simp] theorem State.setPage_fresh (s : State) (p : Nat) (v : Page) : (s.setPage p v).fresh = s.fresh := (rfl)
@[simp] theorem State.setPage_copies (s : State) (p : Nat) (v : Page) : (s.setPage p v).copies = s.copies := (rfl)
@[simp] theorem State.setPage_heard (s : State) (p : Nat) (v : Page) : (s.setPage p v).heard = s.heard := (rfl)
@[simp] theorem State.setPage_outbox (s : State) (p : Nat) (v : Page) : (s.setPage p v).outbox = s.outbox := (rfl)
@[simp] theorem State.setPage_rsp (s : State) (p : Nat) (v : Page) : (s.setPage p v).rsp = s.rsp := (rfl)
@[simp] theorem State.setPage_free (s : State) (p : Nat) (v : Page) : (s.setPage p v).free = s.free := (rfl)
@[simp] theorem State.setPage_later (s : State) (p : Nat) (v : Page) : (s.setPage p v).later = s.later := (rfl)
@[simp] theorem State.setPage_pending (s : State) (p : Nat) (v : Page) : (s.setPage p v).pending = s.pending := (rfl)

/-! ## setReg -/

@[simp] theorem State.setReg_now (s : State) (a : Nat) (v : Word) : (s.setReg a v).now = s.now := (rfl)
@[simp] theorem State.setReg_ident (s : State) (a : Nat) (v : Word) : (s.setReg a v).ident = s.ident := (rfl)
@[simp] theorem State.setReg_pkg (s : State) (a : Nat) (v : Word) : (s.setReg a v).pkg = s.pkg := (rfl)
@[simp] theorem State.setReg_regs (s : State) (a : Nat) (v : Word) : (s.setReg a v).regs = mset (resetWord a) s.regs a v := (rfl)
@[simp] theorem State.setReg_pages (s : State) (a : Nat) (v : Word) : (s.setReg a v).pages = s.pages := (rfl)
@[simp] theorem State.setReg_slots (s : State) (a : Nat) (v : Word) : (s.setReg a v).slots = s.slots := (rfl)
@[simp] theorem State.setReg_dies (s : State) (a : Nat) (v : Word) : (s.setReg a v).dies = s.dies := (rfl)
@[simp] theorem State.setReg_frames (s : State) (a : Nat) (v : Word) : (s.setReg a v).frames = s.frames := (rfl)
@[simp] theorem State.setReg_qport (s : State) (a : Nat) (v : Word) : (s.setReg a v).qport = s.qport := (rfl)
@[simp] theorem State.setReg_ports (s : State) (a : Nat) (v : Word) : (s.setReg a v).ports = s.ports := (rfl)
@[simp] theorem State.setReg_pairAB (s : State) (a : Nat) (v : Word) : (s.setReg a v).pairAB = s.pairAB := (rfl)
@[simp] theorem State.setReg_pairCD (s : State) (a : Nat) (v : Word) : (s.setReg a v).pairCD = s.pairCD := (rfl)
@[simp] theorem State.setReg_routes (s : State) (a : Nat) (v : Word) : (s.setReg a v).routes = s.routes := (rfl)
@[simp] theorem State.setReg_mer (s : State) (a : Nat) (v : Word) : (s.setReg a v).mer = s.mer := (rfl)
@[simp] theorem State.setReg_xact (s : State) (a : Nat) (v : Word) : (s.setReg a v).xact = s.xact := (rfl)
@[simp] theorem State.setReg_nurs (s : State) (a : Nat) (v : Word) : (s.setReg a v).nurs = s.nurs := (rfl)
@[simp] theorem State.setReg_cfg (s : State) (a : Nat) (v : Word) : (s.setReg a v).cfg = s.cfg := (rfl)
@[simp] theorem State.setReg_feram (s : State) (a : Nat) (v : Word) : (s.setReg a v).feram = s.feram := (rfl)
@[simp] theorem State.setReg_capt (s : State) (a : Nat) (v : Word) : (s.setReg a v).capt = s.capt := (rfl)
@[simp] theorem State.setReg_shadow (s : State) (a : Nat) (v : Word) : (s.setReg a v).shadow = s.shadow := (rfl)
@[simp] theorem State.setReg_fresh (s : State) (a : Nat) (v : Word) : (s.setReg a v).fresh = s.fresh := (rfl)
@[simp] theorem State.setReg_copies (s : State) (a : Nat) (v : Word) : (s.setReg a v).copies = s.copies := (rfl)
@[simp] theorem State.setReg_heard (s : State) (a : Nat) (v : Word) : (s.setReg a v).heard = s.heard := (rfl)
@[simp] theorem State.setReg_outbox (s : State) (a : Nat) (v : Word) : (s.setReg a v).outbox = s.outbox := (rfl)
@[simp] theorem State.setReg_rsp (s : State) (a : Nat) (v : Word) : (s.setReg a v).rsp = s.rsp := (rfl)
@[simp] theorem State.setReg_free (s : State) (a : Nat) (v : Word) : (s.setReg a v).free = s.free := (rfl)
@[simp] theorem State.setReg_later (s : State) (a : Nat) (v : Word) : (s.setReg a v).later = s.later := (rfl)
@[simp] theorem State.setReg_pending (s : State) (a : Nat) (v : Word) : (s.setReg a v).pending = s.pending := (rfl)

/-! ## setPort -/

@[simp] theorem State.setPort_now (s : State) (p : Nat) (v : Port) : (s.setPort p v).now = s.now := (rfl)
@[simp] theorem State.setPort_ident (s : State) (p : Nat) (v : Port) : (s.setPort p v).ident = s.ident := (rfl)
@[simp] theorem State.setPort_pkg (s : State) (p : Nat) (v : Port) : (s.setPort p v).pkg = s.pkg := (rfl)
@[simp] theorem State.setPort_regs (s : State) (p : Nat) (v : Port) : (s.setPort p v).regs = s.regs := (rfl)
@[simp] theorem State.setPort_pages (s : State) (p : Nat) (v : Port) : (s.setPort p v).pages = s.pages := (rfl)
@[simp] theorem State.setPort_slots (s : State) (p : Nat) (v : Port) : (s.setPort p v).slots = s.slots := (rfl)
@[simp] theorem State.setPort_dies (s : State) (p : Nat) (v : Port) : (s.setPort p v).dies = s.dies := (rfl)
@[simp] theorem State.setPort_frames (s : State) (p : Nat) (v : Port) : (s.setPort p v).frames = s.frames := (rfl)
@[simp] theorem State.setPort_qport (s : State) (p : Nat) (v : Port) : (s.setPort p v).qport = s.qport := (rfl)
@[simp] theorem State.setPort_ports (s : State) (p : Nat) (v : Port) : (s.setPort p v).ports = lset s.ports p v := (rfl)
@[simp] theorem State.setPort_pairAB (s : State) (p : Nat) (v : Port) : (s.setPort p v).pairAB = s.pairAB := (rfl)
@[simp] theorem State.setPort_pairCD (s : State) (p : Nat) (v : Port) : (s.setPort p v).pairCD = s.pairCD := (rfl)
@[simp] theorem State.setPort_routes (s : State) (p : Nat) (v : Port) : (s.setPort p v).routes = s.routes := (rfl)
@[simp] theorem State.setPort_mer (s : State) (p : Nat) (v : Port) : (s.setPort p v).mer = s.mer := (rfl)
@[simp] theorem State.setPort_xact (s : State) (p : Nat) (v : Port) : (s.setPort p v).xact = s.xact := (rfl)
@[simp] theorem State.setPort_nurs (s : State) (p : Nat) (v : Port) : (s.setPort p v).nurs = s.nurs := (rfl)
@[simp] theorem State.setPort_cfg (s : State) (p : Nat) (v : Port) : (s.setPort p v).cfg = s.cfg := (rfl)
@[simp] theorem State.setPort_feram (s : State) (p : Nat) (v : Port) : (s.setPort p v).feram = s.feram := (rfl)
@[simp] theorem State.setPort_capt (s : State) (p : Nat) (v : Port) : (s.setPort p v).capt = s.capt := (rfl)
@[simp] theorem State.setPort_shadow (s : State) (p : Nat) (v : Port) : (s.setPort p v).shadow = s.shadow := (rfl)
@[simp] theorem State.setPort_fresh (s : State) (p : Nat) (v : Port) : (s.setPort p v).fresh = s.fresh := (rfl)
@[simp] theorem State.setPort_copies (s : State) (p : Nat) (v : Port) : (s.setPort p v).copies = s.copies := (rfl)
@[simp] theorem State.setPort_heard (s : State) (p : Nat) (v : Port) : (s.setPort p v).heard = s.heard := (rfl)
@[simp] theorem State.setPort_outbox (s : State) (p : Nat) (v : Port) : (s.setPort p v).outbox = s.outbox := (rfl)
@[simp] theorem State.setPort_rsp (s : State) (p : Nat) (v : Port) : (s.setPort p v).rsp = s.rsp := (rfl)
@[simp] theorem State.setPort_free (s : State) (p : Nat) (v : Port) : (s.setPort p v).free = s.free := (rfl)
@[simp] theorem State.setPort_later (s : State) (p : Nat) (v : Port) : (s.setPort p v).later = s.later := (rfl)
@[simp] theorem State.setPort_pending (s : State) (p : Nat) (v : Port) : (s.setPort p v).pending = s.pending := (rfl)

/-! ## emit -/

@[simp] theorem State.emit_now (s : State) (o : Out) : (s.emit o).now = s.now := (rfl)
@[simp] theorem State.emit_ident (s : State) (o : Out) : (s.emit o).ident = s.ident := (rfl)
@[simp] theorem State.emit_pkg (s : State) (o : Out) : (s.emit o).pkg = s.pkg := (rfl)
@[simp] theorem State.emit_regs (s : State) (o : Out) : (s.emit o).regs = s.regs := (rfl)
@[simp] theorem State.emit_pages (s : State) (o : Out) : (s.emit o).pages = s.pages := (rfl)
@[simp] theorem State.emit_slots (s : State) (o : Out) : (s.emit o).slots = s.slots := (rfl)
@[simp] theorem State.emit_dies (s : State) (o : Out) : (s.emit o).dies = s.dies := (rfl)
@[simp] theorem State.emit_frames (s : State) (o : Out) : (s.emit o).frames = s.frames := (rfl)
@[simp] theorem State.emit_qport (s : State) (o : Out) : (s.emit o).qport = s.qport := (rfl)
@[simp] theorem State.emit_ports (s : State) (o : Out) : (s.emit o).ports = s.ports := (rfl)
@[simp] theorem State.emit_pairAB (s : State) (o : Out) : (s.emit o).pairAB = s.pairAB := (rfl)
@[simp] theorem State.emit_pairCD (s : State) (o : Out) : (s.emit o).pairCD = s.pairCD := (rfl)
@[simp] theorem State.emit_routes (s : State) (o : Out) : (s.emit o).routes = s.routes := (rfl)
@[simp] theorem State.emit_mer (s : State) (o : Out) : (s.emit o).mer = s.mer := (rfl)
@[simp] theorem State.emit_xact (s : State) (o : Out) : (s.emit o).xact = s.xact := (rfl)
@[simp] theorem State.emit_nurs (s : State) (o : Out) : (s.emit o).nurs = s.nurs := (rfl)
@[simp] theorem State.emit_cfg (s : State) (o : Out) : (s.emit o).cfg = s.cfg := (rfl)
@[simp] theorem State.emit_feram (s : State) (o : Out) : (s.emit o).feram = s.feram := (rfl)
@[simp] theorem State.emit_capt (s : State) (o : Out) : (s.emit o).capt = s.capt := (rfl)
@[simp] theorem State.emit_shadow (s : State) (o : Out) : (s.emit o).shadow = s.shadow := (rfl)
@[simp] theorem State.emit_fresh (s : State) (o : Out) : (s.emit o).fresh = s.fresh := (rfl)
@[simp] theorem State.emit_copies (s : State) (o : Out) : (s.emit o).copies = s.copies := (rfl)
@[simp] theorem State.emit_heard (s : State) (o : Out) : (s.emit o).heard = s.heard := (rfl)
@[simp] theorem State.emit_outbox (s : State) (o : Out) : (s.emit o).outbox = s.outbox ++ [(s.now, o)] := (rfl)
@[simp] theorem State.emit_rsp (s : State) (o : Out) : (s.emit o).rsp = s.rsp := (rfl)
@[simp] theorem State.emit_free (s : State) (o : Out) : (s.emit o).free = s.free := (rfl)
@[simp] theorem State.emit_later (s : State) (o : Out) : (s.emit o).later = s.later := (rfl)
@[simp] theorem State.emit_pending (s : State) (o : Out) : (s.emit o).pending = s.pending := (rfl)

/-! ## answer -/

@[simp] theorem State.answer_now (s : State) (v : Word) : (s.answer v).now = s.now := (rfl)
@[simp] theorem State.answer_ident (s : State) (v : Word) : (s.answer v).ident = s.ident := (rfl)
@[simp] theorem State.answer_pkg (s : State) (v : Word) : (s.answer v).pkg = s.pkg := (rfl)
@[simp] theorem State.answer_regs (s : State) (v : Word) : (s.answer v).regs = s.regs := (rfl)
@[simp] theorem State.answer_pages (s : State) (v : Word) : (s.answer v).pages = s.pages := (rfl)
@[simp] theorem State.answer_slots (s : State) (v : Word) : (s.answer v).slots = s.slots := (rfl)
@[simp] theorem State.answer_dies (s : State) (v : Word) : (s.answer v).dies = s.dies := (rfl)
@[simp] theorem State.answer_frames (s : State) (v : Word) : (s.answer v).frames = s.frames := (rfl)
@[simp] theorem State.answer_qport (s : State) (v : Word) : (s.answer v).qport = s.qport := (rfl)
@[simp] theorem State.answer_ports (s : State) (v : Word) : (s.answer v).ports = s.ports := (rfl)
@[simp] theorem State.answer_pairAB (s : State) (v : Word) : (s.answer v).pairAB = s.pairAB := (rfl)
@[simp] theorem State.answer_pairCD (s : State) (v : Word) : (s.answer v).pairCD = s.pairCD := (rfl)
@[simp] theorem State.answer_routes (s : State) (v : Word) : (s.answer v).routes = s.routes := (rfl)
@[simp] theorem State.answer_mer (s : State) (v : Word) : (s.answer v).mer = s.mer := (rfl)
@[simp] theorem State.answer_xact (s : State) (v : Word) : (s.answer v).xact = s.xact := (rfl)
@[simp] theorem State.answer_nurs (s : State) (v : Word) : (s.answer v).nurs = s.nurs := (rfl)
@[simp] theorem State.answer_cfg (s : State) (v : Word) : (s.answer v).cfg = s.cfg := (rfl)
@[simp] theorem State.answer_feram (s : State) (v : Word) : (s.answer v).feram = s.feram := (rfl)
@[simp] theorem State.answer_capt (s : State) (v : Word) : (s.answer v).capt = s.capt := (rfl)
@[simp] theorem State.answer_shadow (s : State) (v : Word) : (s.answer v).shadow = s.shadow := (rfl)
@[simp] theorem State.answer_fresh (s : State) (v : Word) : (s.answer v).fresh = s.fresh := (rfl)
@[simp] theorem State.answer_copies (s : State) (v : Word) : (s.answer v).copies = s.copies := (rfl)
@[simp] theorem State.answer_heard (s : State) (v : Word) : (s.answer v).heard = s.heard := (rfl)
@[simp] theorem State.answer_outbox (s : State) (v : Word) : (s.answer v).outbox = s.outbox := (rfl)
@[simp] theorem State.answer_rsp (s : State) (v : Word) : (s.answer v).rsp = [v] := (rfl)
@[simp] theorem State.answer_free (s : State) (v : Word) : (s.answer v).free = s.free := (rfl)
@[simp] theorem State.answer_later (s : State) (v : Word) : (s.answer v).later = s.later := (rfl)
@[simp] theorem State.answer_pending (s : State) (v : Word) : (s.answer v).pending = s.pending := (rfl)

/-! ## Reading a home -/

@[simp] theorem State.slot_setSlot_self (s : State) (n : Nat) (v : Slot) : (s.setSlot n v).slot n = v := mget_mset_self ..
theorem State.slot_setSlot_ne (s : State) {m n : Nat} (v : Slot) (h : m ≠ n) : (s.setSlot n v).slot m = s.slot m := mget_mset_ne _ _ _ h
@[simp] theorem State.slot_modSlot_self (s : State) (n : Nat) (g : Slot → Slot) : (s.modSlot n g).slot n = g (s.slot n) := mget_mset_self ..
theorem State.slot_modSlot_ne (s : State) {m n : Nat} (g : Slot → Slot) (h : m ≠ n) : (s.modSlot n g).slot m = s.slot m := mget_mset_ne _ _ _ h
@[simp] theorem State.die_setDie_self (s : State) (d : Nat) (v : Die) : (s.setDie d v).die d = v := mget_mset_self ..
theorem State.die_setDie_ne (s : State) {e d : Nat} (v : Die) (h : e ≠ d) : (s.setDie d v).die e = s.die e := mget_mset_ne _ _ _ h
@[simp] theorem State.die_modDie_self (s : State) (d : Nat) (g : Die → Die) : (s.modDie d g).die d = g (s.die d) := mget_mset_self ..
theorem State.die_modDie_ne (s : State) {e d : Nat} (g : Die → Die) (h : e ≠ d) : (s.modDie d g).die e = s.die e := mget_mset_ne _ _ _ h
@[simp] theorem State.page_setPage_self (s : State) (p : Nat) (v : Page) : (s.setPage p v).page p = v := mget_mset_self ..
theorem State.page_setPage_ne (s : State) {q p : Nat} (v : Page) (h : q ≠ p) : (s.setPage p v).page q = s.page q := mget_mset_ne _ _ _ h
@[simp] theorem State.page_modPage_self (s : State) (p : Nat) (g : Page → Page) : (s.modPage p g).page p = g (s.page p) := mget_mset_self ..
theorem State.page_modPage_ne (s : State) {q p : Nat} (g : Page → Page) (h : q ≠ p) : (s.modPage p g).page q = s.page q := mget_mset_ne _ _ _ h

/-- A register reads what was last written to it. -/
@[simp] theorem State.reg_setReg_self (s : State) (a : Nat) (v : Word) : (s.setReg a v).reg a = v := mget_mset_self ..
/-- A register write leaves every other register as it was. -/
theorem State.reg_setReg_ne (s : State) {b a : Nat} (v : Word) (h : b ≠ a) : (s.setReg a v).reg b = s.reg b := by
  unfold State.reg State.setReg mset
  split
  · exact mget_filter_ne _ _ h
  · rw [mget_minsert]
    · simp [Ne.symm h, mget_filter_ne _ _ h]
    · intro e he
      simpa using (List.mem_filter.mp he).2

@[simp] theorem State.port_setPort_self (s : State) (p : Nat) (v : Port) (h : p < s.ports.length) : (s.setPort p v).port p = v := by
  simp [State.port, State.setPort, lget, lset, h]
theorem State.port_setPort_ne (s : State) {q p : Nat} (v : Port) (h : q ≠ p) : (s.setPort p v).port q = s.port q := by
  simp [State.port, State.setPort, lget, lset, Ne.symm h]

/-! Equal maps give equal homes. -/
theorem State.slot_of_slots {s t : State} (h : t.slots = s.slots) (n : Nat) : t.slot n = s.slot n := by unfold State.slot; rw [h]
theorem State.die_of_dies {s t : State} (h : t.dies = s.dies) (d : Nat) : t.die d = s.die d := by unfold State.die; rw [h]
theorem State.page_of_pages {s t : State} (h : t.pages = s.pages) (p : Nat) : t.page p = s.page p := by unfold State.page; rw [h]
theorem State.reg_of_regs {s t : State} (h : t.regs = s.regs) (a : Nat) : t.reg a = s.reg a := by unfold State.reg; rw [h]

/-! ## The FeRAM keeps its canonical form (Memory.wf) -/

theorem mwf_writeBytes (bytes : List Nat) (a : Nat) (m : List Host.Cell) (h : mwf 0 m = true) : mwf 0 (writeBytes bytes a m) = true := by
  induction bytes generalizing a m with
  | nil => exact h
  | cons b r ih => exact ih _ _ (mwf_mset _ _ _ _ h)

theorem State.feramWrite_wf (s : State) (a : Nat) (bytes : List Nat) (h : mwf 0 s.feram = true) : mwf 0 (s.feramWrite a bytes).feram = true :=
  mwf_writeBytes _ _ _ h

theorem State.logicalWrite_wf (s : State) (d o : Nat) (bytes : List Nat) (h : mwf 0 s.feram = true) :
    mwf 0 (s.logicalWrite d o bytes).feram = true := by
  induction bytes generalizing s o with
  | nil => exact h
  | cons b r ih => exact ih _ _ (mwf_mset _ _ _ _ h)

theorem reset_feram_wf : mwf 0 State.reset.feram = true := rfl

end Sys2Proof.Machine
end

