-- ==== Sys2Proof/Laws/Bits.lean ====
section
/-! SUPPORT. Single bits of words, and the event bits of a page: an event sets its bits and clears none (R41, R42). -/
namespace Sys2Proof

theorem bit_testBit (w : Word) (n : Nat) : bit w n = w.toNat.testBit n := by
  unfold bit fld
  rw [Nat.testBit_eq_decide_div_mod_eq, Nat.add_sub_cancel_left]
  rfl

theorem nbit_testBit (m n : Nat) : nbit m n = m.testBit n := by
  unfold nbit
  rw [Nat.testBit_eq_decide_div_mod_eq]
  rfl

theorem bit_or (a b : Word) (n : Nat) : bit (a ||| b) n = (bit a n || bit b n) := by
  simp [bit_testBit]

theorem bit_and (a b : Word) (n : Nat) : bit (a &&& b) n = (bit a n && bit b n) := by
  simp [bit_testBit]

theorem bit_ofNat (m n : Nat) (h : n < 32) : bit (BitVec.ofNat 32 m) n = nbit m n := by
  rw [bit_testBit, nbit_testBit, BitVec.toNat_ofNat, Nat.testBit_mod_two_pow]
  simp [h]

namespace Machine

/-- An event of a page sets the bits of its mask. -/
theorem State.evt_bit (s : State) (p : Nat) (bits : List Nat) (b : Nat) (h : b < 32) :
    bit ((s.evt p bits).page p).evt b = (bit (s.page p).evt b || nbit (maskOf bits.dedup) b) := by
  unfold State.evt
  rw [State.page_modPage_self]
  show bit ((s.page p).evt ||| BitVec.ofNat 32 (maskOf bits.dedup)) b = _
  rw [bit_or, bit_ofNat _ _ h]

/-- An event leaves every other page as it was. -/
theorem State.evt_page_ne (s : State) {q p : Nat} (bits : List Nat) (h : q ≠ p) : (s.evt p bits).page q = s.page q :=
  State.page_modPage_ne s _ h

/-- No event bit falls when an event is set. -/
theorem State.evt_keeps_bit (s : State) (p q : Nat) (bits : List Nat) (b : Nat) (h : bit (s.page q).evt b = true) :
    bit ((s.evt p bits).page q).evt b = true := by
  by_cases hq : q = p
  · subst hq
    show bit (((s.modPage q _).page q).evt) b = true
    rw [State.page_modPage_self]
    show bit ((s.page q).evt ||| _) b = true
    rw [bit_or, h, Bool.true_or]
  · rw [State.evt_page_ne s bits hq, h]

end Machine
end Sys2Proof
end

