-- ==== Sys2Proof/Laws/Frames.lean ====
section
/-! SUPPORT. What the shared operations over State leave unchanged: one frame lemma for each, naming every field of State that the operation never writes. -/
namespace Sys2Proof.Machine

/-! ## Choices and folds -/

@[simp] theorem State.ite_now (c : Prop) [Decidable c] (a b : State) : (if c then a else b).now = if c then a.now else b.now := apply_ite _ _ _ _
@[simp] theorem State.ite_ident (c : Prop) [Decidable c] (a b : State) : (if c then a else b).ident = if c then a.ident else b.ident := apply_ite _ _ _ _
@[simp] theorem State.ite_pkg (c : Prop) [Decidable c] (a b : State) : (if c then a else b).pkg = if c then a.pkg else b.pkg := apply_ite _ _ _ _
@[simp] theorem State.ite_regs (c : Prop) [Decidable c] (a b : State) : (if c then a else b).regs = if c then a.regs else b.regs := apply_ite _ _ _ _
@[simp] theorem State.ite_pages (c : Prop) [Decidable c] (a b : State) : (if c then a else b).pages = if c then a.pages else b.pages := apply_ite _ _ _ _
@[simp] theorem State.ite_slots (c : Prop) [Decidable c] (a b : State) : (if c then a else b).slots = if c then a.slots else b.slots := apply_ite _ _ _ _
@[simp] theorem State.ite_dies (c : Prop) [Decidable c] (a b : State) : (if c then a else b).dies = if c then a.dies else b.dies := apply_ite _ _ _ _
@[simp] theorem State.ite_frames (c : Prop) [Decidable c] (a b : State) : (if c then a else b).frames = if c then a.frames else b.frames := apply_ite _ _ _ _
@[simp] theorem State.ite_qport (c : Prop) [Decidable c] (a b : State) : (if c then a else b).qport = if c then a.qport else b.qport := apply_ite _ _ _ _
@[simp] theorem State.ite_ports (c : Prop) [Decidable c] (a b : State) : (if c then a else b).ports = if c then a.ports else b.ports := apply_ite _ _ _ _
@[simp] theorem State.ite_pairAB (c : Prop) [Decidable c] (a b : State) : (if c then a else b).pairAB = if c then a.pairAB else b.pairAB := apply_ite _ _ _ _
@[simp] theorem State.ite_pairCD (c : Prop) [Decidable c] (a b : State) : (if c then a else b).pairCD = if c then a.pairCD else b.pairCD := apply_ite _ _ _ _
@[simp] theorem State.ite_routes (c : Prop) [Decidable c] (a b : State) : (if c then a else b).routes = if c then a.routes else b.routes := apply_ite _ _ _ _
@[simp] theorem State.ite_mer (c : Prop) [Decidable c] (a b : State) : (if c then a else b).mer = if c then a.mer else b.mer := apply_ite _ _ _ _
@[simp] theorem State.ite_xact (c : Prop) [Decidable c] (a b : State) : (if c then a else b).xact = if c then a.xact else b.xact := apply_ite _ _ _ _
@[simp] theorem State.ite_nurs (c : Prop) [Decidable c] (a b : State) : (if c then a else b).nurs = if c then a.nurs else b.nurs := apply_ite _ _ _ _
@[simp] theorem State.ite_cfg (c : Prop) [Decidable c] (a b : State) : (if c then a else b).cfg = if c then a.cfg else b.cfg := apply_ite _ _ _ _
@[simp] theorem State.ite_feram (c : Prop) [Decidable c] (a b : State) : (if c then a else b).feram = if c then a.feram else b.feram := apply_ite _ _ _ _
@[simp] theorem State.ite_capt (c : Prop) [Decidable c] (a b : State) : (if c then a else b).capt = if c then a.capt else b.capt := apply_ite _ _ _ _
@[simp] theorem State.ite_shadow (c : Prop) [Decidable c] (a b : State) : (if c then a else b).shadow = if c then a.shadow else b.shadow := apply_ite _ _ _ _
@[simp] theorem State.ite_fresh (c : Prop) [Decidable c] (a b : State) : (if c then a else b).fresh = if c then a.fresh else b.fresh := apply_ite _ _ _ _
@[simp] theorem State.ite_copies (c : Prop) [Decidable c] (a b : State) : (if c then a else b).copies = if c then a.copies else b.copies := apply_ite _ _ _ _
@[simp] theorem State.ite_heard (c : Prop) [Decidable c] (a b : State) : (if c then a else b).heard = if c then a.heard else b.heard := apply_ite _ _ _ _
@[simp] theorem State.ite_outbox (c : Prop) [Decidable c] (a b : State) : (if c then a else b).outbox = if c then a.outbox else b.outbox := apply_ite _ _ _ _
@[simp] theorem State.ite_rsp (c : Prop) [Decidable c] (a b : State) : (if c then a else b).rsp = if c then a.rsp else b.rsp := apply_ite _ _ _ _
@[simp] theorem State.ite_free (c : Prop) [Decidable c] (a b : State) : (if c then a else b).free = if c then a.free else b.free := apply_ite _ _ _ _
@[simp] theorem State.ite_later (c : Prop) [Decidable c] (a b : State) : (if c then a else b).later = if c then a.later else b.later := apply_ite _ _ _ _
@[simp] theorem State.ite_pending (c : Prop) [Decidable c] (a b : State) : (if c then a else b).pending = if c then a.pending else b.pending := apply_ite _ _ _ _
@[simp] theorem State.each_now {α : Type} (s : State) (l : List α) (g : α → State → State) (h : ∀ x s, (g x s).now = s.now) : (s.each l g).now = s.now := by
  induction l generalizing s with
  | nil => rfl
  | cons x l ih => exact (ih (g x s)).trans (h x s)
@[simp] theorem State.each_ident {α : Type} (s : State) (l : List α) (g : α → State → State) (h : ∀ x s, (g x s).ident = s.ident) : (s.each l g).ident = s.ident := by
  induction l generalizing s with
  | nil => rfl
  | cons x l ih => exact (ih (g x s)).trans (h x s)
@[simp] theorem State.each_pkg {α : Type} (s : State) (l : List α) (g : α → State → State) (h : ∀ x s, (g x s).pkg = s.pkg) : (s.each l g).pkg = s.pkg := by
  induction l generalizing s with
  | nil => rfl
  | cons x l ih => exact (ih (g x s)).trans (h x s)
@[simp] theorem State.each_regs {α : Type} (s : State) (l : List α) (g : α → State → State) (h : ∀ x s, (g x s).regs = s.regs) : (s.each l g).regs = s.regs := by
  induction l generalizing s with
  | nil => rfl
  | cons x l ih => exact (ih (g x s)).trans (h x s)
@[simp] theorem State.each_pages {α : Type} (s : State) (l : List α) (g : α → State → State) (h : ∀ x s, (g x s).pages = s.pages) : (s.each l g).pages = s.pages := by
  induction l generalizing s with
  | nil => rfl
  | cons x l ih => exact (ih (g x s)).trans (h x s)
@[simp] theorem State.each_slots {α : Type} (s : State) (l : List α) (g : α → State → State) (h : ∀ x s, (g x s).slots = s.slots) : (s.each l g).slots = s.slots := by
  induction l generalizing s with
  | nil => rfl
  | cons x l ih => exact (ih (g x s)).trans (h x s)
@[simp] theorem State.each_dies {α : Type} (s : State) (l : List α) (g : α → State → State) (h : ∀ x s, (g x s).dies = s.dies) : (s.each l g).dies = s.dies := by
  induction l generalizing s with
  | nil => rfl
  | cons x l ih => exact (ih (g x s)).trans (h x s)
@[simp] theorem State.each_frames {α : Type} (s : State) (l : List α) (g : α → State → State) (h : ∀ x s, (g x s).frames = s.frames) : (s.each l g).frames = s.frames := by
  induction l generalizing s with
  | nil => rfl
  | cons x l ih => exact (ih (g x s)).trans (h x s)
@[simp] theorem State.each_qport {α : Type} (s : State) (l : List α) (g : α → State → State) (h : ∀ x s, (g x s).qport = s.qport) : (s.each l g).qport = s.qport := by
  induction l generalizing s with
  | nil => rfl
  | cons x l ih => exact (ih (g x s)).trans (h x s)
@[simp] theorem State.each_ports {α : Type} (s : State) (l : List α) (g : α → State → State) (h : ∀ x s, (g x s).ports = s.ports) : (s.each l g).ports = s.ports := by
  induction l generalizing s with
  | nil => rfl
  | cons x l ih => exact (ih (g x s)).trans (h x s)
@[simp] theorem State.each_pairAB {α : Type} (s : State) (l : List α) (g : α → State → State) (h : ∀ x s, (g x s).pairAB = s.pairAB) : (s.each l g).pairAB = s.pairAB := by
  induction l generalizing s with
  | nil => rfl
  | cons x l ih => exact (ih (g x s)).trans (h x s)
@[simp] theorem State.each_pairCD {α : Type} (s : State) (l : List α) (g : α → State → State) (h : ∀ x s, (g x s).pairCD = s.pairCD) : (s.each l g).pairCD = s.pairCD := by
  induction l generalizing s with
  | nil => rfl
  | cons x l ih => exact (ih (g x s)).trans (h x s)
@[simp] theorem State.each_routes {α : Type} (s : State) (l : List α) (g : α → State → State) (h : ∀ x s, (g x s).routes = s.routes) : (s.each l g).routes = s.routes := by
  induction l generalizing s with
  | nil => rfl
  | cons x l ih => exact (ih (g x s)).trans (h x s)
@[simp] theorem State.each_mer {α : Type} (s : State) (l : List α) (g : α → State → State) (h : ∀ x s, (g x s).mer = s.mer) : (s.each l g).mer = s.mer := by
  induction l generalizing s with
  | nil => rfl
  | cons x l ih => exact (ih (g x s)).trans (h x s)
@[simp] theorem State.each_xact {α : Type} (s : State) (l : List α) (g : α → State → State) (h : ∀ x s, (g x s).xact = s.xact) : (s.each l g).xact = s.xact := by
  induction l generalizing s with
  | nil => rfl
  | cons x l ih => exact (ih (g x s)).trans (h x s)
@[simp] theorem State.each_nurs {α : Type} (s : State) (l : List α) (g : α → State → State) (h : ∀ x s, (g x s).nurs = s.nurs) : (s.each l g).nurs = s.nurs := by
  induction l generalizing s with
  | nil => rfl
  | cons x l ih => exact (ih (g x s)).trans (h x s)
@[simp] theorem State.each_cfg {α : Type} (s : State) (l : List α) (g : α → State → State) (h : ∀ x s, (g x s).cfg = s.cfg) : (s.each l g).cfg = s.cfg := by
  induction l generalizing s with
  | nil => rfl
  | cons x l ih => exact (ih (g x s)).trans (h x s)
@[simp] theorem State.each_feram {α : Type} (s : State) (l : List α) (g : α → State → State) (h : ∀ x s, (g x s).feram = s.feram) : (s.each l g).feram = s.feram := by
  induction l generalizing s with
  | nil => rfl
  | cons x l ih => exact (ih (g x s)).trans (h x s)
@[simp] theorem State.each_capt {α : Type} (s : State) (l : List α) (g : α → State → State) (h : ∀ x s, (g x s).capt = s.capt) : (s.each l g).capt = s.capt := by
  induction l generalizing s with
  | nil => rfl
  | cons x l ih => exact (ih (g x s)).trans (h x s)
@[simp] theorem State.each_shadow {α : Type} (s : State) (l : List α) (g : α → State → State) (h : ∀ x s, (g x s).shadow = s.shadow) : (s.each l g).shadow = s.shadow := by
  induction l generalizing s with
  | nil => rfl
  | cons x l ih => exact (ih (g x s)).trans (h x s)
@[simp] theorem State.each_fresh {α : Type} (s : State) (l : List α) (g : α → State → State) (h : ∀ x s, (g x s).fresh = s.fresh) : (s.each l g).fresh = s.fresh := by
  induction l generalizing s with
  | nil => rfl
  | cons x l ih => exact (ih (g x s)).trans (h x s)
@[simp] theorem State.each_copies {α : Type} (s : State) (l : List α) (g : α → State → State) (h : ∀ x s, (g x s).copies = s.copies) : (s.each l g).copies = s.copies := by
  induction l generalizing s with
  | nil => rfl
  | cons x l ih => exact (ih (g x s)).trans (h x s)
@[simp] theorem State.each_heard {α : Type} (s : State) (l : List α) (g : α → State → State) (h : ∀ x s, (g x s).heard = s.heard) : (s.each l g).heard = s.heard := by
  induction l generalizing s with
  | nil => rfl
  | cons x l ih => exact (ih (g x s)).trans (h x s)
@[simp] theorem State.each_outbox {α : Type} (s : State) (l : List α) (g : α → State → State) (h : ∀ x s, (g x s).outbox = s.outbox) : (s.each l g).outbox = s.outbox := by
  induction l generalizing s with
  | nil => rfl
  | cons x l ih => exact (ih (g x s)).trans (h x s)
@[simp] theorem State.each_rsp {α : Type} (s : State) (l : List α) (g : α → State → State) (h : ∀ x s, (g x s).rsp = s.rsp) : (s.each l g).rsp = s.rsp := by
  induction l generalizing s with
  | nil => rfl
  | cons x l ih => exact (ih (g x s)).trans (h x s)
@[simp] theorem State.each_free {α : Type} (s : State) (l : List α) (g : α → State → State) (h : ∀ x s, (g x s).free = s.free) : (s.each l g).free = s.free := by
  induction l generalizing s with
  | nil => rfl
  | cons x l ih => exact (ih (g x s)).trans (h x s)
@[simp] theorem State.each_later {α : Type} (s : State) (l : List α) (g : α → State → State) (h : ∀ x s, (g x s).later = s.later) : (s.each l g).later = s.later := by
  induction l generalizing s with
  | nil => rfl
  | cons x l ih => exact (ih (g x s)).trans (h x s)
@[simp] theorem State.each_pending {α : Type} (s : State) (l : List α) (g : α → State → State) (h : ∀ x s, (g x s).pending = s.pending) : (s.each l g).pending = s.pending := by
  induction l generalizing s with
  | nil => rfl
  | cons x l ih => exact (ih (g x s)).trans (h x s)
@[simp] theorem State.foldl_now {α : Type} (s : State) (l : List α) (g : State → α → State) (h : ∀ s x, (g s x).now = s.now) : (l.foldl g s).now = s.now := by
  induction l generalizing s with
  | nil => rfl
  | cons x l ih => exact (ih (g s x)).trans (h s x)
@[simp] theorem State.foldl_ident {α : Type} (s : State) (l : List α) (g : State → α → State) (h : ∀ s x, (g s x).ident = s.ident) : (l.foldl g s).ident = s.ident := by
  induction l generalizing s with
  | nil => rfl
  | cons x l ih => exact (ih (g s x)).trans (h s x)
@[simp] theorem State.foldl_pkg {α : Type} (s : State) (l : List α) (g : State → α → State) (h : ∀ s x, (g s x).pkg = s.pkg) : (l.foldl g s).pkg = s.pkg := by
  induction l generalizing s with
  | nil => rfl
  | cons x l ih => exact (ih (g s x)).trans (h s x)
@[simp] theorem State.foldl_regs {α : Type} (s : State) (l : List α) (g : State → α → State) (h : ∀ s x, (g s x).regs = s.regs) : (l.foldl g s).regs = s.regs := by
  induction l generalizing s with
  | nil => rfl
  | cons x l ih => exact (ih (g s x)).trans (h s x)
@[simp] theorem State.foldl_pages {α : Type} (s : State) (l : List α) (g : State → α → State) (h : ∀ s x, (g s x).pages = s.pages) : (l.foldl g s).pages = s.pages := by
  induction l generalizing s with
  | nil => rfl
  | cons x l ih => exact (ih (g s x)).trans (h s x)
@[simp] theorem State.foldl_slots {α : Type} (s : State) (l : List α) (g : State → α → State) (h : ∀ s x, (g s x).slots = s.slots) : (l.foldl g s).slots = s.slots := by
  induction l generalizing s with
  | nil => rfl
  | cons x l ih => exact (ih (g s x)).trans (h s x)
@[simp] theorem State.foldl_dies {α : Type} (s : State) (l : List α) (g : State → α → State) (h : ∀ s x, (g s x).dies = s.dies) : (l.foldl g s).dies = s.dies := by
  induction l generalizing s with
  | nil => rfl
  | cons x l ih => exact (ih (g s x)).trans (h s x)
@[simp] theorem State.foldl_frames {α : Type} (s : State) (l : List α) (g : State → α → State) (h : ∀ s x, (g s x).frames = s.frames) : (l.foldl g s).frames = s.frames := by
  induction l generalizing s with
  | nil => rfl
  | cons x l ih => exact (ih (g s x)).trans (h s x)
@[simp] theorem State.foldl_qport {α : Type} (s : State) (l : List α) (g : State → α → State) (h : ∀ s x, (g s x).qport = s.qport) : (l.foldl g s).qport = s.qport := by
  induction l generalizing s with
  | nil => rfl
  | cons x l ih => exact (ih (g s x)).trans (h s x)
@[simp] theorem State.foldl_ports {α : Type} (s : State) (l : List α) (g : State → α → State) (h : ∀ s x, (g s x).ports = s.ports) : (l.foldl g s).ports = s.ports := by
  induction l generalizing s with
  | nil => rfl
  | cons x l ih => exact (ih (g s x)).trans (h s x)
@[simp] theorem State.foldl_pairAB {α : Type} (s : State) (l : List α) (g : State → α → State) (h : ∀ s x, (g s x).pairAB = s.pairAB) : (l.foldl g s).pairAB = s.pairAB := by
  induction l generalizing s with
  | nil => rfl
  | cons x l ih => exact (ih (g s x)).trans (h s x)
@[simp] theorem State.foldl_pairCD {α : Type} (s : State) (l : List α) (g : State → α → State) (h : ∀ s x, (g s x).pairCD = s.pairCD) : (l.foldl g s).pairCD = s.pairCD := by
  induction l generalizing s with
  | nil => rfl
  | cons x l ih => exact (ih (g s x)).trans (h s x)
@[simp] theorem State.foldl_routes {α : Type} (s : State) (l : List α) (g : State → α → State) (h : ∀ s x, (g s x).routes = s.routes) : (l.foldl g s).routes = s.routes := by
  induction l generalizing s with
  | nil => rfl
  | cons x l ih => exact (ih (g s x)).trans (h s x)
@[simp] theorem State.foldl_mer {α : Type} (s : State) (l : List α) (g : State → α → State) (h : ∀ s x, (g s x).mer = s.mer) : (l.foldl g s).mer = s.mer := by
  induction l generalizing s with
  | nil => rfl
  | cons x l ih => exact (ih (g s x)).trans (h s x)
@[simp] theorem State.foldl_xact {α : Type} (s : State) (l : List α) (g : State → α → State) (h : ∀ s x, (g s x).xact = s.xact) : (l.foldl g s).xact = s.xact := by
  induction l generalizing s with
  | nil => rfl
  | cons x l ih => exact (ih (g s x)).trans (h s x)
@[simp] theorem State.foldl_nurs {α : Type} (s : State) (l : List α) (g : State → α → State) (h : ∀ s x, (g s x).nurs = s.nurs) : (l.foldl g s).nurs = s.nurs := by
  induction l generalizing s with
  | nil => rfl
  | cons x l ih => exact (ih (g s x)).trans (h s x)
@[simp] theorem State.foldl_cfg {α : Type} (s : State) (l : List α) (g : State → α → State) (h : ∀ s x, (g s x).cfg = s.cfg) : (l.foldl g s).cfg = s.cfg := by
  induction l generalizing s with
  | nil => rfl
  | cons x l ih => exact (ih (g s x)).trans (h s x)
@[simp] theorem State.foldl_feram {α : Type} (s : State) (l : List α) (g : State → α → State) (h : ∀ s x, (g s x).feram = s.feram) : (l.foldl g s).feram = s.feram := by
  induction l generalizing s with
  | nil => rfl
  | cons x l ih => exact (ih (g s x)).trans (h s x)
@[simp] theorem State.foldl_capt {α : Type} (s : State) (l : List α) (g : State → α → State) (h : ∀ s x, (g s x).capt = s.capt) : (l.foldl g s).capt = s.capt := by
  induction l generalizing s with
  | nil => rfl
  | cons x l ih => exact (ih (g s x)).trans (h s x)
@[simp] theorem State.foldl_shadow {α : Type} (s : State) (l : List α) (g : State → α → State) (h : ∀ s x, (g s x).shadow = s.shadow) : (l.foldl g s).shadow = s.shadow := by
  induction l generalizing s with
  | nil => rfl
  | cons x l ih => exact (ih (g s x)).trans (h s x)
@[simp] theorem State.foldl_fresh {α : Type} (s : State) (l : List α) (g : State → α → State) (h : ∀ s x, (g s x).fresh = s.fresh) : (l.foldl g s).fresh = s.fresh := by
  induction l generalizing s with
  | nil => rfl
  | cons x l ih => exact (ih (g s x)).trans (h s x)
@[simp] theorem State.foldl_copies {α : Type} (s : State) (l : List α) (g : State → α → State) (h : ∀ s x, (g s x).copies = s.copies) : (l.foldl g s).copies = s.copies := by
  induction l generalizing s with
  | nil => rfl
  | cons x l ih => exact (ih (g s x)).trans (h s x)
@[simp] theorem State.foldl_heard {α : Type} (s : State) (l : List α) (g : State → α → State) (h : ∀ s x, (g s x).heard = s.heard) : (l.foldl g s).heard = s.heard := by
  induction l generalizing s with
  | nil => rfl
  | cons x l ih => exact (ih (g s x)).trans (h s x)
@[simp] theorem State.foldl_outbox {α : Type} (s : State) (l : List α) (g : State → α → State) (h : ∀ s x, (g s x).outbox = s.outbox) : (l.foldl g s).outbox = s.outbox := by
  induction l generalizing s with
  | nil => rfl
  | cons x l ih => exact (ih (g s x)).trans (h s x)
@[simp] theorem State.foldl_rsp {α : Type} (s : State) (l : List α) (g : State → α → State) (h : ∀ s x, (g s x).rsp = s.rsp) : (l.foldl g s).rsp = s.rsp := by
  induction l generalizing s with
  | nil => rfl
  | cons x l ih => exact (ih (g s x)).trans (h s x)
@[simp] theorem State.foldl_free {α : Type} (s : State) (l : List α) (g : State → α → State) (h : ∀ s x, (g s x).free = s.free) : (l.foldl g s).free = s.free := by
  induction l generalizing s with
  | nil => rfl
  | cons x l ih => exact (ih (g s x)).trans (h s x)
@[simp] theorem State.foldl_later {α : Type} (s : State) (l : List α) (g : State → α → State) (h : ∀ s x, (g s x).later = s.later) : (l.foldl g s).later = s.later := by
  induction l generalizing s with
  | nil => rfl
  | cons x l ih => exact (ih (g s x)).trans (h s x)
@[simp] theorem State.foldl_pending {α : Type} (s : State) (l : List α) (g : State → α → State) (h : ∀ s x, (g s x).pending = s.pending) : (l.foldl g s).pending = s.pending := by
  induction l generalizing s with
  | nil => rfl
  | cons x l ih => exact (ih (g s x)).trans (h s x)

@[simp] theorem State.modSlot_frame (s : State) (n : Nat) (g : Slot → Slot) :
    (s.modSlot n g).now = s.now ∧ (s.modSlot n g).ident = s.ident ∧ (s.modSlot n g).pkg = s.pkg ∧ (s.modSlot n g).regs = s.regs ∧ (s.modSlot n g).pages = s.pages ∧ (s.modSlot n g).dies = s.dies ∧ (s.modSlot n g).frames = s.frames ∧ (s.modSlot n g).qport = s.qport ∧ (s.modSlot n g).ports = s.ports ∧ (s.modSlot n g).pairAB = s.pairAB ∧ (s.modSlot n g).pairCD = s.pairCD ∧ (s.modSlot n g).routes = s.routes ∧ (s.modSlot n g).mer = s.mer ∧ (s.modSlot n g).xact = s.xact ∧ (s.modSlot n g).nurs = s.nurs ∧ (s.modSlot n g).cfg = s.cfg ∧ (s.modSlot n g).feram = s.feram ∧ (s.modSlot n g).capt = s.capt ∧ (s.modSlot n g).shadow = s.shadow ∧ (s.modSlot n g).fresh = s.fresh ∧ (s.modSlot n g).copies = s.copies ∧ (s.modSlot n g).heard = s.heard ∧ (s.modSlot n g).outbox = s.outbox ∧ (s.modSlot n g).rsp = s.rsp ∧ (s.modSlot n g).free = s.free ∧ (s.modSlot n g).later = s.later ∧ (s.modSlot n g).pending = s.pending := by simp [State.modSlot]

@[simp] theorem State.modDie_frame (s : State) (d : Nat) (g : Die → Die) :
    (s.modDie d g).now = s.now ∧ (s.modDie d g).ident = s.ident ∧ (s.modDie d g).pkg = s.pkg ∧ (s.modDie d g).regs = s.regs ∧ (s.modDie d g).pages = s.pages ∧ (s.modDie d g).slots = s.slots ∧ (s.modDie d g).frames = s.frames ∧ (s.modDie d g).qport = s.qport ∧ (s.modDie d g).ports = s.ports ∧ (s.modDie d g).pairAB = s.pairAB ∧ (s.modDie d g).pairCD = s.pairCD ∧ (s.modDie d g).routes = s.routes ∧ (s.modDie d g).mer = s.mer ∧ (s.modDie d g).xact = s.xact ∧ (s.modDie d g).nurs = s.nurs ∧ (s.modDie d g).cfg = s.cfg ∧ (s.modDie d g).feram = s.feram ∧ (s.modDie d g).capt = s.capt ∧ (s.modDie d g).shadow = s.shadow ∧ (s.modDie d g).fresh = s.fresh ∧ (s.modDie d g).copies = s.copies ∧ (s.modDie d g).heard = s.heard ∧ (s.modDie d g).outbox = s.outbox ∧ (s.modDie d g).rsp = s.rsp ∧ (s.modDie d g).free = s.free ∧ (s.modDie d g).later = s.later ∧ (s.modDie d g).pending = s.pending := by simp [State.modDie]

@[simp] theorem State.recordWave_frame (s : State) (n : Nat) (p : Nat × Nat) :
    (s.recordWave n p).now = s.now ∧ (s.recordWave n p).ident = s.ident ∧ (s.recordWave n p).pkg = s.pkg ∧ (s.recordWave n p).regs = s.regs ∧ (s.recordWave n p).pages = s.pages ∧ (s.recordWave n p).slots = s.slots ∧ (s.recordWave n p).frames = s.frames ∧ (s.recordWave n p).qport = s.qport ∧ (s.recordWave n p).ports = s.ports ∧ (s.recordWave n p).pairAB = s.pairAB ∧ (s.recordWave n p).pairCD = s.pairCD ∧ (s.recordWave n p).routes = s.routes ∧ (s.recordWave n p).mer = s.mer ∧ (s.recordWave n p).xact = s.xact ∧ (s.recordWave n p).nurs = s.nurs ∧ (s.recordWave n p).cfg = s.cfg ∧ (s.recordWave n p).feram = s.feram ∧ (s.recordWave n p).capt = s.capt ∧ (s.recordWave n p).shadow = s.shadow ∧ (s.recordWave n p).fresh = s.fresh ∧ (s.recordWave n p).copies = s.copies ∧ (s.recordWave n p).heard = s.heard ∧ (s.recordWave n p).outbox = s.outbox ∧ (s.recordWave n p).rsp = s.rsp ∧ (s.recordWave n p).free = s.free ∧ (s.recordWave n p).later = s.later ∧ (s.recordWave n p).pending = s.pending := by unfold State.recordWave; split <;> simp

@[simp] theorem State.modPage_frame (s : State) (p : Nat) (g : Page → Page) :
    (s.modPage p g).now = s.now ∧ (s.modPage p g).ident = s.ident ∧ (s.modPage p g).pkg = s.pkg ∧ (s.modPage p g).regs = s.regs ∧ (s.modPage p g).slots = s.slots ∧ (s.modPage p g).dies = s.dies ∧ (s.modPage p g).frames = s.frames ∧ (s.modPage p g).qport = s.qport ∧ (s.modPage p g).ports = s.ports ∧ (s.modPage p g).pairAB = s.pairAB ∧ (s.modPage p g).pairCD = s.pairCD ∧ (s.modPage p g).routes = s.routes ∧ (s.modPage p g).mer = s.mer ∧ (s.modPage p g).xact = s.xact ∧ (s.modPage p g).nurs = s.nurs ∧ (s.modPage p g).cfg = s.cfg ∧ (s.modPage p g).feram = s.feram ∧ (s.modPage p g).capt = s.capt ∧ (s.modPage p g).shadow = s.shadow ∧ (s.modPage p g).fresh = s.fresh ∧ (s.modPage p g).copies = s.copies ∧ (s.modPage p g).heard = s.heard ∧ (s.modPage p g).outbox = s.outbox ∧ (s.modPage p g).rsp = s.rsp ∧ (s.modPage p g).free = s.free ∧ (s.modPage p g).later = s.later ∧ (s.modPage p g).pending = s.pending := by simp [State.modPage]

@[simp] theorem State.setRf_frame (s : State) (a : Nat) (hi : Nat) (lo : Nat) (v : Nat) :
    (s.setRf a hi lo v).now = s.now ∧ (s.setRf a hi lo v).ident = s.ident ∧ (s.setRf a hi lo v).pkg = s.pkg ∧ (s.setRf a hi lo v).pages = s.pages ∧ (s.setRf a hi lo v).slots = s.slots ∧ (s.setRf a hi lo v).dies = s.dies ∧ (s.setRf a hi lo v).frames = s.frames ∧ (s.setRf a hi lo v).qport = s.qport ∧ (s.setRf a hi lo v).ports = s.ports ∧ (s.setRf a hi lo v).pairAB = s.pairAB ∧ (s.setRf a hi lo v).pairCD = s.pairCD ∧ (s.setRf a hi lo v).routes = s.routes ∧ (s.setRf a hi lo v).mer = s.mer ∧ (s.setRf a hi lo v).xact = s.xact ∧ (s.setRf a hi lo v).nurs = s.nurs ∧ (s.setRf a hi lo v).cfg = s.cfg ∧ (s.setRf a hi lo v).feram = s.feram ∧ (s.setRf a hi lo v).capt = s.capt ∧ (s.setRf a hi lo v).shadow = s.shadow ∧ (s.setRf a hi lo v).fresh = s.fresh ∧ (s.setRf a hi lo v).copies = s.copies ∧ (s.setRf a hi lo v).heard = s.heard ∧ (s.setRf a hi lo v).outbox = s.outbox ∧ (s.setRf a hi lo v).rsp = s.rsp ∧ (s.setRf a hi lo v).free = s.free ∧ (s.setRf a hi lo v).later = s.later ∧ (s.setRf a hi lo v).pending = s.pending := by simp [State.setRf]

@[simp] theorem State.addSat_frame (s : State) (a : Nat) (hi : Nat) (lo : Nat) (n : Nat) :
    (s.addSat a hi lo n).now = s.now ∧ (s.addSat a hi lo n).ident = s.ident ∧ (s.addSat a hi lo n).pkg = s.pkg ∧ (s.addSat a hi lo n).pages = s.pages ∧ (s.addSat a hi lo n).slots = s.slots ∧ (s.addSat a hi lo n).dies = s.dies ∧ (s.addSat a hi lo n).frames = s.frames ∧ (s.addSat a hi lo n).qport = s.qport ∧ (s.addSat a hi lo n).ports = s.ports ∧ (s.addSat a hi lo n).pairAB = s.pairAB ∧ (s.addSat a hi lo n).pairCD = s.pairCD ∧ (s.addSat a hi lo n).routes = s.routes ∧ (s.addSat a hi lo n).mer = s.mer ∧ (s.addSat a hi lo n).xact = s.xact ∧ (s.addSat a hi lo n).nurs = s.nurs ∧ (s.addSat a hi lo n).cfg = s.cfg ∧ (s.addSat a hi lo n).feram = s.feram ∧ (s.addSat a hi lo n).capt = s.capt ∧ (s.addSat a hi lo n).shadow = s.shadow ∧ (s.addSat a hi lo n).fresh = s.fresh ∧ (s.addSat a hi lo n).copies = s.copies ∧ (s.addSat a hi lo n).heard = s.heard ∧ (s.addSat a hi lo n).outbox = s.outbox ∧ (s.addSat a hi lo n).rsp = s.rsp ∧ (s.addSat a hi lo n).free = s.free ∧ (s.addSat a hi lo n).later = s.later ∧ (s.addSat a hi lo n).pending = s.pending := by simp [State.addSat]

@[simp] theorem State.addWrap_frame (s : State) (a : Nat) (hi : Nat) (lo : Nat) (n : Nat) :
    (s.addWrap a hi lo n).now = s.now ∧ (s.addWrap a hi lo n).ident = s.ident ∧ (s.addWrap a hi lo n).pkg = s.pkg ∧ (s.addWrap a hi lo n).pages = s.pages ∧ (s.addWrap a hi lo n).slots = s.slots ∧ (s.addWrap a hi lo n).dies = s.dies ∧ (s.addWrap a hi lo n).frames = s.frames ∧ (s.addWrap a hi lo n).qport = s.qport ∧ (s.addWrap a hi lo n).ports = s.ports ∧ (s.addWrap a hi lo n).pairAB = s.pairAB ∧ (s.addWrap a hi lo n).pairCD = s.pairCD ∧ (s.addWrap a hi lo n).routes = s.routes ∧ (s.addWrap a hi lo n).mer = s.mer ∧ (s.addWrap a hi lo n).xact = s.xact ∧ (s.addWrap a hi lo n).nurs = s.nurs ∧ (s.addWrap a hi lo n).cfg = s.cfg ∧ (s.addWrap a hi lo n).feram = s.feram ∧ (s.addWrap a hi lo n).capt = s.capt ∧ (s.addWrap a hi lo n).shadow = s.shadow ∧ (s.addWrap a hi lo n).fresh = s.fresh ∧ (s.addWrap a hi lo n).copies = s.copies ∧ (s.addWrap a hi lo n).heard = s.heard ∧ (s.addWrap a hi lo n).outbox = s.outbox ∧ (s.addWrap a hi lo n).rsp = s.rsp ∧ (s.addWrap a hi lo n).free = s.free ∧ (s.addWrap a hi lo n).later = s.later ∧ (s.addWrap a hi lo n).pending = s.pending := by simp [State.addWrap]

@[simp] theorem State.evt_frame (s : State) (page : Nat) (bits : List Nat) :
    (s.evt page bits).now = s.now ∧ (s.evt page bits).ident = s.ident ∧ (s.evt page bits).pkg = s.pkg ∧ (s.evt page bits).regs = s.regs ∧ (s.evt page bits).slots = s.slots ∧ (s.evt page bits).dies = s.dies ∧ (s.evt page bits).frames = s.frames ∧ (s.evt page bits).qport = s.qport ∧ (s.evt page bits).ports = s.ports ∧ (s.evt page bits).pairAB = s.pairAB ∧ (s.evt page bits).pairCD = s.pairCD ∧ (s.evt page bits).routes = s.routes ∧ (s.evt page bits).mer = s.mer ∧ (s.evt page bits).xact = s.xact ∧ (s.evt page bits).nurs = s.nurs ∧ (s.evt page bits).cfg = s.cfg ∧ (s.evt page bits).feram = s.feram ∧ (s.evt page bits).capt = s.capt ∧ (s.evt page bits).shadow = s.shadow ∧ (s.evt page bits).fresh = s.fresh ∧ (s.evt page bits).copies = s.copies ∧ (s.evt page bits).heard = s.heard ∧ (s.evt page bits).outbox = s.outbox ∧ (s.evt page bits).rsp = s.rsp ∧ (s.evt page bits).free = s.free ∧ (s.evt page bits).later = s.later ∧ (s.evt page bits).pending = s.pending := by simp [State.evt]

@[simp] theorem State.evtSlot_frame (s : State) (n : Nat) (bits : List Nat) :
    (s.evtSlot n bits).now = s.now ∧ (s.evtSlot n bits).ident = s.ident ∧ (s.evtSlot n bits).pkg = s.pkg ∧ (s.evtSlot n bits).regs = s.regs ∧ (s.evtSlot n bits).slots = s.slots ∧ (s.evtSlot n bits).dies = s.dies ∧ (s.evtSlot n bits).frames = s.frames ∧ (s.evtSlot n bits).qport = s.qport ∧ (s.evtSlot n bits).ports = s.ports ∧ (s.evtSlot n bits).pairAB = s.pairAB ∧ (s.evtSlot n bits).pairCD = s.pairCD ∧ (s.evtSlot n bits).routes = s.routes ∧ (s.evtSlot n bits).mer = s.mer ∧ (s.evtSlot n bits).xact = s.xact ∧ (s.evtSlot n bits).nurs = s.nurs ∧ (s.evtSlot n bits).cfg = s.cfg ∧ (s.evtSlot n bits).feram = s.feram ∧ (s.evtSlot n bits).capt = s.capt ∧ (s.evtSlot n bits).shadow = s.shadow ∧ (s.evtSlot n bits).fresh = s.fresh ∧ (s.evtSlot n bits).copies = s.copies ∧ (s.evtSlot n bits).heard = s.heard ∧ (s.evtSlot n bits).outbox = s.outbox ∧ (s.evtSlot n bits).rsp = s.rsp ∧ (s.evtSlot n bits).free = s.free ∧ (s.evtSlot n bits).later = s.later ∧ (s.evtSlot n bits).pending = s.pending := by simp [State.evtSlot]

@[simp] theorem State.evtDie_frame (s : State) (d : Nat) (bits : List Nat) :
    (s.evtDie d bits).now = s.now ∧ (s.evtDie d bits).ident = s.ident ∧ (s.evtDie d bits).pkg = s.pkg ∧ (s.evtDie d bits).regs = s.regs ∧ (s.evtDie d bits).slots = s.slots ∧ (s.evtDie d bits).dies = s.dies ∧ (s.evtDie d bits).frames = s.frames ∧ (s.evtDie d bits).qport = s.qport ∧ (s.evtDie d bits).ports = s.ports ∧ (s.evtDie d bits).pairAB = s.pairAB ∧ (s.evtDie d bits).pairCD = s.pairCD ∧ (s.evtDie d bits).routes = s.routes ∧ (s.evtDie d bits).mer = s.mer ∧ (s.evtDie d bits).xact = s.xact ∧ (s.evtDie d bits).nurs = s.nurs ∧ (s.evtDie d bits).cfg = s.cfg ∧ (s.evtDie d bits).feram = s.feram ∧ (s.evtDie d bits).capt = s.capt ∧ (s.evtDie d bits).shadow = s.shadow ∧ (s.evtDie d bits).fresh = s.fresh ∧ (s.evtDie d bits).copies = s.copies ∧ (s.evtDie d bits).heard = s.heard ∧ (s.evtDie d bits).outbox = s.outbox ∧ (s.evtDie d bits).rsp = s.rsp ∧ (s.evtDie d bits).free = s.free ∧ (s.evtDie d bits).later = s.later ∧ (s.evtDie d bits).pending = s.pending := by simp [State.evtDie]

@[simp] theorem State.evtBelv_frame (s : State) (d : Nat) (bits : List Nat) :
    (s.evtBelv d bits).now = s.now ∧ (s.evtBelv d bits).ident = s.ident ∧ (s.evtBelv d bits).pkg = s.pkg ∧ (s.evtBelv d bits).regs = s.regs ∧ (s.evtBelv d bits).slots = s.slots ∧ (s.evtBelv d bits).dies = s.dies ∧ (s.evtBelv d bits).frames = s.frames ∧ (s.evtBelv d bits).qport = s.qport ∧ (s.evtBelv d bits).ports = s.ports ∧ (s.evtBelv d bits).pairAB = s.pairAB ∧ (s.evtBelv d bits).pairCD = s.pairCD ∧ (s.evtBelv d bits).routes = s.routes ∧ (s.evtBelv d bits).mer = s.mer ∧ (s.evtBelv d bits).xact = s.xact ∧ (s.evtBelv d bits).nurs = s.nurs ∧ (s.evtBelv d bits).cfg = s.cfg ∧ (s.evtBelv d bits).feram = s.feram ∧ (s.evtBelv d bits).capt = s.capt ∧ (s.evtBelv d bits).shadow = s.shadow ∧ (s.evtBelv d bits).fresh = s.fresh ∧ (s.evtBelv d bits).copies = s.copies ∧ (s.evtBelv d bits).heard = s.heard ∧ (s.evtBelv d bits).outbox = s.outbox ∧ (s.evtBelv d bits).rsp = s.rsp ∧ (s.evtBelv d bits).free = s.free ∧ (s.evtBelv d bits).later = s.later ∧ (s.evtBelv d bits).pending = s.pending := by simp [State.evtBelv]

@[simp] theorem State.evtCont_frame (s : State) (d : Nat) (bits : List Nat) :
    (s.evtCont d bits).now = s.now ∧ (s.evtCont d bits).ident = s.ident ∧ (s.evtCont d bits).pkg = s.pkg ∧ (s.evtCont d bits).regs = s.regs ∧ (s.evtCont d bits).slots = s.slots ∧ (s.evtCont d bits).dies = s.dies ∧ (s.evtCont d bits).frames = s.frames ∧ (s.evtCont d bits).qport = s.qport ∧ (s.evtCont d bits).ports = s.ports ∧ (s.evtCont d bits).pairAB = s.pairAB ∧ (s.evtCont d bits).pairCD = s.pairCD ∧ (s.evtCont d bits).routes = s.routes ∧ (s.evtCont d bits).mer = s.mer ∧ (s.evtCont d bits).xact = s.xact ∧ (s.evtCont d bits).nurs = s.nurs ∧ (s.evtCont d bits).cfg = s.cfg ∧ (s.evtCont d bits).feram = s.feram ∧ (s.evtCont d bits).capt = s.capt ∧ (s.evtCont d bits).shadow = s.shadow ∧ (s.evtCont d bits).fresh = s.fresh ∧ (s.evtCont d bits).copies = s.copies ∧ (s.evtCont d bits).heard = s.heard ∧ (s.evtCont d bits).outbox = s.outbox ∧ (s.evtCont d bits).rsp = s.rsp ∧ (s.evtCont d bits).free = s.free ∧ (s.evtCont d bits).later = s.later ∧ (s.evtCont d bits).pending = s.pending := by simp [State.evtCont]

@[simp] theorem State.reject_frame (s : State) (page : Nat) :
    (s.reject page).now = s.now ∧ (s.reject page).ident = s.ident ∧ (s.reject page).pkg = s.pkg ∧ (s.reject page).regs = s.regs ∧ (s.reject page).slots = s.slots ∧ (s.reject page).dies = s.dies ∧ (s.reject page).frames = s.frames ∧ (s.reject page).qport = s.qport ∧ (s.reject page).ports = s.ports ∧ (s.reject page).pairAB = s.pairAB ∧ (s.reject page).pairCD = s.pairCD ∧ (s.reject page).routes = s.routes ∧ (s.reject page).mer = s.mer ∧ (s.reject page).xact = s.xact ∧ (s.reject page).nurs = s.nurs ∧ (s.reject page).cfg = s.cfg ∧ (s.reject page).feram = s.feram ∧ (s.reject page).capt = s.capt ∧ (s.reject page).shadow = s.shadow ∧ (s.reject page).fresh = s.fresh ∧ (s.reject page).copies = s.copies ∧ (s.reject page).heard = s.heard ∧ (s.reject page).outbox = s.outbox ∧ (s.reject page).rsp = s.rsp ∧ (s.reject page).free = s.free ∧ (s.reject page).later = s.later ∧ (s.reject page).pending = s.pending := by simp [State.reject]

@[simp] theorem State.tick_frame (s : State) :
    (s.tick).ident = s.ident ∧ (s.tick).pkg = s.pkg ∧ (s.tick).regs = s.regs ∧ (s.tick).pages = s.pages ∧ (s.tick).slots = s.slots ∧ (s.tick).dies = s.dies ∧ (s.tick).frames = s.frames ∧ (s.tick).qport = s.qport ∧ (s.tick).ports = s.ports ∧ (s.tick).pairAB = s.pairAB ∧ (s.tick).pairCD = s.pairCD ∧ (s.tick).routes = s.routes ∧ (s.tick).xact = s.xact ∧ (s.tick).nurs = s.nurs ∧ (s.tick).cfg = s.cfg ∧ (s.tick).feram = s.feram ∧ (s.tick).capt = s.capt ∧ (s.tick).shadow = s.shadow ∧ (s.tick).fresh = s.fresh ∧ (s.tick).copies = s.copies ∧ (s.tick).heard = s.heard ∧ (s.tick).outbox = s.outbox ∧ (s.tick).rsp = s.rsp ∧ (s.tick).free = s.free ∧ (s.tick).later = s.later ∧ (s.tick).pending = s.pending := by simp [State.tick]

@[simp] theorem State.putOff_frame (s : State) (c : Instr) :
    (s.putOff c).now = s.now ∧ (s.putOff c).ident = s.ident ∧ (s.putOff c).pkg = s.pkg ∧ (s.putOff c).regs = s.regs ∧ (s.putOff c).pages = s.pages ∧ (s.putOff c).slots = s.slots ∧ (s.putOff c).dies = s.dies ∧ (s.putOff c).frames = s.frames ∧ (s.putOff c).qport = s.qport ∧ (s.putOff c).ports = s.ports ∧ (s.putOff c).pairAB = s.pairAB ∧ (s.putOff c).pairCD = s.pairCD ∧ (s.putOff c).routes = s.routes ∧ (s.putOff c).mer = s.mer ∧ (s.putOff c).xact = s.xact ∧ (s.putOff c).nurs = s.nurs ∧ (s.putOff c).cfg = s.cfg ∧ (s.putOff c).feram = s.feram ∧ (s.putOff c).capt = s.capt ∧ (s.putOff c).shadow = s.shadow ∧ (s.putOff c).fresh = s.fresh ∧ (s.putOff c).copies = s.copies ∧ (s.putOff c).heard = s.heard ∧ (s.putOff c).outbox = s.outbox ∧ (s.putOff c).rsp = s.rsp ∧ (s.putOff c).free = s.free ∧ (s.putOff c).pending = s.pending := by exact ⟨rfl, rfl, rfl, rfl, rfl, rfl, rfl, rfl, rfl, rfl, rfl, rfl, rfl, rfl, rfl, rfl, rfl, rfl, rfl, rfl, rfl, rfl, rfl, rfl, rfl, rfl, rfl⟩

@[simp] theorem State.valuesZero_frame (s : State) (n : Nat) :
    (s.valuesZero n).now = s.now ∧ (s.valuesZero n).ident = s.ident ∧ (s.valuesZero n).pkg = s.pkg ∧ (s.valuesZero n).pages = s.pages ∧ (s.valuesZero n).slots = s.slots ∧ (s.valuesZero n).dies = s.dies ∧ (s.valuesZero n).frames = s.frames ∧ (s.valuesZero n).qport = s.qport ∧ (s.valuesZero n).ports = s.ports ∧ (s.valuesZero n).pairAB = s.pairAB ∧ (s.valuesZero n).pairCD = s.pairCD ∧ (s.valuesZero n).routes = s.routes ∧ (s.valuesZero n).mer = s.mer ∧ (s.valuesZero n).xact = s.xact ∧ (s.valuesZero n).nurs = s.nurs ∧ (s.valuesZero n).cfg = s.cfg ∧ (s.valuesZero n).feram = s.feram ∧ (s.valuesZero n).capt = s.capt ∧ (s.valuesZero n).shadow = s.shadow ∧ (s.valuesZero n).fresh = s.fresh ∧ (s.valuesZero n).copies = s.copies ∧ (s.valuesZero n).heard = s.heard ∧ (s.valuesZero n).outbox = s.outbox ∧ (s.valuesZero n).rsp = s.rsp ∧ (s.valuesZero n).free = s.free ∧ (s.valuesZero n).later = s.later ∧ (s.valuesZero n).pending = s.pending := by simp [State.valuesZero]

@[simp] theorem State.cool_frame (s : State) :
    (s.cool).now = s.now ∧ (s.cool).ident = s.ident ∧ (s.cool).pkg = s.pkg ∧ (s.cool).regs = s.regs ∧ (s.cool).slots = s.slots ∧ (s.cool).dies = s.dies ∧ (s.cool).frames = s.frames ∧ (s.cool).qport = s.qport ∧ (s.cool).ports = s.ports ∧ (s.cool).pairAB = s.pairAB ∧ (s.cool).pairCD = s.pairCD ∧ (s.cool).routes = s.routes ∧ (s.cool).mer = s.mer ∧ (s.cool).xact = s.xact ∧ (s.cool).nurs = s.nurs ∧ (s.cool).cfg = s.cfg ∧ (s.cool).feram = s.feram ∧ (s.cool).capt = s.capt ∧ (s.cool).shadow = s.shadow ∧ (s.cool).fresh = s.fresh ∧ (s.cool).copies = s.copies ∧ (s.cool).heard = s.heard ∧ (s.cool).outbox = s.outbox ∧ (s.cool).rsp = s.rsp ∧ (s.cool).free = s.free ∧ (s.cool).later = s.later ∧ (s.cool).pending = s.pending := by simp [State.cool]

@[simp] theorem State.logPut_frame (s : State) (d : Nat) (r : Rec) :
    (s.logPut d r).now = s.now ∧ (s.logPut d r).ident = s.ident ∧ (s.logPut d r).pkg = s.pkg ∧ (s.logPut d r).regs = s.regs ∧ (s.logPut d r).slots = s.slots ∧ (s.logPut d r).frames = s.frames ∧ (s.logPut d r).qport = s.qport ∧ (s.logPut d r).ports = s.ports ∧ (s.logPut d r).pairAB = s.pairAB ∧ (s.logPut d r).pairCD = s.pairCD ∧ (s.logPut d r).routes = s.routes ∧ (s.logPut d r).mer = s.mer ∧ (s.logPut d r).xact = s.xact ∧ (s.logPut d r).nurs = s.nurs ∧ (s.logPut d r).cfg = s.cfg ∧ (s.logPut d r).feram = s.feram ∧ (s.logPut d r).capt = s.capt ∧ (s.logPut d r).shadow = s.shadow ∧ (s.logPut d r).fresh = s.fresh ∧ (s.logPut d r).copies = s.copies ∧ (s.logPut d r).heard = s.heard ∧ (s.logPut d r).outbox = s.outbox ∧ (s.logPut d r).rsp = s.rsp ∧ (s.logPut d r).free = s.free ∧ (s.logPut d r).later = s.later ∧ (s.logPut d r).pending = s.pending := by simp [State.logPut]

@[simp] theorem State.logFlush_frame (s : State) (d : Nat) :
    (s.logFlush d).now = s.now ∧ (s.logFlush d).ident = s.ident ∧ (s.logFlush d).pkg = s.pkg ∧ (s.logFlush d).regs = s.regs ∧ (s.logFlush d).slots = s.slots ∧ (s.logFlush d).frames = s.frames ∧ (s.logFlush d).qport = s.qport ∧ (s.logFlush d).ports = s.ports ∧ (s.logFlush d).pairAB = s.pairAB ∧ (s.logFlush d).pairCD = s.pairCD ∧ (s.logFlush d).routes = s.routes ∧ (s.logFlush d).mer = s.mer ∧ (s.logFlush d).xact = s.xact ∧ (s.logFlush d).nurs = s.nurs ∧ (s.logFlush d).cfg = s.cfg ∧ (s.logFlush d).feram = s.feram ∧ (s.logFlush d).capt = s.capt ∧ (s.logFlush d).shadow = s.shadow ∧ (s.logFlush d).fresh = s.fresh ∧ (s.logFlush d).copies = s.copies ∧ (s.logFlush d).heard = s.heard ∧ (s.logFlush d).outbox = s.outbox ∧ (s.logFlush d).rsp = s.rsp ∧ (s.logFlush d).free = s.free ∧ (s.logFlush d).later = s.later ∧ (s.logFlush d).pending = s.pending := by unfold State.logFlush; (repeat' split) <;> simp

@[simp] theorem State.logAdd_frame (s : State) (d : Nat) (r : Rec) :
    (s.logAdd d r).now = s.now ∧ (s.logAdd d r).ident = s.ident ∧ (s.logAdd d r).pkg = s.pkg ∧ (s.logAdd d r).regs = s.regs ∧ (s.logAdd d r).slots = s.slots ∧ (s.logAdd d r).frames = s.frames ∧ (s.logAdd d r).qport = s.qport ∧ (s.logAdd d r).ports = s.ports ∧ (s.logAdd d r).pairAB = s.pairAB ∧ (s.logAdd d r).pairCD = s.pairCD ∧ (s.logAdd d r).routes = s.routes ∧ (s.logAdd d r).mer = s.mer ∧ (s.logAdd d r).xact = s.xact ∧ (s.logAdd d r).nurs = s.nurs ∧ (s.logAdd d r).cfg = s.cfg ∧ (s.logAdd d r).feram = s.feram ∧ (s.logAdd d r).capt = s.capt ∧ (s.logAdd d r).shadow = s.shadow ∧ (s.logAdd d r).fresh = s.fresh ∧ (s.logAdd d r).copies = s.copies ∧ (s.logAdd d r).heard = s.heard ∧ (s.logAdd d r).outbox = s.outbox ∧ (s.logAdd d r).rsp = s.rsp ∧ (s.logAdd d r).free = s.free ∧ (s.logAdd d r).later = s.later ∧ (s.logAdd d r).pending = s.pending := by unfold State.logAdd; (repeat' split) <;> simp

@[simp] theorem State.log_frame (s : State) (d : Nat) (block : Nat) (inst : Nat) (code : Nat) (data : List Nat) :
    (s.log d block inst code data).now = s.now ∧ (s.log d block inst code data).ident = s.ident ∧ (s.log d block inst code data).pkg = s.pkg ∧ (s.log d block inst code data).regs = s.regs ∧ (s.log d block inst code data).slots = s.slots ∧ (s.log d block inst code data).frames = s.frames ∧ (s.log d block inst code data).qport = s.qport ∧ (s.log d block inst code data).ports = s.ports ∧ (s.log d block inst code data).pairAB = s.pairAB ∧ (s.log d block inst code data).pairCD = s.pairCD ∧ (s.log d block inst code data).routes = s.routes ∧ (s.log d block inst code data).mer = s.mer ∧ (s.log d block inst code data).xact = s.xact ∧ (s.log d block inst code data).nurs = s.nurs ∧ (s.log d block inst code data).cfg = s.cfg ∧ (s.log d block inst code data).feram = s.feram ∧ (s.log d block inst code data).capt = s.capt ∧ (s.log d block inst code data).shadow = s.shadow ∧ (s.log d block inst code data).fresh = s.fresh ∧ (s.log d block inst code data).copies = s.copies ∧ (s.log d block inst code data).heard = s.heard ∧ (s.log d block inst code data).outbox = s.outbox ∧ (s.log d block inst code data).rsp = s.rsp ∧ (s.log d block inst code data).free = s.free ∧ (s.log d block inst code data).later = s.later ∧ (s.log d block inst code data).pending = s.pending := by simp [State.log]

@[simp] theorem State.logLead_frame (s : State) (block : Nat) (inst : Nat) (code : Nat) (data : List Nat) :
    (s.logLead block inst code data).now = s.now ∧ (s.logLead block inst code data).ident = s.ident ∧ (s.logLead block inst code data).pkg = s.pkg ∧ (s.logLead block inst code data).regs = s.regs ∧ (s.logLead block inst code data).slots = s.slots ∧ (s.logLead block inst code data).frames = s.frames ∧ (s.logLead block inst code data).qport = s.qport ∧ (s.logLead block inst code data).ports = s.ports ∧ (s.logLead block inst code data).pairAB = s.pairAB ∧ (s.logLead block inst code data).pairCD = s.pairCD ∧ (s.logLead block inst code data).routes = s.routes ∧ (s.logLead block inst code data).mer = s.mer ∧ (s.logLead block inst code data).xact = s.xact ∧ (s.logLead block inst code data).nurs = s.nurs ∧ (s.logLead block inst code data).cfg = s.cfg ∧ (s.logLead block inst code data).feram = s.feram ∧ (s.logLead block inst code data).capt = s.capt ∧ (s.logLead block inst code data).shadow = s.shadow ∧ (s.logLead block inst code data).fresh = s.fresh ∧ (s.logLead block inst code data).copies = s.copies ∧ (s.logLead block inst code data).heard = s.heard ∧ (s.logLead block inst code data).outbox = s.outbox ∧ (s.logLead block inst code data).rsp = s.rsp ∧ (s.logLead block inst code data).free = s.free ∧ (s.logLead block inst code data).later = s.later ∧ (s.logLead block inst code data).pending = s.pending := by simp [State.logLead]

@[simp] theorem State.logSlot_frame (s : State) (n : Nat) (code : Nat) (data : List Nat) :
    (s.logSlot n code data).now = s.now ∧ (s.logSlot n code data).ident = s.ident ∧ (s.logSlot n code data).pkg = s.pkg ∧ (s.logSlot n code data).regs = s.regs ∧ (s.logSlot n code data).slots = s.slots ∧ (s.logSlot n code data).frames = s.frames ∧ (s.logSlot n code data).qport = s.qport ∧ (s.logSlot n code data).ports = s.ports ∧ (s.logSlot n code data).pairAB = s.pairAB ∧ (s.logSlot n code data).pairCD = s.pairCD ∧ (s.logSlot n code data).routes = s.routes ∧ (s.logSlot n code data).mer = s.mer ∧ (s.logSlot n code data).xact = s.xact ∧ (s.logSlot n code data).nurs = s.nurs ∧ (s.logSlot n code data).cfg = s.cfg ∧ (s.logSlot n code data).feram = s.feram ∧ (s.logSlot n code data).capt = s.capt ∧ (s.logSlot n code data).shadow = s.shadow ∧ (s.logSlot n code data).fresh = s.fresh ∧ (s.logSlot n code data).copies = s.copies ∧ (s.logSlot n code data).heard = s.heard ∧ (s.logSlot n code data).outbox = s.outbox ∧ (s.logSlot n code data).rsp = s.rsp ∧ (s.logSlot n code data).free = s.free ∧ (s.logSlot n code data).later = s.later ∧ (s.logSlot n code data).pending = s.pending := by simp [State.logSlot]

@[simp] theorem State.gazRebuild_frame (s : State) :
    (s.gazRebuild).now = s.now ∧ (s.gazRebuild).ident = s.ident ∧ (s.gazRebuild).regs = s.regs ∧ (s.gazRebuild).slots = s.slots ∧ (s.gazRebuild).dies = s.dies ∧ (s.gazRebuild).frames = s.frames ∧ (s.gazRebuild).qport = s.qport ∧ (s.gazRebuild).ports = s.ports ∧ (s.gazRebuild).pairAB = s.pairAB ∧ (s.gazRebuild).pairCD = s.pairCD ∧ (s.gazRebuild).routes = s.routes ∧ (s.gazRebuild).mer = s.mer ∧ (s.gazRebuild).xact = s.xact ∧ (s.gazRebuild).nurs = s.nurs ∧ (s.gazRebuild).cfg = s.cfg ∧ (s.gazRebuild).feram = s.feram ∧ (s.gazRebuild).capt = s.capt ∧ (s.gazRebuild).shadow = s.shadow ∧ (s.gazRebuild).fresh = s.fresh ∧ (s.gazRebuild).copies = s.copies ∧ (s.gazRebuild).heard = s.heard ∧ (s.gazRebuild).outbox = s.outbox ∧ (s.gazRebuild).rsp = s.rsp ∧ (s.gazRebuild).free = s.free ∧ (s.gazRebuild).later = s.later ∧ (s.gazRebuild).pending = s.pending := by simp [State.gazRebuild]

@[simp] theorem State.nursRec_frame (s : State) (code : Nat) (kind : Nat) (d : Nat) (inst : Nat) (sub : Nat) (failed : Nat) (spare : Nat) (v : Int) :
    (s.nursRec code kind d inst sub failed spare v).now = s.now ∧ (s.nursRec code kind d inst sub failed spare v).ident = s.ident ∧ (s.nursRec code kind d inst sub failed spare v).pkg = s.pkg ∧ (s.nursRec code kind d inst sub failed spare v).regs = s.regs ∧ (s.nursRec code kind d inst sub failed spare v).slots = s.slots ∧ (s.nursRec code kind d inst sub failed spare v).frames = s.frames ∧ (s.nursRec code kind d inst sub failed spare v).qport = s.qport ∧ (s.nursRec code kind d inst sub failed spare v).ports = s.ports ∧ (s.nursRec code kind d inst sub failed spare v).pairAB = s.pairAB ∧ (s.nursRec code kind d inst sub failed spare v).pairCD = s.pairCD ∧ (s.nursRec code kind d inst sub failed spare v).routes = s.routes ∧ (s.nursRec code kind d inst sub failed spare v).mer = s.mer ∧ (s.nursRec code kind d inst sub failed spare v).xact = s.xact ∧ (s.nursRec code kind d inst sub failed spare v).nurs = s.nurs ∧ (s.nursRec code kind d inst sub failed spare v).cfg = s.cfg ∧ (s.nursRec code kind d inst sub failed spare v).feram = s.feram ∧ (s.nursRec code kind d inst sub failed spare v).capt = s.capt ∧ (s.nursRec code kind d inst sub failed spare v).shadow = s.shadow ∧ (s.nursRec code kind d inst sub failed spare v).fresh = s.fresh ∧ (s.nursRec code kind d inst sub failed spare v).copies = s.copies ∧ (s.nursRec code kind d inst sub failed spare v).heard = s.heard ∧ (s.nursRec code kind d inst sub failed spare v).outbox = s.outbox ∧ (s.nursRec code kind d inst sub failed spare v).rsp = s.rsp ∧ (s.nursRec code kind d inst sub failed spare v).free = s.free ∧ (s.nursRec code kind d inst sub failed spare v).later = s.later ∧ (s.nursRec code kind d inst sub failed spare v).pending = s.pending := by simp [State.nursRec]

@[simp] theorem State.swap_frame (s : State) (kind : Nat) (d : Nat) (inst : Nat) (sub : Nat) (failed : Nat) (spare : Nat) (v : Int) :
    (s.swap kind d inst sub failed spare v).now = s.now ∧ (s.swap kind d inst sub failed spare v).ident = s.ident ∧ (s.swap kind d inst sub failed spare v).slots = s.slots ∧ (s.swap kind d inst sub failed spare v).frames = s.frames ∧ (s.swap kind d inst sub failed spare v).qport = s.qport ∧ (s.swap kind d inst sub failed spare v).ports = s.ports ∧ (s.swap kind d inst sub failed spare v).pairAB = s.pairAB ∧ (s.swap kind d inst sub failed spare v).pairCD = s.pairCD ∧ (s.swap kind d inst sub failed spare v).routes = s.routes ∧ (s.swap kind d inst sub failed spare v).mer = s.mer ∧ (s.swap kind d inst sub failed spare v).xact = s.xact ∧ (s.swap kind d inst sub failed spare v).nurs = s.nurs ∧ (s.swap kind d inst sub failed spare v).cfg = s.cfg ∧ (s.swap kind d inst sub failed spare v).feram = s.feram ∧ (s.swap kind d inst sub failed spare v).capt = s.capt ∧ (s.swap kind d inst sub failed spare v).shadow = s.shadow ∧ (s.swap kind d inst sub failed spare v).fresh = s.fresh ∧ (s.swap kind d inst sub failed spare v).copies = s.copies ∧ (s.swap kind d inst sub failed spare v).heard = s.heard ∧ (s.swap kind d inst sub failed spare v).outbox = s.outbox ∧ (s.swap kind d inst sub failed spare v).rsp = s.rsp ∧ (s.swap kind d inst sub failed spare v).free = s.free ∧ (s.swap kind d inst sub failed spare v).later = s.later ∧ (s.swap kind d inst sub failed spare v).pending = s.pending := by simp [State.swap]

@[simp] theorem State.exhausted_frame (s : State) (kind : Nat) (d : Nat) (inst : Nat) (sub : Nat) (failed : Nat) :
    (s.exhausted kind d inst sub failed).now = s.now ∧ (s.exhausted kind d inst sub failed).ident = s.ident ∧ (s.exhausted kind d inst sub failed).pkg = s.pkg ∧ (s.exhausted kind d inst sub failed).regs = s.regs ∧ (s.exhausted kind d inst sub failed).slots = s.slots ∧ (s.exhausted kind d inst sub failed).frames = s.frames ∧ (s.exhausted kind d inst sub failed).qport = s.qport ∧ (s.exhausted kind d inst sub failed).ports = s.ports ∧ (s.exhausted kind d inst sub failed).pairAB = s.pairAB ∧ (s.exhausted kind d inst sub failed).pairCD = s.pairCD ∧ (s.exhausted kind d inst sub failed).routes = s.routes ∧ (s.exhausted kind d inst sub failed).mer = s.mer ∧ (s.exhausted kind d inst sub failed).xact = s.xact ∧ (s.exhausted kind d inst sub failed).nurs = s.nurs ∧ (s.exhausted kind d inst sub failed).cfg = s.cfg ∧ (s.exhausted kind d inst sub failed).feram = s.feram ∧ (s.exhausted kind d inst sub failed).capt = s.capt ∧ (s.exhausted kind d inst sub failed).shadow = s.shadow ∧ (s.exhausted kind d inst sub failed).fresh = s.fresh ∧ (s.exhausted kind d inst sub failed).copies = s.copies ∧ (s.exhausted kind d inst sub failed).heard = s.heard ∧ (s.exhausted kind d inst sub failed).outbox = s.outbox ∧ (s.exhausted kind d inst sub failed).rsp = s.rsp ∧ (s.exhausted kind d inst sub failed).free = s.free ∧ (s.exhausted kind d inst sub failed).later = s.later ∧ (s.exhausted kind d inst sub failed).pending = s.pending := by simp [State.exhausted]

@[simp] theorem State.nursReq_frame (s : State) (kind : Nat) (d : Nat) (inst : Nat) (sub : Nat) :
    (s.nursReq kind d inst sub).now = s.now ∧ (s.nursReq kind d inst sub).ident = s.ident ∧ (s.nursReq kind d inst sub).pkg = s.pkg ∧ (s.nursReq kind d inst sub).regs = s.regs ∧ (s.nursReq kind d inst sub).slots = s.slots ∧ (s.nursReq kind d inst sub).frames = s.frames ∧ (s.nursReq kind d inst sub).qport = s.qport ∧ (s.nursReq kind d inst sub).ports = s.ports ∧ (s.nursReq kind d inst sub).pairAB = s.pairAB ∧ (s.nursReq kind d inst sub).pairCD = s.pairCD ∧ (s.nursReq kind d inst sub).routes = s.routes ∧ (s.nursReq kind d inst sub).mer = s.mer ∧ (s.nursReq kind d inst sub).xact = s.xact ∧ (s.nursReq kind d inst sub).cfg = s.cfg ∧ (s.nursReq kind d inst sub).feram = s.feram ∧ (s.nursReq kind d inst sub).capt = s.capt ∧ (s.nursReq kind d inst sub).shadow = s.shadow ∧ (s.nursReq kind d inst sub).fresh = s.fresh ∧ (s.nursReq kind d inst sub).copies = s.copies ∧ (s.nursReq kind d inst sub).heard = s.heard ∧ (s.nursReq kind d inst sub).outbox = s.outbox ∧ (s.nursReq kind d inst sub).rsp = s.rsp ∧ (s.nursReq kind d inst sub).free = s.free ∧ (s.nursReq kind d inst sub).later = s.later ∧ (s.nursReq kind d inst sub).pending = s.pending := by simp [State.nursReq]

@[simp] theorem State.nursDrop_frame (s : State) (kind : Nat) (d : Nat) (inst : Nat) (sub : Nat) :
    (s.nursDrop kind d inst sub).now = s.now ∧ (s.nursDrop kind d inst sub).ident = s.ident ∧ (s.nursDrop kind d inst sub).pkg = s.pkg ∧ (s.nursDrop kind d inst sub).regs = s.regs ∧ (s.nursDrop kind d inst sub).pages = s.pages ∧ (s.nursDrop kind d inst sub).slots = s.slots ∧ (s.nursDrop kind d inst sub).dies = s.dies ∧ (s.nursDrop kind d inst sub).frames = s.frames ∧ (s.nursDrop kind d inst sub).qport = s.qport ∧ (s.nursDrop kind d inst sub).ports = s.ports ∧ (s.nursDrop kind d inst sub).pairAB = s.pairAB ∧ (s.nursDrop kind d inst sub).pairCD = s.pairCD ∧ (s.nursDrop kind d inst sub).routes = s.routes ∧ (s.nursDrop kind d inst sub).mer = s.mer ∧ (s.nursDrop kind d inst sub).xact = s.xact ∧ (s.nursDrop kind d inst sub).cfg = s.cfg ∧ (s.nursDrop kind d inst sub).feram = s.feram ∧ (s.nursDrop kind d inst sub).capt = s.capt ∧ (s.nursDrop kind d inst sub).shadow = s.shadow ∧ (s.nursDrop kind d inst sub).fresh = s.fresh ∧ (s.nursDrop kind d inst sub).copies = s.copies ∧ (s.nursDrop kind d inst sub).heard = s.heard ∧ (s.nursDrop kind d inst sub).outbox = s.outbox ∧ (s.nursDrop kind d inst sub).rsp = s.rsp ∧ (s.nursDrop kind d inst sub).free = s.free ∧ (s.nursDrop kind d inst sub).later = s.later ∧ (s.nursDrop kind d inst sub).pending = s.pending := by simp [State.nursDrop]

@[simp] theorem State.wearWarn_frame (s : State) (n : Nat) (which : Nat) (cnt : Nat) :
    (s.wearWarn n which cnt).now = s.now ∧ (s.wearWarn n which cnt).ident = s.ident ∧ (s.wearWarn n which cnt).pkg = s.pkg ∧ (s.wearWarn n which cnt).regs = s.regs ∧ (s.wearWarn n which cnt).frames = s.frames ∧ (s.wearWarn n which cnt).qport = s.qport ∧ (s.wearWarn n which cnt).ports = s.ports ∧ (s.wearWarn n which cnt).pairAB = s.pairAB ∧ (s.wearWarn n which cnt).pairCD = s.pairCD ∧ (s.wearWarn n which cnt).routes = s.routes ∧ (s.wearWarn n which cnt).mer = s.mer ∧ (s.wearWarn n which cnt).xact = s.xact ∧ (s.wearWarn n which cnt).nurs = s.nurs ∧ (s.wearWarn n which cnt).cfg = s.cfg ∧ (s.wearWarn n which cnt).feram = s.feram ∧ (s.wearWarn n which cnt).capt = s.capt ∧ (s.wearWarn n which cnt).shadow = s.shadow ∧ (s.wearWarn n which cnt).fresh = s.fresh ∧ (s.wearWarn n which cnt).copies = s.copies ∧ (s.wearWarn n which cnt).heard = s.heard ∧ (s.wearWarn n which cnt).outbox = s.outbox ∧ (s.wearWarn n which cnt).rsp = s.rsp ∧ (s.wearWarn n which cnt).free = s.free ∧ (s.wearWarn n which cnt).later = s.later ∧ (s.wearWarn n which cnt).pending = s.pending := by simp [State.wearWarn]

@[simp] theorem State.wearAdd_frame (s : State) (n : Nat) (which : Nat) :
    (s.wearAdd n which).now = s.now ∧ (s.wearAdd n which).ident = s.ident ∧ (s.wearAdd n which).pkg = s.pkg ∧ (s.wearAdd n which).regs = s.regs ∧ (s.wearAdd n which).frames = s.frames ∧ (s.wearAdd n which).qport = s.qport ∧ (s.wearAdd n which).ports = s.ports ∧ (s.wearAdd n which).pairAB = s.pairAB ∧ (s.wearAdd n which).pairCD = s.pairCD ∧ (s.wearAdd n which).routes = s.routes ∧ (s.wearAdd n which).mer = s.mer ∧ (s.wearAdd n which).xact = s.xact ∧ (s.wearAdd n which).nurs = s.nurs ∧ (s.wearAdd n which).cfg = s.cfg ∧ (s.wearAdd n which).feram = s.feram ∧ (s.wearAdd n which).capt = s.capt ∧ (s.wearAdd n which).shadow = s.shadow ∧ (s.wearAdd n which).fresh = s.fresh ∧ (s.wearAdd n which).copies = s.copies ∧ (s.wearAdd n which).heard = s.heard ∧ (s.wearAdd n which).outbox = s.outbox ∧ (s.wearAdd n which).rsp = s.rsp ∧ (s.wearAdd n which).free = s.free ∧ (s.wearAdd n which).later = s.later ∧ (s.wearAdd n which).pending = s.pending := by simp [State.wearAdd]

@[simp] theorem State.feramWrite_frame (s : State) (a : Nat) (bytes : List Nat) :
    (s.feramWrite a bytes).now = s.now ∧ (s.feramWrite a bytes).ident = s.ident ∧ (s.feramWrite a bytes).pkg = s.pkg ∧ (s.feramWrite a bytes).regs = s.regs ∧ (s.feramWrite a bytes).pages = s.pages ∧ (s.feramWrite a bytes).slots = s.slots ∧ (s.feramWrite a bytes).dies = s.dies ∧ (s.feramWrite a bytes).frames = s.frames ∧ (s.feramWrite a bytes).qport = s.qport ∧ (s.feramWrite a bytes).ports = s.ports ∧ (s.feramWrite a bytes).pairAB = s.pairAB ∧ (s.feramWrite a bytes).pairCD = s.pairCD ∧ (s.feramWrite a bytes).routes = s.routes ∧ (s.feramWrite a bytes).mer = s.mer ∧ (s.feramWrite a bytes).xact = s.xact ∧ (s.feramWrite a bytes).nurs = s.nurs ∧ (s.feramWrite a bytes).cfg = s.cfg ∧ (s.feramWrite a bytes).capt = s.capt ∧ (s.feramWrite a bytes).shadow = s.shadow ∧ (s.feramWrite a bytes).fresh = s.fresh ∧ (s.feramWrite a bytes).copies = s.copies ∧ (s.feramWrite a bytes).heard = s.heard ∧ (s.feramWrite a bytes).outbox = s.outbox ∧ (s.feramWrite a bytes).rsp = s.rsp ∧ (s.feramWrite a bytes).free = s.free ∧ (s.feramWrite a bytes).later = s.later ∧ (s.feramWrite a bytes).pending = s.pending := by simp [State.feramWrite]

@[simp] theorem State.setPair_frame (s : State) (k : Nat) (v : Pair) :
    (s.setPair k v).now = s.now ∧ (s.setPair k v).ident = s.ident ∧ (s.setPair k v).pkg = s.pkg ∧ (s.setPair k v).regs = s.regs ∧ (s.setPair k v).pages = s.pages ∧ (s.setPair k v).slots = s.slots ∧ (s.setPair k v).dies = s.dies ∧ (s.setPair k v).frames = s.frames ∧ (s.setPair k v).qport = s.qport ∧ (s.setPair k v).ports = s.ports ∧ (s.setPair k v).routes = s.routes ∧ (s.setPair k v).mer = s.mer ∧ (s.setPair k v).xact = s.xact ∧ (s.setPair k v).nurs = s.nurs ∧ (s.setPair k v).cfg = s.cfg ∧ (s.setPair k v).feram = s.feram ∧ (s.setPair k v).capt = s.capt ∧ (s.setPair k v).shadow = s.shadow ∧ (s.setPair k v).fresh = s.fresh ∧ (s.setPair k v).copies = s.copies ∧ (s.setPair k v).heard = s.heard ∧ (s.setPair k v).outbox = s.outbox ∧ (s.setPair k v).rsp = s.rsp ∧ (s.setPair k v).free = s.free ∧ (s.setPair k v).later = s.later ∧ (s.setPair k v).pending = s.pending := by simp [State.setPair]

@[simp] theorem State.modPair_frame (s : State) (k : Nat) (g : Pair → Pair) :
    (s.modPair k g).now = s.now ∧ (s.modPair k g).ident = s.ident ∧ (s.modPair k g).pkg = s.pkg ∧ (s.modPair k g).regs = s.regs ∧ (s.modPair k g).pages = s.pages ∧ (s.modPair k g).slots = s.slots ∧ (s.modPair k g).dies = s.dies ∧ (s.modPair k g).frames = s.frames ∧ (s.modPair k g).qport = s.qport ∧ (s.modPair k g).ports = s.ports ∧ (s.modPair k g).routes = s.routes ∧ (s.modPair k g).mer = s.mer ∧ (s.modPair k g).xact = s.xact ∧ (s.modPair k g).nurs = s.nurs ∧ (s.modPair k g).cfg = s.cfg ∧ (s.modPair k g).feram = s.feram ∧ (s.modPair k g).capt = s.capt ∧ (s.modPair k g).shadow = s.shadow ∧ (s.modPair k g).fresh = s.fresh ∧ (s.modPair k g).copies = s.copies ∧ (s.modPair k g).heard = s.heard ∧ (s.modPair k g).outbox = s.outbox ∧ (s.modPair k g).rsp = s.rsp ∧ (s.modPair k g).free = s.free ∧ (s.modPair k g).later = s.later ∧ (s.modPair k g).pending = s.pending := by simp [State.modPair]

@[simp] theorem State.modPort_frame (s : State) (p : Nat) (g : Port → Port) :
    (s.modPort p g).now = s.now ∧ (s.modPort p g).ident = s.ident ∧ (s.modPort p g).pkg = s.pkg ∧ (s.modPort p g).regs = s.regs ∧ (s.modPort p g).pages = s.pages ∧ (s.modPort p g).slots = s.slots ∧ (s.modPort p g).dies = s.dies ∧ (s.modPort p g).frames = s.frames ∧ (s.modPort p g).qport = s.qport ∧ (s.modPort p g).pairAB = s.pairAB ∧ (s.modPort p g).pairCD = s.pairCD ∧ (s.modPort p g).routes = s.routes ∧ (s.modPort p g).mer = s.mer ∧ (s.modPort p g).xact = s.xact ∧ (s.modPort p g).nurs = s.nurs ∧ (s.modPort p g).cfg = s.cfg ∧ (s.modPort p g).feram = s.feram ∧ (s.modPort p g).capt = s.capt ∧ (s.modPort p g).shadow = s.shadow ∧ (s.modPort p g).fresh = s.fresh ∧ (s.modPort p g).copies = s.copies ∧ (s.modPort p g).heard = s.heard ∧ (s.modPort p g).outbox = s.outbox ∧ (s.modPort p g).rsp = s.rsp ∧ (s.modPort p g).free = s.free ∧ (s.modPort p g).later = s.later ∧ (s.modPort p g).pending = s.pending := by simp [State.modPort]

@[simp] theorem State.sendItem_frame (s : State) (i : Nat) (n : Nat) (o : Out) :
    (s.sendItem i n o).now = s.now ∧ (s.sendItem i n o).ident = s.ident ∧ (s.sendItem i n o).pkg = s.pkg ∧ (s.sendItem i n o).regs = s.regs ∧ (s.sendItem i n o).pages = s.pages ∧ (s.sendItem i n o).slots = s.slots ∧ (s.sendItem i n o).dies = s.dies ∧ (s.sendItem i n o).frames = s.frames ∧ (s.sendItem i n o).qport = s.qport ∧ (s.sendItem i n o).pairAB = s.pairAB ∧ (s.sendItem i n o).pairCD = s.pairCD ∧ (s.sendItem i n o).routes = s.routes ∧ (s.sendItem i n o).mer = s.mer ∧ (s.sendItem i n o).xact = s.xact ∧ (s.sendItem i n o).nurs = s.nurs ∧ (s.sendItem i n o).cfg = s.cfg ∧ (s.sendItem i n o).feram = s.feram ∧ (s.sendItem i n o).capt = s.capt ∧ (s.sendItem i n o).shadow = s.shadow ∧ (s.sendItem i n o).fresh = s.fresh ∧ (s.sendItem i n o).copies = s.copies ∧ (s.sendItem i n o).heard = s.heard ∧ (s.sendItem i n o).rsp = s.rsp ∧ (s.sendItem i n o).free = s.free ∧ (s.sendItem i n o).later = s.later ∧ (s.sendItem i n o).pending = s.pending := by simp [State.sendItem]

@[simp] theorem State.pump_frame (s : State) (i : Nat) :
    (s.pump i).now = s.now ∧ (s.pump i).ident = s.ident ∧ (s.pump i).pkg = s.pkg ∧ (s.pump i).regs = s.regs ∧ (s.pump i).pages = s.pages ∧ (s.pump i).slots = s.slots ∧ (s.pump i).dies = s.dies ∧ (s.pump i).frames = s.frames ∧ (s.pump i).qport = s.qport ∧ (s.pump i).pairAB = s.pairAB ∧ (s.pump i).pairCD = s.pairCD ∧ (s.pump i).routes = s.routes ∧ (s.pump i).mer = s.mer ∧ (s.pump i).xact = s.xact ∧ (s.pump i).nurs = s.nurs ∧ (s.pump i).cfg = s.cfg ∧ (s.pump i).feram = s.feram ∧ (s.pump i).capt = s.capt ∧ (s.pump i).shadow = s.shadow ∧ (s.pump i).fresh = s.fresh ∧ (s.pump i).copies = s.copies ∧ (s.pump i).heard = s.heard ∧ (s.pump i).rsp = s.rsp ∧ (s.pump i).free = s.free ∧ (s.pump i).later = s.later ∧ (s.pump i).pending = s.pending := by simp [State.pump]

@[simp] theorem State.sendPort_frame (s : State) (i : Nat) (f : Frame) :
    (s.sendPort i f).now = s.now ∧ (s.sendPort i f).ident = s.ident ∧ (s.sendPort i f).pkg = s.pkg ∧ (s.sendPort i f).regs = s.regs ∧ (s.sendPort i f).pages = s.pages ∧ (s.sendPort i f).slots = s.slots ∧ (s.sendPort i f).dies = s.dies ∧ (s.sendPort i f).frames = s.frames ∧ (s.sendPort i f).qport = s.qport ∧ (s.sendPort i f).pairAB = s.pairAB ∧ (s.sendPort i f).pairCD = s.pairCD ∧ (s.sendPort i f).routes = s.routes ∧ (s.sendPort i f).mer = s.mer ∧ (s.sendPort i f).xact = s.xact ∧ (s.sendPort i f).nurs = s.nurs ∧ (s.sendPort i f).cfg = s.cfg ∧ (s.sendPort i f).feram = s.feram ∧ (s.sendPort i f).capt = s.capt ∧ (s.sendPort i f).shadow = s.shadow ∧ (s.sendPort i f).fresh = s.fresh ∧ (s.sendPort i f).copies = s.copies ∧ (s.sendPort i f).heard = s.heard ∧ (s.sendPort i f).rsp = s.rsp ∧ (s.sendPort i f).free = s.free ∧ (s.sendPort i f).later = s.later ∧ (s.sendPort i f).pending = s.pending := by simp [State.sendPort]

@[simp] theorem State.sendPair_frame (s : State) (k : Nat) (f : Frame) :
    (s.sendPair k f).now = s.now ∧ (s.sendPair k f).ident = s.ident ∧ (s.sendPair k f).pkg = s.pkg ∧ (s.sendPair k f).regs = s.regs ∧ (s.sendPair k f).pages = s.pages ∧ (s.sendPair k f).slots = s.slots ∧ (s.sendPair k f).dies = s.dies ∧ (s.sendPair k f).frames = s.frames ∧ (s.sendPair k f).qport = s.qport ∧ (s.sendPair k f).pairAB = s.pairAB ∧ (s.sendPair k f).pairCD = s.pairCD ∧ (s.sendPair k f).routes = s.routes ∧ (s.sendPair k f).mer = s.mer ∧ (s.sendPair k f).xact = s.xact ∧ (s.sendPair k f).nurs = s.nurs ∧ (s.sendPair k f).cfg = s.cfg ∧ (s.sendPair k f).feram = s.feram ∧ (s.sendPair k f).capt = s.capt ∧ (s.sendPair k f).shadow = s.shadow ∧ (s.sendPair k f).fresh = s.fresh ∧ (s.sendPair k f).copies = s.copies ∧ (s.sendPair k f).heard = s.heard ∧ (s.sendPair k f).rsp = s.rsp ∧ (s.sendPair k f).free = s.free ∧ (s.sendPair k f).later = s.later ∧ (s.sendPair k f).pending = s.pending := by simp [State.sendPair]

@[simp] theorem State.sendFrame_frame (s : State) (f : Frame) :
    (s.sendFrame f).1.now = s.now ∧ (s.sendFrame f).1.ident = s.ident ∧ (s.sendFrame f).1.pkg = s.pkg ∧ (s.sendFrame f).1.regs = s.regs ∧ (s.sendFrame f).1.pages = s.pages ∧ (s.sendFrame f).1.slots = s.slots ∧ (s.sendFrame f).1.dies = s.dies ∧ (s.sendFrame f).1.frames = s.frames ∧ (s.sendFrame f).1.qport = s.qport ∧ (s.sendFrame f).1.pairAB = s.pairAB ∧ (s.sendFrame f).1.pairCD = s.pairCD ∧ (s.sendFrame f).1.routes = s.routes ∧ (s.sendFrame f).1.mer = s.mer ∧ (s.sendFrame f).1.xact = s.xact ∧ (s.sendFrame f).1.nurs = s.nurs ∧ (s.sendFrame f).1.cfg = s.cfg ∧ (s.sendFrame f).1.feram = s.feram ∧ (s.sendFrame f).1.capt = s.capt ∧ (s.sendFrame f).1.shadow = s.shadow ∧ (s.sendFrame f).1.fresh = s.fresh ∧ (s.sendFrame f).1.copies = s.copies ∧ (s.sendFrame f).1.heard = s.heard ∧ (s.sendFrame f).1.rsp = s.rsp ∧ (s.sendFrame f).1.free = s.free ∧ (s.sendFrame f).1.later = s.later ∧ (s.sendFrame f).1.pending = s.pending := by unfold State.sendFrame; (repeat' split) <;> simp

@[simp] theorem State.sendUrgent_frame (s : State) (m : Msg) :
    (s.sendUrgent m).now = s.now ∧ (s.sendUrgent m).ident = s.ident ∧ (s.sendUrgent m).pkg = s.pkg ∧ (s.sendUrgent m).regs = s.regs ∧ (s.sendUrgent m).pages = s.pages ∧ (s.sendUrgent m).slots = s.slots ∧ (s.sendUrgent m).dies = s.dies ∧ (s.sendUrgent m).frames = s.frames ∧ (s.sendUrgent m).qport = s.qport ∧ (s.sendUrgent m).ports = s.ports ∧ (s.sendUrgent m).pairAB = s.pairAB ∧ (s.sendUrgent m).pairCD = s.pairCD ∧ (s.sendUrgent m).routes = s.routes ∧ (s.sendUrgent m).mer = s.mer ∧ (s.sendUrgent m).xact = s.xact ∧ (s.sendUrgent m).nurs = s.nurs ∧ (s.sendUrgent m).cfg = s.cfg ∧ (s.sendUrgent m).feram = s.feram ∧ (s.sendUrgent m).capt = s.capt ∧ (s.sendUrgent m).shadow = s.shadow ∧ (s.sendUrgent m).fresh = s.fresh ∧ (s.sendUrgent m).copies = s.copies ∧ (s.sendUrgent m).heard = s.heard ∧ (s.sendUrgent m).rsp = s.rsp ∧ (s.sendUrgent m).free = s.free ∧ (s.sendUrgent m).later = s.later ∧ (s.sendUrgent m).pending = s.pending := by simp [State.sendUrgent]

@[simp] theorem State.sendEvent_frame (s : State) :
    (s.sendEvent).now = s.now ∧ (s.sendEvent).ident = s.ident ∧ (s.sendEvent).regs = s.regs ∧ (s.sendEvent).pages = s.pages ∧ (s.sendEvent).slots = s.slots ∧ (s.sendEvent).dies = s.dies ∧ (s.sendEvent).frames = s.frames ∧ (s.sendEvent).qport = s.qport ∧ (s.sendEvent).pairAB = s.pairAB ∧ (s.sendEvent).pairCD = s.pairCD ∧ (s.sendEvent).routes = s.routes ∧ (s.sendEvent).mer = s.mer ∧ (s.sendEvent).xact = s.xact ∧ (s.sendEvent).nurs = s.nurs ∧ (s.sendEvent).cfg = s.cfg ∧ (s.sendEvent).feram = s.feram ∧ (s.sendEvent).capt = s.capt ∧ (s.sendEvent).shadow = s.shadow ∧ (s.sendEvent).fresh = s.fresh ∧ (s.sendEvent).copies = s.copies ∧ (s.sendEvent).heard = s.heard ∧ (s.sendEvent).rsp = s.rsp ∧ (s.sendEvent).free = s.free ∧ (s.sendEvent).later = s.later ∧ (s.sendEvent).pending = s.pending := by simp [State.sendEvent]

@[simp] theorem State.thEdges_frame (s : State) (l : List Nat) :
    (s.thEdges l).now = s.now ∧ (s.thEdges l).ident = s.ident ∧ (s.thEdges l).pkg = s.pkg ∧ (s.thEdges l).regs = s.regs ∧ (s.thEdges l).dies = s.dies ∧ (s.thEdges l).frames = s.frames ∧ (s.thEdges l).qport = s.qport ∧ (s.thEdges l).ports = s.ports ∧ (s.thEdges l).pairAB = s.pairAB ∧ (s.thEdges l).pairCD = s.pairCD ∧ (s.thEdges l).routes = s.routes ∧ (s.thEdges l).mer = s.mer ∧ (s.thEdges l).xact = s.xact ∧ (s.thEdges l).nurs = s.nurs ∧ (s.thEdges l).cfg = s.cfg ∧ (s.thEdges l).feram = s.feram ∧ (s.thEdges l).capt = s.capt ∧ (s.thEdges l).shadow = s.shadow ∧ (s.thEdges l).fresh = s.fresh ∧ (s.thEdges l).copies = s.copies ∧ (s.thEdges l).heard = s.heard ∧ (s.thEdges l).outbox = s.outbox ∧ (s.thEdges l).rsp = s.rsp ∧ (s.thEdges l).free = s.free ∧ (s.thEdges l).later = s.later ∧ (s.thEdges l).pending = s.pending := by simp [State.thEdges]

@[simp] theorem State.settleEwarn_frame (s : State) :
    (s.settleEwarn).now = s.now ∧ (s.settleEwarn).ident = s.ident ∧ (s.settleEwarn).regs = s.regs ∧ (s.settleEwarn).slots = s.slots ∧ (s.settleEwarn).dies = s.dies ∧ (s.settleEwarn).frames = s.frames ∧ (s.settleEwarn).qport = s.qport ∧ (s.settleEwarn).ports = s.ports ∧ (s.settleEwarn).pairAB = s.pairAB ∧ (s.settleEwarn).pairCD = s.pairCD ∧ (s.settleEwarn).routes = s.routes ∧ (s.settleEwarn).mer = s.mer ∧ (s.settleEwarn).xact = s.xact ∧ (s.settleEwarn).nurs = s.nurs ∧ (s.settleEwarn).cfg = s.cfg ∧ (s.settleEwarn).feram = s.feram ∧ (s.settleEwarn).capt = s.capt ∧ (s.settleEwarn).shadow = s.shadow ∧ (s.settleEwarn).fresh = s.fresh ∧ (s.settleEwarn).copies = s.copies ∧ (s.settleEwarn).heard = s.heard ∧ (s.settleEwarn).outbox = s.outbox ∧ (s.settleEwarn).rsp = s.rsp ∧ (s.settleEwarn).free = s.free ∧ (s.settleEwarn).later = s.later ∧ (s.settleEwarn).pending = s.pending := by simp [State.settleEwarn]

@[simp] theorem State.settleFault_frame (s : State) :
    (s.settleFault).now = s.now ∧ (s.settleFault).ident = s.ident ∧ (s.settleFault).regs = s.regs ∧ (s.settleFault).slots = s.slots ∧ (s.settleFault).dies = s.dies ∧ (s.settleFault).frames = s.frames ∧ (s.settleFault).qport = s.qport ∧ (s.settleFault).ports = s.ports ∧ (s.settleFault).pairAB = s.pairAB ∧ (s.settleFault).pairCD = s.pairCD ∧ (s.settleFault).routes = s.routes ∧ (s.settleFault).mer = s.mer ∧ (s.settleFault).xact = s.xact ∧ (s.settleFault).nurs = s.nurs ∧ (s.settleFault).cfg = s.cfg ∧ (s.settleFault).feram = s.feram ∧ (s.settleFault).capt = s.capt ∧ (s.settleFault).shadow = s.shadow ∧ (s.settleFault).fresh = s.fresh ∧ (s.settleFault).copies = s.copies ∧ (s.settleFault).heard = s.heard ∧ (s.settleFault).outbox = s.outbox ∧ (s.settleFault).rsp = s.rsp ∧ (s.settleFault).free = s.free ∧ (s.settleFault).later = s.later ∧ (s.settleFault).pending = s.pending := by simp [State.settleFault]

@[simp] theorem State.settleDirty_frame (s : State) :
    (s.settleDirty).now = s.now ∧ (s.settleDirty).ident = s.ident ∧ (s.settleDirty).regs = s.regs ∧ (s.settleDirty).slots = s.slots ∧ (s.settleDirty).dies = s.dies ∧ (s.settleDirty).frames = s.frames ∧ (s.settleDirty).qport = s.qport ∧ (s.settleDirty).ports = s.ports ∧ (s.settleDirty).pairAB = s.pairAB ∧ (s.settleDirty).pairCD = s.pairCD ∧ (s.settleDirty).routes = s.routes ∧ (s.settleDirty).mer = s.mer ∧ (s.settleDirty).xact = s.xact ∧ (s.settleDirty).nurs = s.nurs ∧ (s.settleDirty).cfg = s.cfg ∧ (s.settleDirty).feram = s.feram ∧ (s.settleDirty).capt = s.capt ∧ (s.settleDirty).shadow = s.shadow ∧ (s.settleDirty).fresh = s.fresh ∧ (s.settleDirty).copies = s.copies ∧ (s.settleDirty).heard = s.heard ∧ (s.settleDirty).outbox = s.outbox ∧ (s.settleDirty).rsp = s.rsp ∧ (s.settleDirty).free = s.free ∧ (s.settleDirty).later = s.later ∧ (s.settleDirty).pending = s.pending := by simp [State.settleDirty]

@[simp] theorem State.settleSummary_frame (s : State) :
    (s.settleSummary).now = s.now ∧ (s.settleSummary).ident = s.ident ∧ (s.settleSummary).regs = s.regs ∧ (s.settleSummary).pages = s.pages ∧ (s.settleSummary).slots = s.slots ∧ (s.settleSummary).dies = s.dies ∧ (s.settleSummary).frames = s.frames ∧ (s.settleSummary).qport = s.qport ∧ (s.settleSummary).pairAB = s.pairAB ∧ (s.settleSummary).pairCD = s.pairCD ∧ (s.settleSummary).routes = s.routes ∧ (s.settleSummary).mer = s.mer ∧ (s.settleSummary).xact = s.xact ∧ (s.settleSummary).nurs = s.nurs ∧ (s.settleSummary).cfg = s.cfg ∧ (s.settleSummary).feram = s.feram ∧ (s.settleSummary).capt = s.capt ∧ (s.settleSummary).shadow = s.shadow ∧ (s.settleSummary).fresh = s.fresh ∧ (s.settleSummary).copies = s.copies ∧ (s.settleSummary).heard = s.heard ∧ (s.settleSummary).rsp = s.rsp ∧ (s.settleSummary).free = s.free ∧ (s.settleSummary).later = s.later ∧ (s.settleSummary).pending = s.pending := by simp [State.settleSummary]

@[simp] theorem State.settleLines_frame (s : State) :
    (s.settleLines).now = s.now ∧ (s.settleLines).ident = s.ident ∧ (s.settleLines).pkg = s.pkg ∧ (s.settleLines).regs = s.regs ∧ (s.settleLines).pages = s.pages ∧ (s.settleLines).slots = s.slots ∧ (s.settleLines).dies = s.dies ∧ (s.settleLines).frames = s.frames ∧ (s.settleLines).qport = s.qport ∧ (s.settleLines).routes = s.routes ∧ (s.settleLines).mer = s.mer ∧ (s.settleLines).xact = s.xact ∧ (s.settleLines).nurs = s.nurs ∧ (s.settleLines).cfg = s.cfg ∧ (s.settleLines).feram = s.feram ∧ (s.settleLines).capt = s.capt ∧ (s.settleLines).shadow = s.shadow ∧ (s.settleLines).fresh = s.fresh ∧ (s.settleLines).copies = s.copies ∧ (s.settleLines).heard = s.heard ∧ (s.settleLines).rsp = s.rsp ∧ (s.settleLines).free = s.free ∧ (s.settleLines).later = s.later ∧ (s.settleLines).pending = s.pending := by simp [State.settleLines]

@[simp] theorem State.settle_frame (s : State) :
    (s.settle).now = s.now ∧ (s.settle).ident = s.ident ∧ (s.settle).regs = s.regs ∧ (s.settle).slots = s.slots ∧ (s.settle).dies = s.dies ∧ (s.settle).frames = s.frames ∧ (s.settle).qport = s.qport ∧ (s.settle).routes = s.routes ∧ (s.settle).mer = s.mer ∧ (s.settle).xact = s.xact ∧ (s.settle).nurs = s.nurs ∧ (s.settle).cfg = s.cfg ∧ (s.settle).feram = s.feram ∧ (s.settle).capt = s.capt ∧ (s.settle).shadow = s.shadow ∧ (s.settle).fresh = s.fresh ∧ (s.settle).copies = s.copies ∧ (s.settle).heard = s.heard ∧ (s.settle).rsp = s.rsp ∧ (s.settle).free = s.free ∧ (s.settle).later = s.later ∧ (s.settle).pending = s.pending := by simp [State.settle]

@[simp] theorem State.modCtx_frame (s : State) (d : Nat) (n : Nat) (g : Ctx → Ctx) :
    (s.modCtx d n g).now = s.now ∧ (s.modCtx d n g).ident = s.ident ∧ (s.modCtx d n g).pkg = s.pkg ∧ (s.modCtx d n g).regs = s.regs ∧ (s.modCtx d n g).pages = s.pages ∧ (s.modCtx d n g).slots = s.slots ∧ (s.modCtx d n g).frames = s.frames ∧ (s.modCtx d n g).qport = s.qport ∧ (s.modCtx d n g).ports = s.ports ∧ (s.modCtx d n g).pairAB = s.pairAB ∧ (s.modCtx d n g).pairCD = s.pairCD ∧ (s.modCtx d n g).routes = s.routes ∧ (s.modCtx d n g).mer = s.mer ∧ (s.modCtx d n g).xact = s.xact ∧ (s.modCtx d n g).nurs = s.nurs ∧ (s.modCtx d n g).cfg = s.cfg ∧ (s.modCtx d n g).feram = s.feram ∧ (s.modCtx d n g).capt = s.capt ∧ (s.modCtx d n g).shadow = s.shadow ∧ (s.modCtx d n g).fresh = s.fresh ∧ (s.modCtx d n g).copies = s.copies ∧ (s.modCtx d n g).heard = s.heard ∧ (s.modCtx d n g).outbox = s.outbox ∧ (s.modCtx d n g).rsp = s.rsp ∧ (s.modCtx d n g).free = s.free ∧ (s.modCtx d n g).later = s.later ∧ (s.modCtx d n g).pending = s.pending := by simp [State.modCtx]

@[simp] theorem State.modTest_frame (s : State) (d : Nat) (g : TestGen → TestGen) :
    (s.modTest d g).now = s.now ∧ (s.modTest d g).ident = s.ident ∧ (s.modTest d g).pkg = s.pkg ∧ (s.modTest d g).regs = s.regs ∧ (s.modTest d g).pages = s.pages ∧ (s.modTest d g).slots = s.slots ∧ (s.modTest d g).frames = s.frames ∧ (s.modTest d g).qport = s.qport ∧ (s.modTest d g).ports = s.ports ∧ (s.modTest d g).pairAB = s.pairAB ∧ (s.modTest d g).pairCD = s.pairCD ∧ (s.modTest d g).routes = s.routes ∧ (s.modTest d g).mer = s.mer ∧ (s.modTest d g).xact = s.xact ∧ (s.modTest d g).nurs = s.nurs ∧ (s.modTest d g).cfg = s.cfg ∧ (s.modTest d g).feram = s.feram ∧ (s.modTest d g).capt = s.capt ∧ (s.modTest d g).shadow = s.shadow ∧ (s.modTest d g).fresh = s.fresh ∧ (s.modTest d g).copies = s.copies ∧ (s.modTest d g).heard = s.heard ∧ (s.modTest d g).outbox = s.outbox ∧ (s.modTest d g).rsp = s.rsp ∧ (s.modTest d g).free = s.free ∧ (s.modTest d g).later = s.later ∧ (s.modTest d g).pending = s.pending := by simp [State.modTest]

@[simp] theorem State.modCap_frame (s : State) (d : Nat) (g : Capture → Capture) :
    (s.modCap d g).now = s.now ∧ (s.modCap d g).ident = s.ident ∧ (s.modCap d g).pkg = s.pkg ∧ (s.modCap d g).regs = s.regs ∧ (s.modCap d g).pages = s.pages ∧ (s.modCap d g).slots = s.slots ∧ (s.modCap d g).frames = s.frames ∧ (s.modCap d g).qport = s.qport ∧ (s.modCap d g).ports = s.ports ∧ (s.modCap d g).pairAB = s.pairAB ∧ (s.modCap d g).pairCD = s.pairCD ∧ (s.modCap d g).routes = s.routes ∧ (s.modCap d g).mer = s.mer ∧ (s.modCap d g).xact = s.xact ∧ (s.modCap d g).nurs = s.nurs ∧ (s.modCap d g).cfg = s.cfg ∧ (s.modCap d g).feram = s.feram ∧ (s.modCap d g).capt = s.capt ∧ (s.modCap d g).shadow = s.shadow ∧ (s.modCap d g).fresh = s.fresh ∧ (s.modCap d g).copies = s.copies ∧ (s.modCap d g).heard = s.heard ∧ (s.modCap d g).outbox = s.outbox ∧ (s.modCap d g).rsp = s.rsp ∧ (s.modCap d g).free = s.free ∧ (s.modCap d g).later = s.later ∧ (s.modCap d g).pending = s.pending := by simp [State.modCap]

@[simp] theorem State.copyBank_frame (s : State) (d : Nat) (n : Nat) :
    (s.copyBank d n).now = s.now ∧ (s.copyBank d n).ident = s.ident ∧ (s.copyBank d n).pkg = s.pkg ∧ (s.copyBank d n).pages = s.pages ∧ (s.copyBank d n).slots = s.slots ∧ (s.copyBank d n).dies = s.dies ∧ (s.copyBank d n).frames = s.frames ∧ (s.copyBank d n).qport = s.qport ∧ (s.copyBank d n).ports = s.ports ∧ (s.copyBank d n).pairAB = s.pairAB ∧ (s.copyBank d n).pairCD = s.pairCD ∧ (s.copyBank d n).routes = s.routes ∧ (s.copyBank d n).mer = s.mer ∧ (s.copyBank d n).xact = s.xact ∧ (s.copyBank d n).nurs = s.nurs ∧ (s.copyBank d n).cfg = s.cfg ∧ (s.copyBank d n).feram = s.feram ∧ (s.copyBank d n).capt = s.capt ∧ (s.copyBank d n).shadow = s.shadow ∧ (s.copyBank d n).fresh = s.fresh ∧ (s.copyBank d n).copies = s.copies ∧ (s.copyBank d n).heard = s.heard ∧ (s.copyBank d n).outbox = s.outbox ∧ (s.copyBank d n).rsp = s.rsp ∧ (s.copyBank d n).free = s.free ∧ (s.copyBank d n).later = s.later ∧ (s.copyBank d n).pending = s.pending := by simp [State.copyBank]

@[simp] theorem State.commitNow_frame (s : State) (d : Nat) (n : Nat) :
    (s.commitNow d n).now = s.now ∧ (s.commitNow d n).ident = s.ident ∧ (s.commitNow d n).pkg = s.pkg ∧ (s.commitNow d n).slots = s.slots ∧ (s.commitNow d n).frames = s.frames ∧ (s.commitNow d n).qport = s.qport ∧ (s.commitNow d n).ports = s.ports ∧ (s.commitNow d n).pairAB = s.pairAB ∧ (s.commitNow d n).pairCD = s.pairCD ∧ (s.commitNow d n).routes = s.routes ∧ (s.commitNow d n).mer = s.mer ∧ (s.commitNow d n).xact = s.xact ∧ (s.commitNow d n).nurs = s.nurs ∧ (s.commitNow d n).cfg = s.cfg ∧ (s.commitNow d n).feram = s.feram ∧ (s.commitNow d n).capt = s.capt ∧ (s.commitNow d n).shadow = s.shadow ∧ (s.commitNow d n).fresh = s.fresh ∧ (s.commitNow d n).copies = s.copies ∧ (s.commitNow d n).heard = s.heard ∧ (s.commitNow d n).outbox = s.outbox ∧ (s.commitNow d n).rsp = s.rsp ∧ (s.commitNow d n).free = s.free ∧ (s.commitNow d n).later = s.later ∧ (s.commitNow d n).pending = s.pending := by simp [State.commitNow]

@[simp] theorem State.commitReq_frame (s : State) (d : Nat) (n : Nat) :
    (s.commitReq d n).now = s.now ∧ (s.commitReq d n).ident = s.ident ∧ (s.commitReq d n).pkg = s.pkg ∧ (s.commitReq d n).slots = s.slots ∧ (s.commitReq d n).frames = s.frames ∧ (s.commitReq d n).qport = s.qport ∧ (s.commitReq d n).ports = s.ports ∧ (s.commitReq d n).pairAB = s.pairAB ∧ (s.commitReq d n).pairCD = s.pairCD ∧ (s.commitReq d n).routes = s.routes ∧ (s.commitReq d n).mer = s.mer ∧ (s.commitReq d n).xact = s.xact ∧ (s.commitReq d n).nurs = s.nurs ∧ (s.commitReq d n).cfg = s.cfg ∧ (s.commitReq d n).feram = s.feram ∧ (s.commitReq d n).capt = s.capt ∧ (s.commitReq d n).shadow = s.shadow ∧ (s.commitReq d n).fresh = s.fresh ∧ (s.commitReq d n).copies = s.copies ∧ (s.commitReq d n).heard = s.heard ∧ (s.commitReq d n).outbox = s.outbox ∧ (s.commitReq d n).rsp = s.rsp ∧ (s.commitReq d n).free = s.free ∧ (s.commitReq d n).later = s.later ∧ (s.commitReq d n).pending = s.pending := by simp [State.commitReq]

@[simp] theorem State.testStop_frame (s : State) (d : Nat) (reason : Nat) :
    (s.testStop d reason).now = s.now ∧ (s.testStop d reason).ident = s.ident ∧ (s.testStop d reason).pkg = s.pkg ∧ (s.testStop d reason).regs = s.regs ∧ (s.testStop d reason).slots = s.slots ∧ (s.testStop d reason).frames = s.frames ∧ (s.testStop d reason).qport = s.qport ∧ (s.testStop d reason).ports = s.ports ∧ (s.testStop d reason).pairAB = s.pairAB ∧ (s.testStop d reason).pairCD = s.pairCD ∧ (s.testStop d reason).routes = s.routes ∧ (s.testStop d reason).mer = s.mer ∧ (s.testStop d reason).xact = s.xact ∧ (s.testStop d reason).nurs = s.nurs ∧ (s.testStop d reason).cfg = s.cfg ∧ (s.testStop d reason).feram = s.feram ∧ (s.testStop d reason).capt = s.capt ∧ (s.testStop d reason).shadow = s.shadow ∧ (s.testStop d reason).fresh = s.fresh ∧ (s.testStop d reason).copies = s.copies ∧ (s.testStop d reason).heard = s.heard ∧ (s.testStop d reason).outbox = s.outbox ∧ (s.testStop d reason).rsp = s.rsp ∧ (s.testStop d reason).free = s.free ∧ (s.testStop d reason).later = s.later ∧ (s.testStop d reason).pending = s.pending := by simp [State.testStop]

@[simp] theorem State.capFinish_frame (s : State) (d : Nat) (part : Bool) :
    (s.capFinish d part).now = s.now ∧ (s.capFinish d part).ident = s.ident ∧ (s.capFinish d part).pkg = s.pkg ∧ (s.capFinish d part).regs = s.regs ∧ (s.capFinish d part).slots = s.slots ∧ (s.capFinish d part).frames = s.frames ∧ (s.capFinish d part).qport = s.qport ∧ (s.capFinish d part).ports = s.ports ∧ (s.capFinish d part).pairAB = s.pairAB ∧ (s.capFinish d part).pairCD = s.pairCD ∧ (s.capFinish d part).routes = s.routes ∧ (s.capFinish d part).mer = s.mer ∧ (s.capFinish d part).xact = s.xact ∧ (s.capFinish d part).nurs = s.nurs ∧ (s.capFinish d part).cfg = s.cfg ∧ (s.capFinish d part).feram = s.feram ∧ (s.capFinish d part).capt = s.capt ∧ (s.capFinish d part).shadow = s.shadow ∧ (s.capFinish d part).fresh = s.fresh ∧ (s.capFinish d part).copies = s.copies ∧ (s.capFinish d part).heard = s.heard ∧ (s.capFinish d part).outbox = s.outbox ∧ (s.capFinish d part).rsp = s.rsp ∧ (s.capFinish d part).free = s.free ∧ (s.capFinish d part).later = s.later ∧ (s.capFinish d part).pending = s.pending := by simp [State.capFinish]

@[simp] theorem State.capTrigger_frame (s : State) (d : Nat) (idx : Nat) (ns : Nat) (stored : Nat) :
    (s.capTrigger d idx ns stored).now = s.now ∧ (s.capTrigger d idx ns stored).ident = s.ident ∧ (s.capTrigger d idx ns stored).pkg = s.pkg ∧ (s.capTrigger d idx ns stored).slots = s.slots ∧ (s.capTrigger d idx ns stored).frames = s.frames ∧ (s.capTrigger d idx ns stored).qport = s.qport ∧ (s.capTrigger d idx ns stored).ports = s.ports ∧ (s.capTrigger d idx ns stored).pairAB = s.pairAB ∧ (s.capTrigger d idx ns stored).pairCD = s.pairCD ∧ (s.capTrigger d idx ns stored).routes = s.routes ∧ (s.capTrigger d idx ns stored).mer = s.mer ∧ (s.capTrigger d idx ns stored).xact = s.xact ∧ (s.capTrigger d idx ns stored).nurs = s.nurs ∧ (s.capTrigger d idx ns stored).cfg = s.cfg ∧ (s.capTrigger d idx ns stored).feram = s.feram ∧ (s.capTrigger d idx ns stored).capt = s.capt ∧ (s.capTrigger d idx ns stored).shadow = s.shadow ∧ (s.capTrigger d idx ns stored).fresh = s.fresh ∧ (s.capTrigger d idx ns stored).copies = s.copies ∧ (s.capTrigger d idx ns stored).heard = s.heard ∧ (s.capTrigger d idx ns stored).outbox = s.outbox ∧ (s.capTrigger d idx ns stored).rsp = s.rsp ∧ (s.capTrigger d idx ns stored).free = s.free ∧ (s.capTrigger d idx ns stored).later = s.later ∧ (s.capTrigger d idx ns stored).pending = s.pending := by simp [State.capTrigger]

@[simp] theorem State.capLast_frame (s : State) (d : Nat) :
    (s.capLast d).now = s.now ∧ (s.capLast d).ident = s.ident ∧ (s.capLast d).pkg = s.pkg ∧ (s.capLast d).slots = s.slots ∧ (s.capLast d).frames = s.frames ∧ (s.capLast d).qport = s.qport ∧ (s.capLast d).ports = s.ports ∧ (s.capLast d).pairAB = s.pairAB ∧ (s.capLast d).pairCD = s.pairCD ∧ (s.capLast d).routes = s.routes ∧ (s.capLast d).mer = s.mer ∧ (s.capLast d).xact = s.xact ∧ (s.capLast d).nurs = s.nurs ∧ (s.capLast d).cfg = s.cfg ∧ (s.capLast d).feram = s.feram ∧ (s.capLast d).capt = s.capt ∧ (s.capLast d).shadow = s.shadow ∧ (s.capLast d).fresh = s.fresh ∧ (s.capLast d).copies = s.copies ∧ (s.capLast d).heard = s.heard ∧ (s.capLast d).outbox = s.outbox ∧ (s.capLast d).rsp = s.rsp ∧ (s.capLast d).free = s.free ∧ (s.capLast d).later = s.later ∧ (s.capLast d).pending = s.pending := by simp [State.capLast]

@[simp] theorem State.capEndAt_frame (s : State) (d : Nat) :
    (s.capEndAt d).now = s.now ∧ (s.capEndAt d).ident = s.ident ∧ (s.capEndAt d).pkg = s.pkg ∧ (s.capEndAt d).slots = s.slots ∧ (s.capEndAt d).frames = s.frames ∧ (s.capEndAt d).qport = s.qport ∧ (s.capEndAt d).ports = s.ports ∧ (s.capEndAt d).pairAB = s.pairAB ∧ (s.capEndAt d).pairCD = s.pairCD ∧ (s.capEndAt d).routes = s.routes ∧ (s.capEndAt d).mer = s.mer ∧ (s.capEndAt d).xact = s.xact ∧ (s.capEndAt d).nurs = s.nurs ∧ (s.capEndAt d).cfg = s.cfg ∧ (s.capEndAt d).feram = s.feram ∧ (s.capEndAt d).capt = s.capt ∧ (s.capEndAt d).shadow = s.shadow ∧ (s.capEndAt d).fresh = s.fresh ∧ (s.capEndAt d).copies = s.copies ∧ (s.capEndAt d).heard = s.heard ∧ (s.capEndAt d).outbox = s.outbox ∧ (s.capEndAt d).rsp = s.rsp ∧ (s.capEndAt d).free = s.free ∧ (s.capEndAt d).later = s.later ∧ (s.capEndAt d).pending = s.pending := by simp [State.capEndAt]

@[simp] theorem State.spareMap_frame (s : State) (d : Nat) (n : Nat) :
    (s.spareMap d n).now = s.now ∧ (s.spareMap d n).ident = s.ident ∧ (s.spareMap d n).slots = s.slots ∧ (s.spareMap d n).frames = s.frames ∧ (s.spareMap d n).qport = s.qport ∧ (s.spareMap d n).ports = s.ports ∧ (s.spareMap d n).pairAB = s.pairAB ∧ (s.spareMap d n).pairCD = s.pairCD ∧ (s.spareMap d n).routes = s.routes ∧ (s.spareMap d n).mer = s.mer ∧ (s.spareMap d n).xact = s.xact ∧ (s.spareMap d n).nurs = s.nurs ∧ (s.spareMap d n).cfg = s.cfg ∧ (s.spareMap d n).feram = s.feram ∧ (s.spareMap d n).capt = s.capt ∧ (s.spareMap d n).shadow = s.shadow ∧ (s.spareMap d n).fresh = s.fresh ∧ (s.spareMap d n).copies = s.copies ∧ (s.spareMap d n).heard = s.heard ∧ (s.spareMap d n).outbox = s.outbox ∧ (s.spareMap d n).rsp = s.rsp ∧ (s.spareMap d n).free = s.free ∧ (s.spareMap d n).later = s.later ∧ (s.spareMap d n).pending = s.pending := by unfold State.spareMap; dsimp only; (repeat' split) <;> simp

@[simp] theorem State.spareGo_frame (s : State) (d : Nat) (n : Nat) :
    (s.spareGo d n).now = s.now ∧ (s.spareGo d n).ident = s.ident ∧ (s.spareGo d n).slots = s.slots ∧ (s.spareGo d n).frames = s.frames ∧ (s.spareGo d n).qport = s.qport ∧ (s.spareGo d n).ports = s.ports ∧ (s.spareGo d n).pairAB = s.pairAB ∧ (s.spareGo d n).pairCD = s.pairCD ∧ (s.spareGo d n).routes = s.routes ∧ (s.spareGo d n).mer = s.mer ∧ (s.spareGo d n).xact = s.xact ∧ (s.spareGo d n).nurs = s.nurs ∧ (s.spareGo d n).cfg = s.cfg ∧ (s.spareGo d n).feram = s.feram ∧ (s.spareGo d n).capt = s.capt ∧ (s.spareGo d n).shadow = s.shadow ∧ (s.spareGo d n).fresh = s.fresh ∧ (s.spareGo d n).copies = s.copies ∧ (s.spareGo d n).heard = s.heard ∧ (s.spareGo d n).outbox = s.outbox ∧ (s.spareGo d n).rsp = s.rsp ∧ (s.spareGo d n).free = s.free ∧ (s.spareGo d n).later = s.later ∧ (s.spareGo d n).pending = s.pending := by simp [State.spareGo]

@[simp] theorem State.ctxReport_frame (s : State) (d : Nat) (n : Nat) :
    (s.ctxReport d n).now = s.now ∧ (s.ctxReport d n).ident = s.ident ∧ (s.ctxReport d n).slots = s.slots ∧ (s.ctxReport d n).frames = s.frames ∧ (s.ctxReport d n).qport = s.qport ∧ (s.ctxReport d n).ports = s.ports ∧ (s.ctxReport d n).pairAB = s.pairAB ∧ (s.ctxReport d n).pairCD = s.pairCD ∧ (s.ctxReport d n).routes = s.routes ∧ (s.ctxReport d n).mer = s.mer ∧ (s.ctxReport d n).xact = s.xact ∧ (s.ctxReport d n).cfg = s.cfg ∧ (s.ctxReport d n).feram = s.feram ∧ (s.ctxReport d n).capt = s.capt ∧ (s.ctxReport d n).shadow = s.shadow ∧ (s.ctxReport d n).fresh = s.fresh ∧ (s.ctxReport d n).copies = s.copies ∧ (s.ctxReport d n).heard = s.heard ∧ (s.ctxReport d n).outbox = s.outbox ∧ (s.ctxReport d n).rsp = s.rsp ∧ (s.ctxReport d n).free = s.free ∧ (s.ctxReport d n).later = s.later ∧ (s.ctxReport d n).pending = s.pending := by simp [State.ctxReport]

@[simp] theorem State.unbindCtx_frame (s : State) (slot : Nat) (toOn : Bool) :
    (s.unbindCtx slot toOn).now = s.now ∧ (s.unbindCtx slot toOn).ident = s.ident ∧ (s.unbindCtx slot toOn).slots = s.slots ∧ (s.unbindCtx slot toOn).frames = s.frames ∧ (s.unbindCtx slot toOn).qport = s.qport ∧ (s.unbindCtx slot toOn).ports = s.ports ∧ (s.unbindCtx slot toOn).pairAB = s.pairAB ∧ (s.unbindCtx slot toOn).pairCD = s.pairCD ∧ (s.unbindCtx slot toOn).routes = s.routes ∧ (s.unbindCtx slot toOn).mer = s.mer ∧ (s.unbindCtx slot toOn).xact = s.xact ∧ (s.unbindCtx slot toOn).nurs = s.nurs ∧ (s.unbindCtx slot toOn).cfg = s.cfg ∧ (s.unbindCtx slot toOn).feram = s.feram ∧ (s.unbindCtx slot toOn).capt = s.capt ∧ (s.unbindCtx slot toOn).shadow = s.shadow ∧ (s.unbindCtx slot toOn).fresh = s.fresh ∧ (s.unbindCtx slot toOn).copies = s.copies ∧ (s.unbindCtx slot toOn).heard = s.heard ∧ (s.unbindCtx slot toOn).outbox = s.outbox ∧ (s.unbindCtx slot toOn).rsp = s.rsp ∧ (s.unbindCtx slot toOn).free = s.free ∧ (s.unbindCtx slot toOn).later = s.later ∧ (s.unbindCtx slot toOn).pending = s.pending := by simp [State.unbindCtx]

@[simp] theorem State.raiseGates_frame (s : State) (n : Nat) :
    (s.raiseGates n).now = s.now ∧ (s.raiseGates n).ident = s.ident ∧ (s.raiseGates n).pkg = s.pkg ∧ (s.raiseGates n).regs = s.regs ∧ (s.raiseGates n).pages = s.pages ∧ (s.raiseGates n).dies = s.dies ∧ (s.raiseGates n).frames = s.frames ∧ (s.raiseGates n).qport = s.qport ∧ (s.raiseGates n).ports = s.ports ∧ (s.raiseGates n).pairAB = s.pairAB ∧ (s.raiseGates n).pairCD = s.pairCD ∧ (s.raiseGates n).routes = s.routes ∧ (s.raiseGates n).mer = s.mer ∧ (s.raiseGates n).xact = s.xact ∧ (s.raiseGates n).nurs = s.nurs ∧ (s.raiseGates n).cfg = s.cfg ∧ (s.raiseGates n).feram = s.feram ∧ (s.raiseGates n).capt = s.capt ∧ (s.raiseGates n).shadow = s.shadow ∧ (s.raiseGates n).fresh = s.fresh ∧ (s.raiseGates n).copies = s.copies ∧ (s.raiseGates n).heard = s.heard ∧ (s.raiseGates n).outbox = s.outbox ∧ (s.raiseGates n).rsp = s.rsp ∧ (s.raiseGates n).free = s.free ∧ (s.raiseGates n).later = s.later ∧ (s.raiseGates n).pending = s.pending := by simp [State.raiseGates]

@[simp] theorem State.pullGates_frame (s : State) (n : Nat) (hard : Bool) :
    (s.pullGates n hard).now = s.now ∧ (s.pullGates n hard).ident = s.ident ∧ (s.pullGates n hard).pkg = s.pkg ∧ (s.pullGates n hard).regs = s.regs ∧ (s.pullGates n hard).pages = s.pages ∧ (s.pullGates n hard).dies = s.dies ∧ (s.pullGates n hard).frames = s.frames ∧ (s.pullGates n hard).qport = s.qport ∧ (s.pullGates n hard).ports = s.ports ∧ (s.pullGates n hard).pairAB = s.pairAB ∧ (s.pullGates n hard).pairCD = s.pairCD ∧ (s.pullGates n hard).routes = s.routes ∧ (s.pullGates n hard).mer = s.mer ∧ (s.pullGates n hard).xact = s.xact ∧ (s.pullGates n hard).nurs = s.nurs ∧ (s.pullGates n hard).cfg = s.cfg ∧ (s.pullGates n hard).feram = s.feram ∧ (s.pullGates n hard).capt = s.capt ∧ (s.pullGates n hard).shadow = s.shadow ∧ (s.pullGates n hard).fresh = s.fresh ∧ (s.pullGates n hard).copies = s.copies ∧ (s.pullGates n hard).heard = s.heard ∧ (s.pullGates n hard).outbox = s.outbox ∧ (s.pullGates n hard).rsp = s.rsp ∧ (s.pullGates n hard).free = s.free ∧ (s.pullGates n hard).later = s.later ∧ (s.pullGates n hard).pending = s.pending := by simp [State.pullGates]

@[simp] theorem State.presEdge_frame (s : State) (n : Nat) (low : Bool) :
    (s.presEdge n low).now = s.now ∧ (s.presEdge n low).ident = s.ident ∧ (s.presEdge n low).pkg = s.pkg ∧ (s.presEdge n low).regs = s.regs ∧ (s.presEdge n low).pages = s.pages ∧ (s.presEdge n low).dies = s.dies ∧ (s.presEdge n low).frames = s.frames ∧ (s.presEdge n low).qport = s.qport ∧ (s.presEdge n low).ports = s.ports ∧ (s.presEdge n low).pairAB = s.pairAB ∧ (s.presEdge n low).pairCD = s.pairCD ∧ (s.presEdge n low).routes = s.routes ∧ (s.presEdge n low).mer = s.mer ∧ (s.presEdge n low).xact = s.xact ∧ (s.presEdge n low).nurs = s.nurs ∧ (s.presEdge n low).cfg = s.cfg ∧ (s.presEdge n low).feram = s.feram ∧ (s.presEdge n low).capt = s.capt ∧ (s.presEdge n low).shadow = s.shadow ∧ (s.presEdge n low).fresh = s.fresh ∧ (s.presEdge n low).copies = s.copies ∧ (s.presEdge n low).heard = s.heard ∧ (s.presEdge n low).outbox = s.outbox ∧ (s.presEdge n low).rsp = s.rsp ∧ (s.presEdge n low).free = s.free ∧ (s.presEdge n low).later = s.later ∧ (s.presEdge n low).pending = s.pending := by simp [State.presEdge]

@[simp] theorem State.pullGate_frame (s : State) (n : Nat) (gateB : Bool) :
    (s.pullGate n gateB).now = s.now ∧ (s.pullGate n gateB).ident = s.ident ∧ (s.pullGate n gateB).pkg = s.pkg ∧ (s.pullGate n gateB).regs = s.regs ∧ (s.pullGate n gateB).pages = s.pages ∧ (s.pullGate n gateB).dies = s.dies ∧ (s.pullGate n gateB).frames = s.frames ∧ (s.pullGate n gateB).qport = s.qport ∧ (s.pullGate n gateB).ports = s.ports ∧ (s.pullGate n gateB).pairAB = s.pairAB ∧ (s.pullGate n gateB).pairCD = s.pairCD ∧ (s.pullGate n gateB).routes = s.routes ∧ (s.pullGate n gateB).mer = s.mer ∧ (s.pullGate n gateB).xact = s.xact ∧ (s.pullGate n gateB).nurs = s.nurs ∧ (s.pullGate n gateB).cfg = s.cfg ∧ (s.pullGate n gateB).feram = s.feram ∧ (s.pullGate n gateB).capt = s.capt ∧ (s.pullGate n gateB).shadow = s.shadow ∧ (s.pullGate n gateB).fresh = s.fresh ∧ (s.pullGate n gateB).copies = s.copies ∧ (s.pullGate n gateB).heard = s.heard ∧ (s.pullGate n gateB).outbox = s.outbox ∧ (s.pullGate n gateB).rsp = s.rsp ∧ (s.pullGate n gateB).free = s.free ∧ (s.pullGate n gateB).later = s.later ∧ (s.pullGate n gateB).pending = s.pending := by simp [State.pullGate]

@[simp] theorem State.terrRec_frame (s : State) (n : Nat) (code : Nat) (addr : Nat) (slot : Nat) (type : Nat) (low : Nat) (cnt : Nat) :
    (s.terrRec n code addr slot type low cnt).now = s.now ∧ (s.terrRec n code addr slot type low cnt).ident = s.ident ∧ (s.terrRec n code addr slot type low cnt).pkg = s.pkg ∧ (s.terrRec n code addr slot type low cnt).regs = s.regs ∧ (s.terrRec n code addr slot type low cnt).slots = s.slots ∧ (s.terrRec n code addr slot type low cnt).frames = s.frames ∧ (s.terrRec n code addr slot type low cnt).qport = s.qport ∧ (s.terrRec n code addr slot type low cnt).ports = s.ports ∧ (s.terrRec n code addr slot type low cnt).pairAB = s.pairAB ∧ (s.terrRec n code addr slot type low cnt).pairCD = s.pairCD ∧ (s.terrRec n code addr slot type low cnt).routes = s.routes ∧ (s.terrRec n code addr slot type low cnt).mer = s.mer ∧ (s.terrRec n code addr slot type low cnt).xact = s.xact ∧ (s.terrRec n code addr slot type low cnt).nurs = s.nurs ∧ (s.terrRec n code addr slot type low cnt).cfg = s.cfg ∧ (s.terrRec n code addr slot type low cnt).feram = s.feram ∧ (s.terrRec n code addr slot type low cnt).capt = s.capt ∧ (s.terrRec n code addr slot type low cnt).shadow = s.shadow ∧ (s.terrRec n code addr slot type low cnt).fresh = s.fresh ∧ (s.terrRec n code addr slot type low cnt).copies = s.copies ∧ (s.terrRec n code addr slot type low cnt).heard = s.heard ∧ (s.terrRec n code addr slot type low cnt).outbox = s.outbox ∧ (s.terrRec n code addr slot type low cnt).rsp = s.rsp ∧ (s.terrRec n code addr slot type low cnt).free = s.free ∧ (s.terrRec n code addr slot type low cnt).later = s.later ∧ (s.terrRec n code addr slot type low cnt).pending = s.pending := by simp [State.terrRec]

@[simp] theorem State.standDown_frame (s : State) (n : Nat) :
    (s.standDown n).now = s.now ∧ (s.standDown n).ident = s.ident ∧ (s.standDown n).pkg = s.pkg ∧ (s.standDown n).regs = s.regs ∧ (s.standDown n).frames = s.frames ∧ (s.standDown n).qport = s.qport ∧ (s.standDown n).ports = s.ports ∧ (s.standDown n).pairAB = s.pairAB ∧ (s.standDown n).pairCD = s.pairCD ∧ (s.standDown n).routes = s.routes ∧ (s.standDown n).mer = s.mer ∧ (s.standDown n).xact = s.xact ∧ (s.standDown n).nurs = s.nurs ∧ (s.standDown n).cfg = s.cfg ∧ (s.standDown n).feram = s.feram ∧ (s.standDown n).capt = s.capt ∧ (s.standDown n).shadow = s.shadow ∧ (s.standDown n).fresh = s.fresh ∧ (s.standDown n).copies = s.copies ∧ (s.standDown n).heard = s.heard ∧ (s.standDown n).outbox = s.outbox ∧ (s.standDown n).rsp = s.rsp ∧ (s.standDown n).free = s.free ∧ (s.standDown n).later = s.later ∧ (s.standDown n).pending = s.pending := by simp [State.standDown]

@[simp] theorem State.leave_frame (s : State) (n : Nat) (st : SM) :
    (s.leave n st).now = s.now ∧ (s.leave n st).ident = s.ident ∧ (s.leave n st).slots = s.slots ∧ (s.leave n st).frames = s.frames ∧ (s.leave n st).qport = s.qport ∧ (s.leave n st).ports = s.ports ∧ (s.leave n st).pairAB = s.pairAB ∧ (s.leave n st).pairCD = s.pairCD ∧ (s.leave n st).routes = s.routes ∧ (s.leave n st).mer = s.mer ∧ (s.leave n st).xact = s.xact ∧ (s.leave n st).cfg = s.cfg ∧ (s.leave n st).feram = s.feram ∧ (s.leave n st).capt = s.capt ∧ (s.leave n st).shadow = s.shadow ∧ (s.leave n st).fresh = s.fresh ∧ (s.leave n st).copies = s.copies ∧ (s.leave n st).heard = s.heard ∧ (s.leave n st).outbox = s.outbox ∧ (s.leave n st).rsp = s.rsp ∧ (s.leave n st).free = s.free ∧ (s.leave n st).later = s.later ∧ (s.leave n st).pending = s.pending := by simp [State.leave]

@[simp] theorem State.gatesIdle_frame (s : State) (n : Nat) :
    (s.gatesIdle n).now = s.now ∧ (s.gatesIdle n).ident = s.ident ∧ (s.gatesIdle n).pkg = s.pkg ∧ (s.gatesIdle n).regs = s.regs ∧ (s.gatesIdle n).frames = s.frames ∧ (s.gatesIdle n).qport = s.qport ∧ (s.gatesIdle n).ports = s.ports ∧ (s.gatesIdle n).pairAB = s.pairAB ∧ (s.gatesIdle n).pairCD = s.pairCD ∧ (s.gatesIdle n).routes = s.routes ∧ (s.gatesIdle n).mer = s.mer ∧ (s.gatesIdle n).xact = s.xact ∧ (s.gatesIdle n).nurs = s.nurs ∧ (s.gatesIdle n).cfg = s.cfg ∧ (s.gatesIdle n).feram = s.feram ∧ (s.gatesIdle n).capt = s.capt ∧ (s.gatesIdle n).shadow = s.shadow ∧ (s.gatesIdle n).fresh = s.fresh ∧ (s.gatesIdle n).copies = s.copies ∧ (s.gatesIdle n).heard = s.heard ∧ (s.gatesIdle n).outbox = s.outbox ∧ (s.gatesIdle n).rsp = s.rsp ∧ (s.gatesIdle n).free = s.free ∧ (s.gatesIdle n).later = s.later ∧ (s.gatesIdle n).pending = s.pending := by simp [State.gatesIdle]

@[simp] theorem State.enter_frame (s : State) (n : Nat) (st : SM) (step : Nat) :
    (s.enter n st step).now = s.now ∧ (s.enter n st step).ident = s.ident ∧ (s.enter n st step).frames = s.frames ∧ (s.enter n st step).qport = s.qport ∧ (s.enter n st step).ports = s.ports ∧ (s.enter n st step).pairAB = s.pairAB ∧ (s.enter n st step).pairCD = s.pairCD ∧ (s.enter n st step).routes = s.routes ∧ (s.enter n st step).mer = s.mer ∧ (s.enter n st step).xact = s.xact ∧ (s.enter n st step).cfg = s.cfg ∧ (s.enter n st step).feram = s.feram ∧ (s.enter n st step).capt = s.capt ∧ (s.enter n st step).shadow = s.shadow ∧ (s.enter n st step).fresh = s.fresh ∧ (s.enter n st step).copies = s.copies ∧ (s.enter n st step).heard = s.heard ∧ (s.enter n st step).outbox = s.outbox ∧ (s.enter n st step).rsp = s.rsp ∧ (s.enter n st step).free = s.free ∧ (s.enter n st step).later = s.later ∧ (s.enter n st step).pending = s.pending := by simp [State.enter]

@[simp] theorem State.reachSlot_frame (s : State) (n : Nat) :
    (s.reachSlot n).now = s.now ∧ (s.reachSlot n).ident = s.ident ∧ (s.reachSlot n).pkg = s.pkg ∧ (s.reachSlot n).regs = s.regs ∧ (s.reachSlot n).frames = s.frames ∧ (s.reachSlot n).qport = s.qport ∧ (s.reachSlot n).ports = s.ports ∧ (s.reachSlot n).pairAB = s.pairAB ∧ (s.reachSlot n).pairCD = s.pairCD ∧ (s.reachSlot n).routes = s.routes ∧ (s.reachSlot n).mer = s.mer ∧ (s.reachSlot n).xact = s.xact ∧ (s.reachSlot n).nurs = s.nurs ∧ (s.reachSlot n).cfg = s.cfg ∧ (s.reachSlot n).feram = s.feram ∧ (s.reachSlot n).capt = s.capt ∧ (s.reachSlot n).shadow = s.shadow ∧ (s.reachSlot n).fresh = s.fresh ∧ (s.reachSlot n).copies = s.copies ∧ (s.reachSlot n).heard = s.heard ∧ (s.reachSlot n).outbox = s.outbox ∧ (s.reachSlot n).rsp = s.rsp ∧ (s.reachSlot n).free = s.free ∧ (s.reachSlot n).later = s.later ∧ (s.reachSlot n).pending = s.pending := by simp [State.reachSlot]

@[simp] theorem State.reachUpdate_frame (s : State) :
    (s.reachUpdate).now = s.now ∧ (s.reachUpdate).ident = s.ident ∧ (s.reachUpdate).pkg = s.pkg ∧ (s.reachUpdate).regs = s.regs ∧ (s.reachUpdate).frames = s.frames ∧ (s.reachUpdate).qport = s.qport ∧ (s.reachUpdate).ports = s.ports ∧ (s.reachUpdate).pairAB = s.pairAB ∧ (s.reachUpdate).pairCD = s.pairCD ∧ (s.reachUpdate).routes = s.routes ∧ (s.reachUpdate).mer = s.mer ∧ (s.reachUpdate).xact = s.xact ∧ (s.reachUpdate).nurs = s.nurs ∧ (s.reachUpdate).cfg = s.cfg ∧ (s.reachUpdate).feram = s.feram ∧ (s.reachUpdate).capt = s.capt ∧ (s.reachUpdate).shadow = s.shadow ∧ (s.reachUpdate).fresh = s.fresh ∧ (s.reachUpdate).copies = s.copies ∧ (s.reachUpdate).heard = s.heard ∧ (s.reachUpdate).outbox = s.outbox ∧ (s.reachUpdate).rsp = s.rsp ∧ (s.reachUpdate).free = s.free ∧ (s.reachUpdate).later = s.later ∧ (s.reachUpdate).pending = s.pending := by simp [State.reachUpdate]

@[simp] theorem State.sendCopy_frame (s : State) (isLocal : Bool) (m : Msg) :
    (s.sendCopy isLocal m).now = s.now ∧ (s.sendCopy isLocal m).ident = s.ident ∧ (s.sendCopy isLocal m).pkg = s.pkg ∧ (s.sendCopy isLocal m).pages = s.pages ∧ (s.sendCopy isLocal m).slots = s.slots ∧ (s.sendCopy isLocal m).dies = s.dies ∧ (s.sendCopy isLocal m).frames = s.frames ∧ (s.sendCopy isLocal m).qport = s.qport ∧ (s.sendCopy isLocal m).ports = s.ports ∧ (s.sendCopy isLocal m).pairAB = s.pairAB ∧ (s.sendCopy isLocal m).pairCD = s.pairCD ∧ (s.sendCopy isLocal m).routes = s.routes ∧ (s.sendCopy isLocal m).mer = s.mer ∧ (s.sendCopy isLocal m).xact = s.xact ∧ (s.sendCopy isLocal m).nurs = s.nurs ∧ (s.sendCopy isLocal m).cfg = s.cfg ∧ (s.sendCopy isLocal m).feram = s.feram ∧ (s.sendCopy isLocal m).capt = s.capt ∧ (s.sendCopy isLocal m).shadow = s.shadow ∧ (s.sendCopy isLocal m).fresh = s.fresh ∧ (s.sendCopy isLocal m).copies = s.copies ∧ (s.sendCopy isLocal m).heard = s.heard ∧ (s.sendCopy isLocal m).rsp = s.rsp ∧ (s.sendCopy isLocal m).free = s.free ∧ (s.sendCopy isLocal m).later = s.later ∧ (s.sendCopy isLocal m).pending = s.pending := by simp [State.sendCopy]

@[simp] theorem State.sendMsg_frame (s : State) (n : Nat) (k : MsgKind) (incident : Nat) (dst : List Party) :
    (s.sendMsg n k incident dst).now = s.now ∧ (s.sendMsg n k incident dst).ident = s.ident ∧ (s.sendMsg n k incident dst).pkg = s.pkg ∧ (s.sendMsg n k incident dst).pages = s.pages ∧ (s.sendMsg n k incident dst).slots = s.slots ∧ (s.sendMsg n k incident dst).dies = s.dies ∧ (s.sendMsg n k incident dst).frames = s.frames ∧ (s.sendMsg n k incident dst).qport = s.qport ∧ (s.sendMsg n k incident dst).ports = s.ports ∧ (s.sendMsg n k incident dst).pairAB = s.pairAB ∧ (s.sendMsg n k incident dst).pairCD = s.pairCD ∧ (s.sendMsg n k incident dst).routes = s.routes ∧ (s.sendMsg n k incident dst).mer = s.mer ∧ (s.sendMsg n k incident dst).xact = s.xact ∧ (s.sendMsg n k incident dst).nurs = s.nurs ∧ (s.sendMsg n k incident dst).cfg = s.cfg ∧ (s.sendMsg n k incident dst).feram = s.feram ∧ (s.sendMsg n k incident dst).capt = s.capt ∧ (s.sendMsg n k incident dst).shadow = s.shadow ∧ (s.sendMsg n k incident dst).fresh = s.fresh ∧ (s.sendMsg n k incident dst).heard = s.heard ∧ (s.sendMsg n k incident dst).rsp = s.rsp ∧ (s.sendMsg n k incident dst).free = s.free ∧ (s.sendMsg n k incident dst).later = s.later ∧ (s.sendMsg n k incident dst).pending = s.pending := by simp [State.sendMsg]

@[simp] theorem State.restrain_frame (s : State) (n : Nat) :
    (s.restrain n).now = s.now ∧ (s.restrain n).ident = s.ident ∧ (s.restrain n).pkg = s.pkg ∧ (s.restrain n).pages = s.pages ∧ (s.restrain n).dies = s.dies ∧ (s.restrain n).frames = s.frames ∧ (s.restrain n).qport = s.qport ∧ (s.restrain n).ports = s.ports ∧ (s.restrain n).pairAB = s.pairAB ∧ (s.restrain n).pairCD = s.pairCD ∧ (s.restrain n).routes = s.routes ∧ (s.restrain n).mer = s.mer ∧ (s.restrain n).xact = s.xact ∧ (s.restrain n).nurs = s.nurs ∧ (s.restrain n).cfg = s.cfg ∧ (s.restrain n).feram = s.feram ∧ (s.restrain n).capt = s.capt ∧ (s.restrain n).shadow = s.shadow ∧ (s.restrain n).fresh = s.fresh ∧ (s.restrain n).heard = s.heard ∧ (s.restrain n).rsp = s.rsp ∧ (s.restrain n).free = s.free ∧ (s.restrain n).later = s.later ∧ (s.restrain n).pending = s.pending := by simp [State.restrain]

@[simp] theorem State.tryCleared_frame (s : State) (n : Nat) :
    (s.tryCleared n).now = s.now ∧ (s.tryCleared n).ident = s.ident ∧ (s.tryCleared n).pkg = s.pkg ∧ (s.tryCleared n).pages = s.pages ∧ (s.tryCleared n).dies = s.dies ∧ (s.tryCleared n).frames = s.frames ∧ (s.tryCleared n).qport = s.qport ∧ (s.tryCleared n).ports = s.ports ∧ (s.tryCleared n).pairAB = s.pairAB ∧ (s.tryCleared n).pairCD = s.pairCD ∧ (s.tryCleared n).routes = s.routes ∧ (s.tryCleared n).mer = s.mer ∧ (s.tryCleared n).xact = s.xact ∧ (s.tryCleared n).nurs = s.nurs ∧ (s.tryCleared n).cfg = s.cfg ∧ (s.tryCleared n).feram = s.feram ∧ (s.tryCleared n).capt = s.capt ∧ (s.tryCleared n).shadow = s.shadow ∧ (s.tryCleared n).fresh = s.fresh ∧ (s.tryCleared n).heard = s.heard ∧ (s.tryCleared n).rsp = s.rsp ∧ (s.tryCleared n).free = s.free ∧ (s.tryCleared n).later = s.later ∧ (s.tryCleared n).pending = s.pending := by simp [State.tryCleared]

@[simp] theorem State.toHold_frame (s : State) (n : Nat) :
    (s.toHold n).now = s.now ∧ (s.toHold n).ident = s.ident ∧ (s.toHold n).pkg = s.pkg ∧ (s.toHold n).pages = s.pages ∧ (s.toHold n).dies = s.dies ∧ (s.toHold n).frames = s.frames ∧ (s.toHold n).qport = s.qport ∧ (s.toHold n).ports = s.ports ∧ (s.toHold n).pairAB = s.pairAB ∧ (s.toHold n).pairCD = s.pairCD ∧ (s.toHold n).routes = s.routes ∧ (s.toHold n).mer = s.mer ∧ (s.toHold n).xact = s.xact ∧ (s.toHold n).nurs = s.nurs ∧ (s.toHold n).cfg = s.cfg ∧ (s.toHold n).feram = s.feram ∧ (s.toHold n).capt = s.capt ∧ (s.toHold n).shadow = s.shadow ∧ (s.toHold n).fresh = s.fresh ∧ (s.toHold n).copies = s.copies ∧ (s.toHold n).heard = s.heard ∧ (s.toHold n).outbox = s.outbox ∧ (s.toHold n).rsp = s.rsp ∧ (s.toHold n).free = s.free ∧ (s.toHold n).later = s.later ∧ (s.toHold n).pending = s.pending := by simp [State.toHold]

@[simp] theorem State.startWait_frame (s : State) (n : Nat) :
    (s.startWait n).now = s.now ∧ (s.startWait n).ident = s.ident ∧ (s.startWait n).pkg = s.pkg ∧ (s.startWait n).pages = s.pages ∧ (s.startWait n).dies = s.dies ∧ (s.startWait n).frames = s.frames ∧ (s.startWait n).qport = s.qport ∧ (s.startWait n).ports = s.ports ∧ (s.startWait n).pairAB = s.pairAB ∧ (s.startWait n).pairCD = s.pairCD ∧ (s.startWait n).routes = s.routes ∧ (s.startWait n).mer = s.mer ∧ (s.startWait n).xact = s.xact ∧ (s.startWait n).nurs = s.nurs ∧ (s.startWait n).cfg = s.cfg ∧ (s.startWait n).feram = s.feram ∧ (s.startWait n).capt = s.capt ∧ (s.startWait n).shadow = s.shadow ∧ (s.startWait n).fresh = s.fresh ∧ (s.startWait n).copies = s.copies ∧ (s.startWait n).heard = s.heard ∧ (s.startWait n).outbox = s.outbox ∧ (s.startWait n).rsp = s.rsp ∧ (s.startWait n).free = s.free ∧ (s.startWait n).later = s.later ∧ (s.startWait n).pending = s.pending := by simp [State.startWait]

@[simp] theorem State.rawLow_frame (s : State) (n : Nat) :
    (s.rawLow n).now = s.now ∧ (s.rawLow n).ident = s.ident ∧ (s.rawLow n).frames = s.frames ∧ (s.rawLow n).qport = s.qport ∧ (s.rawLow n).ports = s.ports ∧ (s.rawLow n).pairAB = s.pairAB ∧ (s.rawLow n).pairCD = s.pairCD ∧ (s.rawLow n).routes = s.routes ∧ (s.rawLow n).mer = s.mer ∧ (s.rawLow n).xact = s.xact ∧ (s.rawLow n).cfg = s.cfg ∧ (s.rawLow n).feram = s.feram ∧ (s.rawLow n).capt = s.capt ∧ (s.rawLow n).shadow = s.shadow ∧ (s.rawLow n).fresh = s.fresh ∧ (s.rawLow n).heard = s.heard ∧ (s.rawLow n).rsp = s.rsp ∧ (s.rawLow n).free = s.free ∧ (s.rawLow n).later = s.later ∧ (s.rawLow n).pending = s.pending := by simp [State.rawLow]

@[simp] theorem State.lockoutSend_frame (s : State) (n : Nat) :
    (s.lockoutSend n).now = s.now ∧ (s.lockoutSend n).ident = s.ident ∧ (s.lockoutSend n).pkg = s.pkg ∧ (s.lockoutSend n).frames = s.frames ∧ (s.lockoutSend n).qport = s.qport ∧ (s.lockoutSend n).ports = s.ports ∧ (s.lockoutSend n).pairAB = s.pairAB ∧ (s.lockoutSend n).pairCD = s.pairCD ∧ (s.lockoutSend n).routes = s.routes ∧ (s.lockoutSend n).mer = s.mer ∧ (s.lockoutSend n).xact = s.xact ∧ (s.lockoutSend n).nurs = s.nurs ∧ (s.lockoutSend n).cfg = s.cfg ∧ (s.lockoutSend n).feram = s.feram ∧ (s.lockoutSend n).capt = s.capt ∧ (s.lockoutSend n).shadow = s.shadow ∧ (s.lockoutSend n).fresh = s.fresh ∧ (s.lockoutSend n).heard = s.heard ∧ (s.lockoutSend n).rsp = s.rsp ∧ (s.lockoutSend n).free = s.free ∧ (s.lockoutSend n).later = s.later ∧ (s.lockoutSend n).pending = s.pending := by simp [State.lockoutSend]

@[simp] theorem State.releaseSend_frame (s : State) (n : Nat) :
    (s.releaseSend n).now = s.now ∧ (s.releaseSend n).ident = s.ident ∧ (s.releaseSend n).pkg = s.pkg ∧ (s.releaseSend n).frames = s.frames ∧ (s.releaseSend n).qport = s.qport ∧ (s.releaseSend n).ports = s.ports ∧ (s.releaseSend n).pairAB = s.pairAB ∧ (s.releaseSend n).pairCD = s.pairCD ∧ (s.releaseSend n).routes = s.routes ∧ (s.releaseSend n).mer = s.mer ∧ (s.releaseSend n).xact = s.xact ∧ (s.releaseSend n).nurs = s.nurs ∧ (s.releaseSend n).cfg = s.cfg ∧ (s.releaseSend n).feram = s.feram ∧ (s.releaseSend n).capt = s.capt ∧ (s.releaseSend n).shadow = s.shadow ∧ (s.releaseSend n).fresh = s.fresh ∧ (s.releaseSend n).heard = s.heard ∧ (s.releaseSend n).rsp = s.rsp ∧ (s.releaseSend n).free = s.free ∧ (s.releaseSend n).later = s.later ∧ (s.releaseSend n).pending = s.pending := by simp [State.releaseSend]

@[simp] theorem State.sendOpen_frame (s : State) (n : Nat) :
    (s.sendOpen n).now = s.now ∧ (s.sendOpen n).ident = s.ident ∧ (s.sendOpen n).pkg = s.pkg ∧ (s.sendOpen n).frames = s.frames ∧ (s.sendOpen n).qport = s.qport ∧ (s.sendOpen n).ports = s.ports ∧ (s.sendOpen n).pairAB = s.pairAB ∧ (s.sendOpen n).pairCD = s.pairCD ∧ (s.sendOpen n).routes = s.routes ∧ (s.sendOpen n).mer = s.mer ∧ (s.sendOpen n).xact = s.xact ∧ (s.sendOpen n).nurs = s.nurs ∧ (s.sendOpen n).cfg = s.cfg ∧ (s.sendOpen n).feram = s.feram ∧ (s.sendOpen n).capt = s.capt ∧ (s.sendOpen n).shadow = s.shadow ∧ (s.sendOpen n).fresh = s.fresh ∧ (s.sendOpen n).heard = s.heard ∧ (s.sendOpen n).rsp = s.rsp ∧ (s.sendOpen n).free = s.free ∧ (s.sendOpen n).later = s.later ∧ (s.sendOpen n).pending = s.pending := by simp [State.sendOpen]

@[simp] theorem State.withdraw_frame (s : State) (n : Nat) :
    (s.withdraw n).now = s.now ∧ (s.withdraw n).ident = s.ident ∧ (s.withdraw n).pkg = s.pkg ∧ (s.withdraw n).regs = s.regs ∧ (s.withdraw n).pages = s.pages ∧ (s.withdraw n).dies = s.dies ∧ (s.withdraw n).frames = s.frames ∧ (s.withdraw n).qport = s.qport ∧ (s.withdraw n).ports = s.ports ∧ (s.withdraw n).pairAB = s.pairAB ∧ (s.withdraw n).pairCD = s.pairCD ∧ (s.withdraw n).routes = s.routes ∧ (s.withdraw n).mer = s.mer ∧ (s.withdraw n).xact = s.xact ∧ (s.withdraw n).nurs = s.nurs ∧ (s.withdraw n).cfg = s.cfg ∧ (s.withdraw n).feram = s.feram ∧ (s.withdraw n).capt = s.capt ∧ (s.withdraw n).shadow = s.shadow ∧ (s.withdraw n).fresh = s.fresh ∧ (s.withdraw n).copies = s.copies ∧ (s.withdraw n).heard = s.heard ∧ (s.withdraw n).outbox = s.outbox ∧ (s.withdraw n).rsp = s.rsp ∧ (s.withdraw n).free = s.free ∧ (s.withdraw n).later = s.later ∧ (s.withdraw n).pending = s.pending := by simp [State.withdraw]

@[simp] theorem State.snapAssign_frame (s : State) (n : Nat) :
    (s.snapAssign n).now = s.now ∧ (s.snapAssign n).ident = s.ident ∧ (s.snapAssign n).pkg = s.pkg ∧ (s.snapAssign n).frames = s.frames ∧ (s.snapAssign n).qport = s.qport ∧ (s.snapAssign n).ports = s.ports ∧ (s.snapAssign n).pairAB = s.pairAB ∧ (s.snapAssign n).pairCD = s.pairCD ∧ (s.snapAssign n).routes = s.routes ∧ (s.snapAssign n).mer = s.mer ∧ (s.snapAssign n).xact = s.xact ∧ (s.snapAssign n).nurs = s.nurs ∧ (s.snapAssign n).cfg = s.cfg ∧ (s.snapAssign n).feram = s.feram ∧ (s.snapAssign n).capt = s.capt ∧ (s.snapAssign n).shadow = s.shadow ∧ (s.snapAssign n).fresh = s.fresh ∧ (s.snapAssign n).copies = s.copies ∧ (s.snapAssign n).heard = s.heard ∧ (s.snapAssign n).outbox = s.outbox ∧ (s.snapAssign n).rsp = s.rsp ∧ (s.snapAssign n).free = s.free ∧ (s.snapAssign n).later = s.later ∧ (s.snapAssign n).pending = s.pending := by unfold State.snapAssign; dsimp only; (repeat' split) <;> simp

@[simp] theorem State.modSnap_frame (s : State) (n : Nat) (g : Snap → Snap) :
    (s.modSnap n g).now = s.now ∧ (s.modSnap n g).ident = s.ident ∧ (s.modSnap n g).pkg = s.pkg ∧ (s.modSnap n g).regs = s.regs ∧ (s.modSnap n g).pages = s.pages ∧ (s.modSnap n g).slots = s.slots ∧ (s.modSnap n g).frames = s.frames ∧ (s.modSnap n g).qport = s.qport ∧ (s.modSnap n g).ports = s.ports ∧ (s.modSnap n g).pairAB = s.pairAB ∧ (s.modSnap n g).pairCD = s.pairCD ∧ (s.modSnap n g).routes = s.routes ∧ (s.modSnap n g).mer = s.mer ∧ (s.modSnap n g).xact = s.xact ∧ (s.modSnap n g).nurs = s.nurs ∧ (s.modSnap n g).cfg = s.cfg ∧ (s.modSnap n g).feram = s.feram ∧ (s.modSnap n g).capt = s.capt ∧ (s.modSnap n g).shadow = s.shadow ∧ (s.modSnap n g).fresh = s.fresh ∧ (s.modSnap n g).copies = s.copies ∧ (s.modSnap n g).heard = s.heard ∧ (s.modSnap n g).outbox = s.outbox ∧ (s.modSnap n g).rsp = s.rsp ∧ (s.modSnap n g).free = s.free ∧ (s.modSnap n g).later = s.later ∧ (s.modSnap n g).pending = s.pending := by simp [State.modSnap]

@[simp] theorem State.setTripTime_frame (s : State) (n : Nat) :
    (s.setTripTime n).now = s.now ∧ (s.setTripTime n).ident = s.ident ∧ (s.setTripTime n).pkg = s.pkg ∧ (s.setTripTime n).pages = s.pages ∧ (s.setTripTime n).slots = s.slots ∧ (s.setTripTime n).dies = s.dies ∧ (s.setTripTime n).frames = s.frames ∧ (s.setTripTime n).qport = s.qport ∧ (s.setTripTime n).ports = s.ports ∧ (s.setTripTime n).pairAB = s.pairAB ∧ (s.setTripTime n).pairCD = s.pairCD ∧ (s.setTripTime n).routes = s.routes ∧ (s.setTripTime n).mer = s.mer ∧ (s.setTripTime n).xact = s.xact ∧ (s.setTripTime n).nurs = s.nurs ∧ (s.setTripTime n).cfg = s.cfg ∧ (s.setTripTime n).feram = s.feram ∧ (s.setTripTime n).capt = s.capt ∧ (s.setTripTime n).shadow = s.shadow ∧ (s.setTripTime n).fresh = s.fresh ∧ (s.setTripTime n).copies = s.copies ∧ (s.setTripTime n).heard = s.heard ∧ (s.setTripTime n).outbox = s.outbox ∧ (s.setTripTime n).rsp = s.rsp ∧ (s.setTripTime n).free = s.free ∧ (s.setTripTime n).later = s.later ∧ (s.setTripTime n).pending = s.pending := by simp [State.setTripTime]

@[simp] theorem State.setCause_frame (s : State) (n : Nat) (cause : Nat) (detail : Nat) (stAt : Nat) (next : Nat) :
    (s.setCause n cause detail stAt next).now = s.now ∧ (s.setCause n cause detail stAt next).ident = s.ident ∧ (s.setCause n cause detail stAt next).pkg = s.pkg ∧ (s.setCause n cause detail stAt next).pages = s.pages ∧ (s.setCause n cause detail stAt next).slots = s.slots ∧ (s.setCause n cause detail stAt next).dies = s.dies ∧ (s.setCause n cause detail stAt next).frames = s.frames ∧ (s.setCause n cause detail stAt next).qport = s.qport ∧ (s.setCause n cause detail stAt next).ports = s.ports ∧ (s.setCause n cause detail stAt next).pairAB = s.pairAB ∧ (s.setCause n cause detail stAt next).pairCD = s.pairCD ∧ (s.setCause n cause detail stAt next).routes = s.routes ∧ (s.setCause n cause detail stAt next).mer = s.mer ∧ (s.setCause n cause detail stAt next).xact = s.xact ∧ (s.setCause n cause detail stAt next).nurs = s.nurs ∧ (s.setCause n cause detail stAt next).cfg = s.cfg ∧ (s.setCause n cause detail stAt next).feram = s.feram ∧ (s.setCause n cause detail stAt next).capt = s.capt ∧ (s.setCause n cause detail stAt next).shadow = s.shadow ∧ (s.setCause n cause detail stAt next).fresh = s.fresh ∧ (s.setCause n cause detail stAt next).copies = s.copies ∧ (s.setCause n cause detail stAt next).heard = s.heard ∧ (s.setCause n cause detail stAt next).outbox = s.outbox ∧ (s.setCause n cause detail stAt next).rsp = s.rsp ∧ (s.setCause n cause detail stAt next).free = s.free ∧ (s.setCause n cause detail stAt next).later = s.later ∧ (s.setCause n cause detail stAt next).pending = s.pending := by simp [State.setCause]

@[simp] theorem State.insAbort_frame (s : State) (n : Nat) (step : Nat) :
    (s.insAbort n step).now = s.now ∧ (s.insAbort n step).ident = s.ident ∧ (s.insAbort n step).pkg = s.pkg ∧ (s.insAbort n step).regs = s.regs ∧ (s.insAbort n step).dies = s.dies ∧ (s.insAbort n step).frames = s.frames ∧ (s.insAbort n step).qport = s.qport ∧ (s.insAbort n step).ports = s.ports ∧ (s.insAbort n step).pairAB = s.pairAB ∧ (s.insAbort n step).pairCD = s.pairCD ∧ (s.insAbort n step).routes = s.routes ∧ (s.insAbort n step).mer = s.mer ∧ (s.insAbort n step).xact = s.xact ∧ (s.insAbort n step).nurs = s.nurs ∧ (s.insAbort n step).cfg = s.cfg ∧ (s.insAbort n step).feram = s.feram ∧ (s.insAbort n step).capt = s.capt ∧ (s.insAbort n step).shadow = s.shadow ∧ (s.insAbort n step).fresh = s.fresh ∧ (s.insAbort n step).copies = s.copies ∧ (s.insAbort n step).heard = s.heard ∧ (s.insAbort n step).outbox = s.outbox ∧ (s.insAbort n step).rsp = s.rsp ∧ (s.insAbort n step).free = s.free ∧ (s.insAbort n step).later = s.later ∧ (s.insAbort n step).pending = s.pending := by simp [State.insAbort]

@[simp] theorem State.takeTrip_frame (s : State) (n : Nat) (hard : Bool) (abort : Nat) :
    (s.takeTrip n hard abort).now = s.now ∧ (s.takeTrip n hard abort).ident = s.ident ∧ (s.takeTrip n hard abort).pkg = s.pkg ∧ (s.takeTrip n hard abort).dies = s.dies ∧ (s.takeTrip n hard abort).frames = s.frames ∧ (s.takeTrip n hard abort).qport = s.qport ∧ (s.takeTrip n hard abort).ports = s.ports ∧ (s.takeTrip n hard abort).pairAB = s.pairAB ∧ (s.takeTrip n hard abort).pairCD = s.pairCD ∧ (s.takeTrip n hard abort).routes = s.routes ∧ (s.takeTrip n hard abort).mer = s.mer ∧ (s.takeTrip n hard abort).xact = s.xact ∧ (s.takeTrip n hard abort).nurs = s.nurs ∧ (s.takeTrip n hard abort).cfg = s.cfg ∧ (s.takeTrip n hard abort).feram = s.feram ∧ (s.takeTrip n hard abort).capt = s.capt ∧ (s.takeTrip n hard abort).shadow = s.shadow ∧ (s.takeTrip n hard abort).fresh = s.fresh ∧ (s.takeTrip n hard abort).copies = s.copies ∧ (s.takeTrip n hard abort).heard = s.heard ∧ (s.takeTrip n hard abort).outbox = s.outbox ∧ (s.takeTrip n hard abort).rsp = s.rsp ∧ (s.takeTrip n hard abort).free = s.free ∧ (s.takeTrip n hard abort).later = s.later ∧ (s.takeTrip n hard abort).pending = s.pending := by simp [State.takeTrip]

@[simp] theorem State.tripStart_frame (s : State) (n : Nat) (hard : Bool) (abort : Nat) :
    (s.tripStart n hard abort).now = s.now ∧ (s.tripStart n hard abort).ident = s.ident ∧ (s.tripStart n hard abort).frames = s.frames ∧ (s.tripStart n hard abort).qport = s.qport ∧ (s.tripStart n hard abort).ports = s.ports ∧ (s.tripStart n hard abort).pairAB = s.pairAB ∧ (s.tripStart n hard abort).pairCD = s.pairCD ∧ (s.tripStart n hard abort).routes = s.routes ∧ (s.tripStart n hard abort).mer = s.mer ∧ (s.tripStart n hard abort).xact = s.xact ∧ (s.tripStart n hard abort).cfg = s.cfg ∧ (s.tripStart n hard abort).feram = s.feram ∧ (s.tripStart n hard abort).capt = s.capt ∧ (s.tripStart n hard abort).shadow = s.shadow ∧ (s.tripStart n hard abort).fresh = s.fresh ∧ (s.tripStart n hard abort).heard = s.heard ∧ (s.tripStart n hard abort).rsp = s.rsp ∧ (s.tripStart n hard abort).free = s.free ∧ (s.tripStart n hard abort).later = s.later ∧ (s.tripStart n hard abort).pending = s.pending := by simp [State.tripStart]

@[simp] theorem State.tripSettle_frame (s : State) (n : Nat) (cause : Nat) (detail : Nat) :
    (s.tripSettle n cause detail).now = s.now ∧ (s.tripSettle n cause detail).ident = s.ident ∧ (s.tripSettle n cause detail).frames = s.frames ∧ (s.tripSettle n cause detail).qport = s.qport ∧ (s.tripSettle n cause detail).ports = s.ports ∧ (s.tripSettle n cause detail).pairAB = s.pairAB ∧ (s.tripSettle n cause detail).pairCD = s.pairCD ∧ (s.tripSettle n cause detail).routes = s.routes ∧ (s.tripSettle n cause detail).mer = s.mer ∧ (s.tripSettle n cause detail).xact = s.xact ∧ (s.tripSettle n cause detail).nurs = s.nurs ∧ (s.tripSettle n cause detail).cfg = s.cfg ∧ (s.tripSettle n cause detail).feram = s.feram ∧ (s.tripSettle n cause detail).capt = s.capt ∧ (s.tripSettle n cause detail).shadow = s.shadow ∧ (s.tripSettle n cause detail).fresh = s.fresh ∧ (s.tripSettle n cause detail).copies = s.copies ∧ (s.tripSettle n cause detail).heard = s.heard ∧ (s.tripSettle n cause detail).outbox = s.outbox ∧ (s.tripSettle n cause detail).rsp = s.rsp ∧ (s.tripSettle n cause detail).free = s.free ∧ (s.tripSettle n cause detail).later = s.later ∧ (s.tripSettle n cause detail).pending = s.pending := by simp [State.tripSettle]

@[simp] theorem State.trip_frame (s : State) (n : Nat) (hard : Bool) (cause : Nat) (detail : Nat) (abort : Nat) :
    (s.trip n hard cause detail abort).now = s.now ∧ (s.trip n hard cause detail abort).ident = s.ident ∧ (s.trip n hard cause detail abort).frames = s.frames ∧ (s.trip n hard cause detail abort).qport = s.qport ∧ (s.trip n hard cause detail abort).ports = s.ports ∧ (s.trip n hard cause detail abort).pairAB = s.pairAB ∧ (s.trip n hard cause detail abort).pairCD = s.pairCD ∧ (s.trip n hard cause detail abort).routes = s.routes ∧ (s.trip n hard cause detail abort).mer = s.mer ∧ (s.trip n hard cause detail abort).xact = s.xact ∧ (s.trip n hard cause detail abort).cfg = s.cfg ∧ (s.trip n hard cause detail abort).feram = s.feram ∧ (s.trip n hard cause detail abort).capt = s.capt ∧ (s.trip n hard cause detail abort).shadow = s.shadow ∧ (s.trip n hard cause detail abort).fresh = s.fresh ∧ (s.trip n hard cause detail abort).heard = s.heard ∧ (s.trip n hard cause detail abort).rsp = s.rsp ∧ (s.trip n hard cause detail abort).free = s.free ∧ (s.trip n hard cause detail abort).later = s.later ∧ (s.trip n hard cause detail abort).pending = s.pending := by simp [State.trip]

@[simp] theorem State.tripIf_frame (s : State) (n : Nat) (hard : Bool) (cause : Nat) (detail : Nat) (abort : Nat) :
    (s.tripIf n hard cause detail abort).now = s.now ∧ (s.tripIf n hard cause detail abort).ident = s.ident ∧ (s.tripIf n hard cause detail abort).frames = s.frames ∧ (s.tripIf n hard cause detail abort).qport = s.qport ∧ (s.tripIf n hard cause detail abort).ports = s.ports ∧ (s.tripIf n hard cause detail abort).pairAB = s.pairAB ∧ (s.tripIf n hard cause detail abort).pairCD = s.pairCD ∧ (s.tripIf n hard cause detail abort).routes = s.routes ∧ (s.tripIf n hard cause detail abort).mer = s.mer ∧ (s.tripIf n hard cause detail abort).xact = s.xact ∧ (s.tripIf n hard cause detail abort).cfg = s.cfg ∧ (s.tripIf n hard cause detail abort).feram = s.feram ∧ (s.tripIf n hard cause detail abort).capt = s.capt ∧ (s.tripIf n hard cause detail abort).shadow = s.shadow ∧ (s.tripIf n hard cause detail abort).fresh = s.fresh ∧ (s.tripIf n hard cause detail abort).heard = s.heard ∧ (s.tripIf n hard cause detail abort).rsp = s.rsp ∧ (s.tripIf n hard cause detail abort).free = s.free ∧ (s.tripIf n hard cause detail abort).later = s.later ∧ (s.tripIf n hard cause detail abort).pending = s.pending := by simp [State.tripIf]

@[simp] theorem State.softTrip_frame (s : State) (n : Nat) (rank : Nat) (cause : Nat) (detail : Nat) (abort : Nat) :
    (s.softTrip n rank cause detail abort).now = s.now ∧ (s.softTrip n rank cause detail abort).ident = s.ident ∧ (s.softTrip n rank cause detail abort).frames = s.frames ∧ (s.softTrip n rank cause detail abort).qport = s.qport ∧ (s.softTrip n rank cause detail abort).ports = s.ports ∧ (s.softTrip n rank cause detail abort).pairAB = s.pairAB ∧ (s.softTrip n rank cause detail abort).pairCD = s.pairCD ∧ (s.softTrip n rank cause detail abort).routes = s.routes ∧ (s.softTrip n rank cause detail abort).mer = s.mer ∧ (s.softTrip n rank cause detail abort).xact = s.xact ∧ (s.softTrip n rank cause detail abort).cfg = s.cfg ∧ (s.softTrip n rank cause detail abort).feram = s.feram ∧ (s.softTrip n rank cause detail abort).capt = s.capt ∧ (s.softTrip n rank cause detail abort).shadow = s.shadow ∧ (s.softTrip n rank cause detail abort).fresh = s.fresh ∧ (s.softTrip n rank cause detail abort).heard = s.heard ∧ (s.softTrip n rank cause detail abort).rsp = s.rsp ∧ (s.softTrip n rank cause detail abort).free = s.free ∧ (s.softTrip n rank cause detail abort).later = s.later ∧ (s.softTrip n rank cause detail abort).pending = s.pending := by simp [State.softTrip]

@[simp] theorem State.cmpTrip_frame (s : State) (n : Nat) (inst : Bool) (detail : Nat) :
    (s.cmpTrip n inst detail).now = s.now ∧ (s.cmpTrip n inst detail).ident = s.ident ∧ (s.cmpTrip n inst detail).frames = s.frames ∧ (s.cmpTrip n inst detail).qport = s.qport ∧ (s.cmpTrip n inst detail).ports = s.ports ∧ (s.cmpTrip n inst detail).pairAB = s.pairAB ∧ (s.cmpTrip n inst detail).pairCD = s.pairCD ∧ (s.cmpTrip n inst detail).routes = s.routes ∧ (s.cmpTrip n inst detail).mer = s.mer ∧ (s.cmpTrip n inst detail).xact = s.xact ∧ (s.cmpTrip n inst detail).cfg = s.cfg ∧ (s.cmpTrip n inst detail).feram = s.feram ∧ (s.cmpTrip n inst detail).capt = s.capt ∧ (s.cmpTrip n inst detail).shadow = s.shadow ∧ (s.cmpTrip n inst detail).fresh = s.fresh ∧ (s.cmpTrip n inst detail).heard = s.heard ∧ (s.cmpTrip n inst detail).rsp = s.rsp ∧ (s.cmpTrip n inst detail).free = s.free ∧ (s.cmpTrip n inst detail).later = s.later ∧ (s.cmpTrip n inst detail).pending = s.pending := by unfold State.cmpTrip; dsimp only; (repeat' split) <;> simp

@[simp] theorem State.settleTrip_frame (s : State) (n : Nat) :
    (s.settleTrip n).now = s.now ∧ (s.settleTrip n).ident = s.ident ∧ (s.settleTrip n).frames = s.frames ∧ (s.settleTrip n).qport = s.qport ∧ (s.settleTrip n).ports = s.ports ∧ (s.settleTrip n).pairAB = s.pairAB ∧ (s.settleTrip n).pairCD = s.pairCD ∧ (s.settleTrip n).routes = s.routes ∧ (s.settleTrip n).mer = s.mer ∧ (s.settleTrip n).xact = s.xact ∧ (s.settleTrip n).nurs = s.nurs ∧ (s.settleTrip n).cfg = s.cfg ∧ (s.settleTrip n).feram = s.feram ∧ (s.settleTrip n).capt = s.capt ∧ (s.settleTrip n).shadow = s.shadow ∧ (s.settleTrip n).fresh = s.fresh ∧ (s.settleTrip n).copies = s.copies ∧ (s.settleTrip n).heard = s.heard ∧ (s.settleTrip n).outbox = s.outbox ∧ (s.settleTrip n).rsp = s.rsp ∧ (s.settleTrip n).free = s.free ∧ (s.settleTrip n).later = s.later ∧ (s.settleTrip n).pending = s.pending := by unfold State.settleTrip; dsimp only; (repeat' split) <;> simp

@[simp] theorem State.tripRecord_frame (s : State) (n : Nat) (next : Nat) :
    (s.tripRecord n next).now = s.now ∧ (s.tripRecord n next).ident = s.ident ∧ (s.tripRecord n next).frames = s.frames ∧ (s.tripRecord n next).qport = s.qport ∧ (s.tripRecord n next).ports = s.ports ∧ (s.tripRecord n next).pairAB = s.pairAB ∧ (s.tripRecord n next).pairCD = s.pairCD ∧ (s.tripRecord n next).routes = s.routes ∧ (s.tripRecord n next).mer = s.mer ∧ (s.tripRecord n next).xact = s.xact ∧ (s.tripRecord n next).nurs = s.nurs ∧ (s.tripRecord n next).cfg = s.cfg ∧ (s.tripRecord n next).feram = s.feram ∧ (s.tripRecord n next).capt = s.capt ∧ (s.tripRecord n next).shadow = s.shadow ∧ (s.tripRecord n next).fresh = s.fresh ∧ (s.tripRecord n next).copies = s.copies ∧ (s.tripRecord n next).heard = s.heard ∧ (s.tripRecord n next).outbox = s.outbox ∧ (s.tripRecord n next).rsp = s.rsp ∧ (s.tripRecord n next).free = s.free ∧ (s.tripRecord n next).later = s.later ∧ (s.tripRecord n next).pending = s.pending := by simp [State.tripRecord]

@[simp] theorem State.quietTrip_frame (s : State) (n : Nat) (cause : Nat) (detail : Nat) (abort : Nat) (snap : Bool) :
    (s.quietTrip n cause detail abort snap).now = s.now ∧ (s.quietTrip n cause detail abort snap).ident = s.ident ∧ (s.quietTrip n cause detail abort snap).frames = s.frames ∧ (s.quietTrip n cause detail abort snap).qport = s.qport ∧ (s.quietTrip n cause detail abort snap).ports = s.ports ∧ (s.quietTrip n cause detail abort snap).pairAB = s.pairAB ∧ (s.quietTrip n cause detail abort snap).pairCD = s.pairCD ∧ (s.quietTrip n cause detail abort snap).routes = s.routes ∧ (s.quietTrip n cause detail abort snap).mer = s.mer ∧ (s.quietTrip n cause detail abort snap).xact = s.xact ∧ (s.quietTrip n cause detail abort snap).nurs = s.nurs ∧ (s.quietTrip n cause detail abort snap).cfg = s.cfg ∧ (s.quietTrip n cause detail abort snap).feram = s.feram ∧ (s.quietTrip n cause detail abort snap).capt = s.capt ∧ (s.quietTrip n cause detail abort snap).shadow = s.shadow ∧ (s.quietTrip n cause detail abort snap).fresh = s.fresh ∧ (s.quietTrip n cause detail abort snap).copies = s.copies ∧ (s.quietTrip n cause detail abort snap).heard = s.heard ∧ (s.quietTrip n cause detail abort snap).outbox = s.outbox ∧ (s.quietTrip n cause detail abort snap).rsp = s.rsp ∧ (s.quietTrip n cause detail abort snap).free = s.free ∧ (s.quietTrip n cause detail abort snap).later = s.later ∧ (s.quietTrip n cause detail abort snap).pending = s.pending := by simp [State.quietTrip]

@[simp] theorem State.countReset_frame (s : State) (n : Nat) :
    (s.countReset n).now = s.now ∧ (s.countReset n).ident = s.ident ∧ (s.countReset n).pkg = s.pkg ∧ (s.countReset n).regs = s.regs ∧ (s.countReset n).frames = s.frames ∧ (s.countReset n).qport = s.qport ∧ (s.countReset n).ports = s.ports ∧ (s.countReset n).pairAB = s.pairAB ∧ (s.countReset n).pairCD = s.pairCD ∧ (s.countReset n).routes = s.routes ∧ (s.countReset n).mer = s.mer ∧ (s.countReset n).xact = s.xact ∧ (s.countReset n).nurs = s.nurs ∧ (s.countReset n).cfg = s.cfg ∧ (s.countReset n).feram = s.feram ∧ (s.countReset n).capt = s.capt ∧ (s.countReset n).shadow = s.shadow ∧ (s.countReset n).fresh = s.fresh ∧ (s.countReset n).copies = s.copies ∧ (s.countReset n).heard = s.heard ∧ (s.countReset n).outbox = s.outbox ∧ (s.countReset n).rsp = s.rsp ∧ (s.countReset n).free = s.free ∧ (s.countReset n).later = s.later ∧ (s.countReset n).pending = s.pending := by simp [State.countReset]

@[simp] theorem State.remember_frame (s : State) (n : Nat) :
    (s.remember n).now = s.now ∧ (s.remember n).ident = s.ident ∧ (s.remember n).pkg = s.pkg ∧ (s.remember n).regs = s.regs ∧ (s.remember n).frames = s.frames ∧ (s.remember n).qport = s.qport ∧ (s.remember n).ports = s.ports ∧ (s.remember n).pairAB = s.pairAB ∧ (s.remember n).pairCD = s.pairCD ∧ (s.remember n).routes = s.routes ∧ (s.remember n).mer = s.mer ∧ (s.remember n).xact = s.xact ∧ (s.remember n).nurs = s.nurs ∧ (s.remember n).cfg = s.cfg ∧ (s.remember n).feram = s.feram ∧ (s.remember n).capt = s.capt ∧ (s.remember n).shadow = s.shadow ∧ (s.remember n).fresh = s.fresh ∧ (s.remember n).copies = s.copies ∧ (s.remember n).heard = s.heard ∧ (s.remember n).outbox = s.outbox ∧ (s.remember n).rsp = s.rsp ∧ (s.remember n).free = s.free ∧ (s.remember n).later = s.later ∧ (s.remember n).pending = s.pending := by simp [State.remember]

@[simp] theorem State.latch_frame (s : State) (n : Nat) :
    (s.latch n).now = s.now ∧ (s.latch n).ident = s.ident ∧ (s.latch n).frames = s.frames ∧ (s.latch n).qport = s.qport ∧ (s.latch n).ports = s.ports ∧ (s.latch n).pairAB = s.pairAB ∧ (s.latch n).pairCD = s.pairCD ∧ (s.latch n).routes = s.routes ∧ (s.latch n).mer = s.mer ∧ (s.latch n).xact = s.xact ∧ (s.latch n).cfg = s.cfg ∧ (s.latch n).feram = s.feram ∧ (s.latch n).capt = s.capt ∧ (s.latch n).shadow = s.shadow ∧ (s.latch n).fresh = s.fresh ∧ (s.latch n).copies = s.copies ∧ (s.latch n).heard = s.heard ∧ (s.latch n).outbox = s.outbox ∧ (s.latch n).rsp = s.rsp ∧ (s.latch n).free = s.free ∧ (s.latch n).later = s.later ∧ (s.latch n).pending = s.pending := by simp [State.latch]

@[simp] theorem State.lockoutEnter_frame (s : State) (n : Nat) :
    (s.lockoutEnter n).now = s.now ∧ (s.lockoutEnter n).ident = s.ident ∧ (s.lockoutEnter n).frames = s.frames ∧ (s.lockoutEnter n).qport = s.qport ∧ (s.lockoutEnter n).ports = s.ports ∧ (s.lockoutEnter n).pairAB = s.pairAB ∧ (s.lockoutEnter n).pairCD = s.pairCD ∧ (s.lockoutEnter n).routes = s.routes ∧ (s.lockoutEnter n).mer = s.mer ∧ (s.lockoutEnter n).xact = s.xact ∧ (s.lockoutEnter n).cfg = s.cfg ∧ (s.lockoutEnter n).feram = s.feram ∧ (s.lockoutEnter n).capt = s.capt ∧ (s.lockoutEnter n).shadow = s.shadow ∧ (s.lockoutEnter n).fresh = s.fresh ∧ (s.lockoutEnter n).heard = s.heard ∧ (s.lockoutEnter n).rsp = s.rsp ∧ (s.lockoutEnter n).free = s.free ∧ (s.lockoutEnter n).later = s.later ∧ (s.lockoutEnter n).pending = s.pending := by simp [State.lockoutEnter]

@[simp] theorem State.disagree_frame (s : State) (n : Nat) :
    (s.disagree n).now = s.now ∧ (s.disagree n).ident = s.ident ∧ (s.disagree n).pkg = s.pkg ∧ (s.disagree n).dies = s.dies ∧ (s.disagree n).frames = s.frames ∧ (s.disagree n).qport = s.qport ∧ (s.disagree n).ports = s.ports ∧ (s.disagree n).pairAB = s.pairAB ∧ (s.disagree n).pairCD = s.pairCD ∧ (s.disagree n).routes = s.routes ∧ (s.disagree n).mer = s.mer ∧ (s.disagree n).xact = s.xact ∧ (s.disagree n).nurs = s.nurs ∧ (s.disagree n).cfg = s.cfg ∧ (s.disagree n).feram = s.feram ∧ (s.disagree n).capt = s.capt ∧ (s.disagree n).shadow = s.shadow ∧ (s.disagree n).fresh = s.fresh ∧ (s.disagree n).copies = s.copies ∧ (s.disagree n).heard = s.heard ∧ (s.disagree n).outbox = s.outbox ∧ (s.disagree n).rsp = s.rsp ∧ (s.disagree n).free = s.free ∧ (s.disagree n).later = s.later ∧ (s.disagree n).pending = s.pending := by simp [State.disagree]

@[simp] theorem State.loneCount_frame (s : State) (n : Nat) (c : Nat) :
    (s.loneCount n c).now = s.now ∧ (s.loneCount n c).ident = s.ident ∧ (s.loneCount n c).frames = s.frames ∧ (s.loneCount n c).qport = s.qport ∧ (s.loneCount n c).ports = s.ports ∧ (s.loneCount n c).pairAB = s.pairAB ∧ (s.loneCount n c).pairCD = s.pairCD ∧ (s.loneCount n c).routes = s.routes ∧ (s.loneCount n c).mer = s.mer ∧ (s.loneCount n c).xact = s.xact ∧ (s.loneCount n c).cfg = s.cfg ∧ (s.loneCount n c).feram = s.feram ∧ (s.loneCount n c).capt = s.capt ∧ (s.loneCount n c).shadow = s.shadow ∧ (s.loneCount n c).fresh = s.fresh ∧ (s.loneCount n c).heard = s.heard ∧ (s.loneCount n c).rsp = s.rsp ∧ (s.loneCount n c).free = s.free ∧ (s.loneCount n c).later = s.later ∧ (s.loneCount n c).pending = s.pending := by simp [State.loneCount]

@[simp] theorem State.upTrip_frame (s : State) (n : Nat) :
    (s.upTrip n).now = s.now ∧ (s.upTrip n).ident = s.ident ∧ (s.upTrip n).frames = s.frames ∧ (s.upTrip n).qport = s.qport ∧ (s.upTrip n).ports = s.ports ∧ (s.upTrip n).pairAB = s.pairAB ∧ (s.upTrip n).pairCD = s.pairCD ∧ (s.upTrip n).routes = s.routes ∧ (s.upTrip n).mer = s.mer ∧ (s.upTrip n).xact = s.xact ∧ (s.upTrip n).cfg = s.cfg ∧ (s.upTrip n).feram = s.feram ∧ (s.upTrip n).capt = s.capt ∧ (s.upTrip n).shadow = s.shadow ∧ (s.upTrip n).fresh = s.fresh ∧ (s.upTrip n).heard = s.heard ∧ (s.upTrip n).rsp = s.rsp ∧ (s.upTrip n).free = s.free ∧ (s.upTrip n).later = s.later ∧ (s.upTrip n).pending = s.pending := by simp [State.upTrip]

@[simp] theorem State.goOff_frame (s : State) (n : Nat) :
    (s.goOff n).now = s.now ∧ (s.goOff n).ident = s.ident ∧ (s.goOff n).frames = s.frames ∧ (s.goOff n).qport = s.qport ∧ (s.goOff n).ports = s.ports ∧ (s.goOff n).pairAB = s.pairAB ∧ (s.goOff n).pairCD = s.pairCD ∧ (s.goOff n).routes = s.routes ∧ (s.goOff n).mer = s.mer ∧ (s.goOff n).xact = s.xact ∧ (s.goOff n).cfg = s.cfg ∧ (s.goOff n).feram = s.feram ∧ (s.goOff n).capt = s.capt ∧ (s.goOff n).shadow = s.shadow ∧ (s.goOff n).fresh = s.fresh ∧ (s.goOff n).heard = s.heard ∧ (s.goOff n).rsp = s.rsp ∧ (s.goOff n).free = s.free ∧ (s.goOff n).later = s.later ∧ (s.goOff n).pending = s.pending := by simp [State.goOff]

@[simp] theorem State.addrErr_frame (s : State) (ini : Ini) (a : Nat) (wr : Bool) :
    (s.addrErr ini a wr).now = s.now ∧ (s.addrErr ini a wr).ident = s.ident ∧ (s.addrErr ini a wr).pkg = s.pkg ∧ (s.addrErr ini a wr).slots = s.slots ∧ (s.addrErr ini a wr).dies = s.dies ∧ (s.addrErr ini a wr).frames = s.frames ∧ (s.addrErr ini a wr).qport = s.qport ∧ (s.addrErr ini a wr).ports = s.ports ∧ (s.addrErr ini a wr).pairAB = s.pairAB ∧ (s.addrErr ini a wr).pairCD = s.pairCD ∧ (s.addrErr ini a wr).routes = s.routes ∧ (s.addrErr ini a wr).mer = s.mer ∧ (s.addrErr ini a wr).xact = s.xact ∧ (s.addrErr ini a wr).nurs = s.nurs ∧ (s.addrErr ini a wr).cfg = s.cfg ∧ (s.addrErr ini a wr).feram = s.feram ∧ (s.addrErr ini a wr).capt = s.capt ∧ (s.addrErr ini a wr).shadow = s.shadow ∧ (s.addrErr ini a wr).fresh = s.fresh ∧ (s.addrErr ini a wr).copies = s.copies ∧ (s.addrErr ini a wr).heard = s.heard ∧ (s.addrErr ini a wr).outbox = s.outbox ∧ (s.addrErr ini a wr).rsp = s.rsp ∧ (s.addrErr ini a wr).free = s.free ∧ (s.addrErr ini a wr).later = s.later ∧ (s.addrErr ini a wr).pending = s.pending := by simp [State.addrErr]

@[simp] theorem State.rejectSlot_frame (s : State) (n : Nat) :
    (s.rejectSlot n).now = s.now ∧ (s.rejectSlot n).ident = s.ident ∧ (s.rejectSlot n).pkg = s.pkg ∧ (s.rejectSlot n).regs = s.regs ∧ (s.rejectSlot n).slots = s.slots ∧ (s.rejectSlot n).dies = s.dies ∧ (s.rejectSlot n).frames = s.frames ∧ (s.rejectSlot n).qport = s.qport ∧ (s.rejectSlot n).ports = s.ports ∧ (s.rejectSlot n).pairAB = s.pairAB ∧ (s.rejectSlot n).pairCD = s.pairCD ∧ (s.rejectSlot n).routes = s.routes ∧ (s.rejectSlot n).mer = s.mer ∧ (s.rejectSlot n).xact = s.xact ∧ (s.rejectSlot n).nurs = s.nurs ∧ (s.rejectSlot n).cfg = s.cfg ∧ (s.rejectSlot n).feram = s.feram ∧ (s.rejectSlot n).capt = s.capt ∧ (s.rejectSlot n).shadow = s.shadow ∧ (s.rejectSlot n).fresh = s.fresh ∧ (s.rejectSlot n).copies = s.copies ∧ (s.rejectSlot n).heard = s.heard ∧ (s.rejectSlot n).outbox = s.outbox ∧ (s.rejectSlot n).rsp = s.rsp ∧ (s.rejectSlot n).free = s.free ∧ (s.rejectSlot n).later = s.later ∧ (s.rejectSlot n).pending = s.pending := by simp [State.rejectSlot]

@[simp] theorem State.pumpCheck_frame (s : State) (d : Nat) :
    (s.pumpCheck d).now = s.now ∧ (s.pumpCheck d).ident = s.ident ∧ (s.pumpCheck d).pkg = s.pkg ∧ (s.pumpCheck d).regs = s.regs ∧ (s.pumpCheck d).pages = s.pages ∧ (s.pumpCheck d).slots = s.slots ∧ (s.pumpCheck d).frames = s.frames ∧ (s.pumpCheck d).qport = s.qport ∧ (s.pumpCheck d).ports = s.ports ∧ (s.pumpCheck d).pairAB = s.pairAB ∧ (s.pumpCheck d).pairCD = s.pairCD ∧ (s.pumpCheck d).routes = s.routes ∧ (s.pumpCheck d).mer = s.mer ∧ (s.pumpCheck d).xact = s.xact ∧ (s.pumpCheck d).nurs = s.nurs ∧ (s.pumpCheck d).cfg = s.cfg ∧ (s.pumpCheck d).feram = s.feram ∧ (s.pumpCheck d).capt = s.capt ∧ (s.pumpCheck d).shadow = s.shadow ∧ (s.pumpCheck d).fresh = s.fresh ∧ (s.pumpCheck d).copies = s.copies ∧ (s.pumpCheck d).heard = s.heard ∧ (s.pumpCheck d).outbox = s.outbox ∧ (s.pumpCheck d).rsp = s.rsp ∧ (s.pumpCheck d).free = s.free ∧ (s.pumpCheck d).later = s.later ∧ (s.pumpCheck d).pending = s.pending := by simp [State.pumpCheck]

@[simp] theorem State.enableSlot_frame (s : State) (n : Nat) :
    (s.enableSlot n).now = s.now ∧ (s.enableSlot n).ident = s.ident ∧ (s.enableSlot n).frames = s.frames ∧ (s.enableSlot n).qport = s.qport ∧ (s.enableSlot n).ports = s.ports ∧ (s.enableSlot n).pairAB = s.pairAB ∧ (s.enableSlot n).pairCD = s.pairCD ∧ (s.enableSlot n).routes = s.routes ∧ (s.enableSlot n).mer = s.mer ∧ (s.enableSlot n).xact = s.xact ∧ (s.enableSlot n).cfg = s.cfg ∧ (s.enableSlot n).feram = s.feram ∧ (s.enableSlot n).capt = s.capt ∧ (s.enableSlot n).shadow = s.shadow ∧ (s.enableSlot n).fresh = s.fresh ∧ (s.enableSlot n).copies = s.copies ∧ (s.enableSlot n).heard = s.heard ∧ (s.enableSlot n).outbox = s.outbox ∧ (s.enableSlot n).rsp = s.rsp ∧ (s.enableSlot n).free = s.free ∧ (s.enableSlot n).later = s.later ∧ (s.enableSlot n).pending = s.pending := by simp [State.enableSlot]

@[simp] theorem State.clearValues_frame (s : State) (n : Nat) :
    (s.clearValues n).now = s.now ∧ (s.clearValues n).ident = s.ident ∧ (s.clearValues n).pkg = s.pkg ∧ (s.clearValues n).pages = s.pages ∧ (s.clearValues n).dies = s.dies ∧ (s.clearValues n).frames = s.frames ∧ (s.clearValues n).qport = s.qport ∧ (s.clearValues n).ports = s.ports ∧ (s.clearValues n).pairAB = s.pairAB ∧ (s.clearValues n).pairCD = s.pairCD ∧ (s.clearValues n).routes = s.routes ∧ (s.clearValues n).mer = s.mer ∧ (s.clearValues n).xact = s.xact ∧ (s.clearValues n).nurs = s.nurs ∧ (s.clearValues n).cfg = s.cfg ∧ (s.clearValues n).feram = s.feram ∧ (s.clearValues n).capt = s.capt ∧ (s.clearValues n).shadow = s.shadow ∧ (s.clearValues n).fresh = s.fresh ∧ (s.clearValues n).copies = s.copies ∧ (s.clearValues n).heard = s.heard ∧ (s.clearValues n).outbox = s.outbox ∧ (s.clearValues n).rsp = s.rsp ∧ (s.clearValues n).free = s.free ∧ (s.clearValues n).later = s.later ∧ (s.clearValues n).pending = s.pending := by simp [State.clearValues]

@[simp] theorem State.turnOff_frame (s : State) (n : Nat) :
    (s.turnOff n).now = s.now ∧ (s.turnOff n).ident = s.ident ∧ (s.turnOff n).frames = s.frames ∧ (s.turnOff n).qport = s.qport ∧ (s.turnOff n).ports = s.ports ∧ (s.turnOff n).pairAB = s.pairAB ∧ (s.turnOff n).pairCD = s.pairCD ∧ (s.turnOff n).routes = s.routes ∧ (s.turnOff n).mer = s.mer ∧ (s.turnOff n).xact = s.xact ∧ (s.turnOff n).cfg = s.cfg ∧ (s.turnOff n).feram = s.feram ∧ (s.turnOff n).capt = s.capt ∧ (s.turnOff n).shadow = s.shadow ∧ (s.turnOff n).fresh = s.fresh ∧ (s.turnOff n).heard = s.heard ∧ (s.turnOff n).rsp = s.rsp ∧ (s.turnOff n).free = s.free ∧ (s.turnOff n).later = s.later ∧ (s.turnOff n).pending = s.pending := by simp [State.turnOff]

@[simp] theorem State.htTrip_frame (s : State) (n : Nat) (cause : Nat) (unsettled : Option Bool) :
    (s.htTrip n cause unsettled).now = s.now ∧ (s.htTrip n cause unsettled).ident = s.ident ∧ (s.htTrip n cause unsettled).pkg = s.pkg ∧ (s.htTrip n cause unsettled).regs = s.regs ∧ (s.htTrip n cause unsettled).pages = s.pages ∧ (s.htTrip n cause unsettled).dies = s.dies ∧ (s.htTrip n cause unsettled).frames = s.frames ∧ (s.htTrip n cause unsettled).qport = s.qport ∧ (s.htTrip n cause unsettled).ports = s.ports ∧ (s.htTrip n cause unsettled).pairAB = s.pairAB ∧ (s.htTrip n cause unsettled).pairCD = s.pairCD ∧ (s.htTrip n cause unsettled).routes = s.routes ∧ (s.htTrip n cause unsettled).mer = s.mer ∧ (s.htTrip n cause unsettled).xact = s.xact ∧ (s.htTrip n cause unsettled).nurs = s.nurs ∧ (s.htTrip n cause unsettled).cfg = s.cfg ∧ (s.htTrip n cause unsettled).feram = s.feram ∧ (s.htTrip n cause unsettled).capt = s.capt ∧ (s.htTrip n cause unsettled).shadow = s.shadow ∧ (s.htTrip n cause unsettled).fresh = s.fresh ∧ (s.htTrip n cause unsettled).copies = s.copies ∧ (s.htTrip n cause unsettled).heard = s.heard ∧ (s.htTrip n cause unsettled).outbox = s.outbox ∧ (s.htTrip n cause unsettled).rsp = s.rsp ∧ (s.htTrip n cause unsettled).free = s.free ∧ (s.htTrip n cause unsettled).later = s.later ∧ (s.htTrip n cause unsettled).pending = s.pending := by simp [State.htTrip]

@[simp] theorem State.refuseMsg_frame (s : State) (m : Msg) (reason : Nat) :
    (s.refuseMsg m reason).now = s.now ∧ (s.refuseMsg m reason).ident = s.ident ∧ (s.refuseMsg m reason).pkg = s.pkg ∧ (s.refuseMsg m reason).slots = s.slots ∧ (s.refuseMsg m reason).frames = s.frames ∧ (s.refuseMsg m reason).qport = s.qport ∧ (s.refuseMsg m reason).ports = s.ports ∧ (s.refuseMsg m reason).pairAB = s.pairAB ∧ (s.refuseMsg m reason).pairCD = s.pairCD ∧ (s.refuseMsg m reason).routes = s.routes ∧ (s.refuseMsg m reason).mer = s.mer ∧ (s.refuseMsg m reason).xact = s.xact ∧ (s.refuseMsg m reason).nurs = s.nurs ∧ (s.refuseMsg m reason).cfg = s.cfg ∧ (s.refuseMsg m reason).feram = s.feram ∧ (s.refuseMsg m reason).capt = s.capt ∧ (s.refuseMsg m reason).shadow = s.shadow ∧ (s.refuseMsg m reason).fresh = s.fresh ∧ (s.refuseMsg m reason).copies = s.copies ∧ (s.refuseMsg m reason).heard = s.heard ∧ (s.refuseMsg m reason).outbox = s.outbox ∧ (s.refuseMsg m reason).rsp = s.rsp ∧ (s.refuseMsg m reason).free = s.free ∧ (s.refuseMsg m reason).later = s.later ∧ (s.refuseMsg m reason).pending = s.pending := by simp [State.refuseMsg]

@[simp] theorem State.hear_frame (s : State) (m : Msg) :
    (s.hear m).now = s.now ∧ (s.hear m).ident = s.ident ∧ (s.hear m).pkg = s.pkg ∧ (s.hear m).regs = s.regs ∧ (s.hear m).pages = s.pages ∧ (s.hear m).slots = s.slots ∧ (s.hear m).dies = s.dies ∧ (s.hear m).frames = s.frames ∧ (s.hear m).qport = s.qport ∧ (s.hear m).ports = s.ports ∧ (s.hear m).pairAB = s.pairAB ∧ (s.hear m).pairCD = s.pairCD ∧ (s.hear m).routes = s.routes ∧ (s.hear m).mer = s.mer ∧ (s.hear m).xact = s.xact ∧ (s.hear m).nurs = s.nurs ∧ (s.hear m).cfg = s.cfg ∧ (s.hear m).feram = s.feram ∧ (s.hear m).capt = s.capt ∧ (s.hear m).shadow = s.shadow ∧ (s.hear m).fresh = s.fresh ∧ (s.hear m).copies = s.copies ∧ (s.hear m).outbox = s.outbox ∧ (s.hear m).rsp = s.rsp ∧ (s.hear m).free = s.free ∧ (s.hear m).later = s.later ∧ (s.hear m).pending = s.pending := by simp [State.hear]

@[simp] theorem State.modTerr_frame (s : State) (n : Nat) (g : Terr → Terr) :
    (s.modTerr n g).now = s.now ∧ (s.modTerr n g).ident = s.ident ∧ (s.modTerr n g).pkg = s.pkg ∧ (s.modTerr n g).regs = s.regs ∧ (s.modTerr n g).pages = s.pages ∧ (s.modTerr n g).dies = s.dies ∧ (s.modTerr n g).frames = s.frames ∧ (s.modTerr n g).qport = s.qport ∧ (s.modTerr n g).ports = s.ports ∧ (s.modTerr n g).pairAB = s.pairAB ∧ (s.modTerr n g).pairCD = s.pairCD ∧ (s.modTerr n g).routes = s.routes ∧ (s.modTerr n g).mer = s.mer ∧ (s.modTerr n g).xact = s.xact ∧ (s.modTerr n g).nurs = s.nurs ∧ (s.modTerr n g).cfg = s.cfg ∧ (s.modTerr n g).feram = s.feram ∧ (s.modTerr n g).capt = s.capt ∧ (s.modTerr n g).shadow = s.shadow ∧ (s.modTerr n g).fresh = s.fresh ∧ (s.modTerr n g).copies = s.copies ∧ (s.modTerr n g).heard = s.heard ∧ (s.modTerr n g).outbox = s.outbox ∧ (s.modTerr n g).rsp = s.rsp ∧ (s.modTerr n g).free = s.free ∧ (s.modTerr n g).later = s.later ∧ (s.modTerr n g).pending = s.pending := by simp [State.modTerr]

@[simp] theorem State.restrainIn_frame (s : State) (m : Msg) :
    (s.restrainIn m).now = s.now ∧ (s.restrainIn m).ident = s.ident ∧ (s.restrainIn m).pkg = s.pkg ∧ (s.restrainIn m).dies = s.dies ∧ (s.restrainIn m).frames = s.frames ∧ (s.restrainIn m).qport = s.qport ∧ (s.restrainIn m).ports = s.ports ∧ (s.restrainIn m).pairAB = s.pairAB ∧ (s.restrainIn m).pairCD = s.pairCD ∧ (s.restrainIn m).routes = s.routes ∧ (s.restrainIn m).mer = s.mer ∧ (s.restrainIn m).xact = s.xact ∧ (s.restrainIn m).nurs = s.nurs ∧ (s.restrainIn m).cfg = s.cfg ∧ (s.restrainIn m).feram = s.feram ∧ (s.restrainIn m).capt = s.capt ∧ (s.restrainIn m).shadow = s.shadow ∧ (s.restrainIn m).fresh = s.fresh ∧ (s.restrainIn m).copies = s.copies ∧ (s.restrainIn m).heard = s.heard ∧ (s.restrainIn m).outbox = s.outbox ∧ (s.restrainIn m).rsp = s.rsp ∧ (s.restrainIn m).free = s.free ∧ (s.restrainIn m).later = s.later ∧ (s.restrainIn m).pending = s.pending := by simp [State.restrainIn]

@[simp] theorem State.clearedIn_frame (s : State) (m : Msg) :
    (s.clearedIn m).now = s.now ∧ (s.clearedIn m).ident = s.ident ∧ (s.clearedIn m).frames = s.frames ∧ (s.clearedIn m).qport = s.qport ∧ (s.clearedIn m).ports = s.ports ∧ (s.clearedIn m).pairAB = s.pairAB ∧ (s.clearedIn m).pairCD = s.pairCD ∧ (s.clearedIn m).routes = s.routes ∧ (s.clearedIn m).mer = s.mer ∧ (s.clearedIn m).xact = s.xact ∧ (s.clearedIn m).cfg = s.cfg ∧ (s.clearedIn m).feram = s.feram ∧ (s.clearedIn m).capt = s.capt ∧ (s.clearedIn m).shadow = s.shadow ∧ (s.clearedIn m).fresh = s.fresh ∧ (s.clearedIn m).heard = s.heard ∧ (s.clearedIn m).rsp = s.rsp ∧ (s.clearedIn m).free = s.free ∧ (s.clearedIn m).later = s.later ∧ (s.clearedIn m).pending = s.pending := by simp [State.clearedIn]

@[simp] theorem State.lockoutIn_frame (s : State) (m : Msg) :
    (s.lockoutIn m).now = s.now ∧ (s.lockoutIn m).ident = s.ident ∧ (s.lockoutIn m).frames = s.frames ∧ (s.lockoutIn m).qport = s.qport ∧ (s.lockoutIn m).ports = s.ports ∧ (s.lockoutIn m).pairAB = s.pairAB ∧ (s.lockoutIn m).pairCD = s.pairCD ∧ (s.lockoutIn m).routes = s.routes ∧ (s.lockoutIn m).mer = s.mer ∧ (s.lockoutIn m).xact = s.xact ∧ (s.lockoutIn m).cfg = s.cfg ∧ (s.lockoutIn m).feram = s.feram ∧ (s.lockoutIn m).capt = s.capt ∧ (s.lockoutIn m).shadow = s.shadow ∧ (s.lockoutIn m).fresh = s.fresh ∧ (s.lockoutIn m).heard = s.heard ∧ (s.lockoutIn m).rsp = s.rsp ∧ (s.lockoutIn m).free = s.free ∧ (s.lockoutIn m).later = s.later ∧ (s.lockoutIn m).pending = s.pending := by unfold State.lockoutIn; (repeat' split) <;> simp

@[simp] theorem State.upstreamIn_frame (s : State) (m : Msg) :
    (s.upstreamIn m).now = s.now ∧ (s.upstreamIn m).ident = s.ident ∧ (s.upstreamIn m).frames = s.frames ∧ (s.upstreamIn m).qport = s.qport ∧ (s.upstreamIn m).ports = s.ports ∧ (s.upstreamIn m).pairAB = s.pairAB ∧ (s.upstreamIn m).pairCD = s.pairCD ∧ (s.upstreamIn m).routes = s.routes ∧ (s.upstreamIn m).mer = s.mer ∧ (s.upstreamIn m).xact = s.xact ∧ (s.upstreamIn m).cfg = s.cfg ∧ (s.upstreamIn m).feram = s.feram ∧ (s.upstreamIn m).capt = s.capt ∧ (s.upstreamIn m).shadow = s.shadow ∧ (s.upstreamIn m).fresh = s.fresh ∧ (s.upstreamIn m).heard = s.heard ∧ (s.upstreamIn m).rsp = s.rsp ∧ (s.upstreamIn m).free = s.free ∧ (s.upstreamIn m).later = s.later ∧ (s.upstreamIn m).pending = s.pending := by simp [State.upstreamIn]

@[simp] theorem State.verdict_frame (s : State) (n : Nat) (cause : Nat) (abort : Nat) (open_ : Bool) :
    (s.verdict n cause abort open_).now = s.now ∧ (s.verdict n cause abort open_).ident = s.ident ∧ (s.verdict n cause abort open_).frames = s.frames ∧ (s.verdict n cause abort open_).qport = s.qport ∧ (s.verdict n cause abort open_).ports = s.ports ∧ (s.verdict n cause abort open_).pairAB = s.pairAB ∧ (s.verdict n cause abort open_).pairCD = s.pairCD ∧ (s.verdict n cause abort open_).routes = s.routes ∧ (s.verdict n cause abort open_).mer = s.mer ∧ (s.verdict n cause abort open_).xact = s.xact ∧ (s.verdict n cause abort open_).cfg = s.cfg ∧ (s.verdict n cause abort open_).feram = s.feram ∧ (s.verdict n cause abort open_).capt = s.capt ∧ (s.verdict n cause abort open_).shadow = s.shadow ∧ (s.verdict n cause abort open_).fresh = s.fresh ∧ (s.verdict n cause abort open_).heard = s.heard ∧ (s.verdict n cause abort open_).rsp = s.rsp ∧ (s.verdict n cause abort open_).free = s.free ∧ (s.verdict n cause abort open_).later = s.later ∧ (s.verdict n cause abort open_).pending = s.pending := by simp [State.verdict]

@[simp] theorem State.wmark_frame (s : State) (before : Nat) :
    (s.wmark before).now = s.now ∧ (s.wmark before).ident = s.ident ∧ (s.wmark before).pkg = s.pkg ∧ (s.wmark before).regs = s.regs ∧ (s.wmark before).slots = s.slots ∧ (s.wmark before).dies = s.dies ∧ (s.wmark before).frames = s.frames ∧ (s.wmark before).qport = s.qport ∧ (s.wmark before).ports = s.ports ∧ (s.wmark before).pairAB = s.pairAB ∧ (s.wmark before).pairCD = s.pairCD ∧ (s.wmark before).routes = s.routes ∧ (s.wmark before).mer = s.mer ∧ (s.wmark before).xact = s.xact ∧ (s.wmark before).nurs = s.nurs ∧ (s.wmark before).cfg = s.cfg ∧ (s.wmark before).feram = s.feram ∧ (s.wmark before).capt = s.capt ∧ (s.wmark before).shadow = s.shadow ∧ (s.wmark before).fresh = s.fresh ∧ (s.wmark before).copies = s.copies ∧ (s.wmark before).heard = s.heard ∧ (s.wmark before).outbox = s.outbox ∧ (s.wmark before).rsp = s.rsp ∧ (s.wmark before).free = s.free ∧ (s.wmark before).later = s.later ∧ (s.wmark before).pending = s.pending := by simp [State.wmark]

@[simp] theorem State.pushQueue_frame (s : State) (d : Nat) (e : BitVec 64) :
    (s.pushQueue d e).now = s.now ∧ (s.pushQueue d e).ident = s.ident ∧ (s.pushQueue d e).pkg = s.pkg ∧ (s.pushQueue d e).slots = s.slots ∧ (s.pushQueue d e).frames = s.frames ∧ (s.pushQueue d e).qport = s.qport ∧ (s.pushQueue d e).ports = s.ports ∧ (s.pushQueue d e).pairAB = s.pairAB ∧ (s.pushQueue d e).pairCD = s.pairCD ∧ (s.pushQueue d e).routes = s.routes ∧ (s.pushQueue d e).mer = s.mer ∧ (s.pushQueue d e).xact = s.xact ∧ (s.pushQueue d e).nurs = s.nurs ∧ (s.pushQueue d e).cfg = s.cfg ∧ (s.pushQueue d e).feram = s.feram ∧ (s.pushQueue d e).capt = s.capt ∧ (s.pushQueue d e).shadow = s.shadow ∧ (s.pushQueue d e).fresh = s.fresh ∧ (s.pushQueue d e).copies = s.copies ∧ (s.pushQueue d e).heard = s.heard ∧ (s.pushQueue d e).outbox = s.outbox ∧ (s.pushQueue d e).rsp = s.rsp ∧ (s.pushQueue d e).free = s.free ∧ (s.pushQueue d e).later = s.later ∧ (s.pushQueue d e).pending = s.pending := by simp [State.pushQueue]

@[simp] theorem State.takeSrc_frame (s : State) (k : Nat) (port : Bool) :
    (s.takeSrc k port).1.now = s.now ∧ (s.takeSrc k port).1.ident = s.ident ∧ (s.takeSrc k port).1.pkg = s.pkg ∧ (s.takeSrc k port).1.regs = s.regs ∧ (s.takeSrc k port).1.pages = s.pages ∧ (s.takeSrc k port).1.slots = s.slots ∧ (s.takeSrc k port).1.frames = s.frames ∧ (s.takeSrc k port).1.ports = s.ports ∧ (s.takeSrc k port).1.pairAB = s.pairAB ∧ (s.takeSrc k port).1.pairCD = s.pairCD ∧ (s.takeSrc k port).1.routes = s.routes ∧ (s.takeSrc k port).1.mer = s.mer ∧ (s.takeSrc k port).1.xact = s.xact ∧ (s.takeSrc k port).1.nurs = s.nurs ∧ (s.takeSrc k port).1.cfg = s.cfg ∧ (s.takeSrc k port).1.feram = s.feram ∧ (s.takeSrc k port).1.capt = s.capt ∧ (s.takeSrc k port).1.shadow = s.shadow ∧ (s.takeSrc k port).1.fresh = s.fresh ∧ (s.takeSrc k port).1.copies = s.copies ∧ (s.takeSrc k port).1.heard = s.heard ∧ (s.takeSrc k port).1.outbox = s.outbox ∧ (s.takeSrc k port).1.rsp = s.rsp ∧ (s.takeSrc k port).1.free = s.free ∧ (s.takeSrc k port).1.later = s.later ∧ (s.takeSrc k port).1.pending = s.pending := by unfold State.takeSrc; (repeat' split) <;> simp

@[simp] theorem State.capture_frame (s : State) (ini : Ini) (a : Nat) (v : Word) :
    (s.capture ini a v).now = s.now ∧ (s.capture ini a v).ident = s.ident ∧ (s.capture ini a v).pkg = s.pkg ∧ (s.capture ini a v).regs = s.regs ∧ (s.capture ini a v).slots = s.slots ∧ (s.capture ini a v).dies = s.dies ∧ (s.capture ini a v).frames = s.frames ∧ (s.capture ini a v).qport = s.qport ∧ (s.capture ini a v).ports = s.ports ∧ (s.capture ini a v).pairAB = s.pairAB ∧ (s.capture ini a v).pairCD = s.pairCD ∧ (s.capture ini a v).routes = s.routes ∧ (s.capture ini a v).mer = s.mer ∧ (s.capture ini a v).xact = s.xact ∧ (s.capture ini a v).nurs = s.nurs ∧ (s.capture ini a v).cfg = s.cfg ∧ (s.capture ini a v).feram = s.feram ∧ (s.capture ini a v).capt = s.capt ∧ (s.capture ini a v).copies = s.copies ∧ (s.capture ini a v).heard = s.heard ∧ (s.capture ini a v).outbox = s.outbox ∧ (s.capture ini a v).rsp = s.rsp ∧ (s.capture ini a v).free = s.free ∧ (s.capture ini a v).later = s.later ∧ (s.capture ini a v).pending = s.pending := by simp [State.capture]

@[simp] theorem State.streamSend_frame (s : State) :
    (s.streamSend).now = s.now ∧ (s.streamSend).ident = s.ident ∧ (s.streamSend).pkg = s.pkg ∧ (s.streamSend).pages = s.pages ∧ (s.streamSend).slots = s.slots ∧ (s.streamSend).dies = s.dies ∧ (s.streamSend).frames = s.frames ∧ (s.streamSend).pairAB = s.pairAB ∧ (s.streamSend).pairCD = s.pairCD ∧ (s.streamSend).routes = s.routes ∧ (s.streamSend).mer = s.mer ∧ (s.streamSend).xact = s.xact ∧ (s.streamSend).nurs = s.nurs ∧ (s.streamSend).cfg = s.cfg ∧ (s.streamSend).feram = s.feram ∧ (s.streamSend).capt = s.capt ∧ (s.streamSend).shadow = s.shadow ∧ (s.streamSend).fresh = s.fresh ∧ (s.streamSend).copies = s.copies ∧ (s.streamSend).heard = s.heard ∧ (s.streamSend).rsp = s.rsp ∧ (s.streamSend).free = s.free ∧ (s.streamSend).later = s.later ∧ (s.streamSend).pending = s.pending := by simp [State.streamSend]

@[simp] theorem State.modBelv_frame (s : State) (d : Nat) (g : Belv → Belv) :
    (s.modBelv d g).now = s.now ∧ (s.modBelv d g).ident = s.ident ∧ (s.modBelv d g).pkg = s.pkg ∧ (s.modBelv d g).regs = s.regs ∧ (s.modBelv d g).pages = s.pages ∧ (s.modBelv d g).slots = s.slots ∧ (s.modBelv d g).frames = s.frames ∧ (s.modBelv d g).qport = s.qport ∧ (s.modBelv d g).ports = s.ports ∧ (s.modBelv d g).pairAB = s.pairAB ∧ (s.modBelv d g).pairCD = s.pairCD ∧ (s.modBelv d g).routes = s.routes ∧ (s.modBelv d g).mer = s.mer ∧ (s.modBelv d g).xact = s.xact ∧ (s.modBelv d g).nurs = s.nurs ∧ (s.modBelv d g).cfg = s.cfg ∧ (s.modBelv d g).feram = s.feram ∧ (s.modBelv d g).capt = s.capt ∧ (s.modBelv d g).shadow = s.shadow ∧ (s.modBelv d g).fresh = s.fresh ∧ (s.modBelv d g).copies = s.copies ∧ (s.modBelv d g).heard = s.heard ∧ (s.modBelv d g).outbox = s.outbox ∧ (s.modBelv d g).rsp = s.rsp ∧ (s.modBelv d g).free = s.free ∧ (s.modBelv d g).later = s.later ∧ (s.modBelv d g).pending = s.pending := by simp [State.modBelv]

@[simp] theorem State.modMod_frame (s : State) (d : Nat) (m : Nat) (g : Modl → Modl) :
    (s.modMod d m g).now = s.now ∧ (s.modMod d m g).ident = s.ident ∧ (s.modMod d m g).pkg = s.pkg ∧ (s.modMod d m g).regs = s.regs ∧ (s.modMod d m g).pages = s.pages ∧ (s.modMod d m g).slots = s.slots ∧ (s.modMod d m g).frames = s.frames ∧ (s.modMod d m g).qport = s.qport ∧ (s.modMod d m g).ports = s.ports ∧ (s.modMod d m g).pairAB = s.pairAB ∧ (s.modMod d m g).pairCD = s.pairCD ∧ (s.modMod d m g).routes = s.routes ∧ (s.modMod d m g).mer = s.mer ∧ (s.modMod d m g).xact = s.xact ∧ (s.modMod d m g).nurs = s.nurs ∧ (s.modMod d m g).cfg = s.cfg ∧ (s.modMod d m g).feram = s.feram ∧ (s.modMod d m g).capt = s.capt ∧ (s.modMod d m g).shadow = s.shadow ∧ (s.modMod d m g).fresh = s.fresh ∧ (s.modMod d m g).copies = s.copies ∧ (s.modMod d m g).heard = s.heard ∧ (s.modMod d m g).outbox = s.outbox ∧ (s.modMod d m g).rsp = s.rsp ∧ (s.modMod d m g).free = s.free ∧ (s.modMod d m g).later = s.later ∧ (s.modMod d m g).pending = s.pending := by simp [State.modMod]

@[simp] theorem State.startSwap_frame (s : State) (d : Nat) (m : Nat) :
    (s.startSwap d m).now = s.now ∧ (s.startSwap d m).ident = s.ident ∧ (s.startSwap d m).regs = s.regs ∧ (s.startSwap d m).slots = s.slots ∧ (s.startSwap d m).frames = s.frames ∧ (s.startSwap d m).qport = s.qport ∧ (s.startSwap d m).ports = s.ports ∧ (s.startSwap d m).pairAB = s.pairAB ∧ (s.startSwap d m).pairCD = s.pairCD ∧ (s.startSwap d m).routes = s.routes ∧ (s.startSwap d m).mer = s.mer ∧ (s.startSwap d m).xact = s.xact ∧ (s.startSwap d m).nurs = s.nurs ∧ (s.startSwap d m).cfg = s.cfg ∧ (s.startSwap d m).feram = s.feram ∧ (s.startSwap d m).capt = s.capt ∧ (s.startSwap d m).shadow = s.shadow ∧ (s.startSwap d m).fresh = s.fresh ∧ (s.startSwap d m).copies = s.copies ∧ (s.startSwap d m).heard = s.heard ∧ (s.startSwap d m).outbox = s.outbox ∧ (s.startSwap d m).rsp = s.rsp ∧ (s.startSwap d m).free = s.free ∧ (s.startSwap d m).later = s.later ∧ (s.startSwap d m).pending = s.pending := by unfold State.startSwap; dsimp only; (repeat' split) <;> simp

@[simp] theorem State.endStep_frame (s : State) (d : Nat) :
    (s.endStep d).now = s.now ∧ (s.endStep d).ident = s.ident ∧ (s.endStep d).pkg = s.pkg ∧ (s.endStep d).regs = s.regs ∧ (s.endStep d).slots = s.slots ∧ (s.endStep d).frames = s.frames ∧ (s.endStep d).qport = s.qport ∧ (s.endStep d).ports = s.ports ∧ (s.endStep d).pairAB = s.pairAB ∧ (s.endStep d).pairCD = s.pairCD ∧ (s.endStep d).routes = s.routes ∧ (s.endStep d).mer = s.mer ∧ (s.endStep d).xact = s.xact ∧ (s.endStep d).nurs = s.nurs ∧ (s.endStep d).cfg = s.cfg ∧ (s.endStep d).feram = s.feram ∧ (s.endStep d).capt = s.capt ∧ (s.endStep d).shadow = s.shadow ∧ (s.endStep d).fresh = s.fresh ∧ (s.endStep d).copies = s.copies ∧ (s.endStep d).heard = s.heard ∧ (s.endStep d).outbox = s.outbox ∧ (s.endStep d).rsp = s.rsp ∧ (s.endStep d).free = s.free ∧ (s.endStep d).later = s.later ∧ (s.endStep d).pending = s.pending := by unfold State.endStep; (repeat' split) <;> simp

@[simp] theorem State.newRound_frame (s : State) (d : Nat) (once : Bool) :
    (s.newRound d once).now = s.now ∧ (s.newRound d once).ident = s.ident ∧ (s.newRound d once).pkg = s.pkg ∧ (s.newRound d once).regs = s.regs ∧ (s.newRound d once).slots = s.slots ∧ (s.newRound d once).frames = s.frames ∧ (s.newRound d once).qport = s.qport ∧ (s.newRound d once).ports = s.ports ∧ (s.newRound d once).pairAB = s.pairAB ∧ (s.newRound d once).pairCD = s.pairCD ∧ (s.newRound d once).routes = s.routes ∧ (s.newRound d once).mer = s.mer ∧ (s.newRound d once).xact = s.xact ∧ (s.newRound d once).nurs = s.nurs ∧ (s.newRound d once).cfg = s.cfg ∧ (s.newRound d once).feram = s.feram ∧ (s.newRound d once).capt = s.capt ∧ (s.newRound d once).shadow = s.shadow ∧ (s.newRound d once).fresh = s.fresh ∧ (s.newRound d once).copies = s.copies ∧ (s.newRound d once).heard = s.heard ∧ (s.newRound d once).outbox = s.outbox ∧ (s.newRound d once).rsp = s.rsp ∧ (s.newRound d once).free = s.free ∧ (s.newRound d once).later = s.later ∧ (s.newRound d once).pending = s.pending := by simp [State.newRound]

@[simp] theorem State.rollOnce_frame (s : State) (d : Nat) :
    (s.rollOnce d).now = s.now ∧ (s.rollOnce d).ident = s.ident ∧ (s.rollOnce d).pkg = s.pkg ∧ (s.rollOnce d).regs = s.regs ∧ (s.rollOnce d).slots = s.slots ∧ (s.rollOnce d).frames = s.frames ∧ (s.rollOnce d).qport = s.qport ∧ (s.rollOnce d).ports = s.ports ∧ (s.rollOnce d).pairAB = s.pairAB ∧ (s.rollOnce d).pairCD = s.pairCD ∧ (s.rollOnce d).routes = s.routes ∧ (s.rollOnce d).mer = s.mer ∧ (s.rollOnce d).xact = s.xact ∧ (s.rollOnce d).nurs = s.nurs ∧ (s.rollOnce d).cfg = s.cfg ∧ (s.rollOnce d).feram = s.feram ∧ (s.rollOnce d).capt = s.capt ∧ (s.rollOnce d).shadow = s.shadow ∧ (s.rollOnce d).fresh = s.fresh ∧ (s.rollOnce d).copies = s.copies ∧ (s.rollOnce d).heard = s.heard ∧ (s.rollOnce d).outbox = s.outbox ∧ (s.rollOnce d).rsp = s.rsp ∧ (s.rollOnce d).free = s.free ∧ (s.rollOnce d).later = s.later ∧ (s.rollOnce d).pending = s.pending := by simp [State.rollOnce]

@[simp] theorem State.startMods_frame (s : State) (d : Nat) :
    (s.startMods d).now = s.now ∧ (s.startMods d).ident = s.ident ∧ (s.startMods d).pkg = s.pkg ∧ (s.startMods d).pages = s.pages ∧ (s.startMods d).frames = s.frames ∧ (s.startMods d).qport = s.qport ∧ (s.startMods d).ports = s.ports ∧ (s.startMods d).pairAB = s.pairAB ∧ (s.startMods d).pairCD = s.pairCD ∧ (s.startMods d).routes = s.routes ∧ (s.startMods d).mer = s.mer ∧ (s.startMods d).xact = s.xact ∧ (s.startMods d).nurs = s.nurs ∧ (s.startMods d).cfg = s.cfg ∧ (s.startMods d).feram = s.feram ∧ (s.startMods d).capt = s.capt ∧ (s.startMods d).shadow = s.shadow ∧ (s.startMods d).fresh = s.fresh ∧ (s.startMods d).copies = s.copies ∧ (s.startMods d).heard = s.heard ∧ (s.startMods d).outbox = s.outbox ∧ (s.startMods d).rsp = s.rsp ∧ (s.startMods d).free = s.free ∧ (s.startMods d).later = s.later ∧ (s.startMods d).pending = s.pending := by simp [State.startMods]

@[simp] theorem State.openStart_frame (s : State) (d : Nat) (slots : Nat) (pins : Nat) (current : Nat) (auto : Bool) :
    (s.openStart d slots pins current auto).now = s.now ∧ (s.openStart d slots pins current auto).ident = s.ident ∧ (s.openStart d slots pins current auto).pkg = s.pkg ∧ (s.openStart d slots pins current auto).pages = s.pages ∧ (s.openStart d slots pins current auto).slots = s.slots ∧ (s.openStart d slots pins current auto).frames = s.frames ∧ (s.openStart d slots pins current auto).qport = s.qport ∧ (s.openStart d slots pins current auto).ports = s.ports ∧ (s.openStart d slots pins current auto).pairAB = s.pairAB ∧ (s.openStart d slots pins current auto).pairCD = s.pairCD ∧ (s.openStart d slots pins current auto).routes = s.routes ∧ (s.openStart d slots pins current auto).mer = s.mer ∧ (s.openStart d slots pins current auto).xact = s.xact ∧ (s.openStart d slots pins current auto).nurs = s.nurs ∧ (s.openStart d slots pins current auto).cfg = s.cfg ∧ (s.openStart d slots pins current auto).feram = s.feram ∧ (s.openStart d slots pins current auto).capt = s.capt ∧ (s.openStart d slots pins current auto).shadow = s.shadow ∧ (s.openStart d slots pins current auto).fresh = s.fresh ∧ (s.openStart d slots pins current auto).copies = s.copies ∧ (s.openStart d slots pins current auto).heard = s.heard ∧ (s.openStart d slots pins current auto).outbox = s.outbox ∧ (s.openStart d slots pins current auto).rsp = s.rsp ∧ (s.openStart d slots pins current auto).free = s.free ∧ (s.openStart d slots pins current auto).later = s.later ∧ (s.openStart d slots pins current auto).pending = s.pending := by simp [State.openStart]

@[simp] theorem State.accepted_frame (s : State) :
    (s.accepted).now = s.now ∧ (s.accepted).ident = s.ident ∧ (s.accepted).pkg = s.pkg ∧ (s.accepted).pages = s.pages ∧ (s.accepted).slots = s.slots ∧ (s.accepted).dies = s.dies ∧ (s.accepted).frames = s.frames ∧ (s.accepted).qport = s.qport ∧ (s.accepted).ports = s.ports ∧ (s.accepted).pairAB = s.pairAB ∧ (s.accepted).pairCD = s.pairCD ∧ (s.accepted).routes = s.routes ∧ (s.accepted).mer = s.mer ∧ (s.accepted).xact = s.xact ∧ (s.accepted).nurs = s.nurs ∧ (s.accepted).cfg = s.cfg ∧ (s.accepted).feram = s.feram ∧ (s.accepted).capt = s.capt ∧ (s.accepted).shadow = s.shadow ∧ (s.accepted).fresh = s.fresh ∧ (s.accepted).copies = s.copies ∧ (s.accepted).heard = s.heard ∧ (s.accepted).outbox = s.outbox ∧ (s.accepted).rsp = s.rsp ∧ (s.accepted).free = s.free ∧ (s.accepted).later = s.later ∧ (s.accepted).pending = s.pending := by simp [State.accepted]

@[simp] theorem State.trigger_frame (s : State) (src : TrigSrc) :
    (s.trigger src).now = s.now ∧ (s.trigger src).ident = s.ident ∧ (s.trigger src).pkg = s.pkg ∧ (s.trigger src).slots = s.slots ∧ (s.trigger src).dies = s.dies ∧ (s.trigger src).qport = s.qport ∧ (s.trigger src).ports = s.ports ∧ (s.trigger src).pairAB = s.pairAB ∧ (s.trigger src).pairCD = s.pairCD ∧ (s.trigger src).routes = s.routes ∧ (s.trigger src).mer = s.mer ∧ (s.trigger src).xact = s.xact ∧ (s.trigger src).nurs = s.nurs ∧ (s.trigger src).cfg = s.cfg ∧ (s.trigger src).feram = s.feram ∧ (s.trigger src).capt = s.capt ∧ (s.trigger src).shadow = s.shadow ∧ (s.trigger src).fresh = s.fresh ∧ (s.trigger src).copies = s.copies ∧ (s.trigger src).heard = s.heard ∧ (s.trigger src).outbox = s.outbox ∧ (s.trigger src).rsp = s.rsp ∧ (s.trigger src).free = s.free ∧ (s.trigger src).later = s.later ∧ (s.trigger src).pending = s.pending := by unfold State.trigger; (repeat' split) <;> simp

@[simp] theorem State.merTrigger_frame (s : State) (n : Nat) :
    (s.merTrigger n).now = s.now ∧ (s.merTrigger n).ident = s.ident ∧ (s.merTrigger n).pkg = s.pkg ∧ (s.merTrigger n).slots = s.slots ∧ (s.merTrigger n).dies = s.dies ∧ (s.merTrigger n).qport = s.qport ∧ (s.merTrigger n).ports = s.ports ∧ (s.merTrigger n).pairAB = s.pairAB ∧ (s.merTrigger n).pairCD = s.pairCD ∧ (s.merTrigger n).routes = s.routes ∧ (s.merTrigger n).mer = s.mer ∧ (s.merTrigger n).xact = s.xact ∧ (s.merTrigger n).nurs = s.nurs ∧ (s.merTrigger n).cfg = s.cfg ∧ (s.merTrigger n).feram = s.feram ∧ (s.merTrigger n).capt = s.capt ∧ (s.merTrigger n).shadow = s.shadow ∧ (s.merTrigger n).fresh = s.fresh ∧ (s.merTrigger n).copies = s.copies ∧ (s.merTrigger n).heard = s.heard ∧ (s.merTrigger n).outbox = s.outbox ∧ (s.merTrigger n).rsp = s.rsp ∧ (s.merTrigger n).free = s.free ∧ (s.merTrigger n).later = s.later ∧ (s.merTrigger n).pending = s.pending := by simp [State.merTrigger]

@[simp] theorem State.survStep_frame (s : State) (d : Nat) (ch : Nat) :
    (s.survStep d ch).now = s.now ∧ (s.survStep d ch).ident = s.ident ∧ (s.survStep d ch).pkg = s.pkg ∧ (s.survStep d ch).regs = s.regs ∧ (s.survStep d ch).pages = s.pages ∧ (s.survStep d ch).slots = s.slots ∧ (s.survStep d ch).frames = s.frames ∧ (s.survStep d ch).qport = s.qport ∧ (s.survStep d ch).ports = s.ports ∧ (s.survStep d ch).pairAB = s.pairAB ∧ (s.survStep d ch).pairCD = s.pairCD ∧ (s.survStep d ch).routes = s.routes ∧ (s.survStep d ch).mer = s.mer ∧ (s.survStep d ch).xact = s.xact ∧ (s.survStep d ch).nurs = s.nurs ∧ (s.survStep d ch).cfg = s.cfg ∧ (s.survStep d ch).feram = s.feram ∧ (s.survStep d ch).capt = s.capt ∧ (s.survStep d ch).shadow = s.shadow ∧ (s.survStep d ch).fresh = s.fresh ∧ (s.survStep d ch).copies = s.copies ∧ (s.survStep d ch).heard = s.heard ∧ (s.survStep d ch).outbox = s.outbox ∧ (s.survStep d ch).rsp = s.rsp ∧ (s.survStep d ch).free = s.free ∧ (s.survStep d ch).later = s.later ∧ (s.survStep d ch).pending = s.pending := by simp [State.survStep]

@[simp] theorem State.gratDegraded_frame (s : State) (d : Nat) :
    (s.gratDegraded d).now = s.now ∧ (s.gratDegraded d).ident = s.ident ∧ (s.gratDegraded d).pkg = s.pkg ∧ (s.gratDegraded d).regs = s.regs ∧ (s.gratDegraded d).slots = s.slots ∧ (s.gratDegraded d).frames = s.frames ∧ (s.gratDegraded d).qport = s.qport ∧ (s.gratDegraded d).ports = s.ports ∧ (s.gratDegraded d).pairAB = s.pairAB ∧ (s.gratDegraded d).pairCD = s.pairCD ∧ (s.gratDegraded d).routes = s.routes ∧ (s.gratDegraded d).mer = s.mer ∧ (s.gratDegraded d).xact = s.xact ∧ (s.gratDegraded d).nurs = s.nurs ∧ (s.gratDegraded d).cfg = s.cfg ∧ (s.gratDegraded d).feram = s.feram ∧ (s.gratDegraded d).capt = s.capt ∧ (s.gratDegraded d).shadow = s.shadow ∧ (s.gratDegraded d).fresh = s.fresh ∧ (s.gratDegraded d).copies = s.copies ∧ (s.gratDegraded d).heard = s.heard ∧ (s.gratDegraded d).outbox = s.outbox ∧ (s.gratDegraded d).rsp = s.rsp ∧ (s.gratDegraded d).free = s.free ∧ (s.gratDegraded d).later = s.later ∧ (s.gratDegraded d).pending = s.pending := by simp [State.gratDegraded]

@[simp] theorem State.gratExclude_frame (s : State) (d : Nat) (i : Nat) :
    (s.gratExclude d i).now = s.now ∧ (s.gratExclude d i).ident = s.ident ∧ (s.gratExclude d i).slots = s.slots ∧ (s.gratExclude d i).frames = s.frames ∧ (s.gratExclude d i).qport = s.qport ∧ (s.gratExclude d i).ports = s.ports ∧ (s.gratExclude d i).pairAB = s.pairAB ∧ (s.gratExclude d i).pairCD = s.pairCD ∧ (s.gratExclude d i).routes = s.routes ∧ (s.gratExclude d i).mer = s.mer ∧ (s.gratExclude d i).xact = s.xact ∧ (s.gratExclude d i).nurs = s.nurs ∧ (s.gratExclude d i).cfg = s.cfg ∧ (s.gratExclude d i).feram = s.feram ∧ (s.gratExclude d i).capt = s.capt ∧ (s.gratExclude d i).shadow = s.shadow ∧ (s.gratExclude d i).fresh = s.fresh ∧ (s.gratExclude d i).copies = s.copies ∧ (s.gratExclude d i).heard = s.heard ∧ (s.gratExclude d i).outbox = s.outbox ∧ (s.gratExclude d i).rsp = s.rsp ∧ (s.gratExclude d i).free = s.free ∧ (s.gratExclude d i).later = s.later ∧ (s.gratExclude d i).pending = s.pending := by simp [State.gratExclude]

@[simp] theorem State.unblock_frame (s : State) (d : Nat) :
    (s.unblock d).now = s.now ∧ (s.unblock d).ident = s.ident ∧ (s.unblock d).pkg = s.pkg ∧ (s.unblock d).regs = s.regs ∧ (s.unblock d).pages = s.pages ∧ (s.unblock d).slots = s.slots ∧ (s.unblock d).frames = s.frames ∧ (s.unblock d).qport = s.qport ∧ (s.unblock d).ports = s.ports ∧ (s.unblock d).pairAB = s.pairAB ∧ (s.unblock d).pairCD = s.pairCD ∧ (s.unblock d).routes = s.routes ∧ (s.unblock d).mer = s.mer ∧ (s.unblock d).xact = s.xact ∧ (s.unblock d).nurs = s.nurs ∧ (s.unblock d).cfg = s.cfg ∧ (s.unblock d).feram = s.feram ∧ (s.unblock d).capt = s.capt ∧ (s.unblock d).shadow = s.shadow ∧ (s.unblock d).fresh = s.fresh ∧ (s.unblock d).copies = s.copies ∧ (s.unblock d).heard = s.heard ∧ (s.unblock d).outbox = s.outbox ∧ (s.unblock d).rsp = s.rsp ∧ (s.unblock d).free = s.free ∧ (s.unblock d).later = s.later ∧ (s.unblock d).pending = s.pending := by simp [State.unblock]

@[simp] theorem State.gratWindows_frame (s : State) (d : Nat) :
    (s.gratWindows d).now = s.now ∧ (s.gratWindows d).ident = s.ident ∧ (s.gratWindows d).pkg = s.pkg ∧ (s.gratWindows d).regs = s.regs ∧ (s.gratWindows d).slots = s.slots ∧ (s.gratWindows d).frames = s.frames ∧ (s.gratWindows d).qport = s.qport ∧ (s.gratWindows d).ports = s.ports ∧ (s.gratWindows d).pairAB = s.pairAB ∧ (s.gratWindows d).pairCD = s.pairCD ∧ (s.gratWindows d).routes = s.routes ∧ (s.gratWindows d).mer = s.mer ∧ (s.gratWindows d).xact = s.xact ∧ (s.gratWindows d).nurs = s.nurs ∧ (s.gratWindows d).cfg = s.cfg ∧ (s.gratWindows d).feram = s.feram ∧ (s.gratWindows d).capt = s.capt ∧ (s.gratWindows d).shadow = s.shadow ∧ (s.gratWindows d).fresh = s.fresh ∧ (s.gratWindows d).copies = s.copies ∧ (s.gratWindows d).heard = s.heard ∧ (s.gratWindows d).outbox = s.outbox ∧ (s.gratWindows d).rsp = s.rsp ∧ (s.gratWindows d).free = s.free ∧ (s.gratWindows d).later = s.later ∧ (s.gratWindows d).pending = s.pending := by simp [State.gratWindows]

@[simp] theorem State.gratScan_frame (s : State) (d : Nat) :
    (s.gratScan d).now = s.now ∧ (s.gratScan d).ident = s.ident ∧ (s.gratScan d).slots = s.slots ∧ (s.gratScan d).frames = s.frames ∧ (s.gratScan d).qport = s.qport ∧ (s.gratScan d).ports = s.ports ∧ (s.gratScan d).pairAB = s.pairAB ∧ (s.gratScan d).pairCD = s.pairCD ∧ (s.gratScan d).routes = s.routes ∧ (s.gratScan d).mer = s.mer ∧ (s.gratScan d).xact = s.xact ∧ (s.gratScan d).nurs = s.nurs ∧ (s.gratScan d).cfg = s.cfg ∧ (s.gratScan d).feram = s.feram ∧ (s.gratScan d).capt = s.capt ∧ (s.gratScan d).shadow = s.shadow ∧ (s.gratScan d).fresh = s.fresh ∧ (s.gratScan d).copies = s.copies ∧ (s.gratScan d).heard = s.heard ∧ (s.gratScan d).outbox = s.outbox ∧ (s.gratScan d).rsp = s.rsp ∧ (s.gratScan d).free = s.free ∧ (s.gratScan d).later = s.later ∧ (s.gratScan d).pending = s.pending := by simp [State.gratScan]

@[simp] theorem State.modMer_frame (s : State) (g : Mer → Mer) :
    (s.modMer g).now = s.now ∧ (s.modMer g).ident = s.ident ∧ (s.modMer g).pkg = s.pkg ∧ (s.modMer g).regs = s.regs ∧ (s.modMer g).pages = s.pages ∧ (s.modMer g).slots = s.slots ∧ (s.modMer g).dies = s.dies ∧ (s.modMer g).frames = s.frames ∧ (s.modMer g).qport = s.qport ∧ (s.modMer g).ports = s.ports ∧ (s.modMer g).pairAB = s.pairAB ∧ (s.modMer g).pairCD = s.pairCD ∧ (s.modMer g).routes = s.routes ∧ (s.modMer g).xact = s.xact ∧ (s.modMer g).nurs = s.nurs ∧ (s.modMer g).cfg = s.cfg ∧ (s.modMer g).feram = s.feram ∧ (s.modMer g).capt = s.capt ∧ (s.modMer g).shadow = s.shadow ∧ (s.modMer g).fresh = s.fresh ∧ (s.modMer g).copies = s.copies ∧ (s.modMer g).heard = s.heard ∧ (s.modMer g).outbox = s.outbox ∧ (s.modMer g).rsp = s.rsp ∧ (s.modMer g).free = s.free ∧ (s.modMer g).later = s.later ∧ (s.modMer g).pending = s.pending := by simp [State.modMer]

@[simp] theorem State.merEvt_frame (s : State) (bits : List Nat) :
    (s.merEvt bits).now = s.now ∧ (s.merEvt bits).ident = s.ident ∧ (s.merEvt bits).pkg = s.pkg ∧ (s.merEvt bits).regs = s.regs ∧ (s.merEvt bits).slots = s.slots ∧ (s.merEvt bits).dies = s.dies ∧ (s.merEvt bits).frames = s.frames ∧ (s.merEvt bits).qport = s.qport ∧ (s.merEvt bits).ports = s.ports ∧ (s.merEvt bits).pairAB = s.pairAB ∧ (s.merEvt bits).pairCD = s.pairCD ∧ (s.merEvt bits).routes = s.routes ∧ (s.merEvt bits).mer = s.mer ∧ (s.merEvt bits).xact = s.xact ∧ (s.merEvt bits).nurs = s.nurs ∧ (s.merEvt bits).cfg = s.cfg ∧ (s.merEvt bits).feram = s.feram ∧ (s.merEvt bits).capt = s.capt ∧ (s.merEvt bits).shadow = s.shadow ∧ (s.merEvt bits).fresh = s.fresh ∧ (s.merEvt bits).copies = s.copies ∧ (s.merEvt bits).heard = s.heard ∧ (s.merEvt bits).outbox = s.outbox ∧ (s.merEvt bits).rsp = s.rsp ∧ (s.merEvt bits).free = s.free ∧ (s.merEvt bits).later = s.later ∧ (s.merEvt bits).pending = s.pending := by simp [State.merEvt]

@[simp] theorem State.portUpdate_frame (s : State) :
    (s.portUpdate).now = s.now ∧ (s.portUpdate).ident = s.ident ∧ (s.portUpdate).pkg = s.pkg ∧ (s.portUpdate).regs = s.regs ∧ (s.portUpdate).pages = s.pages ∧ (s.portUpdate).slots = s.slots ∧ (s.portUpdate).dies = s.dies ∧ (s.portUpdate).frames = s.frames ∧ (s.portUpdate).qport = s.qport ∧ (s.portUpdate).ports = s.ports ∧ (s.portUpdate).pairAB = s.pairAB ∧ (s.portUpdate).pairCD = s.pairCD ∧ (s.portUpdate).routes = s.routes ∧ (s.portUpdate).xact = s.xact ∧ (s.portUpdate).nurs = s.nurs ∧ (s.portUpdate).cfg = s.cfg ∧ (s.portUpdate).feram = s.feram ∧ (s.portUpdate).capt = s.capt ∧ (s.portUpdate).shadow = s.shadow ∧ (s.portUpdate).fresh = s.fresh ∧ (s.portUpdate).copies = s.copies ∧ (s.portUpdate).heard = s.heard ∧ (s.portUpdate).outbox = s.outbox ∧ (s.portUpdate).rsp = s.rsp ∧ (s.portUpdate).free = s.free ∧ (s.portUpdate).later = s.later ∧ (s.portUpdate).pending = s.pending := by simp [State.portUpdate]

@[simp] theorem State.merRecAs_frame (s : State) (code st cause : Nat) (theta : Int) :
    (s.merRecAs code st cause theta).now = s.now ∧ (s.merRecAs code st cause theta).ident = s.ident ∧ (s.merRecAs code st cause theta).pkg = s.pkg ∧ (s.merRecAs code st cause theta).regs = s.regs ∧ (s.merRecAs code st cause theta).slots = s.slots ∧ (s.merRecAs code st cause theta).frames = s.frames ∧ (s.merRecAs code st cause theta).qport = s.qport ∧ (s.merRecAs code st cause theta).ports = s.ports ∧ (s.merRecAs code st cause theta).pairAB = s.pairAB ∧ (s.merRecAs code st cause theta).pairCD = s.pairCD ∧ (s.merRecAs code st cause theta).routes = s.routes ∧ (s.merRecAs code st cause theta).mer = s.mer ∧ (s.merRecAs code st cause theta).xact = s.xact ∧ (s.merRecAs code st cause theta).nurs = s.nurs ∧ (s.merRecAs code st cause theta).cfg = s.cfg ∧ (s.merRecAs code st cause theta).feram = s.feram ∧ (s.merRecAs code st cause theta).capt = s.capt ∧ (s.merRecAs code st cause theta).shadow = s.shadow ∧ (s.merRecAs code st cause theta).fresh = s.fresh ∧ (s.merRecAs code st cause theta).copies = s.copies ∧ (s.merRecAs code st cause theta).heard = s.heard ∧ (s.merRecAs code st cause theta).outbox = s.outbox ∧ (s.merRecAs code st cause theta).rsp = s.rsp ∧ (s.merRecAs code st cause theta).free = s.free ∧ (s.merRecAs code st cause theta).later = s.later ∧ (s.merRecAs code st cause theta).pending = s.pending := by simp [State.merRecAs]

@[simp] theorem State.merRec_frame (s : State) (code : Nat) (theta : Int) :
    (s.merRec code theta).now = s.now ∧ (s.merRec code theta).ident = s.ident ∧ (s.merRec code theta).pkg = s.pkg ∧ (s.merRec code theta).regs = s.regs ∧ (s.merRec code theta).slots = s.slots ∧ (s.merRec code theta).frames = s.frames ∧ (s.merRec code theta).qport = s.qport ∧ (s.merRec code theta).ports = s.ports ∧ (s.merRec code theta).pairAB = s.pairAB ∧ (s.merRec code theta).pairCD = s.pairCD ∧ (s.merRec code theta).routes = s.routes ∧ (s.merRec code theta).mer = s.mer ∧ (s.merRec code theta).xact = s.xact ∧ (s.merRec code theta).nurs = s.nurs ∧ (s.merRec code theta).cfg = s.cfg ∧ (s.merRec code theta).feram = s.feram ∧ (s.merRec code theta).capt = s.capt ∧ (s.merRec code theta).shadow = s.shadow ∧ (s.merRec code theta).fresh = s.fresh ∧ (s.merRec code theta).copies = s.copies ∧ (s.merRec code theta).heard = s.heard ∧ (s.merRec code theta).outbox = s.outbox ∧ (s.merRec code theta).rsp = s.rsp ∧ (s.merRec code theta).free = s.free ∧ (s.merRec code theta).later = s.later ∧ (s.merRec code theta).pending = s.pending := by simp [State.merRec]

@[simp] theorem State.trainFail_frame (s : State) :
    (s.trainFail).now = s.now ∧ (s.trainFail).ident = s.ident ∧ (s.trainFail).pkg = s.pkg ∧ (s.trainFail).regs = s.regs ∧ (s.trainFail).slots = s.slots ∧ (s.trainFail).dies = s.dies ∧ (s.trainFail).frames = s.frames ∧ (s.trainFail).qport = s.qport ∧ (s.trainFail).ports = s.ports ∧ (s.trainFail).pairAB = s.pairAB ∧ (s.trainFail).pairCD = s.pairCD ∧ (s.trainFail).routes = s.routes ∧ (s.trainFail).xact = s.xact ∧ (s.trainFail).nurs = s.nurs ∧ (s.trainFail).cfg = s.cfg ∧ (s.trainFail).feram = s.feram ∧ (s.trainFail).capt = s.capt ∧ (s.trainFail).shadow = s.shadow ∧ (s.trainFail).fresh = s.fresh ∧ (s.trainFail).copies = s.copies ∧ (s.trainFail).heard = s.heard ∧ (s.trainFail).outbox = s.outbox ∧ (s.trainFail).rsp = s.rsp ∧ (s.trainFail).free = s.free ∧ (s.trainFail).later = s.later ∧ (s.trainFail).pending = s.pending := by unfold State.trainFail; (repeat' split) <;> simp

@[simp] theorem State.merEnter_frame (s : State) (st : Nat) (cause : Nat) (theta : Int) :
    (s.merEnter st cause theta).now = s.now ∧ (s.merEnter st cause theta).ident = s.ident ∧ (s.merEnter st cause theta).pkg = s.pkg ∧ (s.merEnter st cause theta).regs = s.regs ∧ (s.merEnter st cause theta).slots = s.slots ∧ (s.merEnter st cause theta).frames = s.frames ∧ (s.merEnter st cause theta).qport = s.qport ∧ (s.merEnter st cause theta).ports = s.ports ∧ (s.merEnter st cause theta).routes = s.routes ∧ (s.merEnter st cause theta).xact = s.xact ∧ (s.merEnter st cause theta).nurs = s.nurs ∧ (s.merEnter st cause theta).cfg = s.cfg ∧ (s.merEnter st cause theta).feram = s.feram ∧ (s.merEnter st cause theta).capt = s.capt ∧ (s.merEnter st cause theta).shadow = s.shadow ∧ (s.merEnter st cause theta).fresh = s.fresh ∧ (s.merEnter st cause theta).copies = s.copies ∧ (s.merEnter st cause theta).heard = s.heard ∧ (s.merEnter st cause theta).outbox = s.outbox ∧ (s.merEnter st cause theta).rsp = s.rsp ∧ (s.merEnter st cause theta).free = s.free ∧ (s.merEnter st cause theta).later = s.later ∧ (s.merEnter st cause theta).pending = s.pending := by simp [State.merEnter]

@[simp] theorem State.freeCheck_frame (s : State) :
    (s.freeCheck).now = s.now ∧ (s.freeCheck).ident = s.ident ∧ (s.freeCheck).pkg = s.pkg ∧ (s.freeCheck).regs = s.regs ∧ (s.freeCheck).slots = s.slots ∧ (s.freeCheck).frames = s.frames ∧ (s.freeCheck).qport = s.qport ∧ (s.freeCheck).ports = s.ports ∧ (s.freeCheck).routes = s.routes ∧ (s.freeCheck).xact = s.xact ∧ (s.freeCheck).nurs = s.nurs ∧ (s.freeCheck).cfg = s.cfg ∧ (s.freeCheck).feram = s.feram ∧ (s.freeCheck).capt = s.capt ∧ (s.freeCheck).shadow = s.shadow ∧ (s.freeCheck).fresh = s.fresh ∧ (s.freeCheck).copies = s.copies ∧ (s.freeCheck).heard = s.heard ∧ (s.freeCheck).outbox = s.outbox ∧ (s.freeCheck).rsp = s.rsp ∧ (s.freeCheck).free = s.free ∧ (s.freeCheck).later = s.later ∧ (s.freeCheck).pending = s.pending := by simp [State.freeCheck]

@[simp] theorem State.modTmr_frame (s : State) (n : Nat) (g : Tmr → Tmr) :
    (s.modTmr n g).now = s.now ∧ (s.modTmr n g).ident = s.ident ∧ (s.modTmr n g).pkg = s.pkg ∧ (s.modTmr n g).regs = s.regs ∧ (s.modTmr n g).pages = s.pages ∧ (s.modTmr n g).slots = s.slots ∧ (s.modTmr n g).dies = s.dies ∧ (s.modTmr n g).frames = s.frames ∧ (s.modTmr n g).qport = s.qport ∧ (s.modTmr n g).ports = s.ports ∧ (s.modTmr n g).pairAB = s.pairAB ∧ (s.modTmr n g).pairCD = s.pairCD ∧ (s.modTmr n g).routes = s.routes ∧ (s.modTmr n g).xact = s.xact ∧ (s.modTmr n g).nurs = s.nurs ∧ (s.modTmr n g).cfg = s.cfg ∧ (s.modTmr n g).feram = s.feram ∧ (s.modTmr n g).capt = s.capt ∧ (s.modTmr n g).shadow = s.shadow ∧ (s.modTmr n g).fresh = s.fresh ∧ (s.modTmr n g).copies = s.copies ∧ (s.modTmr n g).heard = s.heard ∧ (s.modTmr n g).outbox = s.outbox ∧ (s.modTmr n g).rsp = s.rsp ∧ (s.modTmr n g).free = s.free ∧ (s.modTmr n g).later = s.later ∧ (s.modTmr n g).pending = s.pending := by simp [State.modTmr]

@[simp] theorem State.fireTimer_frame (s : State) (n : Nat) (late : Bool) :
    (s.fireTimer n late).now = s.now ∧ (s.fireTimer n late).ident = s.ident ∧ (s.fireTimer n late).pkg = s.pkg ∧ (s.fireTimer n late).slots = s.slots ∧ (s.fireTimer n late).dies = s.dies ∧ (s.fireTimer n late).qport = s.qport ∧ (s.fireTimer n late).ports = s.ports ∧ (s.fireTimer n late).pairAB = s.pairAB ∧ (s.fireTimer n late).pairCD = s.pairCD ∧ (s.fireTimer n late).routes = s.routes ∧ (s.fireTimer n late).xact = s.xact ∧ (s.fireTimer n late).nurs = s.nurs ∧ (s.fireTimer n late).cfg = s.cfg ∧ (s.fireTimer n late).feram = s.feram ∧ (s.fireTimer n late).capt = s.capt ∧ (s.fireTimer n late).shadow = s.shadow ∧ (s.fireTimer n late).fresh = s.fresh ∧ (s.fireTimer n late).copies = s.copies ∧ (s.fireTimer n late).heard = s.heard ∧ (s.fireTimer n late).rsp = s.rsp ∧ (s.fireTimer n late).free = s.free ∧ (s.fireTimer n late).later = s.later ∧ (s.fireTimer n late).pending = s.pending := by simp [State.fireTimer]

@[simp] theorem State.tmrStep_frame (s : State) :
    (s.tmrStep).now = s.now ∧ (s.tmrStep).ident = s.ident ∧ (s.tmrStep).pkg = s.pkg ∧ (s.tmrStep).slots = s.slots ∧ (s.tmrStep).dies = s.dies ∧ (s.tmrStep).qport = s.qport ∧ (s.tmrStep).ports = s.ports ∧ (s.tmrStep).pairAB = s.pairAB ∧ (s.tmrStep).pairCD = s.pairCD ∧ (s.tmrStep).routes = s.routes ∧ (s.tmrStep).xact = s.xact ∧ (s.tmrStep).nurs = s.nurs ∧ (s.tmrStep).cfg = s.cfg ∧ (s.tmrStep).feram = s.feram ∧ (s.tmrStep).capt = s.capt ∧ (s.tmrStep).shadow = s.shadow ∧ (s.tmrStep).fresh = s.fresh ∧ (s.tmrStep).copies = s.copies ∧ (s.tmrStep).heard = s.heard ∧ (s.tmrStep).rsp = s.rsp ∧ (s.tmrStep).free = s.free ∧ (s.tmrStep).later = s.later ∧ (s.tmrStep).pending = s.pending := by simp [State.tmrStep]

@[simp] theorem State.ppsPlace_frame (s : State) :
    (s.ppsPlace).now = s.now ∧ (s.ppsPlace).ident = s.ident ∧ (s.ppsPlace).pkg = s.pkg ∧ (s.ppsPlace).regs = s.regs ∧ (s.ppsPlace).pages = s.pages ∧ (s.ppsPlace).slots = s.slots ∧ (s.ppsPlace).dies = s.dies ∧ (s.ppsPlace).frames = s.frames ∧ (s.ppsPlace).qport = s.qport ∧ (s.ppsPlace).ports = s.ports ∧ (s.ppsPlace).pairAB = s.pairAB ∧ (s.ppsPlace).pairCD = s.pairCD ∧ (s.ppsPlace).routes = s.routes ∧ (s.ppsPlace).xact = s.xact ∧ (s.ppsPlace).nurs = s.nurs ∧ (s.ppsPlace).cfg = s.cfg ∧ (s.ppsPlace).feram = s.feram ∧ (s.ppsPlace).capt = s.capt ∧ (s.ppsPlace).shadow = s.shadow ∧ (s.ppsPlace).fresh = s.fresh ∧ (s.ppsPlace).copies = s.copies ∧ (s.ppsPlace).heard = s.heard ∧ (s.ppsPlace).outbox = s.outbox ∧ (s.ppsPlace).rsp = s.rsp ∧ (s.ppsPlace).free = s.free ∧ (s.ppsPlace).later = s.later ∧ (s.ppsPlace).pending = s.pending := by simp [State.ppsPlace]

@[simp] theorem State.merStep_frame (s : State) (theta : Int) :
    (s.merStep theta).now = s.now ∧ (s.merStep theta).ident = s.ident ∧ (s.merStep theta).pkg = s.pkg ∧ (s.merStep theta).slots = s.slots ∧ (s.merStep theta).qport = s.qport ∧ (s.merStep theta).ports = s.ports ∧ (s.merStep theta).pairAB = s.pairAB ∧ (s.merStep theta).pairCD = s.pairCD ∧ (s.merStep theta).routes = s.routes ∧ (s.merStep theta).xact = s.xact ∧ (s.merStep theta).nurs = s.nurs ∧ (s.merStep theta).cfg = s.cfg ∧ (s.merStep theta).feram = s.feram ∧ (s.merStep theta).capt = s.capt ∧ (s.merStep theta).shadow = s.shadow ∧ (s.merStep theta).fresh = s.fresh ∧ (s.merStep theta).copies = s.copies ∧ (s.merStep theta).heard = s.heard ∧ (s.merStep theta).rsp = s.rsp ∧ (s.merStep theta).free = s.free ∧ (s.merStep theta).later = s.later ∧ (s.merStep theta).pending = s.pending := by simp [State.merStep]

@[simp] theorem State.clampRate_frame (s : State) (v : Int) (set : Int → Mer → Mer) :
    (s.clampRate v set).now = s.now ∧ (s.clampRate v set).ident = s.ident ∧ (s.clampRate v set).pkg = s.pkg ∧ (s.clampRate v set).regs = s.regs ∧ (s.clampRate v set).slots = s.slots ∧ (s.clampRate v set).dies = s.dies ∧ (s.clampRate v set).frames = s.frames ∧ (s.clampRate v set).qport = s.qport ∧ (s.clampRate v set).ports = s.ports ∧ (s.clampRate v set).pairAB = s.pairAB ∧ (s.clampRate v set).pairCD = s.pairCD ∧ (s.clampRate v set).routes = s.routes ∧ (s.clampRate v set).xact = s.xact ∧ (s.clampRate v set).nurs = s.nurs ∧ (s.clampRate v set).cfg = s.cfg ∧ (s.clampRate v set).feram = s.feram ∧ (s.clampRate v set).capt = s.capt ∧ (s.clampRate v set).shadow = s.shadow ∧ (s.clampRate v set).fresh = s.fresh ∧ (s.clampRate v set).copies = s.copies ∧ (s.clampRate v set).heard = s.heard ∧ (s.clampRate v set).outbox = s.outbox ∧ (s.clampRate v set).rsp = s.rsp ∧ (s.clampRate v set).free = s.free ∧ (s.clampRate v set).later = s.later ∧ (s.clampRate v set).pending = s.pending := by simp [State.clampRate]

@[simp] theorem State.servo_frame (s : State) (theta : Int) (pps : Bool) :
    (s.servo theta pps).now = s.now ∧ (s.servo theta pps).ident = s.ident ∧ (s.servo theta pps).pkg = s.pkg ∧ (s.servo theta pps).regs = s.regs ∧ (s.servo theta pps).slots = s.slots ∧ (s.servo theta pps).dies = s.dies ∧ (s.servo theta pps).frames = s.frames ∧ (s.servo theta pps).qport = s.qport ∧ (s.servo theta pps).ports = s.ports ∧ (s.servo theta pps).pairAB = s.pairAB ∧ (s.servo theta pps).pairCD = s.pairCD ∧ (s.servo theta pps).routes = s.routes ∧ (s.servo theta pps).xact = s.xact ∧ (s.servo theta pps).nurs = s.nurs ∧ (s.servo theta pps).cfg = s.cfg ∧ (s.servo theta pps).feram = s.feram ∧ (s.servo theta pps).capt = s.capt ∧ (s.servo theta pps).shadow = s.shadow ∧ (s.servo theta pps).fresh = s.fresh ∧ (s.servo theta pps).copies = s.copies ∧ (s.servo theta pps).heard = s.heard ∧ (s.servo theta pps).outbox = s.outbox ∧ (s.servo theta pps).rsp = s.rsp ∧ (s.servo theta pps).free = s.free ∧ (s.servo theta pps).later = s.later ∧ (s.servo theta pps).pending = s.pending := by simp [State.servo]

@[simp] theorem State.freqFit_frame (s : State) :
    (s.freqFit).now = s.now ∧ (s.freqFit).ident = s.ident ∧ (s.freqFit).pkg = s.pkg ∧ (s.freqFit).regs = s.regs ∧ (s.freqFit).slots = s.slots ∧ (s.freqFit).dies = s.dies ∧ (s.freqFit).frames = s.frames ∧ (s.freqFit).qport = s.qport ∧ (s.freqFit).ports = s.ports ∧ (s.freqFit).pairAB = s.pairAB ∧ (s.freqFit).pairCD = s.pairCD ∧ (s.freqFit).routes = s.routes ∧ (s.freqFit).xact = s.xact ∧ (s.freqFit).nurs = s.nurs ∧ (s.freqFit).cfg = s.cfg ∧ (s.freqFit).feram = s.feram ∧ (s.freqFit).capt = s.capt ∧ (s.freqFit).shadow = s.shadow ∧ (s.freqFit).fresh = s.fresh ∧ (s.freqFit).copies = s.copies ∧ (s.freqFit).heard = s.heard ∧ (s.freqFit).outbox = s.outbox ∧ (s.freqFit).rsp = s.rsp ∧ (s.freqFit).free = s.free ∧ (s.freqFit).later = s.later ∧ (s.freqFit).pending = s.pending := by simp [State.freqFit]

@[simp] theorem State.merRefuse_frame (s : State) (theta : Int) (cause : Nat) :
    (s.merRefuse theta cause).now = s.now ∧ (s.merRefuse theta cause).ident = s.ident ∧ (s.merRefuse theta cause).pkg = s.pkg ∧ (s.merRefuse theta cause).slots = s.slots ∧ (s.merRefuse theta cause).frames = s.frames ∧ (s.merRefuse theta cause).qport = s.qport ∧ (s.merRefuse theta cause).ports = s.ports ∧ (s.merRefuse theta cause).routes = s.routes ∧ (s.merRefuse theta cause).xact = s.xact ∧ (s.merRefuse theta cause).nurs = s.nurs ∧ (s.merRefuse theta cause).cfg = s.cfg ∧ (s.merRefuse theta cause).feram = s.feram ∧ (s.merRefuse theta cause).capt = s.capt ∧ (s.merRefuse theta cause).shadow = s.shadow ∧ (s.merRefuse theta cause).fresh = s.fresh ∧ (s.merRefuse theta cause).copies = s.copies ∧ (s.merRefuse theta cause).heard = s.heard ∧ (s.merRefuse theta cause).outbox = s.outbox ∧ (s.merRefuse theta cause).rsp = s.rsp ∧ (s.merRefuse theta cause).free = s.free ∧ (s.merRefuse theta cause).later = s.later ∧ (s.merRefuse theta cause).pending = s.pending := by simp [State.merRefuse]

@[simp] theorem State.merSample_frame (s : State) (theta : Int) (pps : Bool) (labelled : Bool) :
    (s.merSample theta pps labelled).now = s.now ∧ (s.merSample theta pps labelled).ident = s.ident ∧ (s.merSample theta pps labelled).pkg = s.pkg ∧ (s.merSample theta pps labelled).slots = s.slots ∧ (s.merSample theta pps labelled).qport = s.qport ∧ (s.merSample theta pps labelled).ports = s.ports ∧ (s.merSample theta pps labelled).routes = s.routes ∧ (s.merSample theta pps labelled).xact = s.xact ∧ (s.merSample theta pps labelled).nurs = s.nurs ∧ (s.merSample theta pps labelled).cfg = s.cfg ∧ (s.merSample theta pps labelled).feram = s.feram ∧ (s.merSample theta pps labelled).capt = s.capt ∧ (s.merSample theta pps labelled).shadow = s.shadow ∧ (s.merSample theta pps labelled).fresh = s.fresh ∧ (s.merSample theta pps labelled).copies = s.copies ∧ (s.merSample theta pps labelled).heard = s.heard ∧ (s.merSample theta pps labelled).rsp = s.rsp ∧ (s.merSample theta pps labelled).free = s.free ∧ (s.merSample theta pps labelled).later = s.later ∧ (s.merSample theta pps labelled).pending = s.pending := by simp [State.merSample]

@[simp] theorem State.trainEnd_frame (s : State) (t : Train) :
    (s.trainEnd t).now = s.now ∧ (s.trainEnd t).ident = s.ident ∧ (s.trainEnd t).pkg = s.pkg ∧ (s.trainEnd t).slots = s.slots ∧ (s.trainEnd t).frames = s.frames ∧ (s.trainEnd t).qport = s.qport ∧ (s.trainEnd t).ports = s.ports ∧ (s.trainEnd t).pairAB = s.pairAB ∧ (s.trainEnd t).pairCD = s.pairCD ∧ (s.trainEnd t).routes = s.routes ∧ (s.trainEnd t).xact = s.xact ∧ (s.trainEnd t).nurs = s.nurs ∧ (s.trainEnd t).cfg = s.cfg ∧ (s.trainEnd t).feram = s.feram ∧ (s.trainEnd t).capt = s.capt ∧ (s.trainEnd t).shadow = s.shadow ∧ (s.trainEnd t).fresh = s.fresh ∧ (s.trainEnd t).copies = s.copies ∧ (s.trainEnd t).heard = s.heard ∧ (s.trainEnd t).outbox = s.outbox ∧ (s.trainEnd t).rsp = s.rsp ∧ (s.trainEnd t).free = s.free ∧ (s.trainEnd t).later = s.later ∧ (s.trainEnd t).pending = s.pending := by simp [State.trainEnd]

@[simp] theorem State.trainCheck_frame (s : State) :
    (s.trainCheck).now = s.now ∧ (s.trainCheck).ident = s.ident ∧ (s.trainCheck).pkg = s.pkg ∧ (s.trainCheck).slots = s.slots ∧ (s.trainCheck).frames = s.frames ∧ (s.trainCheck).qport = s.qport ∧ (s.trainCheck).ports = s.ports ∧ (s.trainCheck).pairAB = s.pairAB ∧ (s.trainCheck).pairCD = s.pairCD ∧ (s.trainCheck).routes = s.routes ∧ (s.trainCheck).xact = s.xact ∧ (s.trainCheck).nurs = s.nurs ∧ (s.trainCheck).cfg = s.cfg ∧ (s.trainCheck).feram = s.feram ∧ (s.trainCheck).capt = s.capt ∧ (s.trainCheck).shadow = s.shadow ∧ (s.trainCheck).fresh = s.fresh ∧ (s.trainCheck).copies = s.copies ∧ (s.trainCheck).heard = s.heard ∧ (s.trainCheck).outbox = s.outbox ∧ (s.trainCheck).rsp = s.rsp ∧ (s.trainCheck).free = s.free ∧ (s.trainCheck).later = s.later ∧ (s.trainCheck).pending = s.pending := by unfold State.trainCheck; (repeat' split) <;> simp

@[simp] theorem State.todWrite_frame (s : State) (v : Word) :
    (s.todWrite v).now = s.now ∧ (s.todWrite v).ident = s.ident ∧ (s.todWrite v).pkg = s.pkg ∧ (s.todWrite v).pages = s.pages ∧ (s.todWrite v).slots = s.slots ∧ (s.todWrite v).dies = s.dies ∧ (s.todWrite v).frames = s.frames ∧ (s.todWrite v).qport = s.qport ∧ (s.todWrite v).ports = s.ports ∧ (s.todWrite v).pairAB = s.pairAB ∧ (s.todWrite v).pairCD = s.pairCD ∧ (s.todWrite v).routes = s.routes ∧ (s.todWrite v).xact = s.xact ∧ (s.todWrite v).nurs = s.nurs ∧ (s.todWrite v).cfg = s.cfg ∧ (s.todWrite v).feram = s.feram ∧ (s.todWrite v).capt = s.capt ∧ (s.todWrite v).shadow = s.shadow ∧ (s.todWrite v).fresh = s.fresh ∧ (s.todWrite v).copies = s.copies ∧ (s.todWrite v).heard = s.heard ∧ (s.todWrite v).outbox = s.outbox ∧ (s.todWrite v).rsp = s.rsp ∧ (s.todWrite v).free = s.free ∧ (s.todWrite v).later = s.later ∧ (s.todWrite v).pending = s.pending := by simp [State.todWrite]

@[simp] theorem State.hearNb_frame (s : State) (p : Nat) (steps : Nat) (state : Nat) (quality : Nat) :
    (s.hearNb p steps state quality).now = s.now ∧ (s.hearNb p steps state quality).ident = s.ident ∧ (s.hearNb p steps state quality).pkg = s.pkg ∧ (s.hearNb p steps state quality).regs = s.regs ∧ (s.hearNb p steps state quality).pages = s.pages ∧ (s.hearNb p steps state quality).slots = s.slots ∧ (s.hearNb p steps state quality).dies = s.dies ∧ (s.hearNb p steps state quality).frames = s.frames ∧ (s.hearNb p steps state quality).qport = s.qport ∧ (s.hearNb p steps state quality).pairAB = s.pairAB ∧ (s.hearNb p steps state quality).pairCD = s.pairCD ∧ (s.hearNb p steps state quality).routes = s.routes ∧ (s.hearNb p steps state quality).mer = s.mer ∧ (s.hearNb p steps state quality).xact = s.xact ∧ (s.hearNb p steps state quality).nurs = s.nurs ∧ (s.hearNb p steps state quality).cfg = s.cfg ∧ (s.hearNb p steps state quality).feram = s.feram ∧ (s.hearNb p steps state quality).capt = s.capt ∧ (s.hearNb p steps state quality).shadow = s.shadow ∧ (s.hearNb p steps state quality).fresh = s.fresh ∧ (s.hearNb p steps state quality).copies = s.copies ∧ (s.hearNb p steps state quality).heard = s.heard ∧ (s.hearNb p steps state quality).outbox = s.outbox ∧ (s.hearNb p steps state quality).rsp = s.rsp ∧ (s.hearNb p steps state quality).free = s.free ∧ (s.hearNb p steps state quality).later = s.later ∧ (s.hearNb p steps state quality).pending = s.pending := by simp [State.hearNb]

@[simp] theorem State.armWrite_frame (s : State) (v : Word) :
    (s.armWrite v).now = s.now ∧ (s.armWrite v).ident = s.ident ∧ (s.armWrite v).pkg = s.pkg ∧ (s.armWrite v).regs = s.regs ∧ (s.armWrite v).pages = s.pages ∧ (s.armWrite v).slots = s.slots ∧ (s.armWrite v).dies = s.dies ∧ (s.armWrite v).frames = s.frames ∧ (s.armWrite v).qport = s.qport ∧ (s.armWrite v).ports = s.ports ∧ (s.armWrite v).pairAB = s.pairAB ∧ (s.armWrite v).pairCD = s.pairCD ∧ (s.armWrite v).routes = s.routes ∧ (s.armWrite v).xact = s.xact ∧ (s.armWrite v).nurs = s.nurs ∧ (s.armWrite v).cfg = s.cfg ∧ (s.armWrite v).feram = s.feram ∧ (s.armWrite v).capt = s.capt ∧ (s.armWrite v).shadow = s.shadow ∧ (s.armWrite v).fresh = s.fresh ∧ (s.armWrite v).copies = s.copies ∧ (s.armWrite v).heard = s.heard ∧ (s.armWrite v).outbox = s.outbox ∧ (s.armWrite v).rsp = s.rsp ∧ (s.armWrite v).free = s.free ∧ (s.armWrite v).later = s.later ∧ (s.armWrite v).pending = s.pending := by simp [State.armWrite]

@[simp] theorem State.ringEvt_frame (s : State) (k : Nat) (bits : List Nat) :
    (s.ringEvt k bits).now = s.now ∧ (s.ringEvt k bits).ident = s.ident ∧ (s.ringEvt k bits).pkg = s.pkg ∧ (s.ringEvt k bits).regs = s.regs ∧ (s.ringEvt k bits).slots = s.slots ∧ (s.ringEvt k bits).dies = s.dies ∧ (s.ringEvt k bits).frames = s.frames ∧ (s.ringEvt k bits).qport = s.qport ∧ (s.ringEvt k bits).ports = s.ports ∧ (s.ringEvt k bits).pairAB = s.pairAB ∧ (s.ringEvt k bits).pairCD = s.pairCD ∧ (s.ringEvt k bits).routes = s.routes ∧ (s.ringEvt k bits).mer = s.mer ∧ (s.ringEvt k bits).xact = s.xact ∧ (s.ringEvt k bits).nurs = s.nurs ∧ (s.ringEvt k bits).cfg = s.cfg ∧ (s.ringEvt k bits).feram = s.feram ∧ (s.ringEvt k bits).capt = s.capt ∧ (s.ringEvt k bits).shadow = s.shadow ∧ (s.ringEvt k bits).fresh = s.fresh ∧ (s.ringEvt k bits).copies = s.copies ∧ (s.ringEvt k bits).heard = s.heard ∧ (s.ringEvt k bits).outbox = s.outbox ∧ (s.ringEvt k bits).rsp = s.rsp ∧ (s.ringEvt k bits).free = s.free ∧ (s.ringEvt k bits).later = s.later ∧ (s.ringEvt k bits).pending = s.pending := by simp [State.ringEvt]

@[simp] theorem State.ringRec_frame (s : State) (k : Nat) (code : Nat) (port : Nat) (addr : Nat) (b : Nat) :
    (s.ringRec k code port addr b).now = s.now ∧ (s.ringRec k code port addr b).ident = s.ident ∧ (s.ringRec k code port addr b).pkg = s.pkg ∧ (s.ringRec k code port addr b).regs = s.regs ∧ (s.ringRec k code port addr b).slots = s.slots ∧ (s.ringRec k code port addr b).frames = s.frames ∧ (s.ringRec k code port addr b).qport = s.qport ∧ (s.ringRec k code port addr b).ports = s.ports ∧ (s.ringRec k code port addr b).pairAB = s.pairAB ∧ (s.ringRec k code port addr b).pairCD = s.pairCD ∧ (s.ringRec k code port addr b).routes = s.routes ∧ (s.ringRec k code port addr b).mer = s.mer ∧ (s.ringRec k code port addr b).xact = s.xact ∧ (s.ringRec k code port addr b).nurs = s.nurs ∧ (s.ringRec k code port addr b).cfg = s.cfg ∧ (s.ringRec k code port addr b).feram = s.feram ∧ (s.ringRec k code port addr b).capt = s.capt ∧ (s.ringRec k code port addr b).shadow = s.shadow ∧ (s.ringRec k code port addr b).fresh = s.fresh ∧ (s.ringRec k code port addr b).copies = s.copies ∧ (s.ringRec k code port addr b).heard = s.heard ∧ (s.ringRec k code port addr b).outbox = s.outbox ∧ (s.ringRec k code port addr b).rsp = s.rsp ∧ (s.ringRec k code port addr b).free = s.free ∧ (s.ringRec k code port addr b).later = s.later ∧ (s.ringRec k code port addr b).pending = s.pending := by simp [State.ringRec]

@[simp] theorem State.setRoutes_frame (s : State) (r : Routes) :
    (s.setRoutes r).now = s.now ∧ (s.setRoutes r).ident = s.ident ∧ (s.setRoutes r).pkg = s.pkg ∧ (s.setRoutes r).regs = s.regs ∧ (s.setRoutes r).frames = s.frames ∧ (s.setRoutes r).qport = s.qport ∧ (s.setRoutes r).ports = s.ports ∧ (s.setRoutes r).pairAB = s.pairAB ∧ (s.setRoutes r).pairCD = s.pairCD ∧ (s.setRoutes r).mer = s.mer ∧ (s.setRoutes r).xact = s.xact ∧ (s.setRoutes r).nurs = s.nurs ∧ (s.setRoutes r).cfg = s.cfg ∧ (s.setRoutes r).feram = s.feram ∧ (s.setRoutes r).capt = s.capt ∧ (s.setRoutes r).shadow = s.shadow ∧ (s.setRoutes r).fresh = s.fresh ∧ (s.setRoutes r).copies = s.copies ∧ (s.setRoutes r).heard = s.heard ∧ (s.setRoutes r).outbox = s.outbox ∧ (s.setRoutes r).rsp = s.rsp ∧ (s.setRoutes r).free = s.free ∧ (s.setRoutes r).later = s.later ∧ (s.setRoutes r).pending = s.pending := by simp [State.setRoutes]

@[simp] theorem State.openWicket_frame (s : State) (k : Nat) :
    (s.openWicket k).now = s.now ∧ (s.openWicket k).ident = s.ident ∧ (s.openWicket k).pkg = s.pkg ∧ (s.openWicket k).regs = s.regs ∧ (s.openWicket k).pages = s.pages ∧ (s.openWicket k).slots = s.slots ∧ (s.openWicket k).dies = s.dies ∧ (s.openWicket k).frames = s.frames ∧ (s.openWicket k).qport = s.qport ∧ (s.openWicket k).routes = s.routes ∧ (s.openWicket k).mer = s.mer ∧ (s.openWicket k).xact = s.xact ∧ (s.openWicket k).nurs = s.nurs ∧ (s.openWicket k).cfg = s.cfg ∧ (s.openWicket k).feram = s.feram ∧ (s.openWicket k).capt = s.capt ∧ (s.openWicket k).shadow = s.shadow ∧ (s.openWicket k).fresh = s.fresh ∧ (s.openWicket k).copies = s.copies ∧ (s.openWicket k).heard = s.heard ∧ (s.openWicket k).outbox = s.outbox ∧ (s.openWicket k).rsp = s.rsp ∧ (s.openWicket k).free = s.free ∧ (s.openWicket k).later = s.later ∧ (s.openWicket k).pending = s.pending := by simp [State.openWicket]

@[simp] theorem State.closeWicket_frame (s : State) (k : Nat) :
    (s.closeWicket k).now = s.now ∧ (s.closeWicket k).ident = s.ident ∧ (s.closeWicket k).pkg = s.pkg ∧ (s.closeWicket k).regs = s.regs ∧ (s.closeWicket k).pages = s.pages ∧ (s.closeWicket k).slots = s.slots ∧ (s.closeWicket k).dies = s.dies ∧ (s.closeWicket k).frames = s.frames ∧ (s.closeWicket k).qport = s.qport ∧ (s.closeWicket k).routes = s.routes ∧ (s.closeWicket k).xact = s.xact ∧ (s.closeWicket k).nurs = s.nurs ∧ (s.closeWicket k).cfg = s.cfg ∧ (s.closeWicket k).feram = s.feram ∧ (s.closeWicket k).capt = s.capt ∧ (s.closeWicket k).shadow = s.shadow ∧ (s.closeWicket k).fresh = s.fresh ∧ (s.closeWicket k).copies = s.copies ∧ (s.closeWicket k).heard = s.heard ∧ (s.closeWicket k).outbox = s.outbox ∧ (s.closeWicket k).rsp = s.rsp ∧ (s.closeWicket k).free = s.free ∧ (s.closeWicket k).later = s.later ∧ (s.closeWicket k).pending = s.pending := by simp [State.closeWicket]

@[simp] theorem State.dropPair_frame (s : State) (k : Nat) :
    (s.dropPair k).now = s.now ∧ (s.dropPair k).ident = s.ident ∧ (s.dropPair k).pkg = s.pkg ∧ (s.dropPair k).regs = s.regs ∧ (s.dropPair k).frames = s.frames ∧ (s.dropPair k).qport = s.qport ∧ (s.dropPair k).routes = s.routes ∧ (s.dropPair k).xact = s.xact ∧ (s.dropPair k).nurs = s.nurs ∧ (s.dropPair k).cfg = s.cfg ∧ (s.dropPair k).feram = s.feram ∧ (s.dropPair k).capt = s.capt ∧ (s.dropPair k).shadow = s.shadow ∧ (s.dropPair k).fresh = s.fresh ∧ (s.dropPair k).copies = s.copies ∧ (s.dropPair k).heard = s.heard ∧ (s.dropPair k).outbox = s.outbox ∧ (s.dropPair k).rsp = s.rsp ∧ (s.dropPair k).free = s.free ∧ (s.dropPair k).later = s.later ∧ (s.dropPair k).pending = s.pending := by simp [State.dropPair]

@[simp] theorem State.sendCount_frame (s : State) (k : Nat) (p : Nat) :
    (s.sendCount k p).now = s.now ∧ (s.sendCount k p).ident = s.ident ∧ (s.sendCount k p).pkg = s.pkg ∧ (s.sendCount k p).regs = s.regs ∧ (s.sendCount k p).pages = s.pages ∧ (s.sendCount k p).slots = s.slots ∧ (s.sendCount k p).dies = s.dies ∧ (s.sendCount k p).frames = s.frames ∧ (s.sendCount k p).qport = s.qport ∧ (s.sendCount k p).pairAB = s.pairAB ∧ (s.sendCount k p).pairCD = s.pairCD ∧ (s.sendCount k p).routes = s.routes ∧ (s.sendCount k p).mer = s.mer ∧ (s.sendCount k p).xact = s.xact ∧ (s.sendCount k p).nurs = s.nurs ∧ (s.sendCount k p).cfg = s.cfg ∧ (s.sendCount k p).feram = s.feram ∧ (s.sendCount k p).capt = s.capt ∧ (s.sendCount k p).shadow = s.shadow ∧ (s.sendCount k p).fresh = s.fresh ∧ (s.sendCount k p).copies = s.copies ∧ (s.sendCount k p).heard = s.heard ∧ (s.sendCount k p).rsp = s.rsp ∧ (s.sendCount k p).free = s.free ∧ (s.sendCount k p).later = s.later ∧ (s.sendCount k p).pending = s.pending := by simp [State.sendCount]

@[simp] theorem State.sendJoinReq_frame (s : State) (k : Nat) (uid : Nat) (pos : Nat) (req : Option Nat) (pin : Bool) :
    (s.sendJoinReq k uid pos req pin).now = s.now ∧ (s.sendJoinReq k uid pos req pin).ident = s.ident ∧ (s.sendJoinReq k uid pos req pin).pkg = s.pkg ∧ (s.sendJoinReq k uid pos req pin).regs = s.regs ∧ (s.sendJoinReq k uid pos req pin).pages = s.pages ∧ (s.sendJoinReq k uid pos req pin).slots = s.slots ∧ (s.sendJoinReq k uid pos req pin).dies = s.dies ∧ (s.sendJoinReq k uid pos req pin).frames = s.frames ∧ (s.sendJoinReq k uid pos req pin).qport = s.qport ∧ (s.sendJoinReq k uid pos req pin).pairAB = s.pairAB ∧ (s.sendJoinReq k uid pos req pin).pairCD = s.pairCD ∧ (s.sendJoinReq k uid pos req pin).routes = s.routes ∧ (s.sendJoinReq k uid pos req pin).mer = s.mer ∧ (s.sendJoinReq k uid pos req pin).xact = s.xact ∧ (s.sendJoinReq k uid pos req pin).nurs = s.nurs ∧ (s.sendJoinReq k uid pos req pin).cfg = s.cfg ∧ (s.sendJoinReq k uid pos req pin).feram = s.feram ∧ (s.sendJoinReq k uid pos req pin).capt = s.capt ∧ (s.sendJoinReq k uid pos req pin).shadow = s.shadow ∧ (s.sendJoinReq k uid pos req pin).fresh = s.fresh ∧ (s.sendJoinReq k uid pos req pin).copies = s.copies ∧ (s.sendJoinReq k uid pos req pin).heard = s.heard ∧ (s.sendJoinReq k uid pos req pin).rsp = s.rsp ∧ (s.sendJoinReq k uid pos req pin).free = s.free ∧ (s.sendJoinReq k uid pos req pin).later = s.later ∧ (s.sendJoinReq k uid pos req pin).pending = s.pending := by simp [State.sendJoinReq]

@[simp] theorem State.modXact_frame (s : State) (g : Xact → Xact) :
    (s.modXact g).now = s.now ∧ (s.modXact g).ident = s.ident ∧ (s.modXact g).pkg = s.pkg ∧ (s.modXact g).regs = s.regs ∧ (s.modXact g).pages = s.pages ∧ (s.modXact g).slots = s.slots ∧ (s.modXact g).dies = s.dies ∧ (s.modXact g).frames = s.frames ∧ (s.modXact g).qport = s.qport ∧ (s.modXact g).ports = s.ports ∧ (s.modXact g).pairAB = s.pairAB ∧ (s.modXact g).pairCD = s.pairCD ∧ (s.modXact g).routes = s.routes ∧ (s.modXact g).mer = s.mer ∧ (s.modXact g).nurs = s.nurs ∧ (s.modXact g).cfg = s.cfg ∧ (s.modXact g).feram = s.feram ∧ (s.modXact g).capt = s.capt ∧ (s.modXact g).shadow = s.shadow ∧ (s.modXact g).fresh = s.fresh ∧ (s.modXact g).copies = s.copies ∧ (s.modXact g).heard = s.heard ∧ (s.modXact g).outbox = s.outbox ∧ (s.modXact g).rsp = s.rsp ∧ (s.modXact g).free = s.free ∧ (s.modXact g).later = s.later ∧ (s.modXact g).pending = s.pending := by simp [State.modXact]

@[simp] theorem State.modTag_frame (s : State) (t : Nat) (g : Tag → Tag) :
    (s.modTag t g).now = s.now ∧ (s.modTag t g).ident = s.ident ∧ (s.modTag t g).pkg = s.pkg ∧ (s.modTag t g).regs = s.regs ∧ (s.modTag t g).pages = s.pages ∧ (s.modTag t g).slots = s.slots ∧ (s.modTag t g).dies = s.dies ∧ (s.modTag t g).frames = s.frames ∧ (s.modTag t g).qport = s.qport ∧ (s.modTag t g).ports = s.ports ∧ (s.modTag t g).pairAB = s.pairAB ∧ (s.modTag t g).pairCD = s.pairCD ∧ (s.modTag t g).routes = s.routes ∧ (s.modTag t g).mer = s.mer ∧ (s.modTag t g).nurs = s.nurs ∧ (s.modTag t g).cfg = s.cfg ∧ (s.modTag t g).feram = s.feram ∧ (s.modTag t g).capt = s.capt ∧ (s.modTag t g).shadow = s.shadow ∧ (s.modTag t g).fresh = s.fresh ∧ (s.modTag t g).copies = s.copies ∧ (s.modTag t g).heard = s.heard ∧ (s.modTag t g).outbox = s.outbox ∧ (s.modTag t g).rsp = s.rsp ∧ (s.modTag t g).free = s.free ∧ (s.modTag t g).later = s.later ∧ (s.modTag t g).pending = s.pending := by simp [State.modTag]

@[simp] theorem State.xactEvt_frame (s : State) (b : Nat) :
    (s.xactEvt b).now = s.now ∧ (s.xactEvt b).ident = s.ident ∧ (s.xactEvt b).pkg = s.pkg ∧ (s.xactEvt b).regs = s.regs ∧ (s.xactEvt b).slots = s.slots ∧ (s.xactEvt b).dies = s.dies ∧ (s.xactEvt b).frames = s.frames ∧ (s.xactEvt b).qport = s.qport ∧ (s.xactEvt b).ports = s.ports ∧ (s.xactEvt b).pairAB = s.pairAB ∧ (s.xactEvt b).pairCD = s.pairCD ∧ (s.xactEvt b).routes = s.routes ∧ (s.xactEvt b).mer = s.mer ∧ (s.xactEvt b).xact = s.xact ∧ (s.xactEvt b).nurs = s.nurs ∧ (s.xactEvt b).cfg = s.cfg ∧ (s.xactEvt b).feram = s.feram ∧ (s.xactEvt b).capt = s.capt ∧ (s.xactEvt b).shadow = s.shadow ∧ (s.xactEvt b).fresh = s.fresh ∧ (s.xactEvt b).copies = s.copies ∧ (s.xactEvt b).heard = s.heard ∧ (s.xactEvt b).outbox = s.outbox ∧ (s.xactEvt b).rsp = s.rsp ∧ (s.xactEvt b).free = s.free ∧ (s.xactEvt b).later = s.later ∧ (s.xactEvt b).pending = s.pending := by simp [State.xactEvt]

@[simp] theorem State.complete_frame (s : State) (t : Nat) (status : Nat) (data : List Word) :
    (s.complete t status data).now = s.now ∧ (s.complete t status data).ident = s.ident ∧ (s.complete t status data).pkg = s.pkg ∧ (s.complete t status data).regs = s.regs ∧ (s.complete t status data).slots = s.slots ∧ (s.complete t status data).dies = s.dies ∧ (s.complete t status data).frames = s.frames ∧ (s.complete t status data).qport = s.qport ∧ (s.complete t status data).ports = s.ports ∧ (s.complete t status data).pairAB = s.pairAB ∧ (s.complete t status data).pairCD = s.pairCD ∧ (s.complete t status data).routes = s.routes ∧ (s.complete t status data).mer = s.mer ∧ (s.complete t status data).nurs = s.nurs ∧ (s.complete t status data).cfg = s.cfg ∧ (s.complete t status data).feram = s.feram ∧ (s.complete t status data).capt = s.capt ∧ (s.complete t status data).shadow = s.shadow ∧ (s.complete t status data).fresh = s.fresh ∧ (s.complete t status data).copies = s.copies ∧ (s.complete t status data).heard = s.heard ∧ (s.complete t status data).outbox = s.outbox ∧ (s.complete t status data).rsp = s.rsp ∧ (s.complete t status data).free = s.free ∧ (s.complete t status data).later = s.later ∧ (s.complete t status data).pending = s.pending := by simp [State.complete]

@[simp] theorem State.joinStart_frame (s : State) (k : Nat) :
    (s.joinStart k).now = s.now ∧ (s.joinStart k).ident = s.ident ∧ (s.joinStart k).pkg = s.pkg ∧ (s.joinStart k).regs = s.regs ∧ (s.joinStart k).slots = s.slots ∧ (s.joinStart k).frames = s.frames ∧ (s.joinStart k).qport = s.qport ∧ (s.joinStart k).routes = s.routes ∧ (s.joinStart k).mer = s.mer ∧ (s.joinStart k).xact = s.xact ∧ (s.joinStart k).nurs = s.nurs ∧ (s.joinStart k).cfg = s.cfg ∧ (s.joinStart k).feram = s.feram ∧ (s.joinStart k).capt = s.capt ∧ (s.joinStart k).shadow = s.shadow ∧ (s.joinStart k).fresh = s.fresh ∧ (s.joinStart k).copies = s.copies ∧ (s.joinStart k).heard = s.heard ∧ (s.joinStart k).rsp = s.rsp ∧ (s.joinStart k).free = s.free ∧ (s.joinStart k).later = s.later ∧ (s.joinStart k).pending = s.pending := by simp [State.joinStart]

@[simp] theorem State.dieReset_frame (s : State) (d : Nat) :
    (s.dieReset d).now = s.now ∧ (s.dieReset d).ident = s.ident ∧ (s.dieReset d).pkg = s.pkg ∧ (s.dieReset d).regs = s.regs ∧ (s.dieReset d).pages = s.pages ∧ (s.dieReset d).slots = s.slots ∧ (s.dieReset d).frames = s.frames ∧ (s.dieReset d).qport = s.qport ∧ (s.dieReset d).ports = s.ports ∧ (s.dieReset d).pairAB = s.pairAB ∧ (s.dieReset d).pairCD = s.pairCD ∧ (s.dieReset d).routes = s.routes ∧ (s.dieReset d).mer = s.mer ∧ (s.dieReset d).xact = s.xact ∧ (s.dieReset d).nurs = s.nurs ∧ (s.dieReset d).cfg = s.cfg ∧ (s.dieReset d).feram = s.feram ∧ (s.dieReset d).capt = s.capt ∧ (s.dieReset d).shadow = s.shadow ∧ (s.dieReset d).fresh = s.fresh ∧ (s.dieReset d).heard = s.heard ∧ (s.dieReset d).outbox = s.outbox ∧ (s.dieReset d).rsp = s.rsp ∧ (s.dieReset d).free = s.free ∧ (s.dieReset d).later = s.later ∧ (s.dieReset d).pending = s.pending := by simp [State.dieReset]

@[simp] theorem State.nursReject_frame (s : State) :
    (s.nursReject).now = s.now ∧ (s.nursReject).ident = s.ident ∧ (s.nursReject).pkg = s.pkg ∧ (s.nursReject).regs = s.regs ∧ (s.nursReject).slots = s.slots ∧ (s.nursReject).dies = s.dies ∧ (s.nursReject).frames = s.frames ∧ (s.nursReject).qport = s.qport ∧ (s.nursReject).ports = s.ports ∧ (s.nursReject).pairAB = s.pairAB ∧ (s.nursReject).pairCD = s.pairCD ∧ (s.nursReject).routes = s.routes ∧ (s.nursReject).mer = s.mer ∧ (s.nursReject).xact = s.xact ∧ (s.nursReject).nurs = s.nurs ∧ (s.nursReject).cfg = s.cfg ∧ (s.nursReject).feram = s.feram ∧ (s.nursReject).capt = s.capt ∧ (s.nursReject).shadow = s.shadow ∧ (s.nursReject).fresh = s.fresh ∧ (s.nursReject).copies = s.copies ∧ (s.nursReject).heard = s.heard ∧ (s.nursReject).outbox = s.outbox ∧ (s.nursReject).rsp = s.rsp ∧ (s.nursReject).free = s.free ∧ (s.nursReject).later = s.later ∧ (s.nursReject).pending = s.pending := by simp [State.nursReject]

@[simp] theorem State.modCfg_frame (s : State) (g : Cfg → Cfg) :
    (s.modCfg g).now = s.now ∧ (s.modCfg g).ident = s.ident ∧ (s.modCfg g).pkg = s.pkg ∧ (s.modCfg g).regs = s.regs ∧ (s.modCfg g).pages = s.pages ∧ (s.modCfg g).slots = s.slots ∧ (s.modCfg g).dies = s.dies ∧ (s.modCfg g).frames = s.frames ∧ (s.modCfg g).qport = s.qport ∧ (s.modCfg g).ports = s.ports ∧ (s.modCfg g).pairAB = s.pairAB ∧ (s.modCfg g).pairCD = s.pairCD ∧ (s.modCfg g).routes = s.routes ∧ (s.modCfg g).mer = s.mer ∧ (s.modCfg g).xact = s.xact ∧ (s.modCfg g).nurs = s.nurs ∧ (s.modCfg g).feram = s.feram ∧ (s.modCfg g).capt = s.capt ∧ (s.modCfg g).shadow = s.shadow ∧ (s.modCfg g).fresh = s.fresh ∧ (s.modCfg g).copies = s.copies ∧ (s.modCfg g).heard = s.heard ∧ (s.modCfg g).outbox = s.outbox ∧ (s.modCfg g).rsp = s.rsp ∧ (s.modCfg g).free = s.free ∧ (s.modCfg g).later = s.later ∧ (s.modCfg g).pending = s.pending := by simp [State.modCfg]

@[simp] theorem State.cfgReject_frame (s : State) :
    (s.cfgReject).now = s.now ∧ (s.cfgReject).ident = s.ident ∧ (s.cfgReject).pkg = s.pkg ∧ (s.cfgReject).regs = s.regs ∧ (s.cfgReject).slots = s.slots ∧ (s.cfgReject).dies = s.dies ∧ (s.cfgReject).frames = s.frames ∧ (s.cfgReject).qport = s.qport ∧ (s.cfgReject).ports = s.ports ∧ (s.cfgReject).pairAB = s.pairAB ∧ (s.cfgReject).pairCD = s.pairCD ∧ (s.cfgReject).routes = s.routes ∧ (s.cfgReject).mer = s.mer ∧ (s.cfgReject).xact = s.xact ∧ (s.cfgReject).nurs = s.nurs ∧ (s.cfgReject).cfg = s.cfg ∧ (s.cfgReject).feram = s.feram ∧ (s.cfgReject).capt = s.capt ∧ (s.cfgReject).shadow = s.shadow ∧ (s.cfgReject).fresh = s.fresh ∧ (s.cfgReject).copies = s.copies ∧ (s.cfgReject).heard = s.heard ∧ (s.cfgReject).outbox = s.outbox ∧ (s.cfgReject).rsp = s.rsp ∧ (s.cfgReject).free = s.free ∧ (s.cfgReject).later = s.later ∧ (s.cfgReject).pending = s.pending := by simp [State.cfgReject]

@[simp] theorem State.saveEnd_frame (s : State) (op : Nat) (status : Nat) (records : Nat) :
    (s.saveEnd op status records).now = s.now ∧ (s.saveEnd op status records).ident = s.ident ∧ (s.saveEnd op status records).pkg = s.pkg ∧ (s.saveEnd op status records).regs = s.regs ∧ (s.saveEnd op status records).slots = s.slots ∧ (s.saveEnd op status records).frames = s.frames ∧ (s.saveEnd op status records).qport = s.qport ∧ (s.saveEnd op status records).ports = s.ports ∧ (s.saveEnd op status records).pairAB = s.pairAB ∧ (s.saveEnd op status records).pairCD = s.pairCD ∧ (s.saveEnd op status records).routes = s.routes ∧ (s.saveEnd op status records).mer = s.mer ∧ (s.saveEnd op status records).xact = s.xact ∧ (s.saveEnd op status records).nurs = s.nurs ∧ (s.saveEnd op status records).feram = s.feram ∧ (s.saveEnd op status records).capt = s.capt ∧ (s.saveEnd op status records).shadow = s.shadow ∧ (s.saveEnd op status records).fresh = s.fresh ∧ (s.saveEnd op status records).copies = s.copies ∧ (s.saveEnd op status records).heard = s.heard ∧ (s.saveEnd op status records).outbox = s.outbox ∧ (s.saveEnd op status records).rsp = s.rsp ∧ (s.saveEnd op status records).free = s.free ∧ (s.saveEnd op status records).later = s.later ∧ (s.saveEnd op status records).pending = s.pending := by simp [State.saveEnd]

@[simp] theorem State.modPkg_frame (s : State) (g : Pkg → Pkg) :
    (s.modPkg g).now = s.now ∧ (s.modPkg g).ident = s.ident ∧ (s.modPkg g).regs = s.regs ∧ (s.modPkg g).pages = s.pages ∧ (s.modPkg g).slots = s.slots ∧ (s.modPkg g).dies = s.dies ∧ (s.modPkg g).frames = s.frames ∧ (s.modPkg g).qport = s.qport ∧ (s.modPkg g).ports = s.ports ∧ (s.modPkg g).pairAB = s.pairAB ∧ (s.modPkg g).pairCD = s.pairCD ∧ (s.modPkg g).routes = s.routes ∧ (s.modPkg g).mer = s.mer ∧ (s.modPkg g).xact = s.xact ∧ (s.modPkg g).nurs = s.nurs ∧ (s.modPkg g).cfg = s.cfg ∧ (s.modPkg g).feram = s.feram ∧ (s.modPkg g).capt = s.capt ∧ (s.modPkg g).shadow = s.shadow ∧ (s.modPkg g).fresh = s.fresh ∧ (s.modPkg g).copies = s.copies ∧ (s.modPkg g).heard = s.heard ∧ (s.modPkg g).outbox = s.outbox ∧ (s.modPkg g).rsp = s.rsp ∧ (s.modPkg g).free = s.free ∧ (s.modPkg g).later = s.later ∧ (s.modPkg g).pending = s.pending := by simp [State.modPkg]

@[simp] theorem State.clkEvt_frame (s : State) (b : Nat) :
    (s.clkEvt b).now = s.now ∧ (s.clkEvt b).ident = s.ident ∧ (s.clkEvt b).pkg = s.pkg ∧ (s.clkEvt b).regs = s.regs ∧ (s.clkEvt b).slots = s.slots ∧ (s.clkEvt b).dies = s.dies ∧ (s.clkEvt b).frames = s.frames ∧ (s.clkEvt b).qport = s.qport ∧ (s.clkEvt b).ports = s.ports ∧ (s.clkEvt b).pairAB = s.pairAB ∧ (s.clkEvt b).pairCD = s.pairCD ∧ (s.clkEvt b).routes = s.routes ∧ (s.clkEvt b).mer = s.mer ∧ (s.clkEvt b).xact = s.xact ∧ (s.clkEvt b).nurs = s.nurs ∧ (s.clkEvt b).cfg = s.cfg ∧ (s.clkEvt b).feram = s.feram ∧ (s.clkEvt b).capt = s.capt ∧ (s.clkEvt b).shadow = s.shadow ∧ (s.clkEvt b).fresh = s.fresh ∧ (s.clkEvt b).copies = s.copies ∧ (s.clkEvt b).heard = s.heard ∧ (s.clkEvt b).outbox = s.outbox ∧ (s.clkEvt b).rsp = s.rsp ∧ (s.clkEvt b).free = s.free ∧ (s.clkEvt b).later = s.later ∧ (s.clkEvt b).pending = s.pending := by simp [State.clkEvt]

@[simp] theorem State.hostEvt_frame (s : State) (b : Nat) :
    (s.hostEvt b).now = s.now ∧ (s.hostEvt b).ident = s.ident ∧ (s.hostEvt b).pkg = s.pkg ∧ (s.hostEvt b).regs = s.regs ∧ (s.hostEvt b).slots = s.slots ∧ (s.hostEvt b).dies = s.dies ∧ (s.hostEvt b).frames = s.frames ∧ (s.hostEvt b).qport = s.qport ∧ (s.hostEvt b).ports = s.ports ∧ (s.hostEvt b).pairAB = s.pairAB ∧ (s.hostEvt b).pairCD = s.pairCD ∧ (s.hostEvt b).routes = s.routes ∧ (s.hostEvt b).mer = s.mer ∧ (s.hostEvt b).xact = s.xact ∧ (s.hostEvt b).nurs = s.nurs ∧ (s.hostEvt b).cfg = s.cfg ∧ (s.hostEvt b).feram = s.feram ∧ (s.hostEvt b).capt = s.capt ∧ (s.hostEvt b).shadow = s.shadow ∧ (s.hostEvt b).fresh = s.fresh ∧ (s.hostEvt b).copies = s.copies ∧ (s.hostEvt b).heard = s.heard ∧ (s.hostEvt b).outbox = s.outbox ∧ (s.hostEvt b).rsp = s.rsp ∧ (s.hostEvt b).free = s.free ∧ (s.hostEvt b).later = s.later ∧ (s.hostEvt b).pending = s.pending := by simp [State.hostEvt]

@[simp] theorem State.countRefused_frame (s : State) (addr : Option Nat) :
    (s.countRefused addr).now = s.now ∧ (s.countRefused addr).ident = s.ident ∧ (s.countRefused addr).pkg = s.pkg ∧ (s.countRefused addr).regs = s.regs ∧ (s.countRefused addr).pages = s.pages ∧ (s.countRefused addr).slots = s.slots ∧ (s.countRefused addr).dies = s.dies ∧ (s.countRefused addr).frames = s.frames ∧ (s.countRefused addr).qport = s.qport ∧ (s.countRefused addr).ports = s.ports ∧ (s.countRefused addr).pairAB = s.pairAB ∧ (s.countRefused addr).pairCD = s.pairCD ∧ (s.countRefused addr).routes = s.routes ∧ (s.countRefused addr).mer = s.mer ∧ (s.countRefused addr).xact = s.xact ∧ (s.countRefused addr).nurs = s.nurs ∧ (s.countRefused addr).feram = s.feram ∧ (s.countRefused addr).capt = s.capt ∧ (s.countRefused addr).shadow = s.shadow ∧ (s.countRefused addr).fresh = s.fresh ∧ (s.countRefused addr).copies = s.copies ∧ (s.countRefused addr).heard = s.heard ∧ (s.countRefused addr).outbox = s.outbox ∧ (s.countRefused addr).rsp = s.rsp ∧ (s.countRefused addr).free = s.free ∧ (s.countRefused addr).later = s.later ∧ (s.countRefused addr).pending = s.pending := by simp [State.countRefused]

@[simp] theorem State.gratFirst_frame (s : State) (d : Nat) (t : Option (List Nat)) :
    (s.gratFirst d t).now = s.now ∧ (s.gratFirst d t).ident = s.ident ∧ (s.gratFirst d t).slots = s.slots ∧ (s.gratFirst d t).frames = s.frames ∧ (s.gratFirst d t).qport = s.qport ∧ (s.gratFirst d t).ports = s.ports ∧ (s.gratFirst d t).pairAB = s.pairAB ∧ (s.gratFirst d t).pairCD = s.pairCD ∧ (s.gratFirst d t).routes = s.routes ∧ (s.gratFirst d t).mer = s.mer ∧ (s.gratFirst d t).xact = s.xact ∧ (s.gratFirst d t).nurs = s.nurs ∧ (s.gratFirst d t).cfg = s.cfg ∧ (s.gratFirst d t).feram = s.feram ∧ (s.gratFirst d t).capt = s.capt ∧ (s.gratFirst d t).shadow = s.shadow ∧ (s.gratFirst d t).fresh = s.fresh ∧ (s.gratFirst d t).copies = s.copies ∧ (s.gratFirst d t).heard = s.heard ∧ (s.gratFirst d t).outbox = s.outbox ∧ (s.gratFirst d t).rsp = s.rsp ∧ (s.gratFirst d t).free = s.free ∧ (s.gratFirst d t).later = s.later ∧ (s.gratFirst d t).pending = s.pending := by unfold State.gratFirst; (repeat' split) <;> simp

@[simp] theorem State.survStart_frame (s : State) (d : Nat) :
    (s.survStart d).now = s.now ∧ (s.survStart d).ident = s.ident ∧ (s.survStart d).pkg = s.pkg ∧ (s.survStart d).regs = s.regs ∧ (s.survStart d).pages = s.pages ∧ (s.survStart d).slots = s.slots ∧ (s.survStart d).frames = s.frames ∧ (s.survStart d).qport = s.qport ∧ (s.survStart d).ports = s.ports ∧ (s.survStart d).pairAB = s.pairAB ∧ (s.survStart d).pairCD = s.pairCD ∧ (s.survStart d).routes = s.routes ∧ (s.survStart d).mer = s.mer ∧ (s.survStart d).xact = s.xact ∧ (s.survStart d).nurs = s.nurs ∧ (s.survStart d).cfg = s.cfg ∧ (s.survStart d).feram = s.feram ∧ (s.survStart d).capt = s.capt ∧ (s.survStart d).shadow = s.shadow ∧ (s.survStart d).fresh = s.fresh ∧ (s.survStart d).copies = s.copies ∧ (s.survStart d).heard = s.heard ∧ (s.survStart d).outbox = s.outbox ∧ (s.survStart d).rsp = s.rsp ∧ (s.survStart d).free = s.free ∧ (s.survStart d).later = s.later ∧ (s.survStart d).pending = s.pending := by simp [State.survStart]

@[simp] theorem State.autoJoin_frame (s : State) (ks : List Nat) :
    (s.autoJoin ks).now = s.now ∧ (s.autoJoin ks).ident = s.ident ∧ (s.autoJoin ks).pkg = s.pkg ∧ (s.autoJoin ks).regs = s.regs ∧ (s.autoJoin ks).slots = s.slots ∧ (s.autoJoin ks).frames = s.frames ∧ (s.autoJoin ks).qport = s.qport ∧ (s.autoJoin ks).routes = s.routes ∧ (s.autoJoin ks).mer = s.mer ∧ (s.autoJoin ks).xact = s.xact ∧ (s.autoJoin ks).nurs = s.nurs ∧ (s.autoJoin ks).cfg = s.cfg ∧ (s.autoJoin ks).feram = s.feram ∧ (s.autoJoin ks).capt = s.capt ∧ (s.autoJoin ks).shadow = s.shadow ∧ (s.autoJoin ks).fresh = s.fresh ∧ (s.autoJoin ks).copies = s.copies ∧ (s.autoJoin ks).heard = s.heard ∧ (s.autoJoin ks).rsp = s.rsp ∧ (s.autoJoin ks).free = s.free ∧ (s.autoJoin ks).later = s.later ∧ (s.autoJoin ks).pending = s.pending := by simp [State.autoJoin]

@[simp] theorem State.scanPending_frame (s : State) (d : Nat) :
    (s.scanPending d).now = s.now ∧ (s.scanPending d).ident = s.ident ∧ (s.scanPending d).pkg = s.pkg ∧ (s.scanPending d).regs = s.regs ∧ (s.scanPending d).pages = s.pages ∧ (s.scanPending d).slots = s.slots ∧ (s.scanPending d).frames = s.frames ∧ (s.scanPending d).qport = s.qport ∧ (s.scanPending d).ports = s.ports ∧ (s.scanPending d).pairAB = s.pairAB ∧ (s.scanPending d).pairCD = s.pairCD ∧ (s.scanPending d).routes = s.routes ∧ (s.scanPending d).mer = s.mer ∧ (s.scanPending d).xact = s.xact ∧ (s.scanPending d).nurs = s.nurs ∧ (s.scanPending d).cfg = s.cfg ∧ (s.scanPending d).feram = s.feram ∧ (s.scanPending d).capt = s.capt ∧ (s.scanPending d).shadow = s.shadow ∧ (s.scanPending d).fresh = s.fresh ∧ (s.scanPending d).copies = s.copies ∧ (s.scanPending d).heard = s.heard ∧ (s.scanPending d).outbox = s.outbox ∧ (s.scanPending d).rsp = s.rsp ∧ (s.scanPending d).free = s.free ∧ (s.scanPending d).later = s.later ∧ (s.scanPending d).pending = s.pending := by simp [State.scanPending]

end Sys2Proof.Machine
end

