-- ==== Sys2Proof/Laws/Others.lean ====
section
/-! SUPPORT. What an operation on slot n leaves of the other slots: the slot map of State reads as before at every other number. -/
namespace Sys2Proof.Machine

@[simp] theorem mget_ite {α : Type} (d : α) (c : Prop) [Decidable c] (a b : List (Nat × α)) (m : Nat) :
    mget d (if c then a else b) m = if c then mget d a m else mget d b m := by split <;> rfl
@[simp] theorem State.each_other {α : Type} (s : State) (l : List α) (g : α → State → State) (m : Nat)
    (h : ∀ x s, mget {} (g x s).slots m = mget {} s.slots m) : mget {} (s.each l g).slots m = mget {} s.slots m := by
  induction l generalizing s with
  | nil => rfl
  | cons x l ih => exact (ih (g x s)).trans (h x s)

theorem State.wearWarn_other (s : State) (n : Nat) (which : Nat) (cnt : Nat) {m : Nat} (h : m ≠ n) :
    mget {} (s.wearWarn n which cnt).slots m = mget {} s.slots m := by simp [State.wearWarn, State.modSlot, mget_mset_ne, h]

theorem State.wearAdd_other (s : State) (n : Nat) (which : Nat) {m : Nat} (h : m ≠ n) :
    mget {} (s.wearAdd n which).slots m = mget {} s.slots m := by simp [State.wearAdd, State.modSlot, mget_mset_ne, h, State.wearWarn_other]

theorem State.raiseGates_other (s : State) (n : Nat) {m : Nat} (h : m ≠ n) :
    mget {} (s.raiseGates n).slots m = mget {} s.slots m := by simp [State.raiseGates, State.modSlot, mget_mset_ne, h]

theorem State.pullGates_other (s : State) (n : Nat) (hard : Bool) {m : Nat} (h : m ≠ n) :
    mget {} (s.pullGates n hard).slots m = mget {} s.slots m := by simp [State.pullGates, State.modSlot, mget_mset_ne, h]

theorem State.standDown_other (s : State) (n : Nat) {m : Nat} (h : m ≠ n) :
    mget {} (s.standDown n).slots m = mget {} s.slots m := by simp [State.standDown, State.modSlot, mget_mset_ne, h]

theorem State.leave_other (s : State) (n : Nat) (st : SM) {m : Nat} (_ : m ≠ n) :
    mget {} (s.leave n st).slots m = mget {} s.slots m := by simp

theorem State.gatesIdle_other (s : State) (n : Nat) {m : Nat} (h : m ≠ n) :
    mget {} (s.gatesIdle n).slots m = mget {} s.slots m := by simp [State.gatesIdle, State.modSlot, mget_mset_ne, h, State.standDown_other]

theorem State.enter_other (s : State) (n : Nat) (st : SM) (step : Nat) {m : Nat} (h : m ≠ n) :
    mget {} (s.enter n st step).slots m = mget {} s.slots m := by simp [State.enter, State.modSlot, mget_mset_ne, h, State.leave_other, State.gatesIdle_other]

theorem State.reachSlot_other (s : State) (n : Nat) {m : Nat} (h : m ≠ n) :
    mget {} (s.reachSlot n).slots m = mget {} s.slots m := by simp [State.reachSlot, State.modSlot, mget_mset_ne, h]

theorem State.restrain_other (s : State) (n : Nat) {m : Nat} (h : m ≠ n) :
    mget {} (s.restrain n).slots m = mget {} s.slots m := by simp [State.restrain, State.modSlot, mget_mset_ne, h]

theorem State.tryCleared_other (s : State) (n : Nat) {m : Nat} (h : m ≠ n) :
    mget {} (s.tryCleared n).slots m = mget {} s.slots m := by simp [State.tryCleared, State.modSlot, mget_mset_ne, h]

theorem State.toHold_other (s : State) (n : Nat) {m : Nat} (h : m ≠ n) :
    mget {} (s.toHold n).slots m = mget {} s.slots m := by simp [State.toHold, State.modSlot, mget_mset_ne, h]

theorem State.startWait_other (s : State) (n : Nat) {m : Nat} (h : m ≠ n) :
    mget {} (s.startWait n).slots m = mget {} s.slots m := by simp [State.startWait, State.modSlot, mget_mset_ne, h, State.toHold_other]

theorem State.lockoutSend_other (s : State) (n : Nat) {m : Nat} (h : m ≠ n) :
    mget {} (s.lockoutSend n).slots m = mget {} s.slots m := by simp [State.lockoutSend, State.modSlot, mget_mset_ne, h]

theorem State.releaseSend_other (s : State) (n : Nat) {m : Nat} (h : m ≠ n) :
    mget {} (s.releaseSend n).slots m = mget {} s.slots m := by simp [State.releaseSend, State.modSlot, mget_mset_ne, h]

theorem State.sendOpen_other (s : State) (n : Nat) {m : Nat} (h : m ≠ n) :
    mget {} (s.sendOpen n).slots m = mget {} s.slots m := by simp [State.sendOpen, State.modSlot, mget_mset_ne, h]

theorem State.withdraw_other (s : State) (n : Nat) {m : Nat} (h : m ≠ n) :
    mget {} (s.withdraw n).slots m = mget {} s.slots m := by simp [State.withdraw, State.modSlot, mget_mset_ne, h]

theorem State.snapAssign_other (s : State) (n : Nat) {m : Nat} (h : m ≠ n) :
    mget {} (s.snapAssign n).slots m = mget {} s.slots m := by unfold State.snapAssign; dsimp only; (repeat' split) <;> simp [State.modSlot, mget_mset_ne, h]

theorem State.insAbort_other (s : State) (n : Nat) (step : Nat) {m : Nat} (h : m ≠ n) :
    mget {} (s.insAbort n step).slots m = mget {} s.slots m := by simp [State.insAbort, State.modSlot, mget_mset_ne, h]

theorem State.takeTrip_other (s : State) (n : Nat) (hard : Bool) (abort : Nat) {m : Nat} (h : m ≠ n) :
    mget {} (s.takeTrip n hard abort).slots m = mget {} s.slots m := by simp [State.takeTrip, State.modSlot, mget_mset_ne, h, State.insAbort_other]

theorem State.tripStart_other (s : State) (n : Nat) (hard : Bool) (abort : Nat) {m : Nat} (h : m ≠ n) :
    mget {} (s.tripStart n hard abort).slots m = mget {} s.slots m := by simp [State.tripStart, State.modSlot, mget_mset_ne, h, State.pullGates_other, State.enter_other, State.lockoutSend_other, State.snapAssign_other, State.takeTrip_other]

theorem State.tripSettle_other (s : State) (n : Nat) (cause : Nat) (detail : Nat) {m : Nat} (h : m ≠ n) :
    mget {} (s.tripSettle n cause detail).slots m = mget {} s.slots m := by simp [State.tripSettle, State.modSlot, mget_mset_ne, h, State.wearAdd_other]

theorem State.trip_other (s : State) (n : Nat) (hard : Bool) (cause : Nat) (detail : Nat) (abort : Nat) {m : Nat} (h : m ≠ n) :
    mget {} (s.trip n hard cause detail abort).slots m = mget {} s.slots m := by simp [State.trip, State.modSlot, mget_mset_ne, h, State.tripStart_other, State.tripSettle_other]

theorem State.tripIf_other (s : State) (n : Nat) (hard : Bool) (cause : Nat) (detail : Nat) (abort : Nat) {m : Nat} (h : m ≠ n) :
    mget {} (s.tripIf n hard cause detail abort).slots m = mget {} s.slots m := by simp [State.tripIf, State.modSlot, mget_mset_ne, h, State.trip_other]

theorem State.softTrip_other (s : State) (n rank cause detail abort : Nat) {m : Nat} (h : m ≠ n) :
    mget {} (s.softTrip n rank cause detail abort).slots m = mget {} s.slots m := by simp [State.softTrip, h, State.trip_other]

theorem State.ranked_other (s : State) (n k : Nat) (c : Instr) (act : State → State) (m : Nat)
    (h : ∀ u, act s = u → mget {} u.slots m = mget {} s.slots m) : mget {} (s.ranked n k c act).slots m = mget {} s.slots m := by
  unfold State.ranked
  split
  · simp
  · exact h _ rfl

theorem State.pullGate_other (s : State) (n : Nat) (gateB : Bool) {m : Nat} (h : m ≠ n) :
    mget {} (s.pullGate n gateB).slots m = mget {} s.slots m := by simp [State.pullGate, State.modSlot, mget_mset_ne, h]

theorem State.cmpTrip_other (s : State) (n : Nat) (inst : Bool) (detail : Nat) {m : Nat} (h : m ≠ n) :
    mget {} (s.cmpTrip n inst detail).slots m = mget {} s.slots m := by unfold State.cmpTrip; dsimp only; (repeat' split) <;> simp [State.modSlot, mget_mset_ne, h, State.tripStart_other, State.trip_other]

theorem State.settleTrip_other (s : State) (n : Nat) {m : Nat} (h : m ≠ n) :
    mget {} (s.settleTrip n).slots m = mget {} s.slots m := by unfold State.settleTrip; dsimp only; (repeat' split) <;> simp [State.modSlot, mget_mset_ne, h, State.tripSettle_other]

theorem State.tripRecord_other (s : State) (n : Nat) (next : Nat) {m : Nat} (h : m ≠ n) :
    mget {} (s.tripRecord n next).slots m = mget {} s.slots m := by simp [State.tripRecord, State.modSlot, mget_mset_ne, h, State.settleTrip_other]

theorem State.quietTrip_other (s : State) (n : Nat) (cause : Nat) (detail : Nat) (abort : Nat) (snap : Bool) {m : Nat} (h : m ≠ n) :
    mget {} (s.quietTrip n cause detail abort snap).slots m = mget {} s.slots m := by simp [State.quietTrip, State.modSlot, mget_mset_ne, h, State.snapAssign_other, State.takeTrip_other, State.tripSettle_other]

theorem State.countReset_other (s : State) (n : Nat) {m : Nat} (h : m ≠ n) :
    mget {} (s.countReset n).slots m = mget {} s.slots m := by simp [State.countReset, State.modSlot, mget_mset_ne, h]

theorem State.remember_other (s : State) (n : Nat) {m : Nat} (h : m ≠ n) :
    mget {} (s.remember n).slots m = mget {} s.slots m := by simp [State.remember, State.modSlot, mget_mset_ne, h, State.countReset_other]

theorem State.latch_other (s : State) (n : Nat) {m : Nat} (h : m ≠ n) :
    mget {} (s.latch n).slots m = mget {} s.slots m := by simp [State.latch, State.modSlot, mget_mset_ne, h, State.enter_other]

theorem State.lockoutEnter_other (s : State) (n : Nat) {m : Nat} (h : m ≠ n) :
    mget {} (s.lockoutEnter n).slots m = mget {} s.slots m := by simp [State.lockoutEnter, State.modSlot, mget_mset_ne, h, State.wearAdd_other, State.pullGates_other, State.enter_other, State.lockoutSend_other, State.withdraw_other, State.snapAssign_other, State.takeTrip_other, State.tripRecord_other]

theorem State.disagree_other (s : State) (n : Nat) {m : Nat} (h : m ≠ n) :
    mget {} (s.disagree n).slots m = mget {} s.slots m := by simp [State.disagree, State.modSlot, mget_mset_ne, h]

theorem State.rawLow_other (s : State) (n : Nat) {m : Nat} (h : m ≠ n) :
    mget {} (s.rawLow n).slots m = mget {} s.slots m := by simp [State.rawLow, h, State.standDown_other, State.tryCleared_other]

theorem State.loneCount_other (s : State) (n : Nat) (c : Nat) {m : Nat} (h : m ≠ n) :
    mget {} (s.loneCount n c).slots m = mget {} s.slots m := by simp [State.loneCount, State.modSlot, mget_mset_ne, h, State.rawLow_other]

theorem State.upTrip_other (s : State) (n : Nat) {m : Nat} (h : m ≠ n) :
    mget {} (s.upTrip n).slots m = mget {} s.slots m := by simp [State.upTrip, State.modSlot, mget_mset_ne, h, State.trip_other, State.disagree_other, State.loneCount_other]

theorem State.goOff_other (s : State) (n : Nat) {m : Nat} (h : m ≠ n) :
    mget {} (s.goOff n).slots m = mget {} s.slots m := by simp [State.goOff, State.modSlot, mget_mset_ne, h, State.pullGates_other, State.enter_other, State.tryCleared_other, State.insAbort_other, State.tripRecord_other]

theorem State.enableSlot_other (s : State) (n : Nat) {m : Nat} (h : m ≠ n) :
    mget {} (s.enableSlot n).slots m = mget {} s.slots m := by simp [State.enableSlot, State.modSlot, mget_mset_ne, h, State.enter_other]

theorem State.clearValues_other (s : State) (n : Nat) {m : Nat} (h : m ≠ n) :
    mget {} (s.clearValues n).slots m = mget {} s.slots m := by simp [State.clearValues, State.modSlot, mget_mset_ne, h]

theorem State.turnOff_other (s : State) (n : Nat) {m : Nat} (h : m ≠ n) :
    mget {} (s.turnOff n).slots m = mget {} s.slots m := by simp [State.turnOff, State.modSlot, mget_mset_ne, h, State.goOff_other, State.clearValues_other]

theorem State.cmdStop_other (s : State) (n : Nat) {m : Nat} (h : m ≠ n) :
    mget {} (s.cmdStop n).slots m = mget {} s.slots m := by unfold State.cmdStop; dsimp only; (repeat' split) <;> first | rfl | simp [State.modSlot, mget_mset_ne, h, State.turnOff_other, State.ranked_other]

theorem State.cmdStopNow_other (s : State) (n : Nat) {m : Nat} (h : m ≠ n) :
    mget {} (s.cmdStopNow n).slots m = mget {} s.slots m := by simp [State.cmdStopNow, State.modSlot, mget_mset_ne, h, State.ranked_other, State.turnOff_other]

theorem State.cmdGo_other (s : State) (n : Nat) {m : Nat} (h : m ≠ n) :
    mget {} (s.cmdGo n).slots m = mget {} s.slots m := by unfold State.cmdGo; (repeat' split) <;> simp [State.modSlot, mget_mset_ne, h]

theorem State.modSlot_other (s : State) (n : Nat) (g : Slot → Slot) {m : Nat} (h : m ≠ n) :
    mget {} (s.modSlot n g).slots m = mget {} s.slots m := mget_mset_ne _ _ _ h

theorem State.cmdTrip_other (s : State) (n : Nat) {m : Nat} (h : m ≠ n) :
    mget {} (s.cmdTrip n).slots m = mget {} s.slots m := by
  unfold State.cmdTrip
  dsimp only
  split
  · exact State.ranked_other _ _ _ _ _ _ (fun u hu => hu ▸ State.trip_other s n true 0x10 0 0 h)
  · split
    · rw [State.modSlot_other _ _ _ h, (State.modSnap_frame _ _ _).2.2.2.2.2.1]
      simp [h, State.settleTrip_other]
    · simp only [State.pumpCheck_frame, State.latch_other _ _ h, State.tripRecord_other _ _ _ h, State.modSlot_other _ _ _ h, State.quietTrip_other _ _ _ _ _ _ h]
    · simp

theorem State.coolOver_other (s : State) (n : Nat) {m : Nat} (h : m ≠ n) :
    mget {} (s.coolOver n).slots m = mget {} s.slots m := by simp [State.coolOver, State.modSlot, mget_mset_ne, h, State.enter_other]

theorem State.warnsEnd_other (s : State) (n : Nat) {m : Nat} (h : m ≠ n) :
    mget {} (s.warnsEnd n).slots m = mget {} s.slots m := by simp [State.warnsEnd, State.modSlot, mget_mset_ne, h]

theorem State.htTrip_other (s : State) (n : Nat) (cause : Nat) (unsettled : Option Bool) {m : Nat} (h : m ≠ n) :
    mget {} (s.htTrip n cause unsettled).slots m = mget {} s.slots m := by simp [State.htTrip, State.modSlot, mget_mset_ne, h, State.pullGates_other]

theorem State.loneClear_other (s : State) (n : Nat) (inst : Bool) {m : Nat} (h : m ≠ n) :
    mget {} (s.loneClear n inst).slots m = mget {} s.slots m := by simp [State.loneClear, State.modSlot, mget_mset_ne, h]

theorem State.closeWin_other (s : State) (n : Nat) (inst : Bool) {m : Nat} (h : m ≠ n) :
    mget {} (s.closeWin n inst).slots m = mget {} s.slots m := by unfold State.closeWin; dsimp only; (repeat' split) <;> first | rfl | simp [State.modSlot, mget_mset_ne, h, State.settleTrip_other, State.disagree_other, State.loneCount_other]

theorem State.cmpDecide_other (s : State) (n : Nat) (inst : Bool) {m : Nat} (h : m ≠ n) :
    mget {} (s.cmpDecide n inst).slots m = mget {} s.slots m := by unfold State.cmpDecide; dsimp only; (repeat' split) <;> simp [State.modSlot, mget_mset_ne, h, State.trip_other, State.cmpTrip_other, State.htTrip_other]

theorem State.cmpAssert_other (s : State) (n : Nat) (inst : Bool) (copies : Nat) {m : Nat} (h : m ≠ n) :
    mget {} (s.cmpAssert n inst copies).slots m = mget {} s.slots m := by unfold State.cmpAssert; (repeat' split) <;> simp [State.modSlot, mget_mset_ne, h, State.loneClear_other, State.closeWin_other, State.cmpDecide_other]

theorem State.dwellEnd_other (s : State) (n : Nat) {m : Nat} (h : m ≠ n) :
    mget {} (s.dwellEnd n).slots m = mget {} s.slots m := by simp [State.dwellEnd, State.modSlot, mget_mset_ne, h, State.enter_other, State.tripRecord_other, State.remember_other, State.latch_other]

theorem State.tocCfg_other (s : State) (n : Nat) (v : Word) {m : Nat} (h : m ≠ n) :
    mget {} (s.tocCfg n v).slots m = mget {} s.slots m := by simp [State.tocCfg, State.modSlot, mget_mset_ne, h]

theorem State.tocPoint_other (s : State) (n : Nat) (i : Nat) (v : Word) {m : Nat} (h : m ≠ n) :
    mget {} (s.tocPoint n i v).slots m = mget {} s.slots m := by simp [State.tocPoint, State.modSlot, mget_mset_ne, h]

theorem State.modTerr_other (s : State) (n : Nat) (g : Terr → Terr) {m : Nat} (h : m ≠ n) :
    mget {} (s.modTerr n g).slots m = mget {} s.slots m := by simp [State.modTerr, State.modSlot, mget_mset_ne, h]

theorem State.verdict_other (s : State) (n : Nat) (cause : Nat) (abort : Nat) (open_ : Bool) {m : Nat} (h : m ≠ n) :
    mget {} (s.verdict n cause abort open_).slots m = mget {} s.slots m := by simp [State.verdict, State.modSlot, mget_mset_ne, h, State.enter_other, State.sendOpen_other, State.trip_other, State.quietTrip_other]

theorem State.roleSwap_other (s : State) (n : Nat) (approved : Bool) {m : Nat} (h : m ≠ n) :
    mget {} (s.roleSwap n approved).slots m = mget {} s.slots m := by simp [State.roleSwap, State.modSlot, mget_mset_ne, h, State.enter_other]

theorem State.foundShortA_other (s : State) (n : Nat) {m : Nat} (h : m ≠ n) :
    mget {} (s.foundShortA n).slots m = mget {} s.slots m := by unfold State.foundShortA; dsimp only; (repeat' split) <;> simp [State.modSlot, mget_mset_ne, h, State.pullGate_other, State.pullGates_other, State.enter_other, State.roleSwap_other]

theorem State.serveFit_other (s : State) (n : Nat) {m : Nat} (h : m ≠ n) :
    mget {} (s.serveFit n).slots m = mget {} s.slots m := by unfold State.serveFit; dsimp only; (repeat' split) <;> first | rfl | simp [State.modSlot, mget_mset_ne, h, State.softTrip_other]

theorem State.fbEnd_other (s : State) (n : Nat) (which : Nat) {m : Nat} (h : m ≠ n) :
    mget {} (s.fbEnd n which).slots m = mget {} s.slots m := by simp [State.fbEnd, State.modSlot, mget_mset_ne, h, State.softTrip_other, State.trip_other]

theorem State.insertionOn_other (s : State) (n : Nat) {m : Nat} (h : m ≠ n) :
    mget {} (s.insertionOn n).slots m = mget {} s.slots m := by simp [State.insertionOn, State.modSlot, mget_mset_ne, h, State.enter_other]

theorem State.startHandover_other (s : State) (n : Nat) {m : Nat} (h : m ≠ n) :
    mget {} (s.startHandover n).slots m = mget {} s.slots m := by simp [State.startHandover, State.modSlot, mget_mset_ne, h, State.insertionOn_other, State.raiseGates_other]

theorem State.addPower_other (s : State) (n : Nat) (elemB : Bool) {m : Nat} (h : m ≠ n) :
    mget {} (s.addPower n elemB).slots m = mget {} s.slots m := by simp [State.addPower, State.modSlot, mget_mset_ne, h]

theorem State.recordSample_other (s : State) (n : Nat) {m : Nat} (h : m ≠ n) :
    mget {} (s.recordSample n).slots m = mget {} s.slots m := by simp [State.recordSample, State.modSlot, mget_mset_ne, h]

theorem State.stuckSample_other (s : State) (n : Nat) {m : Nat} (h : m ≠ n) :
    mget {} (s.stuckSample n).slots m = mget {} s.slots m := by simp [State.stuckSample, State.modSlot, mget_mset_ne, h, State.sendOpen_other]

theorem State.computedTrip_other (s : State) (n cause : Nat) {m : Nat} (h : m ≠ n) :
    mget {} (s.computedTrip n cause).slots m = mget {} s.slots m := by simp [State.computedTrip, h, State.trip_other]

theorem State.protSample_other (s : State) (n : Nat) {m : Nat} (h : m ≠ n) :
    mget {} (s.protSample n).slots m = mget {} s.slots m := by simp [State.protSample, State.modSlot, mget_mset_ne, h, State.computedTrip_other, State.trip_other]

theorem State.pgSample_other (s : State) (n : Nat) {m : Nat} (h : m ≠ n) :
    mget {} (s.pgSample n).slots m = mget {} s.slots m := by simp [State.pgSample, State.modSlot, mget_mset_ne, h]

theorem State.learnSample_other (s : State) (n : Nat) {m : Nat} (h : m ≠ n) :
    mget {} (s.learnSample n).slots m = mget {} s.slots m := by simp [State.learnSample, State.modSlot, mget_mset_ne, h]

theorem State.superviseSample_other (s : State) (n : Nat) {m : Nat} (h : m ≠ n) :
    mget {} (s.superviseSample n).slots m = mget {} s.slots m := by simp [State.superviseSample, State.modSlot, mget_mset_ne, h, State.fbEnd_other]

theorem State.completeSample_other (s : State) (n : Nat) {m : Nat} (h : m ≠ n) :
    mget {} (s.completeSample n).slots m = mget {} s.slots m := by simp [State.completeSample, State.modSlot, mget_mset_ne, h, State.startHandover_other]

theorem State.roleBack_other (s : State) (n : Nat) {m : Nat} (h : m ≠ n) :
    mget {} (s.roleBack n).slots m = mget {} s.slots m := by simp [State.roleBack, State.modSlot, mget_mset_ne, h]

theorem State.cmpBack_other (s : State) (n : Nat) (c : Nat) {m : Nat} (h : m ≠ n) :
    mget {} (s.cmpBack n c).slots m = mget {} s.slots m := by simp [State.cmpBack, State.modSlot, mget_mset_ne, h]

theorem State.wearBack_other (s : State) (n : Nat) (sub : Nat) {m : Nat} (h : m ≠ n) :
    mget {} (s.wearBack n sub).slots m = mget {} s.slots m := by unfold State.wearBack; (repeat' split) <;> simp [State.modSlot, mget_mset_ne, h]

theorem State.markWarned_other (s : State) (n : Nat) {m : Nat} (h : m ≠ n) :
    mget {} (s.markWarned n).slots m = mget {} s.slots m := by simp [State.markWarned, State.modSlot, mget_mset_ne, h]

end Sys2Proof.Machine
end

