-- ==== Sys2Proof/Laws/Outcome.lean ====
section
/-! SUPPORT. The outcome of every command: what settling changes, and that done always answers a next state. -/
namespace Sys2Proof.Machine

/-- The pieces of the package that settling may write. -/
theorem Pkg.noted_self (p : Pkg) : p.noted p = p := rfl

theorem Pkg.noted_trans (p q r : Pkg) (h : q = p.noted q) (h' : r = q.noted r) : r = p.noted r := by
  cases p; cases q; cases r; simp_all [Pkg.noted]

theorem State.settleEwarn_pkg (s : State) : s.settleEwarn.pkg = s.pkg.noted s.settleEwarn.pkg := by
  simp [State.settleEwarn, Pkg.noted]
theorem State.settleFault_pkg (s : State) : s.settleFault.pkg = s.pkg.noted s.settleFault.pkg := by
  simp [State.settleFault, Pkg.noted]
theorem State.settleDirty_pkg (s : State) : s.settleDirty.pkg = s.pkg.noted s.settleDirty.pkg := by
  unfold State.settleDirty
  dsimp only
  split <;> simp [Pkg.noted]
theorem State.sendEvent_pkg (s : State) : s.sendEvent.pkg = s.pkg.noted s.sendEvent.pkg := by
  unfold State.sendEvent
  dsimp only
  split <;> simp [Pkg.noted]
theorem State.settleSummary_pkg (s : State) : s.settleSummary.pkg = s.pkg.noted s.settleSummary.pkg := by
  unfold State.settleSummary
  dsimp only
  split
  · have h := s.sendEvent_pkg
    generalize s.sendEvent.pkg = q at h
    cases q
    simp_all [Pkg.noted]
  · simp [Pkg.noted]

theorem Pair.driven_trans (p q r : Pair) (h : q = p.driven q) (h' : r = q.driven r) : r = p.driven r := by
  cases p; cases q; cases r; simp_all [Pair.driven]

/-- t has the pairs of s but for the levels driven on WKT_DRV. -/
def State.Driven (s t : State) : Prop := t.pairAB = s.pairAB.driven t.pairAB ∧ t.pairCD = s.pairCD.driven t.pairCD

theorem State.Driven.trans {s t u : State} (h : s.Driven t) (h' : t.Driven u) : s.Driven u :=
  ⟨Pair.driven_trans _ _ _ h.1 h'.1, Pair.driven_trans _ _ _ h.2 h'.2⟩

theorem State.Driven.of_eq {s t : State} (h : t.pairAB = s.pairAB) (h' : t.pairCD = s.pairCD) : s.Driven t :=
  ⟨h ▸ rfl, h' ▸ rfl⟩

/-- One pair's pin (R340). -/
theorem State.drv_driven (s : State) (k : Nat) (b : Bool) (o : Out) :
    s.Driven ((s.modPair k (fun p => { p with drv := b })).emit o) := by
  unfold State.Driven State.modPair State.setPair State.pair
  split <;> simp [Pair.driven]

theorem State.each_driven {α : Type} (g : α → State → State) (h : ∀ x s, State.Driven s (g x s)) (l : List α) (s : State) :
    s.Driven (s.each l g) := by
  induction l generalizing s with
  | nil => exact State.Driven.of_eq rfl rfl
  | cons x l ih => exact (h x s).trans (ih _)

/-- The pairs after the levels of the ring's pins (R319, R340). -/
theorem State.settleLines_driven (s : State) : s.Driven s.settleLines := by
  unfold State.settleLines
  dsimp only
  refine (State.Driven.of_eq ?_ ?_).trans (State.each_driven _ (fun k s => ?_) _ _)
  · simp
  · simp
  · split
    · exact State.Driven.of_eq rfl rfl
    · exact State.drv_driven ..

/-- Settling leaves the pairs but for the levels driven on WKT_DRV. -/
theorem State.settle_driven (s : State) : s.Driven s.settle := by
  unfold State.settle
  refine (State.Driven.of_eq ?_ ?_).trans (State.settleLines_driven _) <;> simp

/-- Settling writes the pages, the ring's output and the package's bookkeeping only. -/
theorem State.settle_pkg (s : State) : s.settle.pkg = s.pkg.noted s.settle.pkg := by
  have h := Pkg.noted_trans _ _ _ (Pkg.noted_trans _ _ _ (Pkg.noted_trans _ _ _ s.settleEwarn_pkg (State.settleFault_pkg _))
    (State.settleDirty_pkg _)) (State.settleSummary_pkg _)
  unfold State.settle
  simpa using h

/-- done answers the settled state with the queue, the time and the factory's data of the state before. -/
theorem done_next (s u : State) : done s u = .next { u.settle with pending := s.pending, now := s.now, ident := s.ident } := rfl

/-- The outcome of a command whose new state kept the queue, the time and the factory's data agrees with that state in
everything but what settling writes. -/
theorem done_quiet (s u : State) (hp : u.pending = s.pending) (hn : u.now = s.now) (hi : u.ident = s.ident) :
    ∃ t, done s u = .next t ∧ Quiet u t := by
  refine ⟨_, rfl, ?_⟩
  have hk := u.settle_pkg
  have hd := u.settle_driven
  constructor <;> simp [hp, hn, hi]
  · exact hk
  · exact hd.1
  · exact hd.2

/-- What a page-local change leaves: every other register, slot, die and queue of the outcome is that of the new state. -/
theorem done_fields {s u t : State} (h : done s u = .next t) :
    t.slots = u.slots ∧ t.dies = u.dies ∧ t.regs = u.regs ∧ t.feram = u.feram ∧ t.frames = u.frames ∧ t.mer = u.mer ∧ t.xact = u.xact ∧
    t.nurs = u.nurs ∧ t.cfg = u.cfg ∧ t.qport = u.qport ∧ t.routes = u.routes ∧
    t.capt = u.capt ∧ t.shadow = u.shadow ∧ t.fresh = u.fresh ∧ t.copies = u.copies ∧ t.heard = u.heard ∧ t.rsp = u.rsp ∧ t.free = u.free ∧
    t.later = u.later ∧ u.Driven t ∧ t.pkg = u.pkg.noted t.pkg ∧ t.pending = s.pending ∧ t.now = s.now ∧ t.ident = s.ident := by
  rw [done_next] at h
  cases h
  simp
  exact ⟨u.settle_driven, u.settle_pkg⟩

/-- A command that changes nothing of its own answers a state that agrees with the one before. -/
theorem done_self (s : State) : ∃ t, done s s = .next t ∧ Quiet s t := done_quiet s s rfl rfl rfl

end Sys2Proof.Machine
end

