-- ==== Sys2Proof/Laws/Slots.lean ====
section
/-! SUPPORT. What the shared operations do to their own slot: gates, entry into a state, trips; and register writes that are taken. -/
namespace Sys2Proof.Machine

/-! ## Register writes (R33, R45, R46) -/

/-- A write that is taken, of a register that is not locked or on a page the initiator unlocked, does its effect on the
state whose page noted the write. -/
theorem State.write_taken (s : State) (ini : Ini) (a : Nat) (locked : Bool) (act : State → State) (h : s.takes ini a = true)
    (hl : locked = false ∨ s.unlockedFor ini (lockPage a) = true) :
    ∃ pg, s.write ini a locked act = act { s with pages := pg } := by
  unfold State.takes at h
  simp only [Bool.and_eq_true, Bool.not_eq_true', beq_iff_eq] at h
  obtain ⟨⟨h1, h2⟩, h3⟩ := h
  have hp : (((locate a).map (·.base)).getD 0) / 4096 = lockPage a := rfl
  have hok : (!locked || s.unlockedFor ini (lockPage a)) = true := by
    rcases hl with hl | hl <;> simp [hl]
  unfold State.write
  simp only [h1, h2, h3, Bool.not_true, Bool.or_self, Bool.false_eq_true, if_false, bne_self_eq_false]
  unfold State.pageWrite
  rw [hp]
  simp only [hok, Bool.not_true, Bool.or_false, if_true]
  split <;> exact ⟨_, rfl⟩

/-- A write while nothing is served has no effect. -/
theorem State.write_idle (s : State) (ini : Ini) (a : Nat) (locked : Bool) (act : State → State) (h : s.serving = false) :
    s.write ini a locked act = s := by
  simp [State.write, h]

/-! ## Gates (R80, R96) -/

theorem State.pullGates_slot (s : State) (n : Nat) (hard : Bool) :
    ((s.pullGates n hard).slot n).gA = (s.slot n).gA.pull s.now hard ∧
    ((s.pullGates n hard).slot n).gB = (if s.backup n then (s.slot n).gB.pull s.now hard else (s.slot n).gB) ∧
    ((s.pullGates n hard).slot n).st = (s.slot n).st ∧ ((s.pullGates n hard).slot n).pg = (s.slot n).pg ∧
    ((s.pullGates n hard).slot n).limit = false := by
  simp [State.pullGates]

/-! ## Entry into a state (R99) -/

/-- Leaving HOLD writes the slot's restraint state only (R191, R204). -/
theorem State.standDown_slot (s : State) (n : Nat) :
    (s.standDown n).slot n = { s.slot n with terr := { (s.slot n).terr with sub := .idle } } := by
  unfold State.standDown
  extract_lets r u
  have hu : u.slot n = { s.slot n with terr := { (s.slot n).terr with sub := .idle } } := State.slot_modSlot_self s n _
  rw [← hu]
  split
  · exact State.slot_of_slots (by simp) n
  · rfl

/-- The gates' idle state writes the slot's protection counts and its restraint state only (R128, R190, R204). -/
theorem State.gatesIdle_slot (s : State) (n : Nat) :
    ∃ p r, (s.gatesIdle n).slot n = { s.slot n with prot := p, terr := r } := by
  unfold State.gatesIdle
  dsimp only
  split
  · exact ⟨_, _, rfl⟩
  · rw [State.slot_modSlot_self]
    split
    · rw [State.standDown_slot]
      exact ⟨_, _, rfl⟩
    · exact ⟨_, _, rfl⟩

/-- Leaving a state writes no slot (R113, R274, R385). -/
theorem State.leave_slot (s : State) (n : Nat) (st : SM) (m : Nat) : (s.leave n st).slot m = s.slot m :=
  State.slot_of_slots (by simp) m

/-- The slot after an entry is the slot as an entry leaves it, but for its protection counts and its restraint state. -/
theorem State.enter_entered (s : State) (n : Nat) (st : SM) (step : Nat) :
    ∃ stable waits p r, (s.enter n st step).slot n = { (s.slot n).entered st step s.now stable waits with prot := p, terr := r } := by
  unfold State.enter
  extract_lets u waits stable v w
  have hv : v.slot n = (s.slot n).entered st step s.now stable waits := by
    rw [State.slot_modSlot_self, State.leave_slot]
    simp [u]
  have hw : w.slot n = v.slot n := State.slot_of_slots (by simp only [w]; split <;> simp) n
  obtain ⟨p, r, h⟩ := w.gatesIdle_slot n
  exact ⟨stable, waits, p, r, by rw [h, hw, hv]⟩

/-- The slot after an entry: its state, the state before, STEP, PG; the gates, the role, the card, the trip and the retry
count stand. -/
theorem State.enter_slot (s : State) (n : Nat) (st : SM) (step : Nat) :
    ((s.enter n st step).slot n).st = st ∧ ((s.enter n st step).slot n).prev = (s.slot n).st ∧
    ((s.enter n st step).slot n).step = step ∧ ((s.enter n st step).slot n).pg = ((s.slot n).pg && st == .on) ∧
    ((s.enter n st step).slot n).gA = (s.slot n).gA ∧ ((s.enter n st step).slot n).gB = (s.slot n).gB ∧
    ((s.enter n st step).slot n).role = (s.slot n).role ∧ ((s.enter n st step).slot n).pres = (s.slot n).pres ∧
    ((s.enter n st step).slot n).trip = (s.slot n).trip ∧ ((s.enter n st step).slot n).retry.cnt = (s.slot n).retry.cnt ∧
    ((s.enter n st step).slot n).held = (s.slot n).held ∧ ((s.enter n st step).slot n).wear = (s.slot n).wear := by
  obtain ⟨a, b, p, r, h⟩ := s.enter_entered n st step
  rw [h]
  exact ⟨rfl, rfl, rfl, rfl, rfl, rfl, rfl, rfl, rfl, rfl, rfl, rfl⟩

end Sys2Proof.Machine
end

