-- ==== Sys2Proof/Machine/Pins.lean ====
section
/-! DEFINITION. The pins: the ball map (16_pins_host_electrical.md R454 to R456), the clocks and bytes of a QSPI frame (R459 to R461) and the registers of the test port (R465). -/
namespace Sys2Proof.Machine

/-! ## The ball map (R454 to R456) -/

/-- Rows, and columns, of a package. -/
def Part.grid : Part → Nat
  | .kq2032 => 24 | .kq4064 => 30 | .kq8128 => 40

/-- Ring k of the b × b blocks, from (k, k) along its row, down, back and up (R455). -/
def blockRing (b k : Nat) : List (Nat × Nat) :=
  let m := b - 1 - k
  if m ≤ k then [(k, k)]
  else
    (List.range (m + 1 - k)).map (fun i => (k, k + i)) ++ (List.range (m - k)).map (fun i => (k + 1 + i, m)) ++
      (List.range (m - k)).map (fun i => (m, m - 1 - i)) ++ (List.range (m - 1 - k)).map (fun i => (m - 1 - i, k))
/-- The blocks of a package in ring order. -/
def blockOrder (b : Nat) : List (Nat × Nat) := (List.range ((b + 1) / 2)).flatMap (blockRing b)
/-- The block of a package slot. -/
def slotBlock (p : Part) (s : Nat) : Nat × Nat := (blockOrder (p.grid / 3)).getD s (0, 0)
/-- The nine pins of a slot, by row and column offset. -/
def slotPins : List (List String) := [["SENSP", "SENSN", "GATEA"], ["MID", "GATEB", "VOUT"], ["TFET", "PRES_N", "PG"]]
/-- The ball, row and column from 1, of a slot's pin at an offset of its block. -/
def slotBall (p : Part) (s dr dc : Nat) : Nat × Nat :=
  let b := slotBlock p s
  (3 * b.1 + 1 + dr, 3 * b.2 + 1 + dc)

/-- The core balls in scan order: the balls outside the blocks of the slots (R456). -/
def coreBalls (p : Part) : List (Nat × Nat) :=
  let used := (List.range (16 * p.dies)).map (slotBlock p)
  (List.range p.grid).flatMap (fun r => ((List.range p.grid).filter (fun c => !used.contains (r / 3, c / 3))).map (fun c => (r + 1, c + 1)))
/-- The pins of the first 47 + 3D core balls. -/
def corePins (p : Part) : List String :=
  ["REFCLK_A", "REFCLK_B", "TCK", "TMS", "TDI", "TDO", "TRST_N", "SCLK", "CS_N", "IO0", "IO1", "IO2", "IO3", "IRQ_N", "FAULT_N", "RESET_N",
    "OFF_N", "TRIG", "PPS_IN", "PPS_OUT", "AUTOSTART"] ++ List.replicate 8 "VIO" ++
  ["A", "B", "C", "D"].flatMap (fun x => ["TXP_" ++ x, "TXN_" ++ x, "RXP_" ++ x, "RXN_" ++ x]) ++ ["WKT_DRV_AB", "WKT_DRV_CD"] ++
  (List.range p.dies).flatMap (fun d => ["VBUS_A", "VBUS_B", "EWARN_N"].map (fun x => x ++ "_" ++ toString d))
/-- The pin of the core ball at a position, counting from 0: the list, then the repeating supplies. -/
def corePin (p : Part) (i : Nat) : String :=
  match (corePins p)[i]? with
  | some x => x
  | none => ["GND", "VCORE", "GND", "VANA", "GND", "VCORE", "GND", "VAUX"].getD ((i - (corePins p).length) % 8) ""

/-! ## The clocks of a QSPI frame (R459 to R461) -/

/-- A frame as the pins carry it: the level of SCLK at the fall of CS_N, the width in force (0 single, 1 dual, 2 quad), and for each
rising edge the levels of IO3 to IO0 as a number. -/
structure QFrame where
  sclk : Bool
  width : Nat
  clocks : List Nat
  deriving DecidableEq, Repr

/-- The data lines of a width. -/
def lines (width : Nat) : Nat := 2 ^ width
/-- The bits of one clock, the highest-numbered line first. -/
def clockBits (width io : Nat) : List Bool := ((List.range (lines width)).map (nbit io)).reverse
/-- The number that bits spell, most significant first. -/
def bitsNat (l : List Bool) : Nat := l.foldl (fun a b => 2 * a + b2n b) 0
/-- The whole words of a bit string. -/
def bitWords : Nat → List Bool → List Word
  | 0, _ => []
  | n + 1, l => BitVec.ofNat 32 (bitsNat (l.take 32)) :: bitWords n (l.drop 32)

/-- The row of the table that a frame is, with its operands; none where CS_N rises before the address is whole. -/
def QFrame.row (f : QFrame) : Option Instr :=
  let bs := f.clocks.flatMap (clockBits f.width)
  let rest := bs.drop 32
  let addr := bitsNat ((bs.drop 8).take 24)
  if bs.length < 8 then none
  else match bitsNat (bs.take 8) with
    | 0xFF => some (.widthReset f.sclk)
    | 0x02 =>
      if bs.length < 32 then none
      else
        let ws := bitWords (rest.length / 32) rest
        some (if rest.length % 32 == 0 then .write f.sclk addr ws else .frameErr f.sclk true addr ws)
    | 0x0B =>
      if bs.length < 32 then none
      else
        -- eight dummy clocks, then the words that the part drives
        let out := (f.clocks.length - 32 / lines f.width - 8) * lines f.width
        some (if out % 32 == 0 then .read f.sclk addr (out / 32) else .frameErr f.sclk false addr (List.replicate (out / 32) 0))
    | _ => some (.cmdErr f.sclk)

/-- The clocks that a frame of n words takes at a width, READ with its dummy clocks. -/
def frameClocks (rd : Bool) (width n : Nat) : Nat := (32 + 32 * n) / lines width + (if rd then 8 else 0)

/-! ## The test port (R465) -/

/-- The bits of IDCODE. -/
def idcode (stepping : Nat) (p : Part) : Nat := stepping % 16 * 2 ^ 28 + p.code * 2 ^ 12 + 0x2D6 * 2 + 1
/-- The length of the boundary register. -/
def boundaryLength (p : Part) : Nat := 43 + 3 * (16 * p.dies) + 2 * p.dies

end Sys2Proof.Machine
end

