-- ==== Sys2Proof/WellFormed.lean ====
section
/-! DEFINITION. The well-formedness of commands: every operand lies in the range that the part's address map and pins give it. -/
namespace Sys2Proof

/-- A package slot (00_scope.md R5). -/
def slotOk (n : Nat) : Bool := decide (n < 128)
/-- A die (R5). -/
def dieOk (d : Nat) : Bool := decide (d < 8)
/-- A ring port, 0 to 3 for A to D (R316). -/
def portOk (p : Nat) : Bool := decide (p < 4)
/-- A port pair (R317). -/
def pairOk (k : Nat) : Bool := decide (k < 2)
/-- A context of a die (R273). -/
def ctxOk (n : Nat) : Bool := decide (n < 18)
/-- A page number, address bits [23:12] of a page below the CAPT window (R31). -/
def pageOk (p : Nat) : Bool := decide (p < 0x180)
/-- A byte address of the register space: 24 bits (R7). -/
def addrOk (a : Nat) : Bool := decide (a < 0x1000000)
/-- A system address, 14 bits (R336). -/
def sysOk (a : Nat) : Bool := decide (a < 0x4000)
/-- The readings of a die name a die and local slots (R213). -/
def sampOk (r : DieSamp) : Bool := dieOk r.die && r.slots.all (fun x => decide (x.slot < 16))
/-- A terrace message's fields fit the urgent frame (R324). -/
def msgOk (m : Msg) : Bool :=
  sysOk m.srcAddr && slotOk m.srcSlot && decide (m.srcLevel < 8) && sysOk m.tgtAddr && slotOk m.tgtSlot &&
  decide (m.incident < 256) && decide (m.hops < 256)
/-- An initiator: the QSPI host, or a node's system address (R46). -/
def iniOk : Ini → Bool
  | .qspi => true
  | .ring a => sysOk a

/-- The well-formedness of a command. -/
def Instr.wf : Instr → Bool
  | .supplyLoss | .porDelayExpiry | .resetNLow | .offNFall | .offNRise | .requestServe _ | .ppsInLost | .timeSourceLost
  | .ppsOutPulse | .leadHandoverDone | .wearSave | .resetNRise | .streamFlushTimeout => true
  | .bootComplete dies _ _ _ grat => decide (dies < 256) && grat.all (fun l => l.length == 9)
  | .bootRetry dies _ _ => decide (dies < 256)
  | .softwareWarmReset ini | .returnA ini | .terrDisable ini | .softwareTrigger ini | .queuePop ini | .queuePeek ini
  | .cplPop ini | .arm ini | .disarm ini | .reacquire ini | .train ini | .txsPop ini | .save ini | .openStage ini
  | .commitStage ini | .abort ini | .logRead ini => iniOk ini
  | .watchdogExpiry d | .trellisSilence d | .pumpFailover d | .pumpRestartDone d | .sparePumpExercise d _ | .ewarnBusEnd d
  | .thermalModelUpdate d | .surveyStepEnd d _ | .surveyScanEnd d _ _ | .openWireDone d | .fullCalibrationDone d _
  | .rollingStepStart d | .rollingParallelEnd d | .selfCalDone d _ _ | .loopPeriod d _ | .parityScan d _
  | .laneRequestDone d | .testDelayEnd d | .testEnd d | .capDone d | .modSwapParallelEnd d _ _ | .feramRowWrite d _
  | .coalesceFlush d => dieOk d
  | .warmReturn grat ad => grat.all (fun l => l.length == 9) && ad.all (fun a => slotOk a.slot)
  | .dieRejoinAttempt d _ ad => dieOk d && ad.all (fun a => slotOk a.slot)
  | .thermalShutdown d sensors => dieOk d && decide (sensors < 4)
  | .thermalRestart d grat => dieOk d && grat.length == 9
  | .refclkLoss _ | .refclkReturn _ | .widthReset _ | .cmdErr _ | .saveDone _ | .trigPulse _ _ => true
  | .registerWrite ini a _ _ | .shadowLoRead ini a | .rsRead ini a | .wideLoWrite ini a _ | .wideHiWrite ini a _
  | .stageWindowWrite ini a _ => iniOk ini && addrOk a
  | .pageLockWrite ini p _ _ | .relock ini p | .softReset ini p | .evtStatClear ini p _ _ | .evtForce ini p _
  | .evtCountWrite ini p _ => iniOk ini && pageOk p
  | .autoRelock p | .softResetDone p => pageOk p
  | .rawOutputRise n c | .rawOutputFall n c _ => slotOk n && decide (c < 4)
  | .fastTrip n c | .instantTrip n c => slotOk n && decide (1 ≤ c) && decide (c < 4)
  | .tripCauseSettle n | .limitEnter n | .faultTimerReset n | .limitTimerExpiry n | .reverseBlock n | .reverseBlockClear n
  | .pulldownRelease n _ | .ewarnLeadExpiry n | .cardSeated n _ | .cardRemoval n _ | .precheck1Pass n | .shortVerdict n
  | .precheck2Pass n | .passElementAShort n | .spareGateTimeout n | .spareEnhDone n | .chargingStart n
  | .learningWindowEnd n | .insertionPause n | .insertTimeout n | .handoverTimeout n | .insertionDone n | .pgRelease n
  | .stuckCurrentVerdict n | .tripDwellEnd n | .cooldownExpiry n | .stableTimeExpiry n | .rememberExpiry n
  | .tfetStale n | .messageCopyRepeat n | .waitExpiry n | .holdExpiry n | .fbLost n | .limitRelease n
  | .gateBelow1v n _ _ => slotOk n
  | .slotEnable ini n | .slotDisable ini n | .stop ini n | .stopNow ini n | .go ini n | .trip ini n | .clear ini n
  | .resetCount ini n | .tocCfgWrite ini n _ | .energyClear ini n => iniOk ini && slotOk n
  | .tocPtWrite ini n i _ => iniOk ini && slotOk n && decide (i < 8)
  | .controlSample r => sampOk r
  | .snapshotComplete d b | .snapshotSaved d b => dieOk d && decide (b < 4)
  | .gratReadmit ini d m => iniOk ini && dieOk d && decide (m < 512)
  | .restrainReceive m | .clearedReceive m | .lockoutReceive m | .releaseReceive m | .upstreamOpenReceive m => msgOk m
  | .entryStale n a b => slotOk n && sysOk a && slotOk b
  | .frameBoundary rs => rs.all sampOk
  | .triggerDelayEnd _ => true
  | .openWireStart ini d _ | .fullCalibration ini d | .rollOnce ini d | .clrMax ini d | .testArm ini d | .testStop ini d
  | .capArm ini d | .capForce ini d | .capAbort ini d => iniOk ini && dieOk d
  | .streamReceive src seq _ => sysOk src && decide (seq < 65536)
  | .dacWrite d n => dieOk d && ctxOk n
  | .commit ini d n _ | .clrCnt ini d n => iniOk ini && dieOk d && ctxOk n
  | .linkAlign p | .linkUp p _ | .linkRelock p _ | .linkFailed p _ _ | .linkRetry p | .normalFrameReceive p _ _
  | .ackReceive p _ | .nakReceive p _ | .resyncReceive p _ | .replayTimeout p | .urgentFrameReceive p _ | .claimReceive p _ _ _ _
  | .countReceive p _ _ | .joinReqReceive p _ _ _ _ _ | .assignReceive p _ _ _ _ _ _ | .gapReceive p _ _ _ _ _ _
  | .timeProbeSend p _ | .probeReceive p _ _ _ _ _ _ _ | .echoReceive p _ _ _ _ _ _ _ _ _ | .tappedProbe p _ _ _ _ _ _
  | .hostProbeReceive p _ _ _ _ => portOk p
  | .gapSend k | .gapWindowStart k _ | .gapLost k | .leaveDrainDone k => pairOk k
  | .join ini k | .leave ini k => iniOk ini && pairOk k
  | .issue ini _ | .tmoCfgWrite ini _ | .todCommit ini _ | .hostProbe ini _ _ | .approve ini _ | .decline ini _
  | .restoreRole ini _ | .readmitCmp ini _ | .moveLead ini _ | .failMod ini _ | .resetWear ini _ | .modeRequest ini _ => iniOk ini
  | .xactTimeout t | .busyResend t => decide (t < 64)
  | .ppsInEdge _ _ => true
  | .tmrCfgWrite ini n _ => iniOk ini && decide (n < 16)
  | .timerFire n => decide (n < 16)
  | .logClear ini m => iniOk ini && decide (m < 256)
  | .write _ a _ _ | .read _ a _ _ | .frameErr _ _ a _ _ | .regaccess _ a _ _ => addrOk a
  | .testInstructionLoad c => decide (c < 256)

end Sys2Proof
end

