-- ==== Sys2Proof/Tests/Slice0.lean ====
section
/-! SUPPORT. The model's own tests: ill-formed commands that WellFormed refuses, single commands on small states with results taken from the spec, and for every statement with hypotheses a state and operands that meet them. -/
set_option linter.unusedVariables false
open Sys2Proof Sys2Proof.Machine
namespace Sys2Proof.Tests
set_option Elab.async false

/-! ## WellFormed refuses -/

theorem test_wf_slot : Instr.wf (.cardSeated 128) = false ∧ Instr.wf (.cardSeated 127) = true := by decide
theorem test_wf_die : Instr.wf (.loopPeriod 8 []) = false ∧ Instr.wf (.loopPeriod 7 []) = true := by decide
theorem test_wf_port : Instr.wf (.linkAlign 4) = false ∧ Instr.wf (.linkAlign 3) = true := by decide
theorem test_wf_pair : Instr.wf (.gapSend 2) = false ∧ Instr.wf (.gapSend 1) = true := by decide
theorem test_wf_ctx : Instr.wf (.dacWrite 0 18) = false ∧ Instr.wf (.dacWrite 0 17) = true := by decide
theorem test_wf_page : Instr.wf (.autoRelock 0x180) = false ∧ Instr.wf (.autoRelock 0x17F) = true := by decide
theorem test_wf_addr : Instr.wf (.read false 0x1000000 1) = false ∧ Instr.wf (.read false 0xFFFFFF 1) = true := by decide
theorem test_wf_initiator : Instr.wf (.arm (.ring 0x4000)) = false ∧ Instr.wf (.arm (.ring 0x3FFF)) = true := by decide
theorem test_wf_copy : Instr.wf (.rawOutputRise 0 4) = false ∧ Instr.wf (.fastTrip 0 0) = false ∧ Instr.wf (.fastTrip 0 3) = true := by decide
theorem test_wf_samples : Instr.wf (.controlSample ⟨0, { raw := 0, ovl := false }, [{ slot := 16, i := { raw := 0, ovl := false }, v := { raw := 0, ovl := false } }]⟩) = false ∧
    Instr.wf (.controlSample ⟨0, { raw := 0, ovl := false }, [{ slot := 15, i := { raw := 0, ovl := false }, v := { raw := 0, ovl := false } }]⟩) = true := by decide
theorem test_wf_message : Instr.wf (.restrainReceive ⟨.restrain, 0, 0, 8, 0, 0, 0, 0⟩) = false ∧
    Instr.wf (.restrainReceive ⟨.restrain, 0, 0, 7, 0, 0, 255, 0⟩) = true := by decide
theorem test_wf_masks : Instr.wf (.bootRetry 256 true true) = false ∧ Instr.wf (.gratReadmit .qspi 0 512) = false ∧
    Instr.wf (.logClear .qspi 256) = false ∧ Instr.wf (.thermalShutdown 0 4) = false ∧ Instr.wf (.testInstructionLoad 256) = false := by decide
theorem test_wf_readings : Instr.wf (.thermalRestart 0 []) = false ∧ Instr.wf (.bootComplete 1 true true false [[]]) = false ∧
    Instr.wf (.warmReturn [[]] []) = false := by decide
theorem test_wf_indices : Instr.wf (.tocPtWrite .qspi 0 8 0) = false ∧ Instr.wf (.snapshotSaved 0 4) = false ∧ Instr.wf (.xactTimeout 64) = false ∧
    Instr.wf (.tmrCfgWrite .qspi 16 0) = false ∧ Instr.wf (.streamReceive 0 65536 []) = false ∧ Instr.wf (.entryStale 0 0 128) = false := by decide

/-- No row of the opcode table gives bits (decodeTableWord). -/
theorem test_no_word_spells_a_command : decodeTableWord 16 0x1234 = none ∧ State.reset.withFetchWord 16 0x1234 = State.reset := by decide +kernel

/-! ## States for the tests -/

/-- A state in RUN whose time lies on every grid of the block. -/
def tRun : State := { State.reset with now := 160 * SEC }
/-- The same with one slot. -/
def sl (n : Nat) (x : Slot) : State := tRun.setSlot n x
/-- The same with one die. -/
def dd (d : Nat) (x : Die) : State := tRun.setDie d x
/-- A state with the page that guards an address unlocked for the QSPI host. -/
def un (a : Nat) (s : State) : State := s.setPage (lockPage a) { lock := 2 }
/-- A slot of a level with the terraces enabled. -/
def terr (n : Nat) (x : Slot) (level : Nat) : State := ((sl n x).setRf (terrB + 8) 0 0 1).setRf (slotB n + 0x280) 2 0 level
/-- Every port UP. -/
def up : State := { tRun with ports := [{ link := 3 }, { link := 3 }, { link := 3 }, { link := 3 }] }

/-- The state after a command. -/
def after (c : Instr) (s : State) : State :=
  match exec c s with
  | .next t => t
  | _ => s

/-! ## Single commands -/

/-- R59: CRC-32C, whose check value over the characters 1 to 9 is 0xE3069283. -/
theorem test_crc32c : crc32c [0x31, 0x32, 0x33, 0x34, 0x35, 0x36, 0x37, 0x38, 0x39] = 0xE3069283 := by decide +kernel
/-- R414: CRC-16/CCITT, whose check value over the characters 1 to 9 is 0x29B1. -/
theorem test_crc16 : crc16 [0x31, 0x32, 0x33, 0x34, 0x35, 0x36, 0x37, 0x38, 0x39] = 0x29B1 := by decide +kernel
/-- R99: ENABLE on a slot in OFF. -/
theorem test_slot_enable : ((after (.slotEnable .qspi 127) tRun).slot 127).st = .empty := by decide +kernel
/-- R115: STOP in ON with the reset word of EWARN_LEAD lets PG fall and keeps ON. -/
theorem test_stop_in_on : ((after (.stop .qspi 0) (sl 0 { st := .on, pg := true })).slot 0).pg = false ∧
    ((after (.stop .qspi 0) (sl 0 { st := .on, pg := true })).slot 0).st = .on := by decide +kernel
/-- R42, R43: EVT_FORCE of two bits counts two. -/
theorem test_force_counts : ((after (.evtForce .qspi 4 3) tRun).page 4).count = 2 := by decide +kernel
/-- R45: the wrong second key locks the page again. -/
theorem test_wrong_key : ((after (.pageLockWrite .qspi 5 6 0) (tRun.setPage 5 { lock := 1, armAt := tRun.now })).page 5).lock = 0 := by decide +kernel
/-- R436: the key register of a warm reset is locked; without the unlock nothing happens but LOCK_VIOL. -/
theorem test_locked_reset : (after (.softwareWarmReset .qspi) tRun).pkg.phase = .run ∧
    bit ((after (.softwareWarmReset .qspi) tRun).page 5).evt 30 = true := by decide +kernel
/-- R142, R101: removing a card in ON. -/
theorem test_card_removal : ((after (.cardRemoval 127) (sl 127 { st := .on, pres := true, pg := true })).slot 127).st = .empty := by decide +kernel

/-- 02_pages_and_gazetteer.md, the example of R45: SLOT[37] is unlocked by 0xA5C3 and then 0x125. -/
theorem test_unlock_slot37 : ((after (.pageLockWrite .qspi 0x125 0x125 tRun.now) (after (.pageLockWrite .qspi 0x125 0xA5C3 tRun.now) tRun)).page 0x125).lock = 2 := by
  decide +kernel
/-- 05_trips_and_retries.md, the example of R140: RETRY_CFG 0x01F4_1312 gives cooldowns of 500, 1,000 and 2,000 ms. -/
theorem test_cooldowns : [1, 2, 3].map (fun c => ((sl 37 { retry := { cnt := c }, trip := { cause := 1 } }).setReg (slotB 37 + 0x1B4) 0x01F41312).coolTime 37) =
    [500 * MS, 1000 * MS, 2000 * MS] := by decide +kernel
/-- 11_ceane_ring.md, the examples of R346: TMO_FLOOR reads 59 on a ring of four parts and H = 8. -/
theorem test_tmo_floor : ({ tRun with pairAB := { size := 4 } }).tmoFloor 0 = 59 := by decide +kernel
/-- 11_ceane_ring.md, the example of R329: a delay of 49 ns gives the weight 2. -/
theorem test_link_weight : ({ tRun with ports := [{ delays := [49000] }] }).weight 0 = 2 := by decide +kernel
/-- 12_meridian_time.md, the example of R365: the four stamps give an offset of 127 ns and a delay of 8 ns. -/
theorem test_echo : ((after (.echoReceive 0 500000000 500000135 500001135 500001016 0 1 0 true []) (up.modPort 0 (fun x => { x with probeT1 := some 500000000 }))).port 0).theta = 127000 ∧
    ((after (.echoReceive 0 500000000 500000135 500001135 500001016 0 1 0 true []) (up.modPort 0 (fun x => { x with probeT1 := some 500000000 }))).port 0).delays = [8000] := by
  decide +kernel
/-- 14_config_store_log.md, the example of R401: record 0x123 of die 2 lies at 0x50_3460. -/
theorem test_record_address : feramB 2 + logBase 2 + 0x123 * 32 = 0x503460 := by decide

/-- 16_pins_host_electrical.md, the example of R455: slot 37 of a KQ8128 has its SENSP at ball (34, 1). -/
theorem test_slot_ball : slotBall .kq8128 37 0 0 = (34, 1) := by decide +kernel
/-- 16_pins_host_electrical.md, the example of R456: on the KQ2032 the first core ball is (4, 16), and TRST_N falls at (5, 16). -/
theorem test_core_ball : (coreBalls .kq2032).head? = some (4, 16) ∧
    ((coreBalls .kq2032).findIdx? (· == (5, 16))).map (corePin .kq2032) = some "TRST_N" := by decide +kernel
/-- 16_pins_host_electrical.md, the example of R462: a quad READ of two words takes 32 clocks. -/
theorem test_frame_clocks : frameClocks true 2 2 = 32 := by decide
/-- R459, R460: in quad width the nibbles 0 2 0 0 0 1 4 0 begin a WRITE at 0x000140; the word after them is 0xA5C30125. -/
theorem test_quad_write_frame : ({ sclk := false, width := 2, clocks := [0, 2, 0, 0, 0, 1, 4, 0, 0xA, 5, 0xC, 3, 0, 1, 2, 5] } : QFrame).row =
    some (.write false 0x140 [0xA5C30125]) := by decide +kernel
/-- R460: eight clocks with every line high are WIDTH_RESET in every width. -/
theorem test_width_reset_frame : [0, 1, 2].map (fun w => ({ sclk := true, width := w, clocks := List.replicate 8 15 } : QFrame).row) =
    List.replicate 3 (some (.widthReset true)) := by decide +kernel
/-- R461: a frame that ends inside a word is FRAME_ERR. -/
theorem test_incomplete_frame : ({ sclk := false, width := 2, clocks := [0, 2, 0, 0, 0, 1, 4, 0, 0xA] } : QFrame).row =
    some (.frameErr false true 0x140 []) := by decide +kernel
/-- R465: bits [11:1] of IDCODE are 0x2D6 and bit 0 is 1. -/
theorem test_idcode : idcode 5 .kq8128 % 0x1000 = 0x5AD ∧ idcode 5 .kq8128 / 0x10000000 = 5 := by decide
/-- R318: K28.5 from negative running disparity is 001111 1010, and from positive its complement. -/
theorem test_comma : encChr false (.ctl 0xBC) = some (0b0011111010, true) ∧ encChr true (.ctl 0xBC) = some (0b1100000101, false) := by decide +kernel
/-- R326: the link word of ACK 5 is K23.7, 0x10, 5 and the inverse of their XOR; a check byte that differs makes it no link word. -/
theorem test_link_word : (lineOf [.ctl 0xF7, .data 0x10, .data 5, .data 0xEA]).word = some (.ack 5) ∧
    (lineOf [.ctl 0xF7, .data 0x10, .data 5, .data 0xEB]).word = none := by decide +kernel
/-- R323, R325: an urgent frame reads back; one sent with UCHK inverted is not intact. -/
theorem test_urgent_line : (lineOf (Msg.chars ⟨.restrain, 5, 9, 3, 642, 127, 7, 2⟩ false)).urgent = some (⟨.restrain, 5, 9, 3, 642, 127, 7, 2⟩, true) ∧
    (lineOf (Msg.chars ⟨.restrain, 5, 9, 3, 642, 127, 7, 2⟩ true)).urgent = some (⟨.restrain, 5, 9, 3, 642, 127, 7, 2⟩, false) := by decide +kernel
/-- R320: the header of a READ of system address 642 at 0x4000 begins with TYPE 1 in bits 7 to 4, LSEQ and DEST, and the frame reads back. -/
theorem test_frame_line : (Frame.header { ftype := .read, lseq := 9, dest := 642, src := 5, addr := 0x4000, len := 4 }).take 4 = [0x10, 9, 0x82, 0x02] ∧
    (lineOf (Frame.chars { ftype := .read, lseq := 9, dest := 642, src := 5, addr := 0x4000, len := 4 } false)).frame =
      { f := some { ftype := .read, lseq := 9, dest := 642, src := 5, addr := 0x4000, len := 4 }, ok := true } := by decide +kernel
/-- R177: TFET_MAX takes 150 °C. -/
theorem test_tfet_max : ((after (.registerWrite .qspi (slotB 0 + 0x208) 0x00009600) (un (slotB 0) tRun)).rf (slotB 0 + 0x208) 15 8) = 150 := by decide +kernel

/-! ## Every statement's hypotheses can be met -/

theorem test_meets_StepKeepsMemoriesCanonical : ∃ s t : State, s.memOk ∧ step s = .next t :=
  ⟨tRun, _, ⟨rfl, rfl, rfl, rfl⟩, rfl⟩
theorem test_meets_StepKeepsPackageTables : ∃ s t : State, s.tablesOk ∧ step s = .next t :=
  ⟨tRun, _, ⟨rfl, rfl, rfl⟩, rfl⟩
theorem test_meets_StepKeepsDieTables : ∃ s t : State, s.dieTablesOk ∧ step s = .next t :=
  ⟨{ tRun with dies := [] }, _, fun _ => ⟨rfl, rfl⟩, rfl⟩
theorem test_meets_StepKeepsNurseryQueueBounded : ∃ s t : State, s.nursOk ∧ step s = .next t :=
  ⟨tRun, _, ⟨by decide, by decide⟩, rfl⟩
theorem test_meets_FeramWrittenByItsCommandsOnly : ∃ (c : Instr) (s t : State), writesFeram c = false ∧ exec c s = .next t :=
  ⟨.offNRise, tRun, _, rfl, rfl⟩

theorem test_meets_StepRunsFrontCommand :
    ∃ (c : Instr) (r : List Instr) (s : State), (s.pending = c :: r) :=
  ⟨Instr.offNRise, [.supplyLoss], { tRun with pending := [.offNRise, .supplyLoss] }, by decide +kernel⟩

theorem test_meets_EmptyQueueIdlesOneCycle :
    (∃ (s : State), (s.pending = [])) ∧
    (∃ (s : State), (s.pending = []) ∧ (s.later = []) ∧ (s.timedSlots = []) ∧ (∀ i, i < 4 → s.pumpDue i = false)) :=
  ⟨⟨{ tRun with later := [.offNRise] }, by decide +kernel⟩,
    ⟨State.reset, by decide +kernel⟩⟩

theorem test_meets_SupplyLossAndPowerOnDelay :
    (∃ (s : State), (s.pkg.phase ≠ .powerOff)) ∧
    (∃ (s : State), (s.pkg.phase = .powerOff ∨ s.pkg.phase = .por) ∧ (s.pkg.since + MS ≤ s.now)) :=
  ⟨⟨sl 127 { st := .on }, by decide +kernel⟩,
    ⟨{ tRun with pkg := { tRun.pkg with phase := .por, since := tRun.now - MS } }, by decide +kernel⟩⟩

theorem test_meets_WarmResetSources :
    (∃ (s : State), (s.pkg.phase = .run) ∧ (s.pkg.rstLow = false)) ∧
    (∃ (ini : Ini) (s : State), (s.takesLocked ini (modeB + 0x50) = true)) ∧
    (∃ (s : State), (s.runs s.pkg.lead = true)) :=
  ⟨⟨tRun, by decide +kernel⟩,
    ⟨.qspi, un (modeB + 0x50) tRun, by decide +kernel⟩,
    ⟨tRun, by decide +kernel⟩⟩

theorem test_meets_WarmResetHoldsLiveSlots :
    ∃ (s : State) (n : Nat), (s.pkg.phase = .run) ∧ (s.pkg.rstLow = false) ∧ (s.fitted (dieOf n) = true) ∧ ((s.die (dieOf n)).mode ≠ .thermal) :=
  ⟨sl 127 { st := .on, pg := true, pres := true }, 127, by decide +kernel⟩

theorem test_meets_BootAndReturnReachRun :
    (∃ (s : State), (s.pkg.rstLow = true)) ∧
    (∃ (dies : Nat) (a : Bool) (b : Bool) (s : State), (s.pkg.phase = .boot) ∧ (s.pkg.retAt + 10 * MS ≤ s.now) ∧ (s.bootable dies a b = false)) ∧
    (∃ (dies : Nat) (a : Bool) (b : Bool) (strap : Bool) (grat : List (List Nat)) (s : State), (s.pkg.phase = .boot) ∧ (s.bootable dies a b = true)) ∧
    (∃ (grat : List (List Nat)) (ad : List AdoptIn) (s : State), (s.pkg.phase = .warm) ∧ (s.pkg.rstLow = false) ∧ (s.present 0 = true ∨ s.present 1 = true)) :=
  ⟨⟨{ tRun with pkg := { tRun.pkg with phase := .boot, rstLow := true } }, by decide +kernel⟩,
    ⟨0, true, true, { tRun with pkg := { tRun.pkg with phase := .boot, retAt := tRun.now - 10 * MS } }, by decide +kernel⟩,
    ⟨2, true, false, false, [], { tRun with pkg := { tRun.pkg with phase := .boot } }, by decide +kernel⟩,
    ⟨[], [], { tRun with pkg := { tRun.pkg with phase := .warm } }, by decide +kernel⟩⟩

theorem test_meets_DieFaultShutdownAndReturn :
    (∃ (d : Nat) (s : State), (s.runs d = true)) ∧
    (∃ (d : Nat) (s : State), (s.runs d = true) ∧ (d ≠ s.pkg.lead)) ∧
    (∃ (d : Nat) (sensors : Nat) (s : State), (s.pkg.phase = .run ∨ s.pkg.phase = .warm) ∧ (s.fitted d = true) ∧ ((s.die d).mode ≠ .thermal)) ∧
    (∃ (d : Nat) (ad : List AdoptIn) (s : State), (s.inRun = true) ∧ (s.fitted d = true) ∧ (s.present d = false) ∧ ((s.die d).mode = .fault) ∧ ((s.die d).faultAt + 100 * MS * ((s.die d).attempts + 1) ≤ s.now) ∧ (s.runs s.pkg.lead = true ∨ d < 2)) ∧
    (∃ (d : Nat) (ad : List AdoptIn) (s : State), (s.pkg.phase = .warm) ∧ (s.fitted d = true) ∧ (s.present d = false) ∧ ((s.die d).mode = .fault) ∧ ((s.die d).faultAt + 100 * MS * ((s.die d).attempts + 1) ≤ s.now) ∧ (s.present s.pkg.lead = true ∨ d < 2)) ∧
    (∃ (d : Nat) (grat : List Nat) (s : State), (s.pkg.phase = .run ∨ s.pkg.phase = .warm) ∧ (s.fitted d = true) ∧ ((s.die d).mode = .thermal)) :=
  ⟨⟨7, tRun, by decide +kernel⟩,
    ⟨1, tRun, by decide +kernel⟩,
    ⟨7, 3, sl 127 { st := .on }, by decide +kernel⟩,
    ⟨1, [], dd 1 { mode := .fault, present := false, faultAt := tRun.now - 100 * MS }, by decide +kernel⟩,
    ⟨7, [], { dd 7 { mode := .fault, present := false, faultAt := tRun.now - 100 * MS } with pkg := { tRun.pkg with phase := .warm } }, by decide +kernel⟩,
    ⟨7, [], dd 7 { mode := .thermal, present := false }, by decide +kernel⟩⟩

theorem test_meets_OffPinTripsEverySlot :
    (∃ (s : State), (s.pkg.phase ≠ .powerOff) ∧ (s.pkg.offLow = false)) ∧
    (∃ (s : State), (s.pkg.offLow = true)) :=
  ⟨⟨sl 127 { st := .on }, by decide +kernel⟩,
    ⟨{ tRun with pkg := { tRun.pkg with offLow := true } }, by decide +kernel⟩⟩

theorem test_meets_ReferenceClocks :
    (∃ (s : State), (s.refLive = true) ∧ (s.pkg.refA = true)) ∧
    (∃ (s : State), (s.refLive = true) ∧ (s.pkg.refB = true)) ∧
    (∃ (s : State), (s.refLive = true) ∧ (s.pkg.refA = false)) ∧
    (∃ (s : State), (s.refLive = true) ∧ (s.pkg.refB = false)) ∧
    (∃ (ini : Ini) (s : State), (s.takes ini (clkB + 0x44) = true) ∧ (s.pkg.refA = true)) ∧
    (∃ (ini : Ini) (s : State), (s.takes ini (clkB + 0x44) = true) ∧ (s.pkg.refA = false)) :=
  ⟨⟨tRun, by decide +kernel⟩,
    ⟨{ tRun with pkg := { tRun.pkg with refUse := true } }, by decide +kernel⟩,
    ⟨{ tRun with pkg := { tRun.pkg with refA := false, refUse := true } }, by decide +kernel⟩,
    ⟨{ tRun with pkg := { tRun.pkg with refB := false } }, by decide +kernel⟩,
    ⟨.ring 5, { tRun with pkg := { tRun.pkg with refUse := true } }, by decide +kernel⟩,
    ⟨.qspi, { tRun with pkg := { tRun.pkg with refA := false, refUse := true } }, by decide +kernel⟩⟩

theorem test_meets_PageLockAndSoftReset :
    (∃ (ini : Ini) (p : Nat) (start : Nat) (l : Loc) (s : State), (locate (4096 * p + 0x20) = some l) ∧ (l.blk.lockable = true) ∧ (l.off = 0x20) ∧ (s.takes ini (4096 * p + 0x20) = true) ∧ ((s.page l.page).lock = 0)) ∧
    (∃ (ini : Ini) (p : Nat) (start : Nat) (v : Word) (l : Loc) (s : State), (locate (4096 * p + 0x20) = some l) ∧ (l.blk.lockable = true) ∧ (l.off = 0x20) ∧ (s.takes ini (4096 * p + 0x20) = true) ∧ ((s.page l.page).lock = 1)) ∧
    (∃ (p : Nat) (s : State), ((s.page p).lock = 2) ∧ ((s.page p).lastWr + 10 * MS ≤ s.now)) ∧
    (∃ (ini : Ini) (p : Nat) (l : Loc) (s : State), (locate (4096 * p + 8) = some l) ∧ (l.blk.header = true) ∧ (l.off = 8) ∧ (s.takes ini (4096 * p + 8) = true)) ∧
    (∃ (ini : Ini) (p : Nat) (l : Loc) (s : State), (locate (4096 * p + 8) = some l) ∧ (l.blk.header = true) ∧ (l.off = 8) ∧ (s.takes ini (4096 * p + 8) = true) ∧ (s.softBar l = false)) ∧
    (∃ (p : Nat) (s : State), ((s.page p).soft.isSome = true)) :=
  ⟨⟨.ring 16383, 0x17F, 0, ⟨.slot, 127, 0x20⟩, tRun, by decide +kernel⟩,
    ⟨.qspi, 0x17F, 256, 0x17F, ⟨.slot, 127, 0x20⟩, tRun.setPage 0x17F { lock := 1, armAt := 0 }, by decide +kernel⟩,
    ⟨5, tRun.setPage 5 { lock := 2, lastWr := tRun.now - 10 * MS }, by decide +kernel⟩,
    ⟨.qspi, 5, ⟨.mode, 0, 8⟩, tRun.setPage 5 { lock := 2 }, by decide +kernel⟩,
    ⟨.qspi, 0xC, ⟨.terr, 0, 8⟩, tRun, by decide +kernel⟩,
    ⟨5, tRun.setPage 5 { soft := some 0 }, by decide +kernel⟩⟩

theorem test_meets_EventRegisters :
    (∃ (ini : Ini) (p : Nat) (mask : Word) (hw : Word) (l : Loc) (s : State), (l.blk.header = true) ∧ (l.blk ≠ .die) ∧ (l.blk ≠ .mode) ∧ ((s.page l.page).lock ≠ 1) ∧ (locate (4096 * p + 0x10) = some l) ∧ (l.off = 0x10) ∧ (s.takes ini (4096 * p + 0x10) = true)) ∧
    (∃ (ini : Ini) (p : Nat) (mask : Word) (hw : Word) (l : Loc) (s : State), (l.blk.header = true) ∧ (l.blk ≠ .die) ∧ (l.blk ≠ .mode) ∧ ((s.page l.page).lock ≠ 1) ∧ (locate (4096 * p + 0x18) = some l) ∧ (l.off = 0x18) ∧ (s.takes ini (4096 * p + 0x18) = true)) ∧
    (∃ (ini : Ini) (p : Nat) (mask : Word) (hw : Word) (l : Loc) (s : State), (l.blk.header = true) ∧ (l.blk ≠ .die) ∧ (l.blk ≠ .mode) ∧ ((s.page l.page).lock ≠ 1) ∧ (locate (4096 * p + 0x1C) = some l) ∧ (l.off = 0x1C) ∧ (s.takes ini (4096 * p + 0x1C) = true)) :=
  ⟨⟨.qspi, 4, 0xFFFFFFFF, 1, ⟨.pkg, 0, 0x10⟩, tRun, by decide +kernel⟩,
    ⟨.qspi, 0x17F, 0xFFFFFFFF, 0, ⟨.slot, 127, 0x18⟩, tRun, by decide +kernel⟩,
    ⟨.qspi, 0x30, 0, 3, ⟨.queue, 0, 0x1C⟩, tRun, by decide +kernel⟩⟩

theorem test_meets_RegisterWriteMergesFields :
    (∃ (ini : Ini) (a : Nat) (v : Word) (l : Loc) (r : Row) (s : State), (locate (a / 4 * 4) = some l) ∧ (l.blk = .pkg) ∧ (0x40 ≤ l.off) ∧ (rowAt l = some r) ∧ (r.acc = .rw) ∧ (s.takes ini (a / 4 * 4) = true) ∧ (lockedFor l r v = false ∨ s.unlockedFor ini l.page = true)) ∧
    (∃ (ini : Ini) (a : Nat) (v : Word) (late : Late) (u : State) (s : State), (u = s.modPkg (fun p => { p with late := late })) ∧ (s.serving = true) ∧ (xactBarred ini (a / 4 * 4) = false) ∧ (u.refusal (a / 4 * 4) ≠ 0) ∧ (u.lateTook (a / 4 * 4) = false)) :=
  ⟨⟨.qspi, 0x409F, 15, ⟨.pkg, 0, 0x9C⟩, rw 0x9C 0 [f 3 0], tRun, by decide +kernel⟩,
    ⟨.qspi, 0xFFFFFF, 15, [], tRun, tRun, by decide +kernel⟩⟩

theorem test_meets_WideWordsAndShadows :
    (∃ (ini : Ini) (n : Nat) (s : State), (n < 128) ∧ (s.serving = true) ∧ (s.refusal (slotB n + 0x80) = 0)) ∧
    (∃ (ini : Ini) (a : Nat) (l : Loc) (r : Row) (s : State), (a % 4 = 0) ∧ (locate a = some l) ∧ (l.blk.header = true) ∧ (rowAt l = some r) ∧ (r.acc = .rs) ∧ (s.serving = true) ∧ (s.refusal a = 0)) ∧
    (∃ (ini : Ini) (v : Word) (s : State), (s.takes ini (merB + 0x80) = true)) ∧
    (∃ (ini : Ini) (v : Word) (s : State), (s.takes ini (merB + 0x84) = true)) ∧
    (∃ (ini : Ini) (v : Word) (s : State), (s.takes ini (merB + 0x84) = true)) :=
  ⟨⟨.ring 7, 127, tRun, by decide +kernel⟩,
    ⟨.qspi, 0x4048, ⟨.pkg, 0, 0x48⟩, rs 0x48, tRun, by decide +kernel⟩,
    ⟨.qspi, 0xFFFFFFFF, tRun, by decide +kernel⟩,
    ⟨.qspi, 0xFFFFFFFF, tRun, by decide +kernel⟩,
    ⟨.ring 1, 1, tRun, by decide +kernel⟩⟩

theorem test_meets_ChargePumps :
    (∃ (d : Nat) (s : State), (s.runs d = true) ∧ ((s.die d).pow.stopped = false) ∧ ((s.die d).pow.pumpFailed = 0)) ∧
    (∃ (d : Nat) (s : State), (s.runs d = true) ∧ ((s.die d).pow.stopped = false) ∧ ((s.die d).pow.pumpRun < 2) ∧ ((s.die d).pow.pumpFailed = 2 ^ (1 - (s.die d).pow.pumpRun))) ∧
    (∃ (d : Nat) (s : State), (s.runs d = false ∨ (s.die d).pow.stopped = true ∨ (s.die d).pow.pumpFailed = 3)) ∧
    (∃ (d : Nat) (s : State), (s.runs d = false ∨ (s.die d).pow.stopped = true ∨ (s.die d).pow.pumpFailed = 3)) ∧
    (∃ (d : Nat) (s : State), (s.runs d = true) ∧ ((s.die d).pow.stopped = false) ∧ ((s.die d).pow.pumpFailed ≠ 3)) ∧
    (∃ (d : Nat) (fell : Bool) (s : State), (s.runs d = true) ∧ (s.rf (modeB + 0x48) 4 4 = 1) ∧ (s.anySlot d (fun x => x.st == .charging || (x.st == .seated && x.step == 3)) = false) ∧ ((s.die d).pow.waits = false) ∧ ((s.die d).pow.pumpFailed = 0) ∧ ((s.die d).pow.exAt + 60 * SEC ≤ s.now)) :=
  ⟨⟨7, tRun, by decide +kernel⟩,
    ⟨7, dd 7 { pow := { pumpRun := 1, pumpFailed := 1 } }, by decide +kernel⟩,
    ⟨7, dd 7 { pow := { stopped := true } }, by decide +kernel⟩,
    ⟨7, dd 7 { pow := { pumpFailed := 3 } }, by decide +kernel⟩,
    ⟨0, dd 0 { pow := { restarting := true, vcpLow := true } }, by decide +kernel⟩,
    ⟨0, true, tRun.setRf (modeB + 0x48) 4 4 1, by decide +kernel⟩⟩

theorem test_meets_ComparatorsAndTrips :
    (∃ (n : Nat) (c : Nat) (s : State), (s.cmpLive n = true) ∧ (nbit (s.slot n).raw c = false)) ∧
    (∃ (n : Nat) (c : Nat) (lone : Bool) (s : State), (s.cmpLive n = true)) ∧
    (∃ (n : Nat) (s : State), (s.cmpLive n = true) ∧ (s.gateUp n = true) ∧ ((s.slot n).st ≠ .holdthru) ∧ (s.excl n = 0) ∧ ((s.slot n).deg = 0) ∧ ((s.slot n).winF = none) ∧ (s.ripe n false 3 = 3) ∧ (s.outranked n 2 = false) ∧ (s.level n = 0)) ∧
    (∃ (n : Nat) (s : State), (s.cmpLive n = true) ∧ (s.gateUp n = true) ∧ ((s.slot n).st ≠ .holdthru) ∧ (s.excl n = 0) ∧ ((s.slot n).deg = 0) ∧ ((s.slot n).winI = none) ∧ (s.ripe n true 3 = 3) ∧ (s.outranked n 1 = false)) ∧
    (∃ (n : Nat) (inst : Bool) (w : Win) (s : State), ((s.slot n).win inst = some w) ∧ (w.winEnd ≠ 0) ∧ (w.winEnd ≤ s.now)) :=
  ⟨⟨127, 3, sl 127 { st := .on }, by decide +kernel⟩,
    ⟨127, 0, true, sl 127 { st := .on, raw := 1 }, by decide +kernel⟩,
    ⟨127, sl 127 { st := .on, raw := 3, rawAt := [0, 0, 0, 0] }, by decide +kernel⟩,
    ⟨0, sl 0 { st := .charging, raw := 12, rawAt := [0, 0, 0, 0] }, by decide +kernel⟩,
    ⟨0, true, ⟨1, 10⟩, sl 0 { st := .on, winI := some ⟨1, 10⟩ }, by decide +kernel⟩⟩

theorem test_meets_AnalogLimitAndFaultTimer :
    (∃ (n : Nat) (s : State), ((s.slot n).limit = false) ∧ (s.limitUp n = true) ∧ ((s.slot n).revBlock = false)) ∧
    (∃ (n : Nat) (s : State), ((s.slot n).limit = true)) ∧
    (∃ (n : Nat) (a : Nat) (s : State), ((s.slot n).limOffAt = some a) ∧ ((s.slot n).faultAt.isSome = true) ∧ ((s.slot n).limit = false) ∧ (a + 10 * US ≤ s.now)) ∧
    (∃ (n : Nat) (s : State), (s.limitDue n = true) ∧ (s.gateUp n = true) ∧ ((s.slot n).st ≠ .holdthru) ∧ (s.outranked n 4 = false)) :=
  ⟨⟨127, sl 127 { st := .on }, by decide +kernel⟩,
    ⟨0, sl 0 { st := .on, limit := true }, by decide +kernel⟩,
    ⟨0, tRun.now - 10 * US, sl 0 { st := .on, limOffAt := some (tRun.now - 10 * US), faultAt := some 0 }, by decide +kernel⟩,
    ⟨0, sl 0 { st := .on, limit := true, faultAt := some 0 }, by decide +kernel⟩⟩

theorem test_meets_ReverseBlockAndPulldowns :
    (∃ (n : Nat) (s : State), (s.gateUp n = true) ∧ ((s.slot n).revBlock = false) ∧ (s.sf n 0x100 1 1 = 1)) ∧
    (∃ (n : Nat) (s : State), (s.gateUp n = false ∨ (s.slot n).revBlock = true ∨ s.sf n 0x100 1 1 ≠ 1)) ∧
    (∃ (n : Nat) (s : State), ((s.slot n).revBlock = true) ∧ ((s.slot n).revAt + 50 * US ≤ s.now) ∧ ((s.slot n).st = .holdthru ∨ (s.gateUp n = true ∧ s.offN = false ∧ s.inOr n (s.slot n).deg = 0))) ∧
    (∃ (n : Nat) (s : State), ((s.slot n).revBlock = true) ∧ ((s.slot n).revAt + 50 * US ≤ s.now) ∧ ((s.slot n).st ≠ .holdthru) ∧ (s.gateUp n = true) ∧ (s.offN = true)) ∧
    (∃ (n : Nat) (s : State), ((s.slot n).revBlock = true) ∧ ((s.slot n).revAt + 50 * US ≤ s.now) ∧ ((s.slot n).st ≠ .holdthru) ∧ (s.gateUp n = false)) ∧
    (∃ (n : Nat) (s : State), ((s.slot n).revBlock = true) ∧ (s.now < (s.slot n).revAt + 50 * US)) ∧
    (∃ (n : Nat) (s : State), (s.pkg.phase ≠ .powerOff) ∧ ((s.slot n).gA.mayRelease s.now = true)) ∧
    (∃ (n : Nat) (s : State), (s.pkg.phase ≠ .powerOff) ∧ ((s.slot n).gB.mayRelease s.now = true)) ∧
    (∃ (n : Nat) (s : State), (s.pkg.phase ≠ .powerOff)) ∧
    (∃ (n : Nat) (s : State), (s.pkg.phase ≠ .powerOff)) ∧
    (∃ (n : Nat) (s : State), (s.pkg.phase ≠ .powerOff)) ∧
    (∃ (n : Nat) (s : State), (s.pkg.phase ≠ .powerOff)) :=
  ⟨⟨0, (sl 0 { st := .on }).setRf (slotB 0 + 0x100) 1 1 1, by decide +kernel⟩,
    ⟨0, sl 0 { st := .off }, by decide +kernel⟩,
    ⟨0, (sl 0 { st := .on, revBlock := true, revAt := tRun.now - 50 * US }), by decide +kernel⟩,
    ⟨0, { (sl 0 { st := .on, revBlock := true, revAt := tRun.now - 50 * US }) with pkg := { tRun.pkg with offLow := true } }, by decide +kernel⟩,
    ⟨0, sl 0 { st := .tripped, revBlock := true }, by decide +kernel⟩,
    ⟨0, sl 0 { st := .on, revBlock := true, revAt := tRun.now - 50 * US + 1 }, by decide +kernel⟩,
    ⟨127, sl 127 { gA := { path := .hard, pullAt := tRun.now - US } }, by decide +kernel⟩,
    ⟨127, sl 127 { gB := { path := .soft, lowAt := tRun.now - US } }, by decide +kernel⟩,
    ⟨0, tRun, by decide +kernel⟩,
    ⟨0, tRun, by decide +kernel⟩,
    ⟨0, tRun, by decide +kernel⟩,
    ⟨0, tRun, by decide +kernel⟩⟩

theorem test_meets_SlotEnableDisableAndStop :
    (∃ (ini : Ini) (n : Nat) (s : State), (s.takes ini (slotB n + 8) = true) ∧ ((s.slot n).st = .off)) ∧
    (∃ (ini : Ini) (n : Nat) (s : State), (s.takes ini (slotB n + 8) = true) ∧ ((s.slot n).st ≠ .off)) ∧
    (∃ (ini : Ini) (n : Nat) (s : State), (s.takes ini (slotB n + 8) = true) ∧ (s.outranked n rankOff = false) ∧ ((s.slot n).st ≠ .off)) ∧
    (∃ (ini : Ini) (n : Nat) (s : State), (s.takes ini (slotB n + 8) = true) ∧ (s.outranked n rankOff = false) ∧ ((s.slot n).st = .off)) ∧
    (∃ (ini : Ini) (n : Nat) (s : State), (s.takes ini (slotCmd n) = true) ∧ ((s.slot n).st = .on) ∧ ((s.slot n).offPend = none)) ∧
    (∃ (ini : Ini) (n : Nat) (s : State), (s.takes ini (slotCmd n) = true) ∧ ((s.slot n).st = .on) ∧ ((s.slot n).offPend ≠ none)) ∧
    (∃ (ini : Ini) (n : Nat) (s : State), (s.takes ini (slotCmd n) = true) ∧ ((s.slot n).st = .seated ∨ (s.slot n).st = .waiting ∨ (s.slot n).st = .charging) ∧ (s.outranked n rankOther = false)) ∧
    (∃ (ini : Ini) (n : Nat) (s : State), (s.takes ini (slotCmd n) = true) ∧ ((s.slot n).st ≠ .on) ∧ ((s.slot n).st ≠ .seated) ∧ ((s.slot n).st ≠ .waiting) ∧ ((s.slot n).st ≠ .charging)) ∧
    (∃ (ini : Ini) (n : Nat) (s : State), (s.takes ini (slotCmd n) = true) ∧ ((s.slot n).st ≠ .off) ∧ (s.outranked n rankOff = false)) ∧
    (∃ (ini : Ini) (n : Nat) (s : State), (s.takes ini (slotCmd n) = true) ∧ ((s.slot n).st = .off)) ∧
    (∃ (n : Nat) (a : Nat) (s : State), ((s.slot n).offPend = some a) ∧ (s.runs (dieOf n) = true) ∧ ((s.slot n).st = .on) ∧ (a ≤ s.now) ∧ (s.outranked n rankOther = false)) :=
  ⟨⟨.qspi, 127, tRun, by decide +kernel⟩,
    ⟨.qspi, 127, sl 127 { st := .on }, by decide +kernel⟩,
    ⟨.qspi, 127, sl 127 { st := .on, pg := true }, by decide +kernel⟩,
    ⟨.qspi, 0, tRun, by decide +kernel⟩,
    ⟨.qspi, 127, sl 127 { st := .on, pg := true }, by decide +kernel⟩,
    ⟨.qspi, 0, sl 0 { st := .on, offPend := some (tRun.now + 5) }, by decide +kernel⟩,
    ⟨.ring 5, 0, sl 0 { st := .charging }, by decide +kernel⟩,
    ⟨.qspi, 0, sl 0 { st := .tripped }, by decide +kernel⟩,
    ⟨.qspi, 0, sl 0 { st := .tripped }, by decide +kernel⟩,
    ⟨.qspi, 0, tRun, by decide +kernel⟩,
    ⟨0, tRun.now, sl 0 { st := .on, offPend := some tRun.now }, by decide +kernel⟩⟩

theorem test_meets_SlotCommands :
    (∃ (ini : Ini) (n : Nat) (s : State), (s.takes ini (slotCmd n) = true) ∧ ((s.slot n).st = .seated ∨ (s.slot n).st = .waiting)) ∧
    (∃ (ini : Ini) (n : Nat) (s : State), (s.takes ini (slotCmd n) = true) ∧ ((s.slot n).st ≠ .seated) ∧ ((s.slot n).st ≠ .waiting)) ∧
    (∃ (ini : Ini) (n : Nat) (s : State), (s.takes ini (slotCmd n) = true) ∧ (s.gateUp n = true) ∧ (s.outranked n 7 = false)) ∧
    (∃ (ini : Ini) (n : Nat) (s : State), (s.takes ini (slotCmd n) = true) ∧ (s.gateUp n = false) ∧ ((s.slot n).st = .tripped)) ∧
    (∃ (ini : Ini) (n : Nat) (s : State), (s.takes ini (slotCmd n) = true) ∧ (s.gateUp n = false) ∧ ((s.slot n).st = .cooldown)) ∧
    (∃ (ini : Ini) (n : Nat) (s : State), (s.takes ini (slotCmd n) = true) ∧ (s.gateUp n = false) ∧ ((s.slot n).st ≠ .tripped) ∧ ((s.slot n).st ≠ .cooldown)) ∧
    (∃ (ini : Ini) (n : Nat) (s : State), (s.takes ini (slotCmd n) = true) ∧ (s.outranked n rankOther = false) ∧ ((s.slot n).st = .latched)) ∧
    (∃ (ini : Ini) (n : Nat) (s : State), (s.takes ini (slotCmd n) = true) ∧ (s.outranked n rankOther = false) ∧ ((s.slot n).st = .cooldown)) ∧
    (∃ (ini : Ini) (n : Nat) (s : State), (s.takes ini (slotCmd n) = true) ∧ (s.outranked n rankOther = false) ∧ ((s.slot n).st = .lockout) ∧ ((s.slot n).presN = false)) ∧
    (∃ (ini : Ini) (n : Nat) (s : State), (s.takes ini (slotCmd n) = true) ∧ (s.outranked n rankOther = false) ∧ ((s.slot n).st = .lockout) ∧ ((s.slot n).presN = true) ∧ ((s.slot n).trip.removed = true ∨ ((s.slot n).held ≠ .waiting ∧ (s.slot n).held ≠ .charging ∧ (s.slot n).held ≠ .on))) ∧
    (∃ (ini : Ini) (n : Nat) (s : State), (s.takes ini (slotCmd n) = true) ∧ (s.outranked n rankOther = false) ∧ ((s.slot n).st = .lockout) ∧ ((s.slot n).presN = true) ∧ ((s.slot n).trip.removed = false) ∧ ((s.slot n).held = .waiting ∨ (s.slot n).held = .charging ∨ (s.slot n).held = .on) ∧ (s.backup n = false ∨ (s.offN = false ∧ s.inOr n (s.slot n).deg = 0))) ∧
    (∃ (ini : Ini) (n : Nat) (s : State), (s.takes ini (slotCmd n) = true) ∧ ((s.slot n).st ≠ .latched) ∧ ((s.slot n).st ≠ .cooldown) ∧ ((s.slot n).st ≠ .lockout)) ∧
    (∃ (ini : Ini) (n : Nat) (s : State), (s.takes ini (slotCmd n) = true)) :=
  ⟨⟨.qspi, 0, sl 0 { st := .waiting }, by decide +kernel⟩,
    ⟨.qspi, 127, sl 127 { st := .on }, by decide +kernel⟩,
    ⟨.qspi, 127, sl 127 { st := .on }, by decide +kernel⟩,
    ⟨.qspi, 0, sl 0 { st := .tripped }, by decide +kernel⟩,
    ⟨.qspi, 0, sl 0 { st := .cooldown }, by decide +kernel⟩,
    ⟨.qspi, 0, sl 0 { st := .latched }, by decide +kernel⟩,
    ⟨.qspi, 127, sl 127 { st := .latched, retry := { cnt := 16 } }, by decide +kernel⟩,
    ⟨.qspi, 127, sl 127 { st := .cooldown, pres := true, presN := true, retry := { cnt := 3, cool := some 0 } }, by decide +kernel⟩,
    ⟨.qspi, 0, sl 0 { st := .lockout, held := .on, presN := false, pres := false, trip := { removed := true } }, by decide +kernel⟩,
    ⟨.qspi, 0, sl 0 { st := .lockout, held := .seated, presN := true, pres := true, trip := { removed := false } }, by decide +kernel⟩,
    ⟨.qspi, 0, (sl 0 { st := .lockout, held := .on, presN := true, pres := true, trip := { removed := false } }).setRf (slotB 0 + 0x100) 0 0 0, by decide +kernel⟩,
    ⟨.qspi, 0, tRun, by decide +kernel⟩,
    ⟨.qspi, 0, sl 0 { retry := { cnt := 16, remember := some 5 } }, by decide +kernel⟩⟩

theorem test_meets_SeatingAndPrecheck :
    (∃ (n : Nat) (s : State), (s.runs (dieOf n) = true) ∧ ((s.slot n).st = .empty) ∧ (s.seatedBy n = true) ∧ (s.outranked n rankOther = false)) ∧
    (∃ (n : Nat) (s : State), (s.pkg.phase = .run) ∧ ((s.slot n).removedBy s.now = true) ∧ (s.outranked n rankRemoval = false) ∧ ((s.slot n).st = .seated ∨ (s.slot n).st = .waiting ∨ (s.slot n).st = .charging ∨ (s.slot n).st = .on)) ∧
    (∃ (n : Nat) (s : State), (s.pkg.phase = .run) ∧ ((s.slot n).removedBy s.now = true) ∧ (s.outranked n rankRemoval = false) ∧ ((s.slot n).st = .cooldown)) ∧
    (∃ (n : Nat) (s : State), (s.pkg.phase = .run) ∧ ((s.slot n).removedBy s.now = true) ∧ (s.outranked n rankRemoval = false) ∧ ((s.slot n).st = .tripped ∨ (s.slot n).st = .lockout)) ∧
    (∃ (n : Nat) (s : State), (s.runs (dieOf n) = true) ∧ ((s.slot n).st = .seated) ∧ ((s.slot n).step = 2) ∧ (s.shortVout n = false) ∧ (s.outranked n rankOther = false) ∧ (s.backup n = false)) ∧
    (∃ (n : Nat) (s : State), (s.runs (dieOf n) = true) ∧ ((s.slot n).st = .seated) ∧ ((s.slot n).step = 2) ∧ (s.shortVout n = false) ∧ (s.outranked n rankOther = false) ∧ (s.backup n = true) ∧ (s.offN = false) ∧ (s.inOr n (s.slot n).deg = 0) ∧ ((s.slot n).revBlock = false) ∧ ((s.slot n).role = true)) ∧
    (∃ (n : Nat) (s : State), (s.runs (dieOf n) = true) ∧ ((s.slot n).st = .seated) ∧ ((s.slot n).step = 2) ∧ (s.shortVout n = false) ∧ (s.outranked n rankOther = false) ∧ (s.backup n = true) ∧ (s.offN = false) ∧ (s.inOr n (s.slot n).deg = 0) ∧ ((s.slot n).revBlock = false) ∧ ((s.slot n).role = false)) ∧
    (∃ (n : Nat) (s : State), (s.runs (dieOf n) = true) ∧ ((s.slot n).st = .seated) ∧ ((s.slot n).step = 3) ∧ ((s.slot n).gB.enh = true) ∧ ((s.slot n).gB.enhAt + 100 * US ≤ s.now) ∧ (s.shortVout n = false) ∧ (s.outranked n rankOther = false)) ∧
    (∃ (n : Nat) (a : Nat) (s : State), (s.runs (dieOf n) = true) ∧ ((s.slot n).st = .seated) ∧ ((s.slot n).step = 2) ∧ ((s.slot n).ins.nearAt = some a) ∧ (a + SEC ≤ s.now)) ∧
    (∃ (n : Nat) (s : State), (s.runs (dieOf n) = true) ∧ (s.backup n = true) ∧ ((s.slot n).role = false) ∧ (((s.slot n).st = .seated ∧ (s.slot n).step = 3) ∨ ((s.slot n).st = .waiting ∧ (s.slot n).ins.armed = true)) ∧ (s.outranked n rankOther = false) ∧ (s.approve 0 = false)) ∧
    (∃ (n : Nat) (s : State), (s.runs (dieOf n) = true) ∧ (s.backup n = true) ∧ ((s.slot n).role = false) ∧ (((s.slot n).st = .seated ∧ (s.slot n).step = 3) ∨ ((s.slot n).st = .waiting ∧ (s.slot n).ins.armed = true)) ∧ (s.outranked n rankOther = false) ∧ (s.approve 0 = true)) ∧
    (∃ (n : Nat) (s : State), (s.runs (dieOf n) = true) ∧ (s.backup n = true) ∧ ((s.slot n).role = true) ∧ ((s.slot n).st = .waiting) ∧ ((s.slot n).ins.armed = true)) ∧
    (∃ (n : Nat) (s : State), (s.runs (dieOf n) = true) ∧ (s.backup n = false) ∧ ((s.slot n).st = .waiting) ∧ ((s.slot n).ins.armed = true)) ∧
    (∃ (n : Nat) (s : State), (s.runs (dieOf n) = true) ∧ (s.outranked n rankOther = false) ∧ ((s.slot n).st = .seated) ∧ ((s.slot n).step = 3) ∧ ((s.slot n).gB.enh = false) ∧ ((s.slot n).ins.stepAt + 3 * MS ≤ s.now)) ∧
    (∃ (n : Nat) (s : State), (s.runs (dieOf n) = true) ∧ (s.outranked n rankOther = false) ∧ ((s.slot n).st = .waiting) ∧ ((s.slot n).ins.spareEnh = true) ∧ ((s.slot n).ins.spareAt + 3 * MS ≤ s.now)) ∧
    (∃ (n : Nat) (s : State), (s.pkg.phase ≠ .powerOff) ∧ (s.backup n = true) ∧ (s.workB n = false) ∧ ((s.slot n).gB.path.isUp = true)) ∧
    (∃ (n : Nat) (s : State), (s.pkg.phase ≠ .powerOff) ∧ (s.backup n = true) ∧ (s.workB n = true) ∧ ((s.slot n).gA.path.isUp = true)) :=
  ⟨⟨127, sl 127 { st := .empty, retry := { cnt := 3, remember := some 5 }, presN := true, presAt := 0 }, by decide +kernel⟩,
    ⟨127, sl 127 { st := .on, pg := true, presN := false, presAt := tRun.now - 50 * US, pres := true }, by decide +kernel⟩,
    ⟨127, sl 127 { st := .cooldown, presN := false, presAt := tRun.now - 50 * US, pres := true }, by decide +kernel⟩,
    ⟨0, sl 0 { st := .lockout, presN := false, presAt := tRun.now - 50 * US, pres := true }, by decide +kernel⟩,
    ⟨0, (sl 0 { st := .seated, step := 2 }).setRf (slotB 0 + 0x100) 0 0 0, by decide +kernel⟩,
    ⟨0, (sl 0 { st := .seated, step := 2, role := true }).setRf (slotB 0 + 0x100) 0 0 1, by decide +kernel⟩,
    ⟨0, (sl 0 { st := .seated, step := 2 }).setRf (slotB 0 + 0x100) 0 0 1, by decide +kernel⟩,
    ⟨0, (sl 0 { st := .seated, step := 3, gB := { path := .enhance, enh := true, enhAt := tRun.now - 100 * US } }).setRf (slotB 0 + 0x100) 0 0 1, by decide +kernel⟩,
    ⟨127, tRun.now - SEC, sl 127 { st := .seated, step := 2, ins := { nearAt := some (tRun.now - SEC) } }, by decide +kernel⟩,
    ⟨0, (sl 0 { st := .seated, step := 3 }).setRf (slotB 0 + 0x100) 0 0 1, by decide +kernel⟩,
    ⟨0, ((sl 0 { st := .waiting }).setRf (slotB 0 + 0x100) 0 0 1).setRf (nursB + 0x40) 0 0 1, by decide +kernel⟩,
    ⟨0, (sl 0 { st := .waiting, role := true }).setRf (slotB 0 + 0x100) 0 0 1, by decide +kernel⟩,
    ⟨0, (sl 0 { st := .waiting }).setRf (slotB 0 + 0x100) 0 0 0, by decide +kernel⟩,
    ⟨0, sl 0 { st := .seated, step := 3, ins := { stepAt := tRun.now - 3 * MS } }, by decide +kernel⟩,
    ⟨0, sl 0 { st := .waiting, ins := { spareEnh := true, spareAt := tRun.now - 3 * MS } }, by decide +kernel⟩,
    ⟨0, (sl 0 { st := .waiting, gB := { path := .enhance } }).setRf (slotB 0 + 0x100) 0 0 1, by decide +kernel⟩,
    ⟨0, (sl 0 { st := .waiting, role := true, gA := { path := .enhance } }).setRf (slotB 0 + 0x100) 0 0 1, by decide +kernel⟩⟩

theorem test_meets_ChargingAndHandover :
    (∃ (n : Nat) (s : State), (s.runs (dieOf n) = true) ∧ ((s.slot n).st = .waiting) ∧ (s.waitCause n = 0) ∧ (s.offN = false) ∧ (s.inOr n (s.slot n).deg = 0) ∧ ((s.slot n).revBlock = false) ∧ (s.outranked n rankOther = false)) ∧
    (∃ (n : Nat) (s : State), (s.runs (dieOf n) = true) ∧ ((s.slot n).st = .charging) ∧ ((s.slot n).ins.winDone = false) ∧ (32 ≤ (s.slot n).ins.n) ∧ ((s.slot n).ins.five = true) ∧ (fitOf (s.slot n).ins (s.sf n 0x104 23 0) = none)) ∧
    (∃ (n : Nat) (s : State) (c : Rat) (g : Rat), (s.runs (dieOf n) = true) ∧ ((s.slot n).st = .charging) ∧ ((s.slot n).ins.winDone = false) ∧ (32 ≤ (s.slot n).ins.n) ∧ ((s.slot n).ins.five = true) ∧ (fitOf (s.slot n).ins (s.sf n 0x104 23 0) = some (c, g)) ∧ (0 < c) ∧ (((s.sf n 0x150 15 0 : Nat) : Rat) ≤ c * 1000000) ∧ (c * 1000000 ≤ ((10 * s.sf n 0x150 31 16 : Nat) : Rat))) ∧
    (∃ (n : Nat) (s : State) (c : Rat) (g : Rat), (s.runs (dieOf n) = true) ∧ ((s.slot n).st = .charging) ∧ ((s.slot n).ins.winDone = false) ∧ (32 ≤ (s.slot n).ins.n) ∧ ((s.slot n).ins.five = true) ∧ (fitOf (s.slot n).ins (s.sf n 0x104 23 0) = some (c, g)) ∧ (0 < c) ∧ (c * 1000000 < ((s.sf n 0x150 15 0 : Nat) : Rat) ∨ ((10 * s.sf n 0x150 31 16 : Nat) : Rat) < c * 1000000) ∧ (s.outranked n rankLockout = false)) ∧
    (∃ (n : Nat) (s : State), (s.runs (dieOf n) = true) ∧ ((s.slot n).st = .charging) ∧ (s.busBelowWarn (dieOf n) = true) ∧ (s.outranked n rankOther = false)) ∧
    (∃ (n : Nat) (s : State), (s.pkg.phase ≠ .powerOff) ∧ ((s.workGate n).path.isUp = true) ∧ (s.outranked n rankOther = false) ∧ (s.runs (dieOf n) = true) ∧ ((s.slot n).st = .charging) ∧ ((s.slot n).step = 7)) ∧
    (∃ (n : Nat) (s : State), (s.pkg.phase ≠ .powerOff) ∧ ((s.workGate n).path.isUp = true) ∧ (s.outranked n rankOther = false) ∧ ((s.slot n).st ≠ .charging ∨ (s.slot n).step ≠ 7)) :=
  ⟨⟨0, ((sl 0 { st := .waiting, presN := true, tfet := { seen := true, at_ := tRun.now, temp := 250, good := true }, ctl := { started := 1, at_ := tRun.now } }).setDie 0 { belv := { busCode := 44000 } }).setRf (slotB 0 + 0x144) 13 13 0, by decide +kernel⟩,
    ⟨0, sl 0 { st := .charging, ins := { n := 32, five := true } }, by decide +kernel⟩,
    ⟨0, sl 0 { st := .charging, ins := { n := 32, five := true, ss := 2, vv := 2, used := 8, is_ := 100, iv := 1 } }, ((fitOf { n := 32, five := true, ss := 2, vv := 2, used := 8, is_ := 100, iv := 1 } (tRun.sf 0 0x104 23 0)).getD (0, 0)).1, ((fitOf { n := 32, five := true, ss := 2, vv := 2, used := 8, is_ := 100, iv := 1 } (tRun.sf 0 0x104 23 0)).getD (0, 0)).2, by decide +kernel⟩,
    ⟨0, sl 0 { st := .charging, ins := { n := 32, five := true, ss := 2, vv := 2, used := 8, is_ := 100000000, iv := 1 } }, ((fitOf { n := 32, five := true, ss := 2, vv := 2, used := 8, is_ := 100000000, iv := 1 } (tRun.sf 0 0x104 23 0)).getD (0, 0)).1, ((fitOf { n := 32, five := true, ss := 2, vv := 2, used := 8, is_ := 100000000, iv := 1 } (tRun.sf 0 0x104 23 0)).getD (0, 0)).2, by decide +kernel⟩,
    ⟨0, sl 0 { st := .charging }, by decide +kernel⟩,
    ⟨0, sl 0 { st := .charging, step := 7, gA := { path := .enhance } }, by decide +kernel⟩,
    ⟨0, sl 0 { st := .waiting, gA := { path := .dac } }, by decide +kernel⟩⟩

theorem test_meets_InsertionTimeouts :
    (∃ (n : Nat) (s : State), (s.runs (dieOf n) = true) ∧ ((s.slot n).st = .charging) ∧ ((s.slot n).step ≠ 7) ∧ ((s.slot n).ins.timer ≤ s.now) ∧ (s.outranked n rankOther = false)) ∧
    (∃ (n : Nat) (s : State), (s.runs (dieOf n) = true) ∧ ((s.slot n).st = .charging) ∧ ((s.slot n).step = 7) ∧ ((s.slot n).ins.handAt + 5 * MS ≤ s.now) ∧ (s.outranked n rankOther = false)) ∧
    (∃ (n : Nat) (s : State), (s.runs (dieOf n) = true) ∧ (s.supervised n = true) ∧ ((s.ctx (dieOf n) (s.ctxOf n)).fbAt + 5120 ≤ s.now) ∧ (s.outranked n rankOther = false)) :=
  ⟨⟨127, sl 127 { st := .charging, step := 4, ins := { timer := tRun.now } }, by decide +kernel⟩,
    ⟨127, sl 127 { st := .charging, step := 7, ins := { handAt := tRun.now - 5 * MS } }, by decide +kernel⟩,
    ⟨0, (sl 0 { st := .charging, step := 5 }).modCtx 0 0 (fun _ => { bound := true, armed := true, fbAt := tRun.now - 5120 }), by decide +kernel⟩⟩

theorem test_meets_SlotTimersRunOut :
    (∃ (n : Nat) (a : Nat) (s : State), ((s.slot n).prot.pgOkAt = some a) ∧ (s.runs (dieOf n) = true) ∧ ((s.slot n).st = .on) ∧ ((s.slot n).pg = false) ∧ ((s.slot n).offPend = none) ∧ (a + s.sf n 0x14C 27 20 * MS ≤ s.now) ∧ ((s.slot n).faultAt = none)) ∧
    (∃ (n : Nat) (a : Nat) (s : State), ((s.slot n).prot.pgOkAt = some a) ∧ (s.runs (dieOf n) = true) ∧ ((s.slot n).st = .on) ∧ ((s.slot n).pg = false) ∧ ((s.slot n).offPend = none) ∧ (a + s.sf n 0x14C 27 20 * MS ≤ s.now) ∧ ((s.slot n).faultAt ≠ none)) ∧
    (∃ (d : Nat) (a : Nat) (s : State), ((s.die d).belv.busOkAt = some a) ∧ (s.runs d = true) ∧ ((s.die d).belv.busWarn = true) ∧ (a + MS ≤ s.now)) ∧
    (∃ (n : Nat) (a : Nat) (s : State), ((s.slot n).retry.remember = some a) ∧ (s.runs (dieOf n) = true) ∧ ((s.slot n).st = .empty) ∧ (a ≤ s.now)) :=
  ⟨⟨0, 0, sl 0 { st := .on, prot := { pgOkAt := some 0 } }, by decide +kernel⟩,
    ⟨0, 0, sl 0 { st := .on, prot := { pgOkAt := some 0 }, faultAt := some 5 }, by decide +kernel⟩,
    ⟨7, tRun.now - MS, dd 7 { belv := { busOkAt := some (tRun.now - MS), busWarn := true } }, by decide +kernel⟩,
    ⟨127, tRun.now, sl 127 { st := .empty, retry := { cnt := 3, remember := some tRun.now } }, by decide +kernel⟩⟩

theorem test_meets_StableTimeClearsTheRetryCount :
    (∃ (n : Nat) (s : State), (s.runs (dieOf n) = true) ∧ ((s.slot n).st = .charging) ∧ ((s.slot n).step = 7) ∧ ((s.workGate n).path.isUp = true) ∧ (s.outranked n rankOther = false)) ∧
    (∃ (n : Nat) (a : Nat) (s : State), ((s.slot n).retry.stable = some a) ∧ (s.runs (dieOf n) = true) ∧ ((s.slot n).st = .on) ∧ (a ≤ s.now)) ∧
    (∃ (n : Nat) (s : State), (s.gateUp n = true) ∧ ((s.slot n).revBlock = false) ∧ (s.sf n 0x100 1 1 = 1) ∧ ((s.slot n).st = .on)) ∧
    (∃ (n : Nat) (s : State), ((s.slot n).revBlock = true) ∧ ((s.slot n).revAt + 50 * US ≤ s.now) ∧ ((s.slot n).st = .on) ∧ (s.offN = false) ∧ (s.inOr n (s.slot n).deg = 0)) :=
  ⟨⟨0, sl 0 { st := .charging, step := 7, gA := { path := .enhance } }, by decide +kernel⟩,
    ⟨0, tRun.now, sl 0 { st := .on, retry := { cnt := 3, stable := some tRun.now } }, by decide +kernel⟩,
    ⟨0, (sl 0 { st := .on }).setRf (slotB 0 + 0x100) 1 1 1, by decide +kernel⟩,
    ⟨0, sl 0 { st := .on, revBlock := true }, by decide +kernel⟩⟩

theorem test_meets_ControlSampleTakesCodes :
    (∃ (r : DieSamp) (s : State), (s.runs r.die = true) ∧ ((s.now - s.pkg.epoch) % 640 = 0) ∧ ((s.die r.die).belv.fullAt = none) ∧ (inOrder r = [])) ∧
    (∃ (d : Nat) (b : Samp) (x : SlotSamp) (s : State), (s.runs d = true) ∧ ((s.now - s.pkg.epoch) % 640 = 0) ∧ ((s.die d).belv.fullAt = none) ∧ (x.slot < 16) ∧ ((s.slot (slotOf d x.slot)).st = .empty)) :=
  ⟨⟨⟨7, { raw := 1000000, ovl := false }, []⟩, tRun, by decide +kernel⟩,
    ⟨7, { raw := 1000000, ovl := false }, { slot := 15, i := { raw := 5, ovl := false }, v := { raw := 7, ovl := true } }, sl 127 { st := .empty }, by decide +kernel⟩⟩

theorem test_meets_TimedOvercurrentAndEnergyRegisters :
    (∃ (ini : Ini) (n : Nat) (i : Nat) (v : Word) (s : State), (i < 8) ∧ (s.takesLocked ini (slotB n + 0x190 + 4 * i) = true) ∧ (9 ≤ fld v 31 24) ∧ (10 ≤ fld v 23 0)) ∧
    (∃ (ini : Ini) (n : Nat) (v : Word) (s : State), (s.takesLocked ini (slotB n + 0x180) = true) ∧ (100 ≤ fld v 31 16) ∧ (fld v 31 16 ≤ 10000) ∧ (fld v 1 0 ≤ 1 ∨ (fld v 1 0 = 2 ∧ s.tocOrdered n = true))) ∧
    (∃ (ini : Ini) (n : Nat) (s : State), (s.takes ini (slotB n + 0xB4) = true) ∧ ((s.slot n).meter.accAt ≠ some s.now)) ∧
    (∃ (ini : Ini) (n : Nat) (s : State), (s.takes ini (slotB n + 0xB4) = true) ∧ ((s.slot n).meter.accAt = some s.now)) :=
  ⟨⟨.qspi, 127, 7, 0x0900000A, un (slotB 127) tRun, by decide +kernel⟩,
    ⟨.qspi, 0, 0x00640001, un (slotB 0) tRun, by decide +kernel⟩,
    ⟨.ring 3, 127, sl 127 { meter := { energy := 5, frames := 2 } }, by decide +kernel⟩,
    ⟨.qspi, 127, sl 127 { meter := { energy := 5, frames := 2, accAt := some tRun.now, accE := 3 } }, by decide +kernel⟩⟩

theorem test_meets_DwellVerdictAndCooldown :
    (∃ (n : Nat) (s : State), (s.runs (dieOf n) = true) ∧ ((s.slot n).st = .tripped) ∧ ((s.slot n).trip.check = true) ∧ (8 ≤ (s.slot n).trip.stuckN) ∧ (8 ≤ (s.slot n).trip.stuckHi)) ∧
    (∃ (n : Nat) (s : State), (s.runs (dieOf n) = true) ∧ ((s.slot n).st = .tripped) ∧ (s.dwellOver n = true) ∧ (s.outranked n rankOther = false)) ∧
    (∃ (n : Nat) (a : Nat) (s : State), (s.runs (dieOf n) = true) ∧ ((s.slot n).st = .cooldown) ∧ ((s.slot n).retry.cool = some a) ∧ (a ≤ s.now) ∧ ((s.slot n).retry.busOv = false ∨ ∃ b, (s.slot n).retry.busOkAt = some b ∧ b + MS ≤ s.now) ∧ (s.outranked n rankOther = false)) :=
  ⟨⟨127, sl 127 { st := .tripped, trip := { due := true, check := true, stuckN := 8, stuckHi := 8 } }, by decide +kernel⟩,
    ⟨0, sl 0 { st := .tripped, trip := { due := true, check := true, stuckN := 8, stuckHi := 7, cause := 1 } }, by decide +kernel⟩,
    ⟨0, tRun.now, sl 0 { st := .cooldown, pres := true, presN := true, retry := { cnt := 1, cool := some tRun.now } }, by decide +kernel⟩⟩

theorem test_meets_ThermalUpdateAndSensors :
    (∃ (d : Nat) (s : State), (s.runs d = true) ∧ ((s.now - s.pkg.epoch) % 10000 = 0)) ∧
    (∃ (n : Nat) (s : State), (s.runs (dieOf n) = true) ∧ (s.tfetOld n = true)) ∧
    (∃ (ini : Ini) (d : Nat) (i : Nat) (s : State), (i < 9) ∧ (s.takes ini (dieB d + 0x22C) = true) ∧ (nbit (s.die d).grat.valid i = false) ∧ ((s.die d).grat.passes.getD i 0 = 3)) ∧
    (∃ (ini : Ini) (d : Nat) (i : Nat) (s : State), (i < 9) ∧ (s.takes ini (dieB d + 0x22C) = true) ∧ (nbit (s.die d).grat.valid i = true ∨ (s.die d).grat.passes.getD i 0 ≠ 3)) :=
  ⟨⟨7, sl 112 { st := .on, eA := { pn := 3, psum := 5 } }, by decide +kernel⟩,
    ⟨127, sl 127 { st := .empty, tfet := { seen := true, at_ := tRun.now - 50 * MS - 1, wasValid := true } }, by decide +kernel⟩,
    ⟨.qspi, 7, 8, dd 7 { grat := { valid := 255, passes := [0, 0, 0, 0, 0, 0, 0, 0, 3] } }, by decide +kernel⟩,
    ⟨.qspi, 7, 8, dd 7 { grat := { valid := 255, passes := [0, 0, 0, 0, 0, 0, 0, 0, 2] } }, by decide +kernel⟩⟩

theorem test_meets_SurveyAndOpenWire :
    (∃ (d : Nat) (x : Samp) (s : State), (s.runs d = true) ∧ ((s.die d).belv.survCh < 32) ∧ ((s.die d).belv.fullAt = none) ∧ ((s.die d).belv.survAt + 51600 ≤ s.now) ∧ (s.boundaryWaits = false) ∧ (∀ r, (s.die d).belv.openRun = some r → r.tStep = 0)) ∧
    (∃ (d : Nat) (x : Samp) (s : State), (s.runs d = true) ∧ ((s.die d).belv.survCh < 32) ∧ ((s.die d).belv.fullAt = none) ∧ ((s.die d).belv.survAt + 51600 ≤ s.now) ∧ (s.boundaryWaits = true)) ∧
    (∃ (d : Nat) (a : Nat) (b : Nat) (s : State), (s.runs d = true) ∧ ((s.die d).belv.survCh = 32)) ∧
    (∃ (ini : Ini) (d : Nat) (v : Word) (s : State), (s.takes ini (belvB d + 0x130) = true) ∧ ((s.die d).belv.openRun = none) ∧ (bit v 8 = true) ∧ (fld v 5 4 ≤ 2)) ∧
    (∃ (ini : Ini) (d : Nat) (v : Word) (s : State) (r : OpenRun), (s.takes ini (belvB d + 0x130) = true) ∧ ((s.die d).belv.openRun = some r) ∧ (r.auto = false) ∧ (bit v 8 = true)) ∧
    (∃ (d : Nat) (r : OpenRun) (s : State), ((s.die d).belv.openRun = some r) ∧ (s.runs d = true) ∧ (s.openEnded d r = true) ∧ ((s.die d).belv.openReq = none)) ∧
    (∃ (d : Nat) (r : OpenRun) (s : State) (q : OpenRun), ((s.die d).belv.openRun = some r) ∧ (s.runs d = true) ∧ (s.openEnded d r = true) ∧ ((s.die d).belv.openReq = some q)) :=
  ⟨⟨0, { raw := 4000000, ovl := false }, tRun, by decide +kernel, by decide +kernel, by decide +kernel, by decide +kernel, by decide +kernel, fun r h => nomatch h⟩,
    ⟨0, { raw := 4000000, ovl := false }, { tRun with frames := { tRun.frames with nextAt := tRun.now }, pending := [.frameBoundary []] }, by decide +kernel⟩,
    ⟨0, 8388608, 8388608, dd 0 { belv := { survCh := 32 } }, by decide +kernel⟩,
    ⟨.qspi, 7, 0x120, tRun, by decide +kernel⟩,
    ⟨.qspi, 7, 0x120, dd 7 { belv := { openRun := some { auto := false, sense := 1, vout := 0, tfet := 0, skip := 0, current := 2, frame := 3 } } }, { auto := false, sense := 1, vout := 0, tfet := 0, skip := 0, current := 2, frame := 3 }, by decide +kernel⟩,
    ⟨7, { auto := false, sense := 1, vout := 0, tfet := 0, skip := 0, current := 2, frame := 3 }, dd 7 { belv := { openRun := some { auto := false, sense := 1, vout := 0, tfet := 0, skip := 0, current := 2, frame := 3 } } }, by decide +kernel⟩,
    ⟨7, { auto := true, sense := 1, vout := 0, tfet := 0, skip := 0, current := 2, frame := 3 }, dd 7 { belv := { openRun := some { auto := true, sense := 1, vout := 0, tfet := 0, skip := 0, current := 2, frame := 3 }, openReq := some { auto := false, sense := 2, vout := 0, tfet := 0, skip := 0, current := 2, frame := 3 } } }, { auto := false, sense := 2, vout := 0, tfet := 0, skip := 0, current := 2, frame := 3 }, by decide +kernel⟩⟩

theorem test_meets_TerraceMessagesAct :
    (∃ (m : Msg) (s : State), (s.inRun = true) ∧ (s.repeated m = true)) ∧
    (∃ (m : Msg) (s : State), (s.inRun = true) ∧ (s.repeated m = false) ∧ (s.refuseReason m ≠ 0) ∧ (m.kind ≠ .lockout ∨ s.outranked m.tgtSlot rankLockout = false)) ∧
    (∃ (m : Msg) (e : Entry) (s : State), (m.kind = .restrain) ∧ (e = { src := m.srcAddr, slot := m.srcSlot, incident := m.incident, at_ := s.now }) ∧ (s.inRun = true) ∧ (s.repeated m = false) ∧ (s.refuseReason m = 0) ∧ (s.gateUp m.tgtSlot = true) ∧ (s.waiter m.tgtSlot = true) ∧ ((s.slot m.tgtSlot).terr.entries.any (fun x => x.src == e.src && x.slot == e.slot) = false) ∧ ((s.slot m.tgtSlot).terr.entries.length < 8)) ∧
    (∃ (m : Msg) (e : Entry) (s : State), (m.kind = .restrain) ∧ (e = { src := m.srcAddr, slot := m.srcSlot, incident := m.incident, at_ := s.now }) ∧ (s.inRun = true) ∧ (s.repeated m = false) ∧ (s.refuseReason m = 0) ∧ (s.gateUp m.tgtSlot = true) ∧ (s.waiter m.tgtSlot = true) ∧ ((s.slot m.tgtSlot).terr.entries.any (fun x => x.src == e.src && x.slot == e.slot) = true)) ∧
    (∃ (m : Msg) (e : Entry) (s : State), (m.kind = .restrain) ∧ (e = { src := m.srcAddr, slot := m.srcSlot, incident := m.incident, at_ := s.now }) ∧ (s.inRun = true) ∧ (s.repeated m = false) ∧ (s.refuseReason m = 0) ∧ (s.gateUp m.tgtSlot = true) ∧ (s.waiter m.tgtSlot = true) ∧ ((s.slot m.tgtSlot).terr.entries.any (fun x => x.src == e.src && x.slot == e.slot) = false) ∧ (8 ≤ (s.slot m.tgtSlot).terr.entries.length)) ∧
    (∃ (m : Msg) (e : Entry) (s : State), (m.kind = .restrain) ∧ (e = { src := m.srcAddr, slot := m.srcSlot, incident := m.incident, at_ := s.now }) ∧ (s.inRun = true) ∧ (s.repeated m = false) ∧ (s.refuseReason m = 0) ∧ (s.gateUp m.tgtSlot = false ∨ s.waiter m.tgtSlot = false)) ∧
    (∃ (m : Msg) (l : List Entry) (s : State), (m.kind = .cleared) ∧ (l = (s.slot m.tgtSlot).terr.entries.filter (fun x => !(x.src == m.srcAddr && x.slot == m.srcSlot && x.incident == m.incident))) ∧ (s.inRun = true) ∧ (s.repeated m = false) ∧ (s.refuseReason m = 0) ∧ ((s.slot m.tgtSlot).terr.sub ≠ .hold ∨ l ≠ [] ∨ (s.slot m.tgtSlot).terr.entries = [])) ∧
    (∃ (m : Msg) (l : List Entry) (s : State), (m.kind = .cleared) ∧ (l = (s.slot m.tgtSlot).terr.entries.filter (fun x => !(x.src == m.srcAddr && x.slot == m.srcSlot && x.incident == m.incident))) ∧ (s.inRun = true) ∧ (s.repeated m = false) ∧ (s.refuseReason m = 0) ∧ ((s.slot m.tgtSlot).terr.sub = .hold) ∧ (l = []) ∧ ((s.slot m.tgtSlot).terr.entries ≠ []) ∧ (s.fastOn m.tgtSlot = true)) ∧
    (∃ (m : Msg) (l : List Entry) (s : State), (m.kind = .cleared) ∧ (l = (s.slot m.tgtSlot).terr.entries.filter (fun x => !(x.src == m.srcAddr && x.slot == m.srcSlot && x.incident == m.incident))) ∧ (s.inRun = true) ∧ (s.repeated m = false) ∧ (s.refuseReason m = 0) ∧ ((s.slot m.tgtSlot).terr.sub = .hold) ∧ (l = []) ∧ ((s.slot m.tgtSlot).terr.entries ≠ []) ∧ (s.fastOn m.tgtSlot = false)) ∧
    (∃ (m : Msg) (s : State), (m.kind = .lockout) ∧ (s.inRun = true) ∧ (s.repeated m = false) ∧ (s.refuseReason m = 0) ∧ (s.outranked m.tgtSlot rankLockout = false) ∧ ((s.slot m.tgtSlot).st.locksOut = true) ∧ ((s.slot m.tgtSlot).trip.unsettled = none)) ∧
    (∃ (m : Msg) (s : State), (m.kind = .lockout) ∧ (s.inRun = true) ∧ (s.repeated m = false) ∧ (s.refuseReason m = 0) ∧ (s.outranked m.tgtSlot rankLockout = false) ∧ ((s.slot m.tgtSlot).st.locksOut = false)) ∧
    (∃ (m : Msg) (s : State), (m.kind = .release) ∧ (s.inRun = true) ∧ (s.repeated m = false) ∧ (s.refuseReason m = 0) ∧ ((s.slot m.tgtSlot).st = .lockout) ∧ ((s.slot m.tgtSlot).presN = false)) ∧
    (∃ (m : Msg) (s : State), (m.kind = .release) ∧ (s.inRun = true) ∧ (s.repeated m = false) ∧ (s.refuseReason m = 0) ∧ ((s.slot m.tgtSlot).st = .lockout) ∧ ((s.slot m.tgtSlot).presN = true) ∧ ((s.slot m.tgtSlot).trip.removed = true ∨ ((s.slot m.tgtSlot).held ≠ .waiting ∧ (s.slot m.tgtSlot).held ≠ .charging ∧ (s.slot m.tgtSlot).held ≠ .on))) ∧
    (∃ (m : Msg) (s : State), (m.kind = .release) ∧ (s.inRun = true) ∧ (s.repeated m = false) ∧ (s.refuseReason m = 0) ∧ ((s.slot m.tgtSlot).st = .lockout) ∧ ((s.slot m.tgtSlot).presN = true) ∧ ((s.slot m.tgtSlot).trip.removed = false) ∧ ((s.slot m.tgtSlot).held = .waiting ∨ (s.slot m.tgtSlot).held = .charging ∨ (s.slot m.tgtSlot).held = .on) ∧ (s.backup m.tgtSlot = false ∨ (s.offN = false ∧ s.inOr m.tgtSlot (s.slot m.tgtSlot).deg = 0))) ∧
    (∃ (m : Msg) (s : State), (m.kind = .release) ∧ (s.inRun = true) ∧ (s.repeated m = false) ∧ (s.refuseReason m = 0) ∧ ((s.slot m.tgtSlot).st ≠ .lockout)) ∧
    (∃ (m : Msg) (s : State), (m.kind = .upstreamOpen) ∧ (s.inRun = true) ∧ (s.repeated m = false) ∧ (s.refuseReason m = 0) ∧ ((s.slot m.tgtSlot).st ≠ .holdthru) ∧ (s.gateUp m.tgtSlot = true) ∧ (s.outranked m.tgtSlot 3 = false)) ∧
    (∃ (m : Msg) (s : State), (m.kind = .upstreamOpen) ∧ (s.inRun = true) ∧ (s.repeated m = false) ∧ (s.refuseReason m = 0) ∧ ((s.slot m.tgtSlot).st ≠ .holdthru) ∧ (s.gateUp m.tgtSlot = false ∨ s.outranked m.tgtSlot 3 = true)) :=
  ⟨⟨⟨.restrain, 5, 9, 0, 5, 127, 7, 3⟩, { terr 127 { st := .on } 7 with heard := [{ kind := .restrain, addr := 5, slot := 9, tgt := 127, incident := 7, at_ := tRun.now }] }, by decide +kernel⟩,
    ⟨⟨.restrain, 5, 9, 7, 5, 127, 7, 3⟩, terr 127 { st := .on } 7, by decide +kernel⟩,
    ⟨⟨.restrain, 5, 9, 0, 5, 127, 7, 3⟩, ⟨5, 9, 7, tRun.now⟩, terr 127 { st := .on, terr := { sub := .wait } } 7, by decide +kernel⟩,
    ⟨⟨.restrain, 5, 9, 0, 5, 127, 7, 3⟩, ⟨5, 9, 7, tRun.now⟩, terr 127 { st := .on, terr := { sub := .wait, entries := [⟨5, 9, 6, 0⟩] } } 7, by decide +kernel⟩,
    ⟨⟨.restrain, 5, 9, 0, 5, 127, 7, 3⟩, ⟨5, 9, 7, tRun.now⟩, terr 127 { st := .on, terr := { entries := [⟨6, 1, 7, 0⟩, ⟨6, 2, 7, 0⟩, ⟨6, 3, 7, 0⟩, ⟨6, 4, 7, 0⟩, ⟨6, 5, 7, 0⟩, ⟨6, 6, 7, 0⟩, ⟨6, 7, 7, 0⟩, ⟨6, 8, 7, 0⟩] } } 7, by decide +kernel⟩,
    ⟨⟨.restrain, 5, 9, 0, 5, 127, 7, 3⟩, ⟨5, 9, 7, tRun.now⟩, terr 127 { st := .empty } 7, by decide +kernel⟩,
    ⟨⟨.cleared, 5, 9, 0, 5, 127, 7, 3⟩, [], terr 127 { st := .on, terr := { entries := [⟨5, 9, 7, 0⟩] } } 7, by decide +kernel⟩,
    ⟨⟨.cleared, 5, 9, 0, 5, 127, 7, 3⟩, [], terr 127 { st := .on, deg := 3, terr := { sub := .hold, entries := [⟨5, 9, 7, 0⟩] } } 7, by decide +kernel⟩,
    ⟨⟨.cleared, 5, 9, 0, 5, 127, 7, 3⟩, [], terr 127 { st := .on, terr := { sub := .hold, entries := [⟨5, 9, 7, 0⟩] } } 7, by decide +kernel⟩,
    ⟨⟨.lockout, 5, 9, 7, 5, 0, 7, 3⟩, terr 0 { st := .on, pg := true } 0, by decide +kernel⟩,
    ⟨⟨.lockout, 5, 9, 7, 5, 0, 7, 3⟩, terr 0 { st := .latched } 0, by decide +kernel⟩,
    ⟨⟨.release, 5, 9, 7, 5, 0, 7, 3⟩, terr 0 { st := .lockout, held := .on } 0, by decide +kernel⟩,
    ⟨⟨.release, 5, 9, 7, 5, 0, 7, 3⟩, terr 0 { st := .lockout, held := .seated, pres := true, presN := true } 0, by decide +kernel⟩,
    ⟨⟨.release, 5, 9, 7, 5, 0, 7, 3⟩, (terr 0 { st := .lockout, held := .on, pres := true, presN := true } 0).setRf (slotB 0 + 0x100) 0 0 0, by decide +kernel⟩,
    ⟨⟨.release, 5, 9, 7, 5, 0, 7, 3⟩, terr 0 { st := .on } 0, by decide +kernel⟩,
    ⟨⟨.upstreamOpen, 5, 9, 0, 5, 127, 7, 3⟩, terr 127 { st := .on } 7, by decide +kernel⟩,
    ⟨⟨.upstreamOpen, 5, 9, 0, 5, 127, 7, 3⟩, terr 127 { st := .empty } 7, by decide +kernel⟩⟩

theorem test_meets_TerraceTimersAndDisable :
    (∃ (n : Nat) (s : State), (s.inRun = true) ∧ (s.terrSlot n = true)) ∧
    (∃ (n : Nat) (s : State), (s.inRun = true) ∧ (s.terrSlot n = false)) ∧
    (∃ (n : Nat) (w : Win) (s : State), (s.waitOver n = true) ∧ (s.outranked n 2 = false) ∧ ((s.slot n).winF = some w) ∧ (w.winEnd ≤ s.now)) ∧
    (∃ (n : Nat) (s : State), (s.holdOver n = true) ∧ (s.outranked n 2 = false)) ∧
    (∃ (n : Nat) (a : Nat) (k : Nat) (e : Entry) (s : State), ((s.slot n).terr.entries.find? (fun e => e.src == a && e.slot == k) = some e) ∧ (s.waiter n = true) ∧ ((s.slot n).terr.sub ≠ .hold) ∧ (e.at_ + s.holdCyc (s.level n) + s.waitCyc (s.level n) ≤ s.now)) ∧
    (∃ (ini : Ini) (s : State), (s.takes ini (terrB + 8) = true)) :=
  ⟨⟨0, { terr 0 { st := .on } 1 with copies := [⟨0, ⟨.lockout, 5, 9, 7, 5, 0, 7, 3⟩, true, 3, 0, 40⟩] }, by decide +kernel⟩,
    ⟨0, ({ tRun with copies := [⟨0, ⟨.lockout, 5, 9, 7, 5, 0, 7, 3⟩, true, 3, 0, 40⟩] }).setRf (terrB + 8) 0 0 0, by decide +kernel⟩,
    ⟨127, ⟨3, 0⟩, terr 127 { st := .on, deg := 3, winF := some ⟨3, 0⟩, terr := { sub := .wait } } 7, by decide +kernel⟩,
    ⟨127, terr 127 { st := .on, deg := 3, terr := { sub := .hold, entries := [⟨5, 9, 7, 0⟩] } } 7, by decide +kernel⟩,
    ⟨0, 5, 9, ⟨5, 9, 7, 0⟩, terr 0 { st := .on, terr := { entries := [⟨5, 9, 7, 0⟩] } } 1, by decide +kernel⟩,
    ⟨.qspi, terr 127 { st := .on, deg := 3, terr := { sub := .hold } } 7, by decide +kernel⟩⟩

theorem test_meets_TerraceSettingsRefusedWhileWaiting :
    (∃ (ini : Ini) (n : Nat) (o : Nat) (v : Word) (s : State), (n < 128) ∧ (o = 0x280 ∨ o = 0x284 ∨ o = 0x288) ∧ (s.takesLocked ini (slotB n + o) = true) ∧ ((s.slot n).terr.sub ≠ .idle ∨ (s.slot n).terr.out = true)) ∧
    (∃ (ini : Ini) (n : Nat) (k : Nat) (v : Word) (s : State), (1 ≤ k) ∧ (k ≤ 7) ∧ (s.takesLocked ini (terrB + 0x40 + 4 * k) = true) ∧ ((s.slot n).terr.sub ≠ .idle) ∧ (s.level n = k)) :=
  ⟨⟨.qspi, 127, 0x288, 5, un (slotB 127) (sl 127 { terr := { sub := .hold } }), by decide +kernel⟩,
    ⟨.qspi, 0, 7, 5, un terrB ((sl 0 { terr := { sub := .wait } }).setRf (slotB 0 + 0x280) 2 0 7), by decide +kernel⟩⟩

theorem test_meets_FramesAndTriggers :
    (∃ (rs : List DieSamp) (s : State), (s.inRun = true) ∧ (s.frames.run = true) ∧ (s.frames.nextAt ≤ s.now)) ∧
    (∃ (low : Bool) (width : Nat) (s : State), (s.leadIn = true) ∧ (bit s.trigCfg 4 = low) ∧ (bit s.trigCfg 1 = true) ∧ (width ≤ 65535) ∧ (s.rf (trigB + 0x14) 15 0 ≤ width) ∧ (width ≤ s.rf (trigB + 0x14) 31 16) ∧ (s.frames.pendTrig = none)) ∧
    (∃ (low : Bool) (width : Nat) (s : State), (s.leadIn = true) ∧ (bit s.trigCfg 4 = low) ∧ (bit s.trigCfg 1 = true) ∧ (width ≤ 65535) ∧ (s.rf (trigB + 0x14) 15 0 ≤ width) ∧ (width ≤ s.rf (trigB + 0x14) 31 16) ∧ (s.frames.pendTrig ≠ none)) ∧
    (∃ (low : Bool) (width : Nat) (s : State), (s.leadIn = true) ∧ (bit s.trigCfg 4 = low) ∧ (bit s.trigCfg 1 = true) ∧ (width < s.rf (trigB + 0x14) 15 0 ∨ s.rf (trigB + 0x14) 31 16 < width)) ∧
    (∃ (ini : Ini) (s : State), (s.takes ini (belvB s.pkg.lead + 0x58) = true) ∧ (bit s.trigCfg 2 = true) ∧ (s.frames.pendSw = none)) ∧
    (∃ (ini : Ini) (s : State), (s.takes ini (belvB s.pkg.lead + 0x58) = true) ∧ (bit s.trigCfg 2 = true) ∧ (s.frames.pendSw ≠ none)) ∧
    (∃ (ini : Ini) (s : State), (s.takes ini (belvB s.pkg.lead + 0x58) = true) ∧ (bit s.trigCfg 2 = false)) ∧
    (∃ (a : Nat) (s : State), (s.frames.pendSw = some a) ∧ (s.inRun = true) ∧ (s.frames.run = true) ∧ (a ≤ s.now)) ∧
    (∃ (src : TrigSrc) (a : Nat) (s : State), (src ≠ .software) ∧ (trigPend s.frames src = some a) ∧ (s.frames.pendMer ≠ s.frames.pendTrig) ∧ (s.inRun = true) ∧ (s.frames.run = true) ∧ (a ≤ s.now) ∧ (s.frames.started = true) ∧ (s.frames.bAt ≠ some s.now) ∧ (s.frames.startAt + 10 < s.now) ∧ (s.now + 10 < s.frames.nextAt)) ∧
    (∃ (src : TrigSrc) (a : Nat) (s : State), (src ≠ .software) ∧ (trigPend s.frames src = some a) ∧ (s.frames.pendMer ≠ s.frames.pendTrig) ∧ (s.inRun = true) ∧ (s.frames.run = true) ∧ (a ≤ s.now) ∧ (s.frames.started = true) ∧ (s.frames.bAt ≠ some s.now) ∧ (s.now ≤ s.frames.nextAt) ∧ (s.frames.nextAt ≤ s.now + 10)) ∧
    (∃ (src : TrigSrc) (a : Nat) (s : State), (src ≠ .software) ∧ (trigPend s.frames src = some a) ∧ (s.frames.pendMer ≠ s.frames.pendTrig) ∧ (s.inRun = true) ∧ (s.frames.run = true) ∧ (a ≤ s.now) ∧ (s.frames.started = true) ∧ (s.frames.bAt ≠ some s.now) ∧ (s.now ≤ s.frames.startAt + 10) ∧ (s.now + 10 < s.frames.nextAt)) :=
  ⟨⟨[], { tRun with frames := { tRun.frames with nextAt := tRun.now } }, by decide +kernel⟩,
    ⟨false, 65535, (tRun.setReg (trigB + 4) 2).setReg (trigB + 0x14) 0xFFFF0000, by decide +kernel⟩,
    ⟨false, 65535, ({ tRun with frames := { tRun.frames with pendTrig := some 5 } }.setReg (trigB + 4) 2).setReg (trigB + 0x14) 0xFFFF0000, by decide +kernel⟩,
    ⟨true, 65535, (tRun.setReg (trigB + 4) 0x12).setReg (trigB + 0x14) 0xFFFE0000, by decide +kernel⟩,
    ⟨.qspi, tRun.setReg (trigB + 4) 4, by decide +kernel⟩,
    ⟨.qspi, { tRun with frames := { tRun.frames with pendSw := some 5 } }.setReg (trigB + 4) 4, by decide +kernel⟩,
    ⟨.qspi, tRun.setReg (trigB + 4) 0, by decide +kernel⟩,
    ⟨tRun.now, { tRun with frames := { tRun.frames with pendSw := some tRun.now } }, by decide +kernel⟩,
    ⟨.trig, tRun.now, { tRun with frames := { tRun.frames with pendTrig := some tRun.now, started := true, startAt := tRun.now - 11, nextAt := tRun.now + 11 } }, by decide +kernel⟩,
    ⟨.meridian, tRun.now, { tRun with frames := { tRun.frames with pendMer := some tRun.now, started := true, startAt := tRun.now - 2550, nextAt := tRun.now + 10 } }, by decide +kernel⟩,
    ⟨.trig, tRun.now, { tRun with frames := { tRun.frames with pendTrig := some tRun.now, started := true, startAt := tRun.now - 10, nextAt := tRun.now + 2550 } }, by decide +kernel⟩⟩

theorem test_meets_QueuePortAndStreams :
    (∃ (ini : Ini) (k : Nat) (s : State), (ini = .qspi ∨ s.qspiPops = false) ∧ (s.serving = true) ∧ (s.refusal (queueB + 0x40) = 0) ∧ (s.nextSrc true = some k) ∧ (k ≠ 8)) ∧
    (∃ (ini : Ini) (k : Nat) (s : State), (ini = .qspi ∨ s.qspiPops = false) ∧ (s.serving = true) ∧ (s.refusal (queueB + 0x40) = 0) ∧ (s.nextSrc true = some k) ∧ (k = 8)) ∧
    (∃ (ini : Ini) (s : State), (ini ≠ .qspi) ∧ (s.qspiPops = true)) ∧
    (∃ (ini : Ini) (s : State), (ini = .qspi ∨ s.qspiPops = false) ∧ (s.serving = true) ∧ (s.refusal (queueB + 0x40) = 0) ∧ (s.nextSrc true = none)) ∧
    (∃ (s : State), (s.serving = true) ∧ (s.qDies = 0) ∧ (s.qport.asm ≠ []) ∧ (s.reaches s.qport.asmDest = true) ∧ (s.qport.asmAt + s.rf (queueB + 0x70) 7 0 * US ≤ s.now)) ∧
    (∃ (src : Nat) (seq : Nat) (es : List (BitVec 64)) (s : State), (s.serving = true) ∧ (s.rf (queueB + 0x60) 31 31 = 1) ∧ (s.qport.rxq.length + es.length ≤ 4096)) ∧
    (∃ (src : Nat) (seq : Nat) (es : List (BitVec 64)) (s : State), (s.serving = true) ∧ (s.rf (queueB + 0x60) 31 31 = 1) ∧ (4096 ≤ s.qport.rxq.length) ∧ (es ≠ [])) ∧
    (∃ (src : Nat) (seq : Nat) (es : List (BitVec 64)) (s : State), (s.serving = true) ∧ (s.rf (queueB + 0x60) 31 31 ≠ 1)) :=
  ⟨⟨.qspi, 7, dd 7 { belv := { queue := [(5, 0)] } }, by decide +kernel⟩,
    ⟨.ring 3, 8, { tRun with qport := { rxq := [(5, 9)] } }, by decide +kernel⟩,
    ⟨.ring 3, { tRun with pending := [.queuePop .qspi] }, by decide +kernel⟩,
    ⟨.qspi, tRun, by decide +kernel⟩,
    ⟨{ up with qport := { asm := [1], asmDest := 9 }, pairAB := { joined := true, join := 3, node := 6, members := 0x240 } }, by decide +kernel⟩,
    ⟨5, 0, [1, 2], tRun.setRf (queueB + 0x60) 31 31 1, by decide +kernel⟩,
    ⟨5, 0, [1], { tRun with qport := { rxq := List.replicate 4096 (5, 9) } }.setRf (queueB + 0x60) 31 31 1, by decide +kernel⟩,
    ⟨5, 0, [1], tRun.setRf (queueB + 0x60) 31 31 0, by decide +kernel⟩⟩

theorem test_meets_QueuePeekLeavesTheHead :
    (∃ (ini : Ini) (k : Nat) (s : State), (s.serving = true) ∧ (s.refusal (queueB + 0x50) = 0) ∧ (s.nextSrc true = some k)) ∧
    (∃ (ini : Ini) (s : State), (s.serving = true) ∧ (s.refusal (queueB + 0x50) = 0) ∧ (s.nextSrc true = none)) ∧
    (∃ (ini : Ini) (j : Ini) (k : Nat) (s : State), (j = .qspi ∨ s.qspiPops = false) ∧ (s.serving = true) ∧ (s.refusal (queueB + 0x50) = 0) ∧ (s.nextSrc true = some k)) :=
  ⟨⟨.ring 2, 7, dd 7 { belv := { queue := [(5, 0)] } }, by decide +kernel⟩,
    ⟨.qspi, tRun, by decide +kernel⟩,
    ⟨.ring 2, .qspi, 8, { tRun with qport := { rxq := [(5, 9)] } }, by decide +kernel⟩⟩

theorem test_meets_Calibration :
    (∃ (ini : Ini) (d : Nat) (s : State), (s.takes ini (belvB d + 0x444) = true) ∧ ((s.die d).belv.fullAt = none) ∧ (∀ n ∈ slotsOf d, (s.slot n).st = .off ∨ (s.slot n).st = .empty ∨ (s.slot n).st = .cooldown ∨ (s.slot n).st = .latched ∨ (s.slot n).st = .lockout)) ∧
    (∃ (ini : Ini) (d : Nat) (s : State) (n : Nat), (n ∈ slotsOf d) ∧ (s.takes ini (belvB d + 0x444) = true) ∧ ((s.die d).belv.fullAt = none) ∧ ((s.slot n).st = .seated ∨ (s.slot n).st = .waiting ∨ (s.slot n).st = .charging ∨ (s.slot n).st = .on ∨ (s.slot n).st = .tripped)) ∧
    (∃ (d : Nat) (a : Nat) (pairs : List (Int × Int)) (s : State), ((s.die d).belv.fullAt = some a) ∧ (s.runs d = true) ∧ (a + 106 * MS ≤ s.now)) ∧
    (∃ (ini : Ini) (d : Nat) (s : State), (s.takes ini (belvB d + 0x444) = true) ∧ ((s.die d).belv.roll = none)) ∧
    (∃ (ini : Ini) (d : Nat) (s : State), (s.takes ini (belvB d + 0x444) = true) ∧ ((s.die d).belv.roll ≠ none)) ∧
    (∃ (d : Nat) (m : Nat) (rest : List Nat) (r : Roll) (s : State), (s.runs d = true) ∧ ((s.die d).belv.swap = none) ∧ ((s.die d).belv.swapQ = []) ∧ ((s.die d).belv.fullAt = none) ∧ ((s.die d).belv.roll = some r) ∧ (r.phase = 0) ∧ (r.once = true ∨ s.rf (belvB d + 0x440) 1 1 = 1) ∧ (r.left = m :: rest) ∧ (s.modState d m = 0)) ∧
    (∃ (d : Nat) (m : Nat) (rest : List Nat) (r : Roll) (s : State) (sp : Nat), (s.runs d = true) ∧ ((s.die d).belv.swap = none) ∧ ((s.die d).belv.swapQ = []) ∧ ((s.die d).belv.fullAt = none) ∧ ((s.die d).belv.roll = some r) ∧ (r.phase = 0) ∧ (r.once = true ∨ s.rf (belvB d + 0x440) 1 1 = 1) ∧ (r.left = m :: rest) ∧ (s.modState d m = 1) ∧ (s.freeSpare d (s.modIdx d m) = some sp)) ∧
    (∃ (d : Nat) (r : Roll) (s : State), ((s.die d).belv.roll = some r) ∧ (s.runs d = true) ∧ (r.handing = false) ∧ ((r.phase = 1 ∧ r.at_ + 10 * MS ≤ s.now) ∨ (r.phase = 4 ∧ r.at_ + Nat.max (2 * MS) (5 * s.period) ≤ s.now))) ∧
    (∃ (d : Nat) (zs : Int) (fs : Int) (r : Roll) (s : State), ((s.die d).belv.roll = some r) ∧ (s.runs d = true) ∧ (r.phase = 2) ∧ (r.at_ + 80 * MS ≤ s.now) ∧ (zs.natAbs ≤ 65536 * 256) ∧ ((fs - zs - 6291456 * 256).natAbs ≤ 125829 * 256)) ∧
    (∃ (d : Nat) (zs : Int) (fs : Int) (r : Roll) (s : State), ((s.die d).belv.roll = some r) ∧ (s.runs d = true) ∧ (r.phase = 2) ∧ (r.at_ + 80 * MS ≤ s.now) ∧ (65536 * 256 < zs.natAbs ∨ 125829 * 256 < (fs - zs - 6291456 * 256).natAbs)) ∧
    (∃ (d : Nat) (m : Nat) (zs : Int) (fs : Int) (rs : List DieSamp) (s : State), (s.inRun = true) ∧ (s.frames.run = true) ∧ (s.frames.nextAt ≤ s.now) ∧ (d ∈ s.presentDies) ∧ (s.runs d = true) ∧ ((s.die d).belv.adopt = [(m, zs, fs)]) ∧ (m < (s.die d).belv.mods.length) ∧ ((s.die d).belv.swap = none) ∧ ((s.die d).belv.swapQ = []) ∧ ((s.die d).pow.refSwap = false)) :=
  ⟨⟨.qspi, 7, sl 127 { st := .latched }, by decide +kernel⟩,
    ⟨.qspi, 7, sl 127 { st := .tripped }, 127, by decide +kernel⟩,
    ⟨7, tRun.now - 106 * MS, [], dd 7 { belv := { fullAt := some (tRun.now - 106 * MS) } }, by decide +kernel⟩,
    ⟨.qspi, 7, tRun, by decide +kernel⟩,
    ⟨.qspi, 7, dd 7 { belv := { roll := some { once := false, left := [] } } }, by decide +kernel⟩,
    ⟨0, 33, [], { once := true, left := [33], phase := 0 }, dd 0 { belv := { roll := some { once := true, left := [33], phase := 0 } } }, by decide +kernel⟩,
    ⟨0, 0, [], { once := true, left := [0], phase := 0 }, dd 0 { belv := { roll := some { once := true, left := [0], phase := 0 } } }, 33, by decide +kernel⟩,
    ⟨7, { once := true, left := [], phase := 1 }, dd 7 { belv := { roll := some { once := true, left := [], phase := 1 } } }, by decide +kernel⟩,
    ⟨0, 16777216, 1627389952, { once := true, left := [], phase := 2, mod := 33, idx := 34 }, dd 0 { belv := { roll := some { once := true, left := [], phase := 2, mod := 33, idx := 34 } } }, by decide +kernel⟩,
    ⟨0, 16777217, 1627389953, { once := true, left := [], phase := 2, mod := 33, idx := 34 }, dd 0 { belv := { roll := some { once := true, left := [], phase := 2, mod := 33, idx := 34 } } }, by decide +kernel⟩,
    ⟨7, 37, 5, 7, [], { dd 7 { belv := { adopt := [(37, 5, 7)] } } with frames := { tRun.frames with nextAt := tRun.now } }, by decide +kernel⟩⟩

theorem test_meets_LoopDacParityAndLane :
    (∃ (d : Nat) (errs : List (Nat × Nat × Nat)) (s : State), (s.runs d = true) ∧ ((s.now - s.pkg.epoch) % 1000 = 0)) ∧
    (∃ (d : Nat) (n : Nat) (code : Int) (s : State), (s.runs d = true) ∧ ((s.ctx d n).bound = true) ∧ ((s.ctx d n).fallback = false) ∧ ((s.ctx d n).out = some code) ∧ ((bit (s.reg (ctxB d n)) 8 = true ∧ (s.ctx d n).outAt < s.now) ∨ (bit (s.reg (ctxB d n)) 8 = false ∧ (s.ctx d n).outAt ≤ s.now ∧ s.now = (s.ctx d n).perAt + (if s.rf (ctxB d n) 15 12 = 0 then 16 else s.rf (ctxB d n) 15 12) * 1000 * rateDiv (s.ctx d n).rate / 16))) ∧
    (∃ (d : Nat) (n : Nat) (code : Int) (s : State), (s.runs d = true) ∧ ((s.ctx d n).bound = true) ∧ ((s.ctx d n).fallback = false) ∧ ((s.ctx d n).out = some code) ∧ (bit (s.reg (ctxB d n)) 8 = false) ∧ (s.now < (s.ctx d n).outAt) ∧ ((s.ctx d n).consec < 2) ∧ (s.now = (s.ctx d n).perAt + (if s.rf (ctxB d n) 15 12 = 0 then 16 else s.rf (ctxB d n) 15 12) * 1000 * rateDiv (s.ctx d n).rate / 16)) ∧
    (∃ (d : Nat) (n : Nat) (k : Nat) (w : Nat) (s : State), (s.runs d = true) ∧ ((s.now - s.pkg.epoch) % 1024000 = 0) ∧ (n < 18) ∧ (k < 8) ∧ (w < 6) ∧ ((s.die d).eng.ctxs.length = 18) ∧ ((s.ctx d n).bound = false) ∧ ((s.ctx d n).failed = false)) ∧
    (∃ (d : Nat) (n : Nat) (k : Nat) (w : Nat) (s : State), (s.runs d = true) ∧ ((s.now - s.pkg.epoch) % 1024000 = 0) ∧ (n < 18) ∧ (k < 8) ∧ (w < 6) ∧ ((s.ctx d n).bound = true)) ∧
    (∃ (d : Nat) (r : LaneReq) (rest : List LaneReq) (s : State), ((s.die d).eng.lane = r :: rest) ∧ (s.runs d = true)) :=
  ⟨⟨7, [], tRun, by decide +kernel⟩,
    ⟨7, 17, 5, (tRun.modCtx 7 17 (fun _ => { bound := true, out := some 5 })).setRf (ctxB 7 17) 8 8 1, by decide +kernel⟩,
    ⟨7, 17, 5, (tRun.modCtx 7 17 (fun _ => { bound := true, out := some 5, outAt := tRun.now + 1, perAt := tRun.now - 1500, consec := 1 })).setRf (ctxB 7 17) 8 8 0, by decide +kernel⟩,
    ⟨7, 17, 7, 5, tRun, by decide +kernel⟩,
    ⟨7, 0, 0, 0, tRun.modCtx 7 0 (fun _ => { bound := true }), by decide +kernel⟩,
    ⟨7, .fit 15, [], dd 7 { eng := { lane := [.fit 15] } }, by decide +kernel⟩⟩

theorem test_meets_CommitAndCounters :
    (∃ (ini : Ini) (d : Nat) (n : Nat) (s : State), (d < 8) ∧ (n < 18) ∧ (s.takesLocked ini (ctxB d n + 0x18) = true) ∧ (s.commitOk d n = true) ∧ ((s.ctx d n).bound = false)) ∧
    (∃ (ini : Ini) (d : Nat) (n : Nat) (s : State), (s.takesLocked ini (ctxB d n + 0x18) = true) ∧ (s.commitOk d n = true) ∧ ((s.ctx d n).bound = true)) ∧
    (∃ (ini : Ini) (d : Nat) (n : Nat) (s : State), (s.takesLocked ini (ctxB d n + 0x18) = true)) ∧
    (∃ (ini : Ini) (d : Nat) (s : State), (s.takes ini (contB d + 0x4C) = true)) :=
  ⟨⟨.qspi, 7, 17, un (ctxB 7 17) tRun, by decide +kernel⟩,
    ⟨.qspi, 7, 17, (un (ctxB 7 17) tRun).modCtx 7 17 (fun _ => { bound := true }), by decide +kernel⟩,
    ⟨.qspi, 0, 0, un (ctxB 0 0) tRun, by decide +kernel⟩,
    ⟨.qspi, 7, tRun, by decide +kernel⟩⟩

theorem test_meets_CommitChecksIntegrators :
    (∃ (ini : Ini) (d : Nat) (n : Nat) (k : Nat) (s : State), (s.takesLocked ini (ctxB d n + 0x18) = true) ∧ (k < s.rf (ctxB d n) 7 4) ∧ (bit (s.reg (editA d n k 20)) 0 = true) ∧ (s.reg (editA d n k 12) ≠ 0xF0000000 ∨ s.reg (editA d n k 16) ≠ 0)) ∧
    (∃ (ini : Ini) (d : Nat) (n : Nat) (j : Nat) (k : Nat) (s : State), (s.takesLocked ini (ctxB d n + 0x18) = true) ∧ (j < k) ∧ (k < s.rf (ctxB d n) 7 4) ∧ (bit (s.reg (editA d n j 20)) 0 = true) ∧ (bit (s.reg (editA d n k 20)) 0 = true)) ∧
    (∃ (ini : Ini) (d : Nat) (n : Nat) (s : State), (s.takesLocked ini (ctxB d n + 0x18) = true) ∧ (∀ k < s.rf (ctxB d n) 7 4, bit (s.reg (editA d n k 20)) 0 = true → s.reg (editA d n k 12) = 0xF0000000 ∧ s.reg (editA d n k 16) = 0 ∧ ∀ j < k, bit (s.reg (editA d n j 20)) 0 = false)) :=
  ⟨⟨.qspi, 7, 17, 3, ((un (ctxB 7 17) tRun).setRf (ctxB 7 17) 7 4 4).setReg (editA 7 17 3 20) 1, by decide +kernel⟩,
    ⟨.qspi, 0, 0, 0, 7, (((un (ctxB 0 0) tRun).setRf (ctxB 0 0) 7 4 8).setReg (editA 0 0 0 20) 1).setReg (editA 0 0 7 20) 1, by decide +kernel⟩,
    ⟨.qspi, 0, 0, (un (ctxB 0 0) tRun).setRf (ctxB 0 0) 7 4 0, by decide +kernel⟩⟩

theorem test_meets_TestGeneratorAndCapture :
    (∃ (ini : Ini) (d : Nat) (s : State), (s.takesLocked ini (contB d + 0x608) = true) ∧ ((s.die d).eng.test.armed = false) ∧ ((s.die d).eng.test.running = false)) ∧
    (∃ (ini : Ini) (d : Nat) (s : State), (s.takesLocked ini (contB d + 0x608) = true) ∧ ((s.die d).eng.test.armed = true ∨ (s.die d).eng.test.running = true)) ∧
    (∃ (ini : Ini) (d : Nat) (s : State), (s.takes ini (contB d + 0x608) = true) ∧ ((s.die d).eng.test.running = true ∨ (s.die d).eng.test.armed = true)) ∧
    (∃ (ini : Ini) (d : Nat) (s : State), (s.takes ini (contB d + 0x608) = true) ∧ ((s.die d).eng.test.running = false) ∧ ((s.die d).eng.test.armed = false)) ∧
    (∃ (d : Nat) (s : State), (s.runs d = true) ∧ ((s.die d).eng.test.running = true) ∧ ((s.die d).eng.test.inj = false) ∧ ((s.die d).eng.test.delay = 0)) ∧
    (∃ (d : Nat) (s : State), (s.runs d = true) ∧ ((s.die d).eng.test.running = true) ∧ ((s.die d).eng.test.seqOver = true)) ∧
    (∃ (ini : Ini) (d : Nat) (s : State), (s.takes ini (contB d + 0x68C) = true) ∧ ((s.die d).eng.cap.state ≠ 1) ∧ ((s.die d).eng.cap.state ≠ 2)) ∧
    (∃ (ini : Ini) (d : Nat) (s : State), (s.takes ini (contB d + 0x68C) = true) ∧ ((s.die d).eng.cap.state = 1 ∨ (s.die d).eng.cap.state = 2)) ∧
    (∃ (ini : Ini) (d : Nat) (s : State), (s.takes ini (contB d + 0x68C) = true) ∧ ((s.die d).eng.cap.state = 1)) ∧
    (∃ (ini : Ini) (d : Nat) (s : State), (s.takes ini (contB d + 0x68C) = true) ∧ ((s.die d).eng.cap.state ≠ 1)) ∧
    (∃ (ini : Ini) (d : Nat) (s : State), (s.takes ini (contB d + 0x68C) = true)) ∧
    (∃ (d : Nat) (s : State), (s.runs d = true) ∧ ((s.die d).eng.cap.state = 2) ∧ ((s.die d).eng.cap.left = 0)) :=
  ⟨⟨.qspi, 7, un (contB 7) tRun, by decide +kernel⟩,
    ⟨.qspi, 7, un (contB 7) (dd 7 { eng := { test := { armed := true } } }), by decide +kernel⟩,
    ⟨.qspi, 7, dd 7 { eng := { test := { running := true } } }, by decide +kernel⟩,
    ⟨.qspi, 7, tRun, by decide +kernel⟩,
    ⟨7, dd 7 { eng := { test := { running := true } } }, by decide +kernel⟩,
    ⟨7, dd 7 { eng := { test := { running := true, seqOver := true } } }, by decide +kernel⟩,
    ⟨.qspi, 7, dd 7 { eng := { cap := { state := 3 } } }, by decide +kernel⟩,
    ⟨.qspi, 7, dd 7 { eng := { cap := { state := 2 } } }, by decide +kernel⟩,
    ⟨.qspi, 7, dd 7 { eng := { cap := { state := 1 } } }, by decide +kernel⟩,
    ⟨.qspi, 7, dd 7 { eng := { cap := { state := 3 } } }, by decide +kernel⟩,
    ⟨.qspi, 7, dd 7 { eng := { cap := { state := 2 } } }, by decide +kernel⟩,
    ⟨7, dd 7 { eng := { cap := { state := 2 } } }, by decide +kernel⟩⟩

theorem test_meets_LinkStates :
    (∃ (p : Nat) (s : State), (s.runs (portDie p) = true) ∧ ((s.port p).link = 1)) ∧
    (∃ (p : Nat) (r : Routes) (s : State), (p < 4) ∧ (s.runs (portDie p) = true) ∧ ((s.port p).link = 2)) ∧
    (∃ (p : Nat) (r : Routes) (s : State), (p < 4) ∧ (s.portUp p = true)) ∧
    (∃ (p : Nat) (cause : Nat) (r : Routes) (s : State), (p < 4) ∧ (s.runs (portDie p) = true) ∧ ((s.port p).link = 3 ∨ ((s.port p).link = 2 ∧ cause = 1))) ∧
    (∃ (p : Nat) (s : State), (s.runs (portDie p) = true) ∧ ((s.port p).link = 4) ∧ ((s.port p).since + 100 * US ≤ s.now)) :=
  ⟨⟨3, tRun.modPort 3 (fun x => { x with link := 1 }), by decide +kernel⟩,
    ⟨3, [], tRun.modPort 3 (fun x => { x with link := 2 }), by decide +kernel⟩,
    ⟨3, [], up, by decide +kernel⟩,
    ⟨0, 1, [], tRun.modPort 0 (fun x => { x with link := 2 }), by decide +kernel⟩,
    ⟨0, tRun.modPort 0 (fun x => { x with link := 4 }), by decide +kernel⟩⟩

theorem test_meets_AcknowledgementAndReplay :
    (∃ (p : Nat) (rx : Line) (s : State), (s.portUp p = true) ∧ (rx.word = none)) ∧
    (∃ (p : Nat) (rx : Line) (s : State), (s.portUp p = true) ∧ (rx.word = none)) ∧
    (∃ (p : Nat) (rx : Line) (s : State), (s.portUp p = true) ∧ (rx.word = none)) ∧
    (∃ (p : Nat) (seq : Nat) (rx : Line) (f : Frame) (r : List Frame) (s : State), (s.portUp p = true) ∧ (rx.word = some (.ack seq)) ∧ (txFrom seq (s.port p).tx = f :: r)) ∧
    (∃ (p : Nat) (seq : Nat) (rx : Line) (f : Frame) (r : List Frame) (s : State), (s.portUp p = true) ∧ (rx.word = some (.nak seq)) ∧ (txFrom seq (s.port p).tx = f :: r) ∧ ((s.port p).tries < 3)) ∧
    (∃ (p : Nat) (seq : Nat) (rx : Line) (f : Frame) (r : List Frame) (s : State), (s.portUp p = true) ∧ (rx.word = some (.nak seq)) ∧ ((s.port p).tx = f :: r) ∧ (f.lseq = seq) ∧ (3 ≤ (s.port p).tries)) ∧
    (∃ (p : Nat) (f : Frame) (r : List Frame) (s : State), (s.portUp p = true) ∧ ((s.port p).tx = f :: r) ∧ ((s.port p).holdTx = false) ∧ (s.inWindow (p / 2) = false) ∧ (2000 ≤ s.replayNs p) ∧ ((s.port p).tries < 3)) ∧
    (∃ (p : Nat) (f : Frame) (r : List Frame) (s : State), (s.portUp p = true) ∧ ((s.port p).tx = f :: r) ∧ ((s.port p).holdTx = false) ∧ (s.inWindow (p / 2) = false) ∧ (2000 ≤ s.replayNs p) ∧ (3 ≤ (s.port p).tries)) ∧
    (∃ (p : Nat) (seq : Nat) (uid : Nat) (rx : Line) (s : State), (s.portUp p = true) ∧ (rx.word = some (.resync seq uid))) :=
  ⟨⟨0, { groups := [] }, up, by decide +kernel⟩,
    ⟨3, { groups := [] }, up, by decide +kernel⟩,
    ⟨0, { groups := [] }, up, by decide +kernel⟩,
    ⟨0, 255, lineOf (LWord.chars (.ack 255)), { ftype := .read, lseq := 255 }, [], up.modPort 0 (fun x => { x with tx := [{ ftype := .read, lseq := 255 }] }), by decide +kernel⟩,
    ⟨0, 255, lineOf (LWord.chars (.nak 255)), { ftype := .read, lseq := 255 }, [], up.modPort 0 (fun x => { x with tx := [{ ftype := .read, lseq := 255 }], tries := 2 }), by decide +kernel⟩,
    ⟨0, 255, lineOf (LWord.chars (.nak 255)), { ftype := .read, lseq := 255 }, [], up.modPort 0 (fun x => { x with tx := [{ ftype := .read, lseq := 255 }], tries := 3 }), by decide +kernel⟩,
    ⟨0, { ftype := .read, lseq := 255 }, [], up.modPort 0 (fun x => { x with tx := [{ ftype := .read, lseq := 255 }], tries := 2 }), by decide +kernel⟩,
    ⟨3, { ftype := .read, lseq := 255 }, [], up.modPort 3 (fun x => { x with tx := [{ ftype := .read, lseq := 255 }], tries := 3 }), by decide +kernel⟩,
    ⟨3, 255, 9, lineOf (LWord.chars (.resync 255 9)), up, by decide +kernel⟩⟩

theorem test_meets_FramesReceived :
    (∃ (p : Nat) (rx : Line) (o : Option Routes) (s : State), (s.portUp p = true) ∧ (∀ f, rx.frame.f = some f → f.ftype ≠ .time) ∧ (rx.frame.ok = false) ∧ (rx.frame.bad = false)) ∧
    (∃ (p : Nat) (rx : Line) (o : Option Routes) (s : State), (s.portUp p = true) ∧ (∀ f, rx.frame.f = some f → f.ftype ≠ .time) ∧ (rx.frame.bad = true)) ∧
    (∃ (p : Nat) (rx : Line) (o : Option Routes) (f : Frame) (s : State), (s.portUp p = true) ∧ (rx.frame.f = some f) ∧ (f.ftype ≠ .time) ∧ (rx.frame.ok = true) ∧ (rx.frame.bad = false) ∧ (f.lseq = (s.port p).rxSeq)) ∧
    (∃ (p : Nat) (rx : Line) (m : Msg) (ok : Bool) (s : State), (s.portUp p = true) ∧ (rx.urgent = some (m, ok)) ∧ (s.isOwn m.srcAddr = false) ∧ (s.isOwn m.tgtAddr = false) ∧ (s.crosses (p / 2) (m.tgtAddr / 128) = false) ∧ (m.hops ≠ 0) ∧ (p % 2 = 0) ∧ ((s.port (p + 1)).wrapped = false)) ∧
    (∃ (p : Nat) (rx : Line) (m : Msg) (ok : Bool) (s : State), (s.portUp p = true) ∧ (rx.urgent = some (m, ok)) ∧ (s.isOwn m.srcAddr = false) ∧ (s.isOwn m.tgtAddr = true) ∧ (ok = true)) ∧
    (∃ (p : Nat) (rx : Line) (m : Msg) (ok : Bool) (s : State), (s.portUp p = true) ∧ (rx.urgent = some (m, ok)) ∧ (s.isOwn m.srcAddr = false) ∧ (s.isOwn m.tgtAddr = true) ∧ (ok = false)) ∧
    (∃ (p : Nat) (rx : Line) (m : Msg) (s : State), (s.portUp p = true) ∧ (rx.urgent = some (m, true)) ∧ (s.isOwn m.srcAddr = true)) :=
  ⟨⟨3, { groups := [] }, none, up, by decide +kernel, fun f h => by
      have e : ({ groups := [] } : Line).frame.f = none := by decide +kernel
      exact absurd (e.symm.trans h) (fun k => nomatch k), by decide +kernel, by decide +kernel⟩,
    ⟨3, lineOf [.ctl kSof, .ctl kEofBad], none, up, by decide +kernel, fun f h => by
      have e : (lineOf [.ctl kSof, .ctl kEofBad]).frame.f = none := by decide +kernel
      exact absurd (e.symm.trans h) (fun k => nomatch k), by decide +kernel⟩,
    ⟨3, lineOf (Frame.chars { ftype := .read, dest := 6, src := 5, addr := 0x4000, len := 4 } false), none, { ftype := .read, dest := 6, src := 5, addr := 0x4000, len := 4 }, up, by decide +kernel⟩,
    ⟨0, lineOf (Msg.chars (⟨.restrain, 5, 9, 0, 6, 127, 7, 1⟩ : Msg) true), (⟨.restrain, 5, 9, 0, 6, 127, 7, 1⟩ : Msg), false, up, by decide +kernel⟩,
    ⟨0, lineOf (Msg.chars (⟨.restrain, 5, 9, 0, 6, 127, 7, 1⟩ : Msg) false), (⟨.restrain, 5, 9, 0, 6, 127, 7, 1⟩ : Msg), true, { up with pairAB := { up.pairAB with joined := true, join := 3, node := 6 } }, by decide +kernel⟩,
    ⟨0, lineOf (Msg.chars (⟨.restrain, 5, 9, 0, 6, 127, 7, 1⟩ : Msg) true), (⟨.restrain, 5, 9, 0, 6, 127, 7, 1⟩ : Msg), false, { up with pairAB := { up.pairAB with joined := true, join := 3, node := 6 } }, by decide +kernel⟩,
    ⟨0, lineOf (Msg.chars (⟨.restrain, 5, 9, 0, 6, 127, 7, 1⟩ : Msg) false), (⟨.restrain, 5, 9, 0, 6, 127, 7, 1⟩ : Msg), { up with pairAB := { up.pairAB with joined := true, join := 3, node := 5 } }, by decide +kernel⟩⟩

theorem test_meets_ElectionAndEnumeration :
    (∃ (p : Nat) (pri : Nat) (uid : Nat) (src : Nat) (ttl : Nat) (s : State), (s.portUp p = true) ∧ (s.primaryLeg p = true) ∧ (s.elects (p / 2) = true) ∧ (uid = s.ident.uid) ∧ ((s.pair (p / 2)).claimSent = true) ∧ ((s.pair (p / 2)).keeper = false) ∧ ((s.pair (p / 2)).joined = false)) ∧
    (∃ (p : Nat) (pri : Nat) (uid : Nat) (src : Nat) (ttl : Nat) (s : State), (s.portUp p = true) ∧ (s.primaryLeg p = true) ∧ (s.elects (p / 2) = true) ∧ (uid ≠ s.ident.uid) ∧ (pri < s.keepPri (p / 2) ∨ (pri = s.keepPri (p / 2) ∧ uid < s.ident.uid))) ∧
    (∃ (p : Nat) (pri : Nat) (uid : Nat) (src : Nat) (ttl : Nat) (s : State), (s.portUp p = true) ∧ (s.primaryLeg p = true) ∧ (s.elects (p / 2) = false)) ∧
    (∃ (p : Nat) (pri : Nat) (uid : Nat) (src : Nat) (pos : Nat) (members : Nat) (collect : Nat) (window : Nat) (keeper : Nat) (node : Nat) (ring : Nat) (ttl : Nat) (xseq : Nat) (q : Option Nat) (c : Option Nat) (pin : Bool) (r : Routes) (i : Instr) (s : State), (s.primaryLeg p = false) ∧ (i = .claimReceive p pri uid src ttl ∨ i = .countReceive p pos ttl ∨ i = .joinReqReceive p uid pos q pin ttl ∨ i = .assignReceive p uid node ring c r ttl ∨ i = .gapReceive p members collect window keeper ttl xseq)) ∧
    (∃ (p : Nat) (pos : Nat) (ttl : Nat) (s : State), (s.portUp p = true) ∧ (s.primaryLeg p = true) ∧ ((s.pair (p / 2)).keeper = false)) ∧
    (∃ (p : Nat) (pos : Nat) (ttl : Nat) (s : State), (s.portUp p = true) ∧ (s.primaryLeg p = true) ∧ ((s.pair (p / 2)).keeper = true) ∧ ((s.pair (p / 2)).forming = true) ∧ ((s.pair (p / 2)).reqs.length < pos)) ∧
    (∃ (p : Nat) (uid : Nat) (pos : Nat) (ttl : Nat) (req : Option Nat) (pin : Bool) (s : State), (s.portUp p = true) ∧ (s.primaryLeg p = true) ∧ ((s.pair (p / 2)).keeper = true) ∧ ((s.pair (p / 2)).forming = true) ∧ ((s.pair (p / 2)).expect = none)) ∧
    (∃ (p : Nat) (uid : Nat) (pos : Nat) (ttl : Nat) (req : Option Nat) (pin : Bool) (s : State) (n : Nat), (s.portUp p = true) ∧ (s.primaryLeg p = true) ∧ ((s.pair (p / 2)).keeper = true) ∧ ((s.pair (p / 2)).forming = false) ∧ ((s.pair (p / 2)).number { uid := uid, pos := pos, req := req, pin := pin } = .inl n)) ∧
    (∃ (p : Nat) (node : Nat) (ring : Nat) (ttl : Nat) (r : Routes) (s : State), (p < 4) ∧ (s.portUp p = true) ∧ (s.primaryLeg p = true) ∧ ((s.pair (p / 2)).keeper = false) ∧ ((s.pair (p / 2)).joined = false) ∧ ((s.pair (p / 2)).join = 3) ∧ (p / 2 = 0 ∨ s.pairMode 1 ≠ 2)) ∧
    (∃ (p : Nat) (node : Nat) (ring : Nat) (ttl : Nat) (r : Routes) (s : State) (c : Nat), (p < 4) ∧ (s.portUp p = true) ∧ (s.primaryLeg p = true) ∧ ((s.pair (p / 2)).keeper = false) ∧ ((s.pair (p / 2)).joined = false) ∧ ((s.pair (p / 2)).join = 3) ∧ (p / 2 = 0 ∨ s.pairMode 1 ≠ 2)) :=
  ⟨⟨0, 0, State.reset.ident.uid, 5, 1, { up with pairAB := { claimSent := true } }, by decide +kernel⟩,
    ⟨0, 0, 99, 5, 0, ({ up with pairAB := { claimSent := true } }).setRf (ringB 0 + 0x40) 15 8 1, by decide +kernel⟩,
    ⟨2, 0, 99, 5, 0, up.setRf (ringB 1 + 0x40) 1 0 3, by decide +kernel⟩,
    ⟨1, 0, 77, 5, 0, 0, 0, 0, 5, 0, 0, 0, 0, none, none, false, [], .countReceive 1 0 0, up, by decide +kernel, .inr (.inl rfl)⟩,
    ⟨0, 128, 0, up, by decide +kernel⟩,
    ⟨0, 129, 5, { up with pairAB := { keeper := true, forming := true } }, by decide +kernel⟩,
    ⟨0, 77, 127, 0, some 5, true, { up with pairAB := { keeper := true, forming := true } }, by decide +kernel⟩,
    ⟨0, 77, 127, 0, some 5, true, { up with pairAB := { keeper := true } }, 5, by decide +kernel⟩,
    ⟨0, 127, 63, 0, [], { up with pairAB := { join := 3 } }, by decide +kernel⟩,
    ⟨0, 127, 63, 1, [], { up with pairAB := { join := 3 } }, 2, by decide +kernel⟩⟩

theorem test_meets_GapJoinAndLeave :
    (∃ (k : Nat) (s : State), (s.runs k = true) ∧ (s.gapKeeper k = true) ∧ ((s.pair k).lastGap + s.gapPer k ≤ s.now)) ∧
    (∃ (p : Nat) (members : Nat) (collect : Nat) (window : Nat) (keeper : Nat) (ttl : Nat) (xseq : Nat) (s : State), (s.runs (p / 2) = true) ∧ (s.primaryLeg p = true) ∧ ((s.pair (p / 2)).join ≠ 0) ∧ (s.gapKeeper (p / 2) = true) ∧ (keeper = s.addrOn (p / 2))) ∧
    (∃ (p : Nat) (members : Nat) (collect : Nat) (window : Nat) (keeper : Nat) (ttl : Nat) (xseq : Nat) (s : State), (s.runs (p / 2) = true) ∧ (s.primaryLeg p = true) ∧ ((s.pair (p / 2)).join ≠ 0) ∧ (s.gapKeeper (p / 2) = false) ∧ ((s.pair (p / 2)).keeperAddr = some keeper) ∧ ((s.pair (p / 2)).join = 3) ∧ ((s.pair (p / 2)).joined = true) ∧ (s.windowOk (p / 2) window = true)) ∧
    (∃ (p : Nat) (members : Nat) (collect : Nat) (window : Nat) (keeper : Nat) (ttl : Nat) (xseq : Nat) (s : State), (s.runs (p / 2) = true) ∧ (s.primaryLeg p = true) ∧ ((s.pair (p / 2)).join ≠ 0) ∧ (s.gapKeeper (p / 2) = false) ∧ ((s.pair (p / 2)).keeperAddr = some keeper) ∧ ((s.pair (p / 2)).join = 2) ∧ (s.windowOk (p / 2) window = true)) ∧
    (∃ (p : Nat) (members : Nat) (collect : Nat) (window : Nat) (keeper : Nat) (ttl : Nat) (xseq : Nat) (s : State), (s.runs (p / 2) = true) ∧ (s.primaryLeg p = true) ∧ ((s.pair (p / 2)).join ≠ 0) ∧ (s.gapKeeper (p / 2) = false) ∧ ((s.pair (p / 2)).keeperAddr = some keeper) ∧ (s.windowOk (p / 2) window = false)) ∧
    (∃ (k : Nat) (w : Nat) (r : Routes) (s : State), (k < 2) ∧ ((s.pair k).window = some w) ∧ (s.runs k = true) ∧ (w ≤ s.nowNs) ∧ ((s.pair k).served = false) ∧ ((s.pair k).join = 2) ∧ ((s.pair k).wicketOpen = false)) ∧
    (∃ (k : Nat) (w : Nat) (r : Routes) (s : State), (k < 2) ∧ ((s.pair k).window = some w) ∧ (s.runs k = true) ∧ (w ≤ s.nowNs) ∧ ((s.pair k).served = false) ∧ ((s.pair k).join = 3) ∧ ((s.pair k).leaving = true) ∧ ((s.pair k).drained = true)) ∧
    (∃ (k : Nat) (w : Nat) (r : Routes) (s : State) (p : Nat), (k < 2) ∧ ((s.pair k).window = some w) ∧ (s.runs k = true) ∧ (w ≤ s.nowNs) ∧ ((s.pair k).served = false) ∧ (p / 2 = k) ∧ (p < s.ports.length) ∧ ((s.pair k).join = 3) ∧ ((s.pair k).leaving = false) ∧ ((s.port p).wrapped = true) ∧ ((s.port p).unwrapDue = true)) ∧
    (∃ (k : Nat) (w : Nat) (r : Routes) (s : State), (k < 2) ∧ ((s.pair k).window = some w) ∧ (s.runs k = true) ∧ (w ≤ s.nowNs) ∧ ((s.pair k).served = true)) ∧
    (∃ (k : Nat) (s : State), (k < 2) ∧ (s.runs k = true) ∧ (s.gapKeeper k = false) ∧ ((s.pair k).lastGap + 3 * s.gapPer k ≤ s.now) ∧ ((s.pair k).join = 3) ∧ (s.pairMode k ≠ 3) ∧ (s.elects k = true)) ∧
    (∃ (k : Nat) (s : State), (k < 2) ∧ (s.runs k = true) ∧ (s.gapKeeper k = false) ∧ ((s.pair k).lastGap + 3 * s.gapPer k ≤ s.now) ∧ ((s.pair k).join = 3) ∧ (s.pairMode k = 3)) ∧
    (∃ (k : Nat) (s : State), (k < 2) ∧ (s.runs k = true) ∧ (s.gapKeeper k = false) ∧ ((s.pair k).lastGap + 3 * s.gapPer k ≤ s.now) ∧ ((s.pair k).join = 1 ∨ (s.pair k).join = 2)) ∧
    (∃ (ini : Ini) (k : Nat) (s : State), (k < 2) ∧ (s.takes ini (ringB k + 0x44) = true) ∧ ((s.pair k).join = 0) ∧ (s.runs k = true) ∧ (s.pkg.testHold = false) ∧ (s.pairMode k = 1 ∨ s.pairMode k = 2)) ∧
    (∃ (ini : Ini) (k : Nat) (s : State), (k < 2) ∧ (s.takes ini (ringB k + 0x44) = true) ∧ ((s.pair k).join = 0) ∧ (s.runs k = true) ∧ (s.pkg.testHold = false) ∧ (s.pairMode k = 3)) ∧
    (∃ (ini : Ini) (k : Nat) (s : State), (k < 2) ∧ (s.takes ini (ringB k + 0x44) = true) ∧ (s.pairMode k = 0 ∨ (s.pair k).join ≠ 0 ∨ s.pkg.testHold = true)) ∧
    (∃ (ini : Ini) (k : Nat) (s : State), (k < 2) ∧ (s.takes ini (ringB k + 0x44) = true) ∧ ((s.pair k).joined = true)) ∧
    (∃ (ini : Ini) (k : Nat) (s : State), (k < 2) ∧ (s.takes ini (ringB k + 0x44) = true) ∧ ((s.pair k).joined = false) ∧ ((s.pair k).join ≠ 0)) ∧
    (∃ (ini : Ini) (k : Nat) (s : State), (k < 2) ∧ (s.takes ini (ringB k + 0x44) = true) ∧ ((s.pair k).joined = false) ∧ ((s.pair k).join = 0)) ∧
    (∃ (k : Nat) (s : State), (s.runs k = true) ∧ ((s.pair k).leaving = true) ∧ (s.xact.tq = [])) ∧
    (∃ (k : Nat) (s : State), (s.runs k = true) ∧ ((s.pair k).leaving = true) ∧ (s.xact.tq ≠ [])) :=
  ⟨⟨0, { up with pairAB := { join := 3, joined := true, keeper := true } }, by decide +kernel⟩,
    ⟨0, 3, 0, 5, 0, 1, 0, { up with pairAB := { join := 3, joined := true, keeper := true } }, by decide +kernel⟩,
    ⟨0, 3, 0, 5, 7, 0, 0, { up with pairAB := { join := 3, joined := true, keeperAddr := some 7 } }, by decide +kernel⟩,
    ⟨0, 3, 0, 5, 7, 0, 0, { up with pairAB := { join := 2, keeperAddr := some 7 } }, by decide +kernel⟩,
    ⟨0, 3, 0, tRun.nowNs + SEC * 10, 7, 0, 0, { up with pairAB := { join := 3, joined := true, keeperAddr := some 7 } }, by decide +kernel⟩,
    ⟨0, 0, [], { up with pairAB := { join := 2, window := some 0 } }, by decide +kernel⟩,
    ⟨0, 0, [], { up with pairAB := { join := 3, joined := true, window := some 0, leaving := true, drained := true } }, by decide +kernel⟩,
    ⟨0, 0, [], ({ up with pairAB := { join := 3, joined := true, window := some 0 } }).modPort 1 (fun x => { x with wrapped := true, unwrapDue := true }), 1, by decide +kernel⟩,
    ⟨1, 0, [], { up with pairCD := { window := some 0, served := true } }, by decide +kernel⟩,
    ⟨0, { up with pairAB := { join := 3, joined := true } }, by decide +kernel⟩,
    ⟨1, { up with pairCD := { join := 3 } }.setRf (ringB 1 + 0x40) 1 0 3, by decide +kernel⟩,
    ⟨0, { up with pairAB := { join := 2 } }, by decide +kernel⟩,
    ⟨.qspi, 0, { tRun with pairAB := {} }, by decide +kernel⟩,
    ⟨.qspi, 1, { tRun with pairCD := {} }.setRf (ringB 1 + 0x40) 1 0 3, by decide +kernel⟩,
    ⟨.qspi, 0, { tRun with pairAB := { join := 2 } }, by decide +kernel⟩,
    ⟨.qspi, 1, { tRun with pairCD := { join := 3, joined := true } }, by decide +kernel⟩,
    ⟨.qspi, 1, { tRun with pairCD := { join := 2 } }, by decide +kernel⟩,
    ⟨.qspi, 0, { tRun with pairAB := {} }, by decide +kernel⟩,
    ⟨1, { tRun with pairCD := { join := 3, joined := true, leaving := true } }, by decide +kernel⟩,
    ⟨1, { tRun with pairCD := { join := 3, joined := true, leaving := true }, xact := { tq := [(0, { ftype := .read })] } }, by decide +kernel⟩⟩

theorem test_meets_TransactionsAndRequests :
    (∃ (ini : Ini) (v : Word) (s : State), (s.takes ini (xactB + 0x48) = true) ∧ (fld v 31 30 = 1) ∧ (s.rf (xactB + 0x40) 31 31 = 0) ∧ (badRange (s.rf (xactB + 0x44) 23 0 / 4 * 4) (fld v 22 16) = false) ∧ (s.xact.addrSet = true) ∧ (s.xact.tags.length = 64) ∧ (s.freeTags ≠ [])) ∧
    (∃ (ini : Ini) (v : Word) (s : State), (s.takes ini (xactB + 0x48) = true) ∧ (fld v 31 30 = 1) ∧ (s.rf (xactB + 0x40) 31 31 = 0) ∧ (badRange (s.rf (xactB + 0x44) 23 0 / 4 * 4) (fld v 22 16) = false) ∧ (s.xact.addrSet = true) ∧ (s.xact.tags.length = 64) ∧ (s.freeTags = [])) ∧
    (∃ (ini : Ini) (v : Word) (s : State), (s.takes ini (xactB + 0x48) = true) ∧ (fld v 31 30 = 0 ∨ fld v 31 30 = 3 ∨ badRange (s.rf (xactB + 0x44) 23 0 / 4 * 4) (fld v 22 16) = true ∨ s.xact.addrSet = false)) ∧
    (∃ (ini : Ini) (s : State) (c : Cpl) (r : List Cpl), (s.serving = true) ∧ (s.refusal (xactB + 0x60) = 0) ∧ (s.xact.cpl = c :: r)) ∧
    (∃ (ini : Ini) (s : State), (s.serving = true) ∧ (s.refusal (xactB + 0x60) = 0) ∧ (s.xact.cpl = [])) ∧
    (∃ (k : Nat) (s : State), (s.serving = true) ∧ ((s.tag k).st = 1) ∧ ((s.tag k).sentAt + s.rf (xactB + 0x54) 19 0 * US ≤ s.now)) ∧
    (∃ (k : Nat) (a : Nat) (s : State), (s.serving = true) ∧ ((s.tag k).st = 1) ∧ ((s.tag k).busyAt = some a) ∧ (a + 5 * US ≤ s.now)) ∧
    (∃ (ini : Ini) (v : Word) (s : State), (s.takes ini (xactB + 0x54) = true) ∧ (10 ≤ fld v 19 0) ∧ (fld v 19 0 ≤ 1000000) ∧ (s.tmoFloor (fld v 31 24) ≤ fld v 19 0)) ∧
    (∃ (ini : Ini) (v : Word) (s : State), (s.takes ini (xactB + 0x54) = true) ∧ (10 ≤ fld v 19 0) ∧ (fld v 19 0 ≤ 1000000) ∧ (fld v 19 0 < s.tmoFloor (fld v 31 24))) ∧
    (∃ (k : Nat) (f : Frame) (rest : List (Nat × Frame)) (late : Late) (s : State), (s.serving = true) ∧ (s.xact.tq = (k, f) :: rest) ∧ (s.ringPops = false ∨ s.qspiPops = false) ∧ (s.xact.recent.contains (f.src, f.tag, f.epoch) = true)) ∧
    (∃ (k : Nat) (f : Frame) (rest : List (Nat × Frame)) (late : Late) (s : State), (s.serving = true) ∧ (s.xact.tq = (k, f) :: rest) ∧ (s.ringPops = false ∨ s.qspiPops = false) ∧ (s.xact.recent.contains (f.src, f.tag, f.epoch) = false) ∧ (f.ftype = .read)) ∧
    (∃ (k : Nat) (f : Frame) (rest : List (Nat × Frame)) (late : Late) (s : State), (s.serving = true) ∧ (s.xact.tq = (k, f) :: rest) ∧ (s.ringPops = false ∨ s.qspiPops = false) ∧ (s.xact.recent.contains (f.src, f.tag, f.epoch) = false) ∧ (f.ftype = .write) ∧ (s.isOwn f.src = false) ∧ (s.filtered f.src = true)) ∧
    (∃ (k : Nat) (f : Frame) (rest : List (Nat × Frame)) (late : Late) (s : State), (s.serving = true) ∧ (s.xact.tq = (k, f) :: rest) ∧ (s.ringPops = true) ∧ (s.qspiPops = true)) :=
  ⟨⟨.qspi, 0x40010000, { tRun with xact := { addrSet := true } }, by decide +kernel⟩,
    ⟨.qspi, 0x40010000, { tRun with xact := { addrSet := true, tags := List.replicate 64 { st := 1 } } }, by decide +kernel⟩,
    ⟨.qspi, 0xC0010000, tRun, by decide +kernel⟩,
    ⟨.ring 3, { tRun with xact := { cpl := [⟨63, 0, 0, 0, 0, 5, [1]⟩] } }, ⟨63, 0, 0, 0, 0, 5, [1]⟩, [], by decide +kernel⟩,
    ⟨.qspi, tRun, by decide +kernel⟩,
    ⟨63, { tRun with xact := { tags := List.replicate 63 {} ++ [{ st := 1 }] } }, by decide +kernel⟩,
    ⟨63, 0, { tRun with xact := { tags := List.replicate 63 {} ++ [{ st := 1, busyAt := some 0 }] } }, by decide +kernel⟩,
    ⟨.qspi, 1000000, tRun, by decide +kernel⟩,
    ⟨.qspi, 10, tRun, by decide +kernel⟩,
    ⟨0, { ftype := .read }, [], [], { tRun with xact := { tq := [(0, { ftype := .read })], recent := [(0, 0, 0)] } }, by decide +kernel⟩,
    ⟨0, { ftype := .read }, [], [], { tRun with xact := { tq := [(0, { ftype := .read })] } }, by decide +kernel⟩,
    ⟨0, { ftype := .write, src := 5 }, [], [], ({ tRun with xact := { tq := [(0, { ftype := .write, src := 5 })] } }).setReg (xactB + 0x80) 0x80000000, by decide +kernel⟩,
    ⟨0, { ftype := .read, src := 5, addr := queueB + 0x40, len := 4 }, [], [], { tRun with xact := { tq := [(0, { ftype := .read, src := 5, addr := queueB + 0x40, len := 4 })] }, pending := [.queuePop .qspi] }, by decide +kernel⟩⟩

theorem test_meets_TimeSourceAndServoCommands :
    (∃ (falling : Bool) (c : Nat) (s : State), (s.leadIn = true) ∧ (bit (s.reg (merB + 0x88)) 31 = true) ∧ (bit (s.reg (merB + 0x88)) 30 = falling) ∧ (s.mer.train = none) ∧ (s.mer.ppsLast = none) ∧ (s.merRole ≠ 1)) ∧
    (∃ (falling : Bool) (c : Nat) (s : State) (a : Nat), (s.leadIn = true) ∧ (bit (s.reg (merB + 0x88)) 31 = true) ∧ (bit (s.reg (merB + 0x88)) 30 = falling) ∧ (s.mer.train = none) ∧ (s.mer.ppsLast = some a) ∧ (250000 < ((c : Int) - a - 1000000000).natAbs)) ∧
    (∃ (s : State), (s.inRun = true) ∧ (s.mer.ppsAt + SEC + SEC / 2 ≤ s.now) ∧ (s.merRole ≠ 1)) ∧
    (∃ (s : State), (s.inRun = true) ∧ (s.mer.ppsAt + SEC + SEC / 2 ≤ s.now) ∧ (s.merRole = 1) ∧ (s.mer.st = 1 ∨ s.mer.st = 3)) ∧
    (∃ (s : State), (s.inRun = true) ∧ (s.merRole ≠ 1) ∧ (s.mer.st = 1) ∧ (s.mer.lastAt + 3 * s.timePer ≤ s.now)) ∧
    (∃ (ini : Ini) (s : State), (s.takes ini (merB + 0x50) = true)) ∧
    (∃ (ini : Ini) (s : State), (s.takes ini (merB + 0x50) = true)) ∧
    (∃ (ini : Ini) (s : State), (s.takes ini (merB + 0x54) = true)) ∧
    (∃ (ini : Ini) (s : State) (p : Nat), (s.takes ini (merB + 0x54) = true) ∧ (s.mer.port = some p) ∧ (s.mer.st = 1) ∧ (s.merRole ≠ 1) ∧ (s.rf (merB + 0x88) 31 31 = 1) ∧ ((s.port p).nbState = 1)) ∧
    (∃ (ini : Ini) (s : State), (s.takes ini (merB + 0x54) = true) ∧ (s.mer.port = none ∨ s.mer.st ≠ 1 ∨ s.merRole = 1 ∨ s.rf (merB + 0x88) 31 31 ≠ 1)) :=
  ⟨⟨true, 5, tRun.setReg (merB + 0x88) 0xC0000000, by decide +kernel⟩,
    ⟨false, 1000250006, ({ tRun with mer := { tRun.mer with ppsLast := some 5, ppsAt := tRun.now } }).setReg (merB + 0x88) 0x80000000, 5, by decide +kernel⟩,
    ⟨{ tRun with mer := { tRun.mer with ppsLast := some 5, ppsAt := tRun.now - 300000000 } }, by decide +kernel⟩,
    ⟨{ up with pairAB := { up.pairAB with keeper := true, joined := true, join := 3 }, mer := { tRun.mer with st := 1, ppsAt := tRun.now - 300000000 } }.setReg (merB + 0x40) 0x80000000, by decide +kernel⟩,
    ⟨{ tRun with mer := { tRun.mer with st := 1 } }, by decide +kernel⟩,
    ⟨.qspi, tRun, by decide +kernel⟩,
    ⟨.ring 7, tRun, by decide +kernel⟩,
    ⟨.qspi, tRun, by decide +kernel⟩,
    ⟨.qspi, (({ tRun with mer := { tRun.mer with st := 1, port := some 3 } }).setReg (merB + 0x88) 0x80000000).modPort 3 (fun x => { x with nbState := 1 }), 3, by decide +kernel⟩,
    ⟨.qspi, tRun, by decide +kernel⟩⟩

theorem test_meets_TimeProbesAndEchoes :
    (∃ (p : Nat) (t1 : Nat) (f : Frame) (s : State), (s.portUp p = true) ∧ (∀ a, (s.port p).probeAt = some a → a + s.timePer ≤ s.now) ∧ (f = s.timeFrame 1 (stampBytes t1 ++ [s.merSteps, s.merByte]))) ∧
    (∃ (p : Nat) (t1 : Nat) (t2 : Nat) (t3 : Nat) (steps : Nat) (st : Nat) (q : Nat) (s : State), (s.portUp p = true)) ∧
    (∃ (p : Nat) (t1 : Nat) (t2 : Nat) (t3 : Nat) (t4 : Nat) (steps : Nat) (st : Nat) (q : Nat) (r : Routes) (s : State), (s.portUp p = true) ∧ ((s.port p).probeT1 = some t1) ∧ (t3 ≤ t2 + 50000) ∧ (t4 ≤ t1 + 100000)) ∧
    (∃ (p : Nat) (t1 : Nat) (t2 : Nat) (t3 : Nat) (t4 : Nat) (steps : Nat) (st : Nat) (q : Nat) (r : Routes) (s : State), (s.portUp p = true) ∧ ((s.port p).probeT1 ≠ some t1)) ∧
    (∃ (p : Nat) (t1 : Nat) (t2 : Nat) (steps : Nat) (st : Nat) (q : Nat) (s : State), (p < s.ports.length) ∧ (s.runs (p / 2) = true) ∧ ((s.pair (p / 2)).join = 1) ∧ ((s.pair (p / 2)).wicketOpen = false) ∧ (steps ≠ 255) ∧ (s.merRole = 0) ∧ (s.mer.refLost = false) ∧ (s.hearsTime (if p % 2 == 0 then p + 1 else p - 1) = false) ∧ ((s.port p).delays = [])) ∧
    (∃ (p : Nat) (t1 : Nat) (t2 : Nat) (t3 : Nat) (t4 : Nat) (steps : Nat) (st : Nat) (q : Nat) (id : Nat) (src : Nat) (r : Routes) (i : Instr) (s : State), (i = .probeReceive p t1 t2 t3 steps st q false ∨ i = .echoReceive p t1 t2 t3 t4 steps st q false r ∨ i = .tappedProbe p t1 t2 steps st q false ∨ i = .hostProbeReceive p t2 id src false)) ∧
    (∃ (ini : Ini) (v : Word) (t1 : Nat) (f : Frame) (s : State), (s.takes ini (merB + 0xA0) = true) ∧ (s.portUp (fld v 17 16) = true) ∧ (f = s.timeFrame 3 (stampBytes t1 ++ [fld v 7 0, 0]))) ∧
    (∃ (ini : Ini) (v : Word) (t1 : Nat) (f : Frame) (s : State), (s.takes ini (merB + 0xA0) = true) ∧ (s.portUp (fld v 17 16) = false)) ∧
    (∃ (p : Nat) (t2 : Nat) (id : Nat) (src : Nat) (s : State), (s.portUp p = true)) ∧
    (∃ (ini : Ini) (s : State) (a : Nat) (p : Nat) (id : Nat) (r : List (Nat × Nat × Nat)), (s.serving = true) ∧ (s.refusal (merB + 0xA4) = 0) ∧ (s.mer.txs = (a, p, id) :: r)) ∧
    (∃ (ini : Ini) (s : State), (s.serving = true) ∧ (s.refusal (merB + 0xA4) = 0) ∧ (s.mer.txs = [])) :=
  ⟨⟨3, 5, (State.timeFrame up 1 (stampBytes 5 ++ [up.merSteps, up.merByte])), up, by decide +kernel, fun a h => by
      have e : (up.port 3).probeAt = none := by decide +kernel
      exact absurd (e.symm.trans h) (fun k => nomatch k), rfl⟩,
    ⟨3, 5, 6, 7, 1, 1, 1, up, by decide +kernel⟩,
    ⟨3, 5, 6, 50006, 100005, 1, 1, 1, [], up.modPort 3 (fun x => { x with probeT1 := some 5 }), by decide +kernel⟩,
    ⟨3, 5, 6, 7, 8, 1, 1, 1, [], up, by decide +kernel⟩,
    ⟨0, 5, 6, 0, 1, 1, { tRun with pairAB := { join := 1 } }, by decide +kernel⟩,
    ⟨3, 5, 6, 7, 8, 1, 1, 1, 0, 0, [], .probeReceive 3 5 6 7 1 1 1 false, up, by decide +kernel⟩,
    ⟨.qspi, 0x30005, 9, (State.timeFrame up 3 (stampBytes 9 ++ [5, 0])), up, by decide +kernel⟩,
    ⟨.qspi, 0x30005, 9, (State.timeFrame tRun 3 (stampBytes 9 ++ [5, 0])), tRun, by decide +kernel⟩,
    ⟨3, 5, 6, 7, up, by decide +kernel⟩,
    ⟨.ring 1, { tRun with mer := { tRun.mer with txs := [(5, 3, 9)] } }, 5, 3, 9, [], by decide +kernel⟩,
    ⟨.qspi, tRun, by decide +kernel⟩⟩

theorem test_meets_TimersAndPulseOutput :
    (∃ (ini : Ini) (n : Nat) (v : Word) (s : State), (n < 16) ∧ (s.mer.timers.length = 16) ∧ (s.takes ini (tmrB n + 0x10) = true)) ∧
    (∃ (n : Nat) (s : State), (s.inRun = true) ∧ ((s.tmr n).active = true) ∧ (if (s.tmr n).lateNow then (s.tmr n).setAt < s.now else (s.tmr n).next ≤ s.nowNs)) ∧
    (∃ (s : State), (s.inRun = true) ∧ ((s.mer.ppsNext : Int) ≤ s.ppsSec)) :=
  ⟨⟨.qspi, 15, 0x80000000, tRun, by decide +kernel⟩,
    ⟨15, tRun.modTmr 15 (fun _ => { active := true, period := 5 }), by decide +kernel⟩,
    ⟨{ tRun with mer := { tRun.mer with ppsNext := 0 } }, by decide +kernel⟩⟩

theorem test_meets_NurseryOperationsAndLeadMove :
    (∃ (ini : Ini) (v : Word) (n : Nat) (s : State), (s.takesLocked ini nursCmdA = true) ∧ (fld (setFld v 31 28 3) 14 8 = n) ∧ (fld (setFld v 31 28 3) 31 28 = 3) ∧ (s.idleSlot n = true) ∧ (s.backup n = true) ∧ ((s.slot n).role = true)) ∧
    (∃ (ini : Ini) (v : Word) (n : Nat) (s : State), (s.takesLocked ini nursCmdA = true) ∧ (fld (setFld v 31 28 3) 14 8 = n) ∧ (fld (setFld v 31 28 3) 31 28 = 3) ∧ (s.idleSlot n = false ∨ (s.slot n).role = false)) ∧
    (∃ (ini : Ini) (v : Word) (n : Nat) (c : Nat) (s : State), (s.takesLocked ini nursCmdA = true) ∧ (fld (setFld v 31 28 4) 14 8 = n) ∧ (fld (setFld v 31 28 4) 3 0 = c) ∧ (fld (setFld v 31 28 4) 31 28 = 4) ∧ (s.idleSlot n = true) ∧ (c < 4) ∧ (nbit (s.excl n) c = true)) ∧
    (∃ (ini : Ini) (v : Word) (n : Nat) (c : Nat) (s : State), (s.takesLocked ini nursCmdA = true) ∧ (fld (setFld v 31 28 4) 14 8 = n) ∧ (fld (setFld v 31 28 4) 3 0 = c) ∧ (fld (setFld v 31 28 4) 31 28 = 4) ∧ (s.idleSlot n = true) ∧ (c < 4) ∧ (nbit (s.excl n) c = false)) ∧
    (∃ (ini : Ini) (v : Word) (n : Nat) (s : State), (s.takesLocked ini nursCmdA = true) ∧ (fld (setFld v 31 28 7) 14 8 = n) ∧ (fld (setFld v 31 28 7) 31 28 = 7) ∧ (s.slotHere n = true) ∧ (fld (setFld v 31 28 7) 3 0 = 0)) ∧
    (∃ (ini : Ini) (v : Word) (n : Nat) (s : State), (s.takesLocked ini nursCmdA = true) ∧ (fld (setFld v 31 28 7) 14 8 = n) ∧ (fld (setFld v 31 28 7) 31 28 = 7) ∧ (s.slotHere n = true) ∧ (fld (setFld v 31 28 7) 3 0 = 1)) ∧
    (∃ (ini : Ini) (v : Word) (n : Nat) (s : State), (s.takesLocked ini nursCmdA = true) ∧ (fld (setFld v 31 28 7) 14 8 = n) ∧ (fld (setFld v 31 28 7) 31 28 = 7) ∧ (s.slotHere n = true) ∧ (fld (setFld v 31 28 7) 3 0 = 2)) ∧
    (∃ (ini : Ini) (v : Word) (d : Nat) (m : Nat) (s : State), (s.takesLocked ini nursCmdA = true) ∧ (fld (setFld v 31 28 6) 18 16 = d) ∧ (fld (setFld v 31 28 6) 14 8 = m) ∧ (fld (setFld v 31 28 6) 31 28 = 6) ∧ (s.runs d = true) ∧ (m < 38) ∧ ((s.die d).belv.mods.length = 38) ∧ (s.modIdx d m = 34) ∧ (s.modState d m = 0) ∧ ((s.die d).belv.roll = none)) ∧
    (∃ (d : Nat) (diff : Int) (r : SwapRun) (s : State), ((s.die d).belv.swap = some r) ∧ (s.runs d = true) ∧ (r.handing = false) ∧ (r.at_ + (if r.idx == 33 then 51600 else 64 * s.period) ≤ s.now)) ∧
    (∃ (ini : Ini) (v : Word) (d : Nat) (s : State), (s.takesLocked ini nursCmdA = true) ∧ (fld (setFld v 31 28 5) 18 16 = d) ∧ (fld (setFld v 31 28 5) 31 28 = 5) ∧ (d < 2) ∧ (d ≠ s.pkg.lead) ∧ (s.runs d = true)) ∧
    (∃ (ini : Ini) (v : Word) (d : Nat) (s : State), (s.takesLocked ini nursCmdA = true) ∧ (fld (setFld v 31 28 5) 18 16 = d) ∧ (fld (setFld v 31 28 5) 31 28 = 5) ∧ (2 ≤ d ∨ d = s.pkg.lead ∨ s.runs d = false)) ∧
    (∃ (d : Nat) (s : State), (s.pkg.hand = some d) ∧ (s.pkg.handLost = false) ∧ (s.inRun = true) ∧ (s.runs d = true)) ∧
    (∃ (s : State), (s.inRun = true) ∧ (s.pkg.wearAt + s.rf (nursB + 0x50) 11 0 * SEC ≤ s.now)) ∧
    (∃ (ini : Ini) (v : Word) (r : NReq) (rest : List NReq) (s : State), (s.takesLocked ini nursCmdA = true) ∧ (s.nurs = r :: rest) ∧ (r.named (setFld v 31 28 1) = true) ∧ (r.kind = 1) ∧ (r.sub < 4) ∧ (nbit (s.excl r.inst) (if r.sub % 2 == 0 then r.sub + 1 else r.sub - 1) = false)) ∧
    (∃ (ini : Ini) (v : Word) (r : NReq) (rest : List NReq) (s : State), (s.takesLocked ini nursCmdA = true) ∧ (s.nurs = r :: rest) ∧ (r.named (setFld v 31 28 2) = true) ∧ (r.kind = 1)) ∧
    (∃ (ini : Ini) (v : Word) (s : State), (s.takesLocked ini nursCmdA = true) ∧ (s.nurs = [] ∨ (∃ r rest, s.nurs = r :: rest ∧ r.named (setFld v 31 28 1) = false))) ∧
    (∃ (ini : Ini) (v : Word) (s : State), (s.takesLocked ini nursCmdA = true) ∧ (s.nurs = [] ∨ (∃ r rest, s.nurs = r :: rest ∧ r.named (setFld v 31 28 2) = false))) :=
  ⟨⟨.qspi, 0x7F00, 127, (un nursCmdA (sl 127 { role := true })).setRf (slotB 127 + 0x100) 0 0 1, by decide +kernel⟩,
    ⟨.qspi, 0x7F00, 127, un nursCmdA (sl 127 { st := .on, role := true }), by decide +kernel⟩,
    ⟨.qspi, 0x7F03, 127, 3, (un nursCmdA tRun).setRf (slotB 127 + 0x118) 27 27 1, by decide +kernel⟩,
    ⟨.qspi, 0, 0, 0, un nursCmdA (tRun), by decide +kernel⟩,
    ⟨.qspi, 0x7F00, 127, un nursCmdA (sl 127 { wear := { trips := 5 } }), by decide +kernel⟩,
    ⟨.qspi, 0x7F01, 127, un nursCmdA (sl 127 { wear := { trips := 5 } }), by decide +kernel⟩,
    ⟨.qspi, 0x7F02, 127, un nursCmdA (sl 127 { wear := { trips := 5 } }), by decide +kernel⟩,
    ⟨.qspi, 0x72500, 7, 37, un nursCmdA (tRun), by decide +kernel⟩,
    ⟨0, 5, { idx := 33, from_ := 36, spare := 37, at_ := 0 }, dd 0 { belv := { swap := some { idx := 33, from_ := 36, spare := 37, at_ := 0 } } }, by decide +kernel⟩,
    ⟨.qspi, 0x10000, 1, un nursCmdA (tRun), by decide +kernel⟩,
    ⟨.qspi, 0x70000, 7, un nursCmdA (tRun), by decide +kernel⟩,
    ⟨1, { tRun with pkg := { tRun.pkg with hand := some 1 } }, by decide +kernel⟩,
    ⟨{ tRun with now := 4000 * SEC }, by decide +kernel⟩,
    ⟨.qspi, 0x01077F03, ⟨1, 7, 127, 3⟩, [], { un nursCmdA tRun with nurs := [⟨1, 7, 127, 3⟩] }, by decide +kernel⟩,
    ⟨.qspi, 0x01077F03, ⟨1, 7, 127, 3⟩, [], { un nursCmdA tRun with nurs := [⟨1, 7, 127, 3⟩] }, by decide +kernel⟩,
    ⟨.qspi, 0, un nursCmdA (tRun), by decide +kernel, .inl rfl⟩,
    ⟨.qspi, 0x01077F02, { un nursCmdA tRun with nurs := [⟨1, 7, 127, 3⟩] }, by decide +kernel, .inr ⟨⟨1, 7, 127, 3⟩, [], rfl, by decide +kernel⟩⟩⟩

theorem test_meets_ConfigurationStore :
    (∃ (ini : Ini) (s : State), (s.takesLocked ini (cfgB + 0x48) = true) ∧ (s.cfg.stage = none) ∧ (s.saveBar s.saveRecs.length = 0)) ∧
    (∃ (ini : Ini) (s : State), (s.takesLocked ini (cfgB + 0x48) = true) ∧ (s.cfg.stage ≠ none)) ∧
    (∃ (ini : Ini) (s : State), (s.takesLocked ini (cfgB + 0x48) = true) ∧ (s.cfg.stage = none) ∧ (s.cfg.save = none)) ∧
    (∃ (ini : Ini) (s : State), (s.takesLocked ini (cfgB + 0x48) = true) ∧ (s.cfg.stage ≠ none) ∧ (s.cfg.save = none)) ∧
    (∃ (ini : Ini) (s : State), (s.takesLocked ini (cfgB + 0x48) = true) ∧ (s.cfg.stage ≠ none) ∧ (s.saveBar 0 = 0) ∧ (imgStatus s.ident.part.code s.ident.uid s.stageImage = 0) ∧ (s.newestSeq < imgSeq s.stageImage)) ∧
    (∃ (ini : Ini) (s : State), (s.takesLocked ini (cfgB + 0x48) = true) ∧ (s.cfg.stage = none)) ∧
    (∃ (ini : Ini) (s : State), (s.takesLocked ini (cfgB + 0x48) = true) ∧ (s.cfg.stage ≠ none)) ∧
    (∃ (ini : Ini) (s : State), (s.takesLocked ini (cfgB + 0x48) = true) ∧ (s.cfg.stage = none)) ∧
    (∃ (ini : Ini) (a : Nat) (v : Word) (l : Loc) (s : State) (o : Nat) (m : List (Nat × Byte)), (locate a = some l) ∧ (l.blk = .feram) ∧ (s.serving = true) ∧ (s.refusal a = 0) ∧ (s.stageOff a = some o) ∧ (s.cfg.stage = some m)) ∧
    (∃ (ini : Ini) (a : Nat) (v : Word) (l : Loc) (s : State), (locate a = some l) ∧ (l.blk = .feram) ∧ (s.serving = true) ∧ (s.refusal a = 0) ∧ (s.stageOff a = none)) ∧
    (∃ (v : Save) (s : State), (s.cfg.save = some v) ∧ (s.inRun = true) ∧ (s.storeDies.any s.logWaits = false) ∧ (s.storeDies.any s.feramBlocked = false)) ∧
    (∃ (v : Save) (s : State), (s.cfg.save = some v) ∧ (s.inRun = true) ∧ (s.storeDies.any s.logWaits = false) ∧ (s.storeDies.any s.feramBlocked = false)) ∧
    (∃ (v : Save) (s : State), (s.cfg.save = some v) ∧ (s.inRun = true) ∧ (s.storeDies.any s.logWaits = true ∨ s.storeDies.any s.feramBlocked = true)) :=
  ⟨⟨.qspi, un (cfgB + 0x48) tRun, by decide +kernel⟩,
    ⟨.qspi, { un (cfgB + 0x48) tRun with cfg := { stage := some [] } }, by decide +kernel⟩,
    ⟨.qspi, un (cfgB + 0x48) tRun, by decide +kernel⟩,
    ⟨.qspi, { un (cfgB + 0x48) tRun with cfg := { stage := some [] } }, by decide +kernel⟩,
    ⟨.qspi, { un (cfgB + 0x48) tRun with cfg := { stage := some (writeBytes (mkImage 0x8128 1 []) 0 []) } }, by decide +kernel⟩,
    ⟨.qspi, un (cfgB + 0x48) tRun, by decide +kernel⟩,
    ⟨.qspi, { un (cfgB + 0x48) tRun with cfg := { stage := some [] } }, by decide +kernel⟩,
    ⟨.qspi, un (cfgB + 0x48) tRun, by decide +kernel⟩,
    ⟨.qspi, 0x40BFFC, 0xFFFFFFFF, ⟨.feram, 0, 0xBFFC⟩, { tRun with cfg := { stage := some [] } }, 0x7FFC, [], by decide +kernel⟩,
    ⟨.qspi, 0x40BFFC, 5, ⟨.feram, 0, 0xBFFC⟩, tRun, by decide +kernel⟩,
    ⟨⟨1, 0, [], 1, 0⟩, { dd 0 {} with cfg := { save := some ⟨1, 0, [], 1, 0⟩ } }, by decide +kernel⟩,
    ⟨⟨2, 1, [], 1, 0⟩, { dd 0 {} with cfg := { save := some ⟨2, 1, [], 1, 0⟩ } }, by decide +kernel⟩,
    ⟨⟨1, 0, [], 1, 0⟩, { dd 1 { log := { queue := [resetRecord] } } with cfg := { save := some ⟨1, 0, [], 1, 0⟩ } }, by decide +kernel⟩⟩

theorem test_meets_LogAndSnapshots :
    (∃ (d : Nat) (fails : Nat) (r : Rec) (rest : List Rec) (s : State), ((s.die d).log.queue = r :: rest) ∧ (s.present d = true) ∧ (s.feramBlocked d = false) ∧ (fails ≤ 1) ∧ (mget 0 (s.die d).rowWear ((logBase d + 32 * (s.die d).log.next) / 64) + 1 + fails < rowLimit)) ∧
    (∃ (d : Nat) (r : Rec) (s : State), ((s.die d).log.coal = some r) ∧ (s.runs d = true) ∧ (r.at_ + s.rf (logB + 0x40) 13 0 * MS ≤ s.now)) ∧
    (∃ (ini : Ini) (s : State), (s.serving = true) ∧ (s.refusal (logB + 0x48) = 0) ∧ (bit (s.reg (logB + 0x44)) 31 = true)) ∧
    (∃ (ini : Ini) (mask : Nat) (d : Nat) (s : State), (s.takesLocked ini (logB + 0x70) = true) ∧ (s.present d = true) ∧ (nbit mask d = true) ∧ ((s.presentDies.filter (nbit mask)).any s.feramBlocked = false)) ∧
    (∃ (ini : Ini) (mask : Nat) (d : Nat) (s : State), (s.takesLocked ini (logB + 0x70) = true) ∧ (s.present d = true) ∧ (nbit mask d = true) ∧ ((s.presentDies.filter (nbit mask)).any s.feramBlocked = true)) ∧
    (∃ (d : Nat) (b : Nat) (sn : Snap) (s : State), ((s.die d).snaps.getD b none = some sn) ∧ (s.runs d = true) ∧ (2048 ≤ sn.post)) ∧
    (∃ (d : Nat) (b : Nat) (sn : Snap) (s : State), ((s.die d).snaps.getD b none = some sn) ∧ (s.runs d = true) ∧ (s.feramBlocked d = false) ∧ (sn.full = true) ∧ (s.logWaits d = false) ∧ (s.snapSpaced d sn = true) ∧ (∀ r, mget 0 (s.die d).rowWear r + 1 < rowLimit)) ∧
    (∃ (d : Nat) (b : Nat) (sn : Snap) (s : State), ((s.die d).snaps.getD b none = some sn) ∧ (s.runs d = true) ∧ (s.feramBlocked d = false) ∧ (sn.full = true) ∧ (s.logWaits d = true ∨ s.snapSpaced d sn = false)) :=
  ⟨⟨0, 0, resetRecord, [], dd 0 { log := { queue := [resetRecord] } }, by decide +kernel⟩,
    ⟨7, resetRecord, dd 7 { log := { coal := some resetRecord } }, by decide +kernel⟩,
    ⟨.qspi, tRun.setRf (logB + 0x44) 31 31 1, by decide +kernel⟩,
    ⟨.qspi, 255, 7, un (logB + 0x70) tRun, by decide +kernel⟩,
    ⟨.qspi, 255, 6, un (logB + 0x70) (dd 7 { grat := { blocked := true } }), by decide +kernel⟩,
    ⟨7, 3, ⟨127, 1, 0, 0, 0, 0, [], 2048, false, 0⟩, dd 7 { snaps := [none, none, none, some ⟨127, 1, 0, 0, 0, 0, [], 2048, false, 0⟩] }, by decide +kernel⟩,
    ⟨7, 3, ⟨127, 1, 0, 0, 0, 0, [], 2048, true, 0⟩, dd 7 { snaps := [none, none, none, some ⟨127, 1, 0, 0, 0, 0, [], 2048, true, 0⟩] }, by decide +kernel, by decide +kernel, by decide +kernel, by decide +kernel, by decide +kernel, by decide +kernel, fun _ => (by decide : 0 + 1 < rowLimit)⟩,
    ⟨7, 3, ⟨127, 1, 0, 0, 0, 0, [], 2048, true, 0⟩, dd 7 { snaps := [none, none, none, some ⟨127, 1, 0, 0, 0, 0, [], 2048, true, 0⟩], log := { queue := [resetRecord] } }, by decide +kernel⟩⟩

theorem test_meets_ModeHostAndTestPort :
    (∃ (ini : Ini) (v : Word) (s : State), (s.takes ini (modeB + 0x40) = true)) ∧
    (∃ (m : Bool) (s : State) (a : Nat) (n : Nat) (late : Late), (s.inRun = true) ∧ (s.pkg.hand.isSome = true ∨ s.present s.pkg.lead = true)) ∧
    (∃ (m : Bool) (s : State), (s.inRun = true) ∧ (s.pkg.hand.isSome = true ∨ s.present s.pkg.lead = true)) ∧
    (∃ (m : Bool) (s : State), (s.inRun = true) ∧ (s.pkg.hand.isSome = true ∨ s.present s.pkg.lead = true)) ∧
    (∃ (m : Bool) (s : State) (wr : Bool) (a : Nat), (s.inRun = true) ∧ (s.pkg.hand.isSome = true ∨ s.present s.pkg.lead = true)) ∧
    (∃ (m : Bool) (a : Nat) (v : Word) (l : Loc) (r : Row) (s : State), (s.inRun = true) ∧ (locate (a / 4 * 4) = some l) ∧ (l.blk = .pkg) ∧ (0x40 ≤ l.off) ∧ (rowAt l = some r) ∧ (r.acc = .rw) ∧ (s.takes .qspi (a / 4 * 4) = true) ∧ (lockedFor l r v = false)) ∧
    (∃ (wr : Bool) (a : Nat) (v : Word) (late : Late) (s : State), (s.pkg.phase ≠ .powerOff) ∧ (s.inRun = false)) ∧
    (∃ (a : Nat) (v : Word) (late : Late) (s : State), (s.inRun = true)) ∧
    (∃ (a : Nat) (v : Word) (late : Late) (s : State), (s.inRun = true)) ∧
    (∃ (c : Nat) (s : State), (s.pkg.phase ≠ .powerOff) ∧ (s.pkg.testHold = false) ∧ (holdsSlots (testCode c) = true)) ∧
    (∃ (c : Nat) (s : State), (s.pkg.phase ≠ .powerOff) ∧ (holdsSlots (testCode c) = false)) ∧
    (∃ (c : Nat) (s : State), (s.pkg.phase ≠ .powerOff) ∧ (s.pkg.testHold = true) ∧ (holdsSlots (testCode c) = true)) :=
  ⟨⟨.qspi, 7, tRun, by decide +kernel⟩,
    ⟨true, tRun, 0x100000, 64, [], by decide +kernel⟩,
    ⟨true, tRun, by decide +kernel⟩,
    ⟨false, tRun, by decide +kernel⟩,
    ⟨true, tRun, true, 0x100000, by decide +kernel⟩,
    ⟨true, 0x409C, 15, ⟨.pkg, 0, 0x9C⟩, rw 0x9C 0 [f 3 0], tRun, by decide +kernel⟩,
    ⟨true, 0x100000, 5, [], { tRun with pkg := { tRun.pkg with phase := .boot } }, by decide +kernel⟩,
    ⟨0x100000, 5, [], tRun, by decide +kernel⟩,
    ⟨0x100108, 5, [], tRun, by decide +kernel⟩,
    ⟨3, sl 127 { st := .on, pg := true }, by decide +kernel⟩,
    ⟨0x20, tRun, by decide +kernel⟩,
    ⟨9, { tRun with pkg := { tRun.pkg with testHold := true } }, by decide +kernel⟩⟩

end Sys2Proof.Tests
end

section
/-! PROOFS. What every command's outcome keeps (O3), and register writes of the PKG page: one that is taken and one that is refused (O19). -/
namespace Sys2Proof

/-! ## Maps and built words -/

/-- A change of every value of a map that keeps the default is read at each key. -/
theorem mget_map_snd {α : Type} (d : α) (g : α → α) (hd : g d = d) (m : List (Nat × α)) (k : Nat) :
    mget d (m.map (fun e => (e.1, g e.2))) k = g (mget d m k) := by
  induction m with
  | nil => exact hd.symm
  | cons e m ih =>
    rw [List.map_cons, mget_cons, mget_cons, ih]
    split <;> rfl

/-- Fields from bit n on leave the number below bit n as it was. -/
theorem foldl_fields_mod (n : Nat) (l : List (Nat × Nat)) (h : ∀ p ∈ l, n ≤ p.1) (x : Nat) :
    l.foldl (fun a p => a + p.2 * 2 ^ p.1) x % 2 ^ n = x % 2 ^ n := by
  induction l generalizing x with
  | nil => rfl
  | cons p l ih =>
    have hp : 2 ^ n ∣ p.2 * 2 ^ p.1 := (pow_dvd_pow 2 (h p (by simp))).mul_left p.2
    rw [List.foldl_cons, ih (fun q hq => h q (by simp [hq])), Nat.add_mod, Nat.mod_eq_zero_of_dvd hp, Nat.add_zero, Nat.mod_mod]

/-- The lowest field of a built word reads what it was given, modulo its width. -/
theorem fld_mkWord_low (hi x : Nat) (l : List (Nat × Nat)) (hw : hi < 32) (h : ∀ p ∈ l, hi + 1 ≤ p.1) :
    fld (mkWord ((0, x) :: l)) hi 0 = x % 2 ^ (hi + 1) := by
  unfold fld mkWord
  rw [BitVec.toNat_ofNat, pow_zero, Nat.div_one, Nat.sub_zero, Nat.mod_mod_of_dvd _ (pow_dvd_pow 2 (by omega : hi + 1 ≤ 32)),
    List.foldl_cons, foldl_fields_mod _ _ h, pow_zero, Nat.mul_one, Nat.zero_add]

namespace Machine

/-! ## Every command ends in done -/

/-- Every command answers `done` of the state before and of the state its own rules make. -/
theorem exec_eq_done (c : Instr) (s : State) : ∃ u, exec c s = done s u := by
  cases c <;> exact ⟨_, rfl⟩

/-- Settles O3: the outcome of `done` takes the queue, the time and the factory's facts (R7) from the state before. That no command
faults, is refused or takes time is the model's choice (log entries 1 and 2). -/
theorem commandsKeepQueueTimeIdent : Obligations.CommandsKeepQueueTimeIdent := by
  intro c s
  obtain ⟨u, hu⟩ := exec_eq_done c s
  exact ⟨_, hu.trans (done_next s u), rfl, rfl, rfl⟩

/-! ## Settling clears no event bit (R41, R42) -/

/-- A fold of changes that each keep an event bit keeps it. -/
theorem State.each_keeps_bit {α : Type} (p b : Nat) (g : α → State → State)
    (hg : ∀ x s, bit (s.page p).evt b = true → bit ((g x s).page p).evt b = true) (l : List α) (s : State)
    (h : bit (s.page p).evt b = true) : bit ((s.each l g).page p).evt b = true := by
  induction l generalizing s with
  | nil => exact h
  | cons x l ih => exact ih (g x s) (hg x s h)

theorem State.settleEwarn_keeps_bit (s : State) (p b : Nat) (h : bit (s.page p).evt b = true) :
    bit (s.settleEwarn.page p).evt b = true :=
  State.each_keeps_bit p b _ (fun d s => s.evt_keeps_bit (pageNo (dieB d)) p [23] b) _ s h

theorem State.settleFault_keeps_bit (s : State) (p b : Nat) (h : bit (s.page p).evt b = true) :
    bit (s.settleFault.page p).evt b = true :=
  State.each_keeps_bit p b _ (fun d s => s.evt_keeps_bit (pageNo (dieB d)) p [21] b) _ s h

theorem State.settleDirty_keeps_bit (s : State) (p b : Nat) (h : bit (s.page p).evt b = true) :
    bit (s.settleDirty.page p).evt b = true := by
  unfold State.settleDirty
  dsimp only
  split
  · exact s.evt_keeps_bit (pageNo modeB) p [1] b h
  · exact h

/-- The end of a CORE cycle writes the counting marks of a page only (R43). -/
theorem State.cool_page (s : State) (p : Nat) : s.cool.page p = { s.page p with hot := 0 } :=
  mget_map_snd ({} : Page) (fun g => { g with hot := 0 }) rfl s.pages p

/-- No event bit falls when a state settles. -/
theorem State.settle_keeps_bit (s : State) (p b : Nat) (h : bit (s.page p).evt b = true) :
    bit (s.settle.page p).evt b = true := by
  have hd := s.settleEwarn.settleFault.settleDirty_keeps_bit p b
    (s.settleEwarn.settleFault_keeps_bit p b (s.settleEwarn_keeps_bit p b h))
  have hp : s.settleEwarn.settleFault.settleDirty.settleSummary.settleLines.page p =
      s.settleEwarn.settleFault.settleDirty.page p :=
    State.page_of_pages (by simp only [State.settleLines_frame, State.settleSummary_frame]) p
  unfold State.settle
  rw [State.cool_page, hp]
  exact hd

/-- An event bit of the new state is set in the outcome of the command. -/
theorem done_keeps_bit {s u t : State} (h : done s u = .next t) (p b : Nat) (hb : bit (u.page p).evt b = true) :
    bit (t.page p).evt b = true := by
  rw [done_next] at h
  cases h
  exact u.settle_keeps_bit p b hb

/-! ## Register writes (R14, R33) -/

/-- The pages are the part of a state that Quiet leaves open. -/
theorem Quiet.of_pages {s t : State} {pg : List (Nat × Page)} (h : Quiet { s with pages := pg } t) : Quiet s t := { h with }

/-- A write of a register with a row, on a page with a header and where no access is refused, is a write as the other commands make
it (R33, R45). -/
theorem State.regWrite_eq_write (s : State) (ini : Ini) (addr : Nat) (v : Word) (start t1 : Nat) {l : Loc} {r : Row}
    (hl : locate (addr / 4 * 4) = some l) (hh : l.blk.header = true) (hc : l.blk ≠ .cont) (ho : l.off ≠ 0x20)
    (hr : rowAt l = some r) (h0 : s.refusal (addr / 4 * 4) = 0) :
    s.regWrite ini addr v start t1 = s.write ini (addr / 4 * 4) (lockedFor l r v) (fun s => s.regAct l r v t1) := by
  unfold State.regWrite State.write
  simp only [h0, hl, hr, Option.map_some, Option.getD_some, bne_self_eq_false, Bool.false_and, Bool.false_eq_true, if_false]
  cases hb : l.blk <;> simp_all [Blk.header]

/-- A refused write that did not take effect all the same records the refusal (R33). -/
theorem State.regWrite_refused (s : State) (ini : Ini) (addr : Nat) (v : Word) (start t1 : Nat) (hs : s.serving = true)
    (hx : xactBarred ini (addr / 4 * 4) = false) (h0 : s.refusal (addr / 4 * 4) ≠ 0) (ht : s.lateTook (addr / 4 * 4) = false) :
    s.regWrite ini addr v start t1 = s.addrErr ini (addr / 4 * 4) true := by
  unfold State.regWrite
  simp [hs, hx, h0, ht]

/-- A write of an RW register of the PKG page stores the word merged by its row. -/
theorem State.regAct_pkg (s : State) (l : Loc) (r : Row) (v : Word) (t1 : Nat) (hb : l.blk = .pkg) (ho : 0x40 ≤ l.off)
    (hr : r.acc = .rw) : s.regAct l r v t1 = s.plain l.page (pkgB + l.off) r v id := by
  unfold State.regAct
  simp [hb, hr, Nat.not_lt.mpr ho]

/-- A write without a check or an effect of its own writes the merged word, and the page where a field was refused (R14). -/
theorem State.plain_id (s : State) (p a : Nat) (r : Row) (v : Word) :
    ∃ pg, s.plain p a r v id = { s.setReg a (r.merge (s.reg a) v).1 with pages := pg } := by
  unfold State.plain State.plainIf
  dsimp only
  split
  · contradiction
  · split <;> exact ⟨_, rfl⟩

/-- No access of the PKG page, which the lead die serves, is refused (R18, R33). -/
theorem State.refusal_pkg (s : State) {a : Nat} {l : Loc} (hl : locate a = some l) (hb : l.blk = .pkg) : s.refusal a = 0 := by
  unfold State.refusal Loc.die
  simp [hl, hb]

/-- A taken write of an RW register of the PKG page stores the merged word and writes pages beside it. -/
theorem State.regWrite_pkg (s : State) (ini : Ini) (a : Nat) (v : Word) (start t1 : Nat) {l : Loc} {r : Row}
    (hl : locate (a / 4 * 4) = some l) (hb : l.blk = .pkg) (ho : 0x40 ≤ l.off) (hr : rowAt l = some r) (hrw : r.acc = .rw)
    (ht : s.takes ini (a / 4 * 4) = true) (hk : lockedFor l r v = false ∨ s.unlockedFor ini l.page = true) :
    ∃ pg, s.regWrite ini a v start t1 = { s.setReg (pkgB + l.off) (r.merge (s.reg (pkgB + l.off)) v).1 with pages := pg } := by
  have hp : lockPage (a / 4 * 4) = l.page := by simp [lockPage, hl, Loc.page, pageNo]
  obtain ⟨pg, hw⟩ := s.write_taken ini _ (lockedFor l r v) (fun s => s.regAct l r v t1) ht (hp ▸ hk)
  obtain ⟨pg', hpl⟩ := State.plain_id { s with pages := pg } l.page (pkgB + l.off) r v
  refine ⟨pg', ?_⟩
  rw [State.regWrite_eq_write s ini a v start t1 hl (by simp [hb, Blk.header]) (by simp [hb]) (by omega) hr (s.refusal_pkg hl hb),
    hw, State.regAct_pkg _ l r v t1 hb ho hrw, hpl]
  rfl

/-- Whether the PKG page takes a write does not turn on which Trellis responses come late. -/
theorem State.takes_pkg_late (s : State) (ini : Ini) (late : Late) {a : Nat} {l : Loc} (hl : locate a = some l)
    (hb : l.blk = .pkg) : (s.modPkg (fun p => { p with late := late })).takes ini a = s.takes ini a := by
  unfold State.takes
  rw [State.refusal_pkg _ hl hb, State.refusal_pkg _ hl hb]
  rfl

/-- REGISTER_WRITE of an RW register of the PKG page, where the write is taken, stores the merged word and beside it
writes the page headers and what settling writes (R14). -/
theorem execRegisterWrite_pkg (ini : Ini) (a : Nat) (v : Word) (s : State) {l : Loc} {r : Row}
    (hl : locate (a / 4 * 4) = some l) (hb : l.blk = .pkg) (ho : 0x40 ≤ l.off) (hr : rowAt l = some r) (hrw : r.acc = .rw)
    (ht : s.takes ini (a / 4 * 4) = true) (hk : lockedFor l r v = false ∨ s.unlockedFor ini l.page = true) :
    ∃ t, execRegisterWrite ini a v [] s = .next t ∧
      Quiet (s.setReg (pkgB + l.off) (r.merge (s.reg (pkgB + l.off)) v).1) t := by
  obtain ⟨pg, hw⟩ := State.regWrite_pkg (s.modPkg (fun p => { p with late := [] })) ini a v s.now s.nowNs hl hb ho hr hrw
    ((s.takes_pkg_late ini [] hl hb).trans ht) hk
  have hu : s.lately [] (fun s => s.regWrite ini a v s.now s.nowNs) =
      { s.setReg (pkgB + l.off) (r.merge (s.reg (pkgB + l.off)) v).1 with pages := pg } :=
    congrArg (State.modPkg · (fun p => { p with late := s.pkg.late })) hw
  obtain ⟨t, ht, hq⟩ := done_quiet s { s.setReg (pkgB + l.off) (r.merge (s.reg (pkgB + l.off)) v).1 with pages := pg } rfl rfl rfl
  exact ⟨t, by rw [execRegisterWrite, hu, ht], hq.of_pages⟩

/-! ## The record of a refused access (R33, R67) -/

/-- A refused access sets ADDR_ERR. -/
theorem State.addrErr_sets_evt (s : State) (ini : Ini) (a : Nat) (wr : Bool) :
    bit ((s.addrErr ini a wr).page (pageNo pkgB)).evt 0 = true := by
  unfold State.addrErr
  rw [State.evt_bit _ _ _ _ (by decide)]
  simp [nbit, maskOf]

/-- An event changes no register. -/
theorem State.reg_evt (s : State) (p : Nat) (bits : List Nat) (a : Nat) : (s.evt p bits).reg a = s.reg a :=
  State.reg_of_regs (by simp) a

/-- ERR_ADDR and ERR_SRC keep an earlier refusal until ADDR_ERR is cleared. -/
theorem State.addrErr_regs_of_set (s : State) (ini : Ini) (a : Nat) (wr : Bool) (h : bit (s.page (pageNo pkgB)).evt 0 = true) :
    (s.addrErr ini a wr).regs = s.regs := by
  simp [State.addrErr, h]

/-- ERR_ADDR takes the first refusal while ADDR_ERR is clear: its address, its kind, the direction and the way in. -/
theorem State.addrErr_reg_addr (s : State) (ini : Ini) (a : Nat) (wr : Bool) (h : bit (s.page (pageNo pkgB)).evt 0 = false) :
    ∃ path, (s.addrErr ini a wr).reg (pkgB + 0x58) = mkWord [(0, a % 0x1000000), (24, s.refusal a), (30, b2n wr), (31, path)] := by
  unfold State.addrErr
  simp only [h, Bool.false_eq_true, if_false]
  rw [State.reg_evt, State.reg_setReg_ne _ _ (by decide : pkgB + 0x58 ≠ pkgB + 0x5C), State.reg_setReg_self]
  exact ⟨_, rfl⟩

/-- ERR_ADDR takes the low 24 bits of the address of the first refusal. -/
theorem State.addrErr_addr (s : State) (ini : Ini) (a : Nat) (wr : Bool) (h : bit (s.page (pageNo pkgB)).evt 0 = false) :
    (s.addrErr ini a wr).rf (pkgB + 0x58) 23 0 = a % 2 ^ 24 := by
  obtain ⟨path, hr⟩ := s.addrErr_reg_addr ini a wr h
  exact (congrArg (fld · 23 0) hr).trans ((fld_mkWord_low 23 _ _ (by decide) (by simp)).trans (Nat.mod_mod a _))

/-- REGISTER_WRITE that is refused and did not take effect at a late follower die does no more than
record the refusal (R33). -/
theorem execRegisterWrite_refused (ini : Ini) (a : Nat) (v : Word) (late : Late) (s : State) (hs : s.serving = true)
    (hx : xactBarred ini (a / 4 * 4) = false)
    (h0 : (s.modPkg (fun p => { p with late := late })).refusal (a / 4 * 4) ≠ 0)
    (ht : (s.modPkg (fun p => { p with late := late })).lateTook (a / 4 * 4) = false) :
    execRegisterWrite ini a v late s = done s (s.lately late (·.addrErr ini (a / 4 * 4) true)) :=
  congrArg (fun u : State => done s (u.modPkg (fun p => { p with late := s.pkg.late })))
    (State.regWrite_refused _ ini a v _ _ hs hx h0 ht)

/-- Settles O19: a taken write merges by `execRegisterWrite_pkg`; a refused one is the record of `State.addrErr`, whose event bit
settling does not clear and whose registers settling does not write. -/
theorem registerWriteMergesFields : Obligations.RegisterWriteMergesFields := by
  refine ⟨fun ini a v _ _ s => execRegisterWrite_pkg ini a v s, ?_⟩
  intro ini a v late u s hu hs hx h0 ht
  subst hu
  obtain ⟨t, hd⟩ : ∃ t, done s (s.lately late (·.addrErr ini (a / 4 * 4) true)) = .next t := ⟨_, done_next ..⟩
  obtain ⟨hslots, hdies, hregs, -⟩ := done_fields hd
  refine ⟨t, (execRegisterWrite_refused ini a v late s hs hx h0 ht).trans hd,
    done_keeps_bit hd _ _ (State.addrErr_sets_evt _ ini _ true), ?_, ?_, fun h => ?_, fun h => ?_⟩
  · rw [hslots]; simp [State.lately]
  · rw [hdies]; simp [State.lately]
  · rw [hregs]
    exact State.addrErr_regs_of_set _ ini _ true h
  · unfold State.rf
    rw [State.reg_of_regs hregs]
    exact State.addrErr_addr (s.modPkg _) ini _ true h

end Machine
end Sys2Proof
end

section
/-! PROOFS. One CORE cycle on an empty queue (O2), and the reference clocks: what a loss, a return and RETURN_A do (O16). -/
namespace Sys2Proof.Machine

/-! ## One CORE cycle (R23, R128, R334, R359) -/

/-- A step on an empty queue ends the CORE cycle. -/
theorem step_idle {s : State} (h : s.pending = []) : step s = .next s.cycleEnd := by
  unfold step
  rw [h]

/-- The TIMED trips of a CORE cycle leave Meridian time and the commands put off as they were. -/
theorem State.timedTrips_frame (s : State) : s.timedTrips.mer = s.mer ∧ s.timedTrips.later = s.later := by
  simp [State.timedTrips]

/-- The end of a CORE cycle is a tick of a state with the time, Meridian time and the commands put off of the state before, and
these commands wait again. -/
theorem State.cycleEnd_eq_tick (s : State) :
    ∃ v : State, s.cycleEnd = { v.tick with pending := s.later, later := [] } ∧ v.now = s.now ∧ v.mer = s.mer := by
  obtain ⟨hm, hl⟩ := s.timedTrips_frame
  unfold State.cycleEnd
  split
  · exact ⟨s, rfl, rfl, rfl⟩
  · exact ⟨{ s.timedTrips.settle with pending := s.pending, now := s.now, ident := s.ident }, by simp [hl], rfl, by simp [hm]⟩

/-- Where no command was put off, no TIMED trip falls and no port holds anything back, the end of a CORE cycle is the tick alone. -/
theorem State.cycleEnd_eq_tick_of_nothing_due {s : State} (h : s.pending = []) (hl : s.later = []) (ht : s.timedSlots = [])
    (hp : ∀ i, i < 4 → s.pumpDue i = false) : s.cycleEnd = s.tick := by
  have hc : (s.timedSlots.isEmpty && !([0, 1, 2, 3].any s.pumpDue)) = true := by
    simp [ht, hp]
  unfold State.cycleEnd
  rw [if_pos hc]
  calc { s.tick with pending := s.later, later := [] } = { s.tick with pending := s.pending, later := s.later } := by rw [h, hl]
    _ = s.tick := rfl

/-- Settles O2: both clauses read the tick that `State.cycleEnd` ends with. That an empty queue idles for one cycle, and that the
commands put off wait again, is the model's choice (log entries 1 and 12). -/
theorem emptyQueueIdlesOneCycle : Obligations.EmptyQueueIdlesOneCycle := by
  refine ⟨fun s h => ?_, fun s h hl ht hp => ?_⟩
  · obtain ⟨v, hv, hnow, hmer⟩ := s.cycleEnd_eq_tick
    refine ⟨_, step_idle h, ?_⟩
    rw [hv, ← hnow, ← hmer]
    exact ⟨rfl, rfl, rfl, rfl⟩
  · refine ⟨_, step_idle h, ?_⟩
    rw [State.cycleEnd_eq_tick_of_nothing_due h hl ht hp]
    rfl

/-! ## The references of a package (R26 to R28) -/

/-- Which references are present, which one is in use (true for REFCLK_B), and whether both were lost. -/
structure Refs where
  hasA : Bool
  hasB : Bool
  inUse : Bool
  lost : Bool

/-- The references of a package. -/
def Pkg.refs (p : Pkg) : Refs := ⟨p.refA, p.refB, p.refUse, p.refLost⟩

namespace Refs

/-- Whether a reference is present; b names REFCLK_B. -/
def has (r : Refs) (b : Bool) : Bool := if b then r.hasB else r.hasA

/-- The references with the presence of one changed. -/
def put (r : Refs) (b v : Bool) : Refs := if b then { r with hasB := v } else { r with hasA := v }

/-- A switch away from a reference that is lost to the other one, where a lead die commands it (R26). -/
def follow (r : Refs) (lead : Bool) : Refs :=
  if !r.has r.inUse && r.has (!r.inUse) && lead then { r with inUse := !r.inUse } else r

/-- A reference is lost: a lead die switches to the other, or both are lost (R26, R28). -/
def lose (r : Refs) (b lead : Bool) : Refs :=
  if r.has (!b) then (r.put b false).follow lead else { r.put b false with lost := true }

/-- A reference returns: it is taken into use where both were lost (R28). -/
def back (r : Refs) (b : Bool) : Refs :=
  { r.put b true with inUse := if r.lost then b else r.inUse, lost := false }

/-- What `lose` gives, for REFCLK_A. -/
theorem lose_false (r : Refs) (lead : Bool) : r.lose false lead =
    ⟨false, r.hasB, if r.inUse == false && r.hasB && lead then true else r.inUse, if r.hasB then r.lost else true⟩ := by
  obtain ⟨a, b, u, l⟩ := r
  cases b <;> cases u <;> cases lead <;> rfl

/-- What `lose` gives, for REFCLK_B. -/
theorem lose_true (r : Refs) (lead : Bool) : r.lose true lead =
    ⟨r.hasA, false, if r.inUse && r.hasA && lead then false else r.inUse, if r.hasA then r.lost else true⟩ := by
  obtain ⟨a, b, u, l⟩ := r
  cases a <;> cases u <;> cases lead <;> rfl

theorem back_of_lost {r : Refs} (b : Bool) (h : r.lost = true) :
    r.back b = { r.put b true with inUse := b, lost := false } := by
  simp [back, h]

/-- A reference that returns beside the other changes its own presence only. -/
theorem back_of_not_lost {r : Refs} (b : Bool) (h : r.lost = false) : r.back b = r.put b true := by
  obtain ⟨_, _, _, l⟩ := r
  subst h
  cases b <;> rfl

end Refs

/-! ## What the shared operations do to the references -/

/-- A Gazetteer rebuild changes no reference. -/
@[simp] theorem State.gazRebuild_refs (s : State) : s.gazRebuild.pkg.refs = s.pkg.refs := by
  simp [State.gazRebuild, Pkg.refs]

/-- A spare taken into use changes no reference by itself. -/
@[simp] theorem State.swap_refs (s : State) (kind d inst sub failed spare : Nat) (v : Int) :
    (s.swap kind d inst sub failed spare v).pkg.refs = s.pkg.refs := by
  simp [State.swap]

/-- A switch of all dies changes which reference is in use. -/
@[simp] theorem State.refTo_refs (s : State) (b : Bool) (cause : Nat) :
    (s.refTo b cause).pkg.refs = { s.pkg.refs with inUse := b } := by
  simp only [State.refTo, State.swap_refs, State.logLead_frame, State.clkEvt_frame, State.addSat_frame]
  rfl

@[simp] theorem State.refTo_frame (s : State) (b : Bool) (cause : Nat) :
    (s.refTo b cause).slots = s.slots ∧ (s.refTo b cause).feram = s.feram := by
  simp [State.refTo]

/-- The switch away from a lost reference. -/
@[simp] theorem State.refFollow_refs (s : State) :
    s.refFollow.pkg.refs = s.pkg.refs.follow (s.present s.pkg.lead) := by
  have hc : (!(if s.pkg.refUse then s.pkg.refB else s.pkg.refA) && (if s.pkg.refUse then s.pkg.refA else s.pkg.refB)) =
      (!s.pkg.refs.has s.pkg.refs.inUse && s.pkg.refs.has (!s.pkg.refs.inUse)) := by
    cases hu : s.pkg.refUse <;> simp [Pkg.refs, Refs.has, hu]
  unfold State.refFollow Refs.follow
  dsimp only
  rw [hc]
  split
  · exact State.refTo_refs s (!s.pkg.refUse) 0
  · rfl

@[simp] theorem State.refFollow_frame (s : State) : s.refFollow.slots = s.slots ∧ s.refFollow.feram = s.feram := by
  unfold State.refFollow
  dsimp only
  split <;> simp

/-- The lock of the PLLs is no part of the references. -/
@[simp] theorem State.pllLocked_refs (s : State) (v : Bool) :
    (s.modPkg (fun p => { p with pllLocked := v })).pkg.refs = s.pkg.refs := (rfl)

/-- What Meridian takes of the references leaves the package, the slots and the FeRAM as they were. -/
@[simp] theorem State.merRefs_frame (s : State) (lost : Bool) :
    (s.merRefs lost).pkg = s.pkg ∧ (s.merRefs lost).slots = s.slots ∧ (s.merRefs lost).feram = s.feram := by
  simp [State.merRefs]

/-- Settling changes no reference, no slot and no byte of the FeRAM. -/
theorem done_refs (s u : State) :
    ∃ t, done s u = .next t ∧ t.pkg.refs = u.pkg.refs ∧ t.slots = u.slots ∧ t.feram = u.feram := by
  have h := done_next s u
  obtain ⟨hslots, -, -, hferam, -, -, -, -, -, -, -, -, -, -, -, -, -, -, -, -, hpkg, -⟩ := done_fields h
  exact ⟨_, h, (congrArg Pkg.refs hpkg :), hslots, hferam⟩

/-! ## The loss of a reference (R26, R28) -/

/-- The package without a reference, and the loss counted in REF_CNT. -/
def State.dropRef (s : State) (b : Bool) : State :=
  (s.modPkg (fun p => if b then { p with refB := false } else { p with refA := false })).addSat (clkB + 0x48) 31 16 1

theorem State.dropRef_refs (s : State) (b : Bool) : (s.dropRef b).pkg.refs = s.pkg.refs.put b false := by
  simp only [State.dropRef, State.addSat_frame]
  cases b <;> rfl

theorem State.dropRef_frame (s : State) (b : Bool) :
    (s.dropRef b).slots = s.slots ∧ (s.dropRef b).feram = s.feram ∧
    (s.dropRef b).present (s.dropRef b).pkg.lead = s.present s.pkg.lead := by
  cases b <;> exact ⟨rfl, rfl, rfl⟩

/-- The loss of the other reference too (R28). -/
def State.loseBoth (s : State) : State :=
  (((((s.modPkg (fun p => { p with refLost := true, pllLocked := false })).clkEvt 1).clkEvt 3).logLead 2 0 0x0011 []).merRefs true)

theorem State.loseBoth_refs (s : State) : s.loseBoth.pkg.refs = { s.pkg.refs with lost := true } := by
  simp only [State.loseBoth, State.merRefs_frame, State.logLead_frame, State.clkEvt_frame]
  rfl

theorem State.loseBoth_frame (s : State) : s.loseBoth.slots = s.slots ∧ s.loseBoth.feram = s.feram := by
  simp [State.loseBoth]

/-- The loss of a reference that is present: the part follows the other one where a lead die is in place, or has none left. -/
def State.refLoss (s : State) (b : Bool) : State :=
  if s.pkg.refs.has (!b) then
    (if s.pkg.refUse == b && !s.present s.pkg.lead then (s.dropRef b).modPkg (fun p => { p with pllLocked := false })
      else (s.dropRef b).refFollow)
  else (s.dropRef b).loseBoth

/-- REFCLK_LOSS of a reference that is present does `State.refLoss`. -/
theorem execRefclkLoss_of_present (b : Bool) (s : State) (hl : s.refLive = true) (h : s.pkg.refs.has b = true) :
    execRefclkLoss b s = done s (s.refLoss b) := by
  have hb : (if b then s.pkg.refB else s.pkg.refA) = true := h
  have ho : (if b then s.pkg.refA else s.pkg.refB) = s.pkg.refs.has (!b) := by cases b <;> rfl
  unfold execRefclkLoss
  simp only [hl, hb, ho, Bool.not_true, Bool.or_self, Bool.false_eq_true, if_false]
  cases b <;> rfl

theorem State.refLoss_refs (s : State) (b : Bool) :
    (s.refLoss b).pkg.refs = s.pkg.refs.lose b (s.present s.pkg.lead) := by
  obtain ⟨-, -, hlead⟩ := s.dropRef_frame b
  unfold State.refLoss Refs.lose
  split
  · split
    next hu =>
      have hn : s.present s.pkg.lead = false := by simpa using (Bool.and_eq_true_iff.mp hu).2
      simp [Refs.follow, hn, s.dropRef_refs]
    next => rw [State.refFollow_refs, s.dropRef_refs, hlead]
  · rw [State.loseBoth_refs, s.dropRef_refs]

theorem State.refLoss_frame (s : State) (b : Bool) : (s.refLoss b).slots = s.slots ∧ (s.refLoss b).feram = s.feram := by
  obtain ⟨hslots, hferam, -⟩ := s.dropRef_frame b
  obtain ⟨hslots', hferam'⟩ := (s.dropRef b).loseBoth_frame
  unfold State.refLoss
  split
  · split <;> simp [hslots, hferam]
  · exact ⟨hslots'.trans hslots, hferam'.trans hferam⟩

/-- The loss of a reference makes the references that `Refs.lose` says, and leaves the slots and the FeRAM. -/
theorem execRefclkLoss_refs (b : Bool) (s : State) (hl : s.refLive = true) (h : s.pkg.refs.has b = true) :
    ∃ t, exec (.refclkLoss b) s = .next t ∧ t.pkg.refs = s.pkg.refs.lose b (s.present s.pkg.lead) ∧
      t.slots = s.slots ∧ t.feram = s.feram := by
  obtain ⟨t, ht, hrefs, hslots, hferam⟩ := done_refs s (s.refLoss b)
  obtain ⟨hslots', hferam'⟩ := s.refLoss_frame b
  exact ⟨t, (execRefclkLoss_of_present b s hl h).trans ht, hrefs.trans (s.refLoss_refs b), hslots.trans hslots', hferam.trans hferam'⟩

/-! ## The return of a reference (R28) -/

/-- The package with a reference that is back, its event and its record. -/
def State.addRef (s : State) (b : Bool) : State :=
  ((s.modPkg (fun p => if b then { p with refB := true } else { p with refA := true })).clkEvt 2).logLead 2 0 0x0012 [b2n b]

theorem State.addRef_refs (s : State) (b : Bool) : (s.addRef b).pkg.refs = s.pkg.refs.put b true := by
  simp only [State.addRef, State.logLead_frame, State.clkEvt_frame]
  cases b <;> rfl

theorem State.addRef_slots (s : State) (b : Bool) : (s.addRef b).slots = s.slots := by
  simp [State.addRef]

/-- The relock to a reference where both were lost. -/
def State.relockTo (s : State) (b : Bool) : State :=
  (s.modPkg (fun p => { p with refUse := b, refLost := false, pllLocked := true })).merRefs false

theorem State.relockTo_refs (s : State) (b : Bool) : (s.relockTo b).pkg.refs = { s.pkg.refs with inUse := b, lost := false } := by
  simp only [State.relockTo, State.merRefs_frame]
  rfl

theorem State.relockTo_slots (s : State) (b : Bool) : (s.relockTo b).slots = s.slots := by
  simp [State.relockTo]

/-- The return of a reference that was absent: the PLLs relock to it where both were lost, and where it is the one in use. -/
def State.refReturn (s : State) (b : Bool) : State :=
  if s.pkg.refLost then
    (if (s.addRef b).pkg.refUse != b then ((s.addRef b).relockTo b).gazRebuild else (s.addRef b).relockTo b)
  else if (s.addRef b).pkg.refUse == b then (s.addRef b).modPkg (fun p => { p with pllLocked := true }) else s.addRef b

/-- REFCLK_RETURN of a reference that is absent does `State.refReturn`. -/
theorem execRefclkReturn_of_absent (b : Bool) (s : State) (hl : s.refLive = true) (h : s.pkg.refs.has b = false) :
    execRefclkReturn b s = done s (s.refReturn b) := by
  have hb : (if b then s.pkg.refB else s.pkg.refA) = false := h
  unfold execRefclkReturn
  simp only [hl, hb, Bool.not_true, Bool.or_self, Bool.false_eq_true, if_false]
  cases b <;> rfl

theorem State.refReturn_refs (s : State) (b : Bool) : (s.refReturn b).pkg.refs = s.pkg.refs.back b := by
  unfold State.refReturn
  split
  next h =>
    rw [Refs.back_of_lost b h]
    split <;> simp [State.relockTo_refs, State.addRef_refs]
  next h =>
    rw [Refs.back_of_not_lost b (Bool.eq_false_of_not_eq_true h)]
    split <;> simp [State.addRef_refs]

theorem State.refReturn_slots (s : State) (b : Bool) : (s.refReturn b).slots = s.slots := by
  unfold State.refReturn
  split
  · split <;> simp [State.relockTo_slots, State.addRef_slots]
  · split <;> simp [State.addRef_slots]

/-- The return of a reference makes the references that `Refs.back` says, and leaves the slots. -/
theorem execRefclkReturn_refs (b : Bool) (s : State) (hl : s.refLive = true) (h : s.pkg.refs.has b = false) :
    ∃ t, exec (.refclkReturn b) s = .next t ∧ t.pkg.refs = s.pkg.refs.back b ∧ t.slots = s.slots := by
  obtain ⟨t, ht, hrefs, hslots, -⟩ := done_refs s (s.refReturn b)
  exact ⟨t, (execRefclkReturn_of_absent b s hl h).trans ht, hrefs.trans (s.refReturn_refs b), hslots.trans (s.refReturn_slots b)⟩

/-! ## RETURN_A (R27) -/

/-- With REFCLK_A present it is in use after RETURN_A. -/
theorem State.returnRefA_present (s : State) (h : s.pkg.refA = true) :
    s.returnRefA.pkg.refs.inUse = false ∧ s.returnRefA.slots = s.slots := by
  unfold State.returnRefA
  simp only [h, Bool.not_true, Bool.false_eq_true, if_false]
  split
  · simp
  next hu => exact ⟨Bool.eq_false_of_not_eq_true hu, rfl⟩

/-- With REFCLK_A absent RETURN_A is rejected. -/
theorem State.returnRefA_absent (s : State) (h : s.pkg.refA = false) : s.returnRefA = s.reject (pageNo clkB) := by
  simp [State.returnRefA, h]

/-- RETURN_A, where the write is taken, acts on the state whose page noted the write. -/
theorem execReturnA_taken (ini : Ini) (s : State) (h : s.takes ini (clkB + 0x44) = true) :
    ∃ pg, exec (.returnA ini) s = done s { s with pages := pg }.returnRefA := by
  obtain ⟨pg, hw⟩ := s.write_taken ini (clkB + 0x44) false State.returnRefA h (.inl rfl)
  exact ⟨pg, congrArg (done s) hw⟩

/-- A reject writes the pages only, and leaves WR_REJECT set in the outcome. -/
theorem done_reject (s : State) (pg : List (Nat × Page)) (p : Nat) :
    ∃ t, done s ({ s with pages := pg }.reject p) = .next t ∧ Quiet s t ∧ t.evtBit p 31 = true := by
  obtain ⟨t, ht, hq⟩ := done_quiet s ({ s with pages := pg }.reject p) (by simp) (by simp) (by simp)
  have hb : bit (({ s with pages := pg }.reject p).page p).evt 31 = true := by
    unfold State.reject
    rw [State.evt_bit _ _ _ _ (by decide)]
    simp [nbit, maskOf]
  exact ⟨t, ht, Quiet.of_pages hq, done_keeps_bit ht p 31 hb⟩

/-- Settles O16: the losses are `Refs.lose`, the returns `Refs.back`, and RETURN_A is taken or rejected by the presence of REFCLK_A. -/
theorem referenceClocks : Obligations.ReferenceClocks := by
  refine ⟨fun s hl h => ?_, fun s hl h => ?_, fun s hl h => ?_, fun s hl h => ?_, fun ini s ht => ⟨fun h => ?_, fun h => ?_⟩⟩
  · obtain ⟨t, hx, hr, hslots, hferam⟩ := execRefclkLoss_refs false s hl h
    rw [Refs.lose_false] at hr
    exact ⟨t, hx, (congrArg Refs.hasA hr :), (congrArg Refs.hasB hr :), (congrArg Refs.inUse hr :), (congrArg Refs.lost hr :), hslots, hferam⟩
  · obtain ⟨t, hx, hr, hslots, hferam⟩ := execRefclkLoss_refs true s hl h
    rw [Refs.lose_true] at hr
    exact ⟨t, hx, (congrArg Refs.hasB hr :), (congrArg Refs.hasA hr :), (congrArg Refs.inUse hr :), (congrArg Refs.lost hr :), hslots, hferam⟩
  · obtain ⟨t, hx, hr, hslots⟩ := execRefclkReturn_refs false s hl h
    exact ⟨t, hx, (congrArg Refs.hasA hr :), (congrArg Refs.lost hr :), (congrArg Refs.inUse hr :), hslots⟩
  · obtain ⟨t, hx, hr, hslots⟩ := execRefclkReturn_refs true s hl h
    exact ⟨t, hx, (congrArg Refs.hasB hr :), (congrArg Refs.lost hr :), (congrArg Refs.inUse hr :), hslots⟩
  · obtain ⟨pg, hx⟩ := execReturnA_taken ini s ht
    obtain ⟨hu, hslots⟩ := State.returnRefA_present { s with pages := pg } h
    obtain ⟨t, hd, hr, hslots', -⟩ := done_refs s { s with pages := pg }.returnRefA
    exact ⟨t, hx.trans hd, (congrArg Refs.inUse hr :).trans hu, hslots'.trans hslots⟩
  · obtain ⟨pg, hx⟩ := execReturnA_taken ini s ht
    rw [State.returnRefA_absent { s with pages := pg } h] at hx
    obtain ⟨t, hd, hq, hb⟩ := done_reject s pg (pageNo clkB)
    exact ⟨t, hx.trans hd, hq, hb⟩

end Sys2Proof.Machine
end

section
/-! PROOFS. The page lock, the soft reset (O17) and the event registers of a page (O18), and a read of an RS word that counts a stall of
the engine (O20). -/
namespace Sys2Proof

/-! ## The bits of a word as a list -/

/-- A mask of the bits below n that a number has is the number modulo 2^n. -/
theorem maskOf_maskList (m n : Nat) : maskOf (maskList m n) = m % 2 ^ n := by
  induction n with
  | zero => simp [maskList, maskOf, Nat.mod_one]
  | succ n ih =>
    have hbit : maskOf (maskList m (n + 1)) = maskOf (maskList m n) + (if nbit m n then 2 ^ n else 0) := by
      unfold maskList
      rw [List.range_succ, List.filter_append]
      cases hb : nbit m n <;> simp [maskOf, hb]
    rw [hbit, ih, Nat.mod_pow_succ]
    rcases Nat.mod_two_eq_zero_or_one (m / 2 ^ n) with h | h <;> simp [nbit, h]

theorem maskList_nodup (m n : Nat) : (maskList m n).Nodup := List.nodup_range.filter _

theorem length_maskList_le (m n : Nat) : (maskList m n).length ≤ n :=
  (List.length_filter_le ..).trans_eq List.length_range

namespace Machine

/-! ## What settling leaves of a page (R41 to R43) -/

/-- The pages on which settling may set an event: MODE, and the DIE pages. -/
def SettlePage (p : Nat) : Prop := p = pageNo modeB ∨ ∃ d < 8, p = pageNo (dieB d)

/-- MODE is page 5 and the DIE pages are 16 to 23 (R31). -/
theorem SettlePage.range {p : Nat} (h : SettlePage p) : p = 5 ∨ 16 ≤ p ∧ p < 24 := by
  rcases h with rfl | ⟨d, hd, rfl⟩
  · exact .inl rfl
  · unfold pageNo dieB
    omega

/-- A fold of changes that each keep what f reads of a page keeps it. -/
theorem State.each_page_apply {α β : Type} (f : Page → β) (q : Nat) (g : α → State → State) (l : List α)
    (hg : ∀ x ∈ l, ∀ s, f ((g x s).page q) = f (s.page q)) (s : State) : f ((s.each l g).page q) = f (s.page q) := by
  induction l generalizing s with
  | nil => rfl
  | cons x l ih => exact (ih (fun y hy => hg y (List.mem_cons_of_mem x hy)) (g x s)).trans (hg x List.mem_cons_self s)

/-- What f reads of a page outlives settling when no event on a page of `SettlePage` changes it and it does not read the counting
marks. -/
theorem State.settle_page_apply {β : Type} (f : Page → β) (q : Nat)
    (he : ∀ p, SettlePage p → ∀ bits s, f ((State.evt s p bits).page q) = f (s.page q))
    (hc : ∀ g : Page, f { g with hot := 0 } = f g) (s : State) : f (s.settle.page q) = f (s.page q) := by
  have hdie (b : Nat) (was : Nat) (now : Nat → Bool) (s : State) :
      f ((s.each ((roseDies was now).filter s.runs) (fun d s => s.evtDie d [b])).page q) = f (s.page q) := by
    refine State.each_page_apply f q _ _ (fun d hd s => he _ (.inr ⟨d, ?_, rfl⟩) _ s) s
    unfold roseDies at hd
    simp only [List.mem_filter, List.mem_range] at hd
    exact hd.1.1
  have hewarn (s : State) : f (s.settleEwarn.page q) = f (s.page q) := hdie 23 _ _ s
  have hfault (s : State) : f (s.settleFault.page q) = f (s.page q) := hdie 21 _ _ s
  have hdirty (s : State) : f (s.settleDirty.page q) = f (s.page q) := by
    unfold State.settleDirty
    dsimp only
    split
    · exact he _ (.inl rfl) [1] s
    · rfl
  have hlines (s : State) : s.settleSummary.settleLines.page q = s.page q :=
    State.page_of_pages (by simp only [State.settleLines_frame, State.settleSummary_frame]) q
  unfold State.settle
  rw [State.cool_page, hc, hlines, hdirty, hfault, hewarn]

/-- What a page holds beside its events: the lock, the times and the soft reset. -/
def Page.still (g : Page) : Page := { g with evt := 0, count := 0, hot := 0 }

/-- An event changes nothing of a page beside its events. -/
theorem State.evt_page_still (s : State) (p q : Nat) (bits : List Nat) : ((s.evt p bits).page q).still = (s.page q).still := by
  by_cases h : q = p
  · subst h
    unfold State.evt
    rw [State.page_modPage_self]
    rfl
  · rw [State.evt_page_ne s bits h]

/-- The outcome of a command holds of each page, beside its events, what the new state holds. -/
theorem done_still {s u t : State} (h : done s u = .next t) (q : Nat) : (t.page q).still = (u.page q).still := by
  rw [done_next] at h
  cases h
  exact State.settle_page_apply Page.still q (fun p _ bits s => s.evt_page_still p q bits) (fun _ => rfl) u

theorem done_lock {s u t : State} (h : done s u = .next t) (q : Nat) : (t.page q).lock = (u.page q).lock :=
  (congrArg Page.lock (done_still h q) :)

theorem done_soft {s u t : State} (h : done s u = .next t) (q : Nat) : (t.page q).soft = (u.page q).soft :=
  (congrArg Page.soft (done_still h q) :)

/-- On a page without events of settling the outcome of a command has the event bits and the count of the new state. -/
theorem done_events {s u t : State} (h : done s u = .next t) {q : Nat} (hq : ¬ SettlePage q) :
    (t.page q).evt = (u.page q).evt ∧ (t.page q).count = (u.page q).count := by
  rw [done_next] at h
  cases h
  have hpage := State.settle_page_apply (fun g => (g.evt, g.count)) q
    (fun p hp bits s => by rw [State.evt_page_ne s bits (show q ≠ p from fun hqp => hq (hqp.symm ▸ hp))]) (fun _ => rfl) u
  exact Prod.mk.injEq .. ▸ hpage

/-- A new state that differs in the pages only has an outcome that differs in what Quiet leaves open. -/
theorem done_pages (s : State) {u : State} (h : ∃ pg, u = { s with pages := pg }) : ∃ t, done s u = .next t ∧ Quiet s t := by
  obtain ⟨pg, rfl⟩ := h
  obtain ⟨t, ht, hq⟩ := done_quiet s { s with pages := pg } rfl rfl rfl
  exact ⟨t, ht, hq.of_pages⟩

/-! ## Which page an address lies on (R31) -/

/-- The part has two RING pages. -/
theorem locate_ring {a : Nat} {l : Loc} (h : locate a = some l) (hb : l.blk = .ring) : l.inst ≤ 1 := by
  obtain ⟨blk, inst, off⟩ := l
  obtain rfl : blk = .ring := hb
  simp only [locate, ite_eq_iff, Option.some.injEq, Loc.mk.injEq, reduceCtorEq, false_and, and_false, or_false, false_or] at h
  obtain ⟨-, -, -, ⟨-, rfl⟩ | ⟨-, rfl⟩, -⟩ := h
  · exact le_rfl
  · exact zero_le_one

/-- Settling sets no event on a page with a header that is neither MODE nor a DIE page. -/
theorem not_settlePage {a : Nat} {l : Loc} (h : locate a = some l) (hh : l.blk.header = true) (hd : l.blk ≠ .die)
    (hm : l.blk ≠ .mode) : ¬ SettlePage l.page := by
  intro hp
  have hring := locate_ring h
  have hrange := hp.range
  clear h hp
  obtain ⟨blk, inst, off⟩ := l
  cases blk <;>
    simp_all [Blk.header, Loc.page, Loc.base, pageNo, pkgB, clkB, hostB, xactB, ringB, merB, terrB, nursB, cfgB, logB, belvB, queueB,
      contB, factB, slotB] <;> omega

theorem lockPage_of_locate {a : Nat} {l : Loc} (h : locate a = some l) : lockPage a = l.page := by
  simp [lockPage, h, Loc.page, pageNo]

/-! ## Writes of the header of a page -/

theorem State.takes_iff {s : State} {ini : Ini} {a : Nat} :
    s.takes ini a = true ↔ s.serving = true ∧ xactBarred ini a = false ∧ s.refusal a = 0 := by
  simp [State.takes, and_assoc]

/-- A command on a header register that is there is a write of it. -/
theorem State.onPage_eq_write (s : State) (ini : Ini) {p o : Nat} (act : Loc → State → State) {l : Loc}
    (hl : locate (4096 * p + o) = some l) (hh : l.blk.header = true) (ho : l.off = o) :
    s.onPage ini p o act = s.write ini (4096 * p + o) false (act l) := by
  simp [State.onPage, hl, hh, ho]

/-- A taken write of a register that is not locked, on a page that is not ARMED, sets the time of the last write only, beside its
effect (R45, R47). -/
theorem State.write_of_not_armed (s : State) (ini : Ini) (a : Nat) (act : State → State) (ht : s.takes ini a = true)
    (hk : (s.page (lockPage a)).lock ≠ 1) :
    s.write ini a false act = act (s.modPage (lockPage a) (fun g => { g with lastWr := s.now })) := by
  have hp : (((locate a).map (·.base)).getD 0) / 4096 = lockPage a := rfl
  obtain ⟨hs, hx, h0⟩ := State.takes_iff.mp ht
  simp [State.write, State.pageWrite, State.modPage, hs, hx, h0, hp, hk]

/-- A command on a header register that takes the write acts on the state whose page noted the write. -/
theorem State.onPage_taken (s : State) (ini : Ini) {p o : Nat} (act : Loc → State → State) {l : Loc}
    (hl : locate (4096 * p + o) = some l) (hh : l.blk.header = true) (ho : l.off = o) (ht : s.takes ini (4096 * p + o) = true) :
    ∃ pg, s.onPage ini p o act = act l { s with pages := pg } := by
  obtain ⟨pg, hw⟩ := s.write_taken ini (4096 * p + o) false (act l) ht (.inl rfl)
  exact ⟨pg, (s.onPage_eq_write ini act hl hh ho).trans hw⟩

/-! ## PAGE_LOCK (R45) -/

theorem Blk.header_of_lockable {b : Blk} (h : b.lockable = true) : b.header = true := by
  revert h
  cases b <;> decide

/-- A taken write of PAGE_LOCK. -/
theorem execPageLockWrite_taken (ini : Ini) (p : Nat) (v : Word) (start : Nat) (s : State) {l : Loc}
    (hl : locate (4096 * p + 0x20) = some l) (hk : l.blk.lockable = true) (ho : l.off = 0x20)
    (ht : s.takes ini (4096 * p + 0x20) = true) :
    exec (.pageLockWrite ini p v start) s = done s (s.lockWrite ini l v start) := by
  have ha : (4096 * p + 0x20) / 4 * 4 = 4096 * p + 0x20 := by omega
  have hh := Blk.header_of_lockable hk
  have hw : s.regWrite ini (4096 * p + 0x20) v start s.nowNs = s.lockWrite ini l v start := by
    obtain ⟨hs, hx, h0⟩ := State.takes_iff.mp ht
    unfold State.regWrite
    simp only [ha, hs, hx, h0, hl, ho]
    cases hb : l.blk <;> simp_all [Blk.header]
  change execPageLockWrite ini p v start s = _
  unfold execPageLockWrite
  simp [hl, hh, ho, hw]

/-- A write of PAGE_LOCK writes pages only. -/
theorem State.lockWrite_pages (s : State) (ini : Ini) (l : Loc) (v : Word) (start : Nat) :
    ∃ pg, s.lockWrite ini l v start = { s with pages := pg } := by
  unfold State.lockWrite
  split
  · exact ⟨s.pages, rfl⟩
  · dsimp only
    split <;> split <;> exact ⟨_, rfl⟩

/-- The key written to a LOCKED page arms it. -/
theorem State.lockWrite_key (s : State) (ini : Ini) (l : Loc) (start : Nat) (hk : l.blk.lockable = true)
    (h : (s.page l.page).lock = 0) :
    (s.lockWrite ini l 0xA5C3 start).page l.page = { s.page l.page with lock := 1, ini := ini, armAt := s.now, lastWr := s.now } := by
  simp [State.lockWrite, hk, h]

/-- The second write to an ARMED page unlocks it where it is the page's number, in time and of the same initiator; else it locks it. -/
theorem State.lockWrite_armed (s : State) (ini : Ini) (l : Loc) (v : Word) (start : Nat) (hk : l.blk.lockable = true)
    (h : (s.page l.page).lock = 1) :
    ((s.lockWrite ini l v start).page l.page).lock =
      if v.toNat = l.page ∧ start ≤ (s.page l.page).armAt + 256 ∧ (s.page l.page).ini = ini then 2 else 0 := by
  have hviol (u : State) : ((u.evt l.page [30]).page l.page).lock = (u.page l.page).lock :=
    (congrArg Page.lock (u.evt_page_still l.page l.page [30]) :)
  by_cases hc : v.toNat = l.page ∧ start ≤ (s.page l.page).armAt + 256 ∧ (s.page l.page).ini = ini
  · simp [State.lockWrite, hk, h, hc]
  · rw [if_neg hc]
    rw [← and_assoc] at hc
    simp [State.lockWrite, hk, h, hviol, hc]

/-! ## The soft reset (R39) -/

theorem State.terrReset_now_feram (s : State) : s.terrReset.now = s.now ∧ s.terrReset.feram = s.feram := by
  unfold State.terrReset
  split <;> simp

theorem State.queueReset_now_feram (s : State) : s.queueReset.now = s.now ∧ s.queueReset.feram = s.feram := by
  simp [State.queueReset]

theorem State.contReset_now_feram (s : State) (d : Nat) : (s.contReset d).now = s.now ∧ (s.contReset d).feram = s.feram := by
  unfold State.contReset
  exact List.foldlRecOn (motive := fun u : State => u.now = s.now ∧ u.feram = s.feram) (List.range 18) _ ⟨rfl, rfl⟩
    (fun _ hu _ _ => hu)

/-- A soft reset that its block does not refuse marks the page and locks it after what the block resets, which is neither the time
nor the FeRAM. -/
theorem State.softWrite_of_not_barred (s : State) (l : Loc) (h : s.softBar l = false) :
    ∃ u : State, s.softWrite l = u.modPage l.page (fun g => { g with soft := some u.now, lock := 0 }) ∧ u.now = s.now ∧
      u.feram = s.feram := by
  unfold State.softWrite
  rw [h, if_neg Bool.false_ne_true]
  refine ⟨_, rfl, ?_⟩
  split
  · exact s.terrReset_now_feram
  · exact s.queueReset_now_feram
  · exact s.contReset_now_feram l.inst
  · exact ⟨rfl, rfl⟩

/-- Settles O17: each clause reads the lock or the soft reset of the page its command wrote; settling changes neither (`done_still`). -/
theorem pageLockAndSoftReset : Obligations.PageLockAndSoftReset := by
  refine ⟨fun ini p start l s hl hk ho ht h0 => ?_, fun ini p start v l s hl hk ho ht h1 => ?_, fun p s h2 hr => ?_,
    fun ini p l s hl hh ho ht => ?_, fun ini p l s hl hh ho ht hb => ?_, fun p s hs => ?_⟩
  · obtain ⟨t, hd, hq⟩ := done_pages s (s.lockWrite_pages ini l 0xA5C3 start)
    have hp := (done_still hd l.page).trans (congrArg Page.still (s.lockWrite_key ini l start hk h0))
    exact ⟨t, (execPageLockWrite_taken ini p _ start s hl hk ho ht).trans hd, hq, (congrArg Page.lock hp :),
      (congrArg Page.ini hp :), (congrArg Page.armAt hp :)⟩
  · obtain ⟨t, hd, hq⟩ := done_pages s (s.lockWrite_pages ini l v start)
    exact ⟨t, (execPageLockWrite_taken ini p v start s hl hk ho ht).trans hd, hq,
      (done_lock hd l.page).trans (s.lockWrite_armed ini l v start hk h1)⟩
  · obtain ⟨t, hd, hq⟩ := done_pages s (u := s.modPage p (fun g => { g with lock := 0 })) ⟨_, rfl⟩
    have hx : exec (.autoRelock p) s = done s (s.modPage p (fun g => { g with lock := 0 })) := congrArg (done s) (by simp [h2, hr])
    exact ⟨t, hx.trans hd, hq, by rw [done_lock hd p, State.page_modPage_self]⟩
  · obtain ⟨pg, hx⟩ := s.onPage_taken ini (fun l s => s.relockWrite l) hl hh ho ht
    obtain ⟨t, hd, hq⟩ := done_pages s (u := { s with pages := pg }.relockWrite l) ⟨_, rfl⟩
    exact ⟨t, (congrArg (done s) hx).trans hd, hq, by rw [done_lock hd l.page, State.relockWrite, State.page_modPage_self]⟩
  · obtain ⟨pg, hx⟩ := s.onPage_taken ini (fun l s => s.softWrite l) hl hh ho ht
    obtain ⟨u, hu, hnow, hferam⟩ := State.softWrite_of_not_barred { s with pages := pg } l hb
    obtain ⟨t, hd⟩ : ∃ t, done s ({ s with pages := pg }.softWrite l) = .next t := ⟨_, done_next ..⟩
    obtain ⟨-, -, -, hferam', -⟩ := done_fields hd
    refine ⟨t, (congrArg (done s) hx).trans hd, ?_, ?_, ?_⟩
    · rw [done_soft hd, hu, State.page_modPage_self, hnow]
    · rw [done_lock hd, hu, State.page_modPage_self]
    · rw [hferam', hu]
      exact hferam
  · obtain ⟨t, hd, hq⟩ := done_pages s (u := s.modPage p (fun g => { g with soft := none })) ⟨_, rfl⟩
    have hx : exec (.softResetDone p) s = done s (s.modPage p (fun g => { g with soft := none })) := congrArg (done s) (by simp [hs])
    exact ⟨t, hx.trans hd, hq, by rw [done_soft hd p, State.page_modPage_self]⟩

/-! ## EVT_STAT, EVT_FORCE and EVT_COUNT (R42 to R44) -/

/-- An event of the bits of a word sets them in its page. -/
theorem State.evt_wordBits (s : State) (p : Nat) (w : Word) : ((s.evt p (wordBits w)).page p).evt = (s.page p).evt ||| w := by
  have hw : BitVec.ofNat 32 (maskOf (wordBits w).dedup) = w := by
    rw [wordBits, (maskList_nodup ..).dedup, maskOf_maskList, Nat.mod_eq_of_lt w.isLt, BitVec.ofNat_toNat, BitVec.setWidth_eq]
  unfold State.evt
  rw [State.page_modPage_self, Page.set, hw]

/-- An event of the bits of a word on a page whose count was just cleared counts each of them once. -/
theorem State.evt_wordBits_count (s : State) (p : Nat) (w : Word) (hc : (s.page p).count = 0) (hh : (s.page p).hot = 0) :
    ((s.evt p (wordBits w)).page p).count = (wordBits w).length := by
  have hlen : (wordBits w).length ≤ 32 := length_maskList_le ..
  have hz (b : Nat) : bit 0 b = false := by simp [bit_testBit]
  have hset : ((s.evt p (wordBits w)).page p).count = sat 65535 (wordBits w).length := by
    unfold State.evt
    rw [State.page_modPage_self]
    simp only [Page.set, hc, hh, hz, wordBits, (maskList_nodup ..).dedup, Bool.not_false, List.filter_true, Nat.zero_add]
  rw [hset, sat, if_neg (by omega)]

/-- The outcome of a taken write of a header register, on a page that is not ARMED and has no events of settling: beside what Quiet
leaves open nothing changes, and the page's events are those that the register's own rule makes. -/
theorem done_onPage (s : State) (ini : Ini) {p o : Nat} (act : Loc → State → State) {l : Loc} (hl : locate (4096 * p + o) = some l)
    (hh : l.blk.header = true) (ho : l.off = o) (ht : s.takes ini (4096 * p + o) = true) (hk : (s.page l.page).lock ≠ 1)
    (hset : ¬ SettlePage l.page) (hact : ∀ u : State, ∃ pg, act l u = { u with pages := pg }) :
    ∃ t, done s (s.onPage ini p o act) = .next t ∧ Quiet s t ∧
      (t.page l.page).evt = ((act l (s.modPage l.page (fun g => { g with lastWr := s.now }))).page l.page).evt ∧
      (t.page l.page).count = ((act l (s.modPage l.page (fun g => { g with lastWr := s.now }))).page l.page).count := by
  have hw : s.onPage ini p o act = act l (s.modPage l.page (fun g => { g with lastWr := s.now })) := by
    rw [s.onPage_eq_write ini act hl hh ho, s.write_of_not_armed ini _ _ ht (lockPage_of_locate hl ▸ hk), lockPage_of_locate hl]
  obtain ⟨t, hd, hq⟩ := done_pages s (hact (s.modPage l.page (fun g => { g with lastWr := s.now })))
  obtain ⟨hevt, hcount⟩ := done_events hd hset
  exact ⟨t, hw ▸ hd, hq, hevt, hcount⟩

/-- Settles O18: on a page that is not ARMED the write changes what its register's rule says, and settling sets no event on it. -/
theorem eventRegisters : Obligations.EventRegisters := by
  intro ini p mask hw l s hh hdie hmode hk
  refine ⟨fun hl ho ht => ?_, fun hl ho ht => ?_, fun hl ho ht => ?_⟩
  · obtain ⟨t, hd, hq, hevt, -⟩ := done_onPage s ini (fun l s => s.evtClear l mask hw) hl hh ho ht hk
      (not_settlePage hl hh hdie hmode) (fun _ => ⟨_, rfl⟩)
    exact ⟨t, hd, hq, by rw [hevt, State.evtClear, State.evt_wordBits, State.page_modPage_self, State.page_modPage_self]⟩
  · obtain ⟨t, hd, hq, hevt, -⟩ := done_onPage s ini (fun l s => s.evtForceWrite l mask) hl hh ho ht hk
      (not_settlePage hl hh hdie hmode) (fun _ => ⟨_, rfl⟩)
    exact ⟨t, hd, hq, by rw [hevt, State.evtForceWrite, State.evt_wordBits, State.page_modPage_self]⟩
  · obtain ⟨t, hd, hq, -, hcount⟩ := done_onPage s ini (fun l s => s.countWrite l hw) hl hh ho ht hk
      (not_settlePage hl hh hdie hmode) (fun _ => ⟨_, rfl⟩)
    exact ⟨t, hd, hq, by
      rw [hcount, State.countWrite, State.evt_wordBits_count _ _ _ (by rw [State.page_modPage_self]) (by rw [State.page_modPage_self])]⟩

/-! ## A read of an RS word that counts a stall (R49, R278) -/

/-- A state in RUN in which the engine of die 0 computes: CORE cycle 50 of a tick whose computations take 100 cycles. -/
def engineComputing : State := { State.reset with now := 50 }.setDie 0 { eng := { tickLen := 100 } }

/-- RS_READ of an RS word of a CONT page, where the read is served, first takes the engine's stall (R278). -/
theorem execRsRead_cont (ini : Ini) (a : Nat) (s : State) {l : Loc} {r : Row} (ha : a % 4 = 0) (hl : locate a = some l)
    (hb : l.blk = .cont) (hr : rowAt l = some r) (hrs : r.acc = .rs) (hs : s.serving = true) (h0 : s.refusal a = 0) :
    exec (.rsRead ini a) s = done s ((s.engStall l.inst l.off).rsWord ini (l.base + l.off) l.page) := by
  have ha4 : a / 4 * 4 = a := by omega
  have hacc : accAt a = some .rs := by simp [accAt, hl, hr, hrs]
  have hrun : (!s.inRun || (s.pkg.hand.isNone && !s.present s.pkg.lead)) = false := by
    unfold State.serving at hs
    simp_all
  have hread : s.regRead ini a = (s.engStall l.inst l.off).rsWord ini (l.base + l.off) l.page := by
    unfold State.regRead State.readAt
    simp [ha4, hl, hb, hr, hs, h0, hrun, State.rowRead, hrs]
  exact congrArg (done s) ((if_pos (by rw [hacc]; rfl)).trans hread)

theorem State.rsWord_regs (s : State) (ini : Ini) (a p : Nat) : (s.rsWord ini a p).regs = s.regs := by
  simp [State.rsWord]

/-- Refutes O20: its second clause leaves the registers to every read of an RS word, but a read of the high half of a state word of
CONT (here 0x04_3404) while the engine computes adds a stall of 2 cycles to CONT.STALLS (R278). -/
theorem not_wideWordsAndShadows : ¬ Obligations.WideWordsAndShadows := by
  rintro ⟨-, hclause, -⟩
  have hl : locate 0x43404 = some ⟨.cont, 0, 0x3404⟩ := by decide
  have hr : rowAt ⟨.cont, 0, 0x3404⟩ = some (rs 0x3404) := by decide +kernel
  have hs : engineComputing.serving = true := by decide +kernel
  have h0 : engineComputing.refusal 0x43404 = 0 := by decide +kernel
  have hstall : (engineComputing.engStall 0 0x3404).regs ≠ engineComputing.regs := by decide +kernel
  obtain ⟨t, hx, -, -, -, -, hregs, -⟩ := hclause .qspi 0x43404 _ _ engineComputing rfl hl rfl hr rfl hs h0
  rw [execRsRead_cont .qspi 0x43404 engineComputing rfl hl rfl hr rfl hs h0] at hx
  obtain ⟨-, -, hregs', -⟩ := done_fields hx
  rw [State.rsWord_regs] at hregs'
  exact hstall (hregs'.symm.trans hregs)

end Machine
end Sys2Proof
end

section
/-! PROOFS. The rules of one slot: what a command on it leaves as it was, what the shared operations write of it, and what a trip does. -/
namespace Sys2Proof.Machine

/-! ## A command on one slot, step by step -/

@[simp] theorem Pair.driven_self (p : Pair) : p.driven p = p := (rfl)

theorem Beside.trans {s t u : State} (h : Beside s t) (h' : Beside t u) : Beside s u where
  feram := h'.feram.trans h.feram
  mer := h'.mer.trans h.mer
  frames := h'.frames.trans h.frames
  qport := h'.qport.trans h.qport
  pairAB := Pair.driven_trans _ _ _ h.pairAB h'.pairAB
  pairCD := Pair.driven_trans _ _ _ h.pairCD h'.pairCD
  routes := h'.routes.trans h.routes
  xact := h'.xact.trans h.xact
  cfg := h'.cfg.trans h.cfg
  capt := h'.capt.trans h.capt
  shadow := h'.shadow.trans h.shadow
  fresh := h'.fresh.trans h.fresh
  later := h'.later.trans h.later
  pending := h'.pending.trans h.pending

theorem SlotOnly.trans {n : Nat} {s t u : State} (h : SlotOnly n s t) (h' : SlotOnly n t u) : SlotOnly n s u :=
  ⟨h.toBeside.trans h'.toBeside, fun m hm => (h'.slots m hm).trans (h.slots m hm)⟩

/-- A change that writes no slot leaves every slot. -/
theorem SlotOnly.of_slots {s t : State} (n : Nat) (h : Beside s t) (hs : t.slots = s.slots) : SlotOnly n s t :=
  ⟨h, fun m _ => State.slot_of_slots hs m⟩

theorem SlotOnly.refl (n : Nat) (s : State) : SlotOnly n s s := .of_slots n (by constructor <;> simp) rfl

/-- Settling leaves what stands beside the slots, the dies, the registers and the logs. -/
theorem done_beside {s u t : State} (h : done s u = .next t) : Beside u { t with pending := u.pending } := by
  obtain ⟨-, -, -, hferam, hframes, hmer, hxact, -, hcfg, hqport, hroutes, hcapt, hshadow, hfresh, -, -, -, -, hlater,
    ⟨hab, hcd⟩, -⟩ := done_fields h
  exact ⟨hferam, hmer, hframes, hqport, hab, hcd, hroutes, hxact, hcfg, hcapt, hshadow, hfresh, hlater, rfl⟩

/-- The outcome of a command whose new state differs on one slot only. -/
theorem done_slotOnly {n : Nat} {s u t : State} (h : done s u = .next t) (hu : SlotOnly n s u) : SlotOnly n s t := by
  obtain ⟨hslots, -⟩ := done_fields h
  have hb := hu.toBeside.trans (done_beside h)
  obtain ⟨-, -, -, -, -, -, -, -, -, -, -, -, -, -, -, -, -, -, -, -, -, hp, -⟩ := done_fields h
  exact ⟨{ hb with pending := hp }, fun m hm => (State.slot_of_slots hslots m).trans (hu.slots m hm)⟩

/-- The outcome of a command on slot n: the slot and the registers are those of the new state, and no event bit falls. -/
theorem done_on_slot {n : Nat} {s u : State} (hu : SlotOnly n s u) :
    ∃ t, done s u = .next t ∧ t.slot n = u.slot n ∧ t.regs = u.regs ∧
      (∀ p b, u.evtBit p b = true → t.evtBit p b = true) ∧ SlotOnly n s t := by
  have h := done_next s u
  obtain ⟨hslots, -, hregs, -⟩ := done_fields h
  exact ⟨_, h, State.slot_of_slots hslots n, hregs, fun p b => done_keeps_bit h p b, done_slotOnly h hu⟩

/-- An event of a page is among those of the new state. -/
theorem State.evtBit_evt (s : State) (p b : Nat) (h : b < 32) : (s.evt p [b]).evtBit p b = true := by
  unfold State.evtBit
  rw [State.evt_bit _ _ _ _ h]
  simp [maskOf, nbit, Nat.div_self (Nat.two_pow_pos b)]

theorem State.evtBit_of_pages {s t : State} (h : t.pages = s.pages) (p b : Nat) : t.evtBit p b = s.evtBit p b := by
  unfold State.evtBit
  rw [State.page_of_pages h]

theorem State.evtBit_evtSlot (s : State) (n b : Nat) (h : b < 32) : (s.evtSlot n [b]).evtBit (slotPage n) b = true :=
  s.evtBit_evt (slotPage n) b h

/-! ## Reading a slot past a change of another home -/

@[simp] theorem State.slot_evt (s : State) (p : Nat) (bits : List Nat) (m : Nat) : (s.evt p bits).slot m = s.slot m :=
  State.slot_of_slots (by simp) m
@[simp] theorem State.slot_evtSlot (s : State) (n : Nat) (bits : List Nat) (m : Nat) : (s.evtSlot n bits).slot m = s.slot m :=
  State.slot_of_slots (by simp) m
@[simp] theorem State.slot_evtDie (s : State) (d : Nat) (bits : List Nat) (m : Nat) : (s.evtDie d bits).slot m = s.slot m :=
  State.slot_of_slots (by simp) m
@[simp] theorem State.slot_logSlot (s : State) (n code : Nat) (data : List Nat) (m : Nat) : (s.logSlot n code data).slot m = s.slot m :=
  State.slot_of_slots (by simp) m
@[simp] theorem State.slot_logLead (s : State) (block inst code : Nat) (data : List Nat) (m : Nat) :
    (s.logLead block inst code data).slot m = s.slot m := State.slot_of_slots (by simp) m
@[simp] theorem State.slot_terrRec (s : State) (n code addr slot type low cnt m : Nat) :
    (s.terrRec n code addr slot type low cnt).slot m = s.slot m := State.slot_of_slots (by simp) m
@[simp] theorem State.slot_sendMsg (s : State) (n : Nat) (k : MsgKind) (incident : Nat) (dst : List Party) (m : Nat) :
    (s.sendMsg n k incident dst).slot m = s.slot m := State.slot_of_slots (by simp) m
@[simp] theorem State.slot_setReg (s : State) (a : Nat) (v : Word) (m : Nat) : (s.setReg a v).slot m = s.slot m := (rfl)
@[simp] theorem State.slot_setRf (s : State) (a hi lo v m : Nat) : (s.setRf a hi lo v).slot m = s.slot m := (rfl)
@[simp] theorem State.slot_addSat (s : State) (a hi lo k m : Nat) : (s.addSat a hi lo k).slot m = s.slot m := (rfl)
@[simp] theorem State.slot_modDie (s : State) (d : Nat) (g : Die → Die) (m : Nat) : (s.modDie d g).slot m = s.slot m := (rfl)
@[simp] theorem State.slot_modSnap (s : State) (n : Nat) (g : Snap → Snap) (m : Nat) : (s.modSnap n g).slot m = s.slot m :=
  State.slot_of_slots (by simp) m
@[simp] theorem State.slot_pumpCheck (s : State) (d m : Nat) : (s.pumpCheck d).slot m = s.slot m := State.slot_of_slots (by simp) m
@[simp] theorem State.slot_swap (s : State) (kind d inst sub failed spare : Nat) (v : Int) (m : Nat) :
    (s.swap kind d inst sub failed spare v).slot m = s.slot m := State.slot_of_slots (by simp) m
@[simp] theorem State.slot_nursReq (s : State) (kind d inst sub m : Nat) : (s.nursReq kind d inst sub).slot m = s.slot m :=
  State.slot_of_slots (by simp) m
@[simp] theorem State.slot_setTripTime (s : State) (n m : Nat) : (s.setTripTime n).slot m = s.slot m := State.slot_of_slots (by simp) m
@[simp] theorem State.slot_setCause (s : State) (n cause detail stAt next m : Nat) :
    (s.setCause n cause detail stAt next).slot m = s.slot m := State.slot_of_slots (by simp) m

/-! ## What the shared operations write of their slot -/

/-- Slot n of t is that of s but for its terrace state (R186 to R196). -/
def TerrOnly (n : Nat) (s t : State) : Prop := ∃ r, t.slot n = { s.slot n with terr := r }

theorem TerrOnly.of_slots {n : Nat} {s t : State} (h : t.slots = s.slots) : TerrOnly n s t := ⟨_, State.slot_of_slots h n⟩

theorem TerrOnly.trans {n : Nat} {s t u : State} (h : TerrOnly n s t) (h' : TerrOnly n t u) : TerrOnly n s u := by
  obtain ⟨r, hr⟩ := h
  obtain ⟨q, hq⟩ := h'
  exact ⟨q, by rw [hq, hr]⟩

theorem State.each_terrOnly {α : Type} {n : Nat} {g : α → State → State} (hg : ∀ x s, TerrOnly n s (g x s)) (l : List α) (s : State) :
    TerrOnly n s (s.each l g) := by
  induction l generalizing s with
  | nil => exact .of_slots rfl
  | cons x l ih => exact (hg x s).trans (ih _)

theorem State.modSlot_terrOnly (s : State) (n : Nat) (f : Slot → Terr) :
    TerrOnly n s (s.modSlot n (fun x => { x with terr := f x })) := ⟨_, s.slot_modSlot_self n _⟩

theorem State.standDown_terrOnly (s : State) (n : Nat) : TerrOnly n s (s.standDown n) := ⟨_, s.standDown_slot n⟩

theorem State.lockoutSend_terrOnly (s : State) (n : Nat) : TerrOnly n s (s.lockoutSend n) := by
  unfold State.lockoutSend
  extract_lets dst u v p
  split
  · exact .of_slots rfl
  · have hv : TerrOnly n u v := by
      refine State.each_terrOnly (fun p s => ?_) dst u
      dsimp only
      split
      · exact .of_slots rfl
      · split
        · exact .of_slots (by simp)
        · exact s.modSlot_terrOnly n _
    exact ((TerrOnly.of_slots (by simp [u])).trans hv).trans (.of_slots (by simp))

theorem State.sendOpen_terrOnly (s : State) (n : Nat) : TerrOnly n s (s.sendOpen n) := by
  unfold State.sendOpen
  extract_lets dst p u
  split
  · exact .of_slots rfl
  · exact ⟨_, (State.slot_terrRec ..).trans ((State.slot_sendMsg ..).trans (s.slot_modSlot_self n _))⟩

theorem State.tryCleared_terrOnly (s : State) (n : Nat) : TerrOnly n s (s.tryCleared n) := by
  unfold State.tryCleared
  dsimp only
  split
  · exact ⟨_, (State.slot_sendMsg ..).trans (s.slot_modSlot_self n _)⟩
  · exact .of_slots rfl

theorem State.rawLow_terrOnly (s : State) (n : Nat) : TerrOnly n s (s.rawLow n) := by
  unfold State.rawLow
  refine TerrOnly.trans ?_ (State.tryCleared_terrOnly _ n)
  split
  · exact s.standDown_terrOnly n
  · exact .of_slots rfl

/-- A wear warning marks its counter as warned and writes nothing else of the slot (R393). -/
theorem State.wearWarn_slot (s : State) (n which cnt : Nat) :
    ∃ k, (s.wearWarn n which cnt).slot n = { s.slot n with wear := { (s.slot n).wear with warned := k } } := by
  unfold State.wearWarn
  extract_lets th
  split
  · exact ⟨_, (State.slot_evt ..).trans ((State.slot_logLead ..).trans (s.slot_modSlot_self n _))⟩
  · exact ⟨_, rfl⟩

/-- A count of an insertion or a trip writes the wear of the slot only (R393). -/
theorem State.wearAdd_slot (s : State) (n which : Nat) (h : 2 ≤ which) : ∃ w, (s.wearAdd n which).slot n = { s.slot n with wear := w } := by
  obtain ⟨k, rfl⟩ := Nat.exists_eq_add_of_le' h
  unfold State.wearAdd
  extract_lets +onlyGivenNames u x
  have hu : ∃ w, u.slot n = { s.slot n with wear := w } := by
    rcases k with _ | k <;> exact ⟨_, s.slot_modSlot_self n _⟩
  obtain ⟨w, hu⟩ := hu
  obtain ⟨j, hj⟩ := u.wearWarn_slot n (k + 2) _
  exact ⟨_, hj.trans (by rw [hu])⟩

/-- A snapshot buffer, or its lack, is marked in the trip of the slot only (R147). -/
theorem State.snapAssign_slot (s : State) (n : Nat) :
    ∃ b, (s.snapAssign n).slot n = { s.slot n with trip := { (s.slot n).trip with buf := b } } := by
  unfold State.snapAssign
  extract_lets +onlyGivenNames d x
  split
  · exact ⟨_, (State.slot_evtDie ..).trans ((State.slot_addSat ..).trans (s.slot_modSlot_self n _))⟩
  · exact ⟨_, (State.slot_modSlot_self _ n _).trans rfl⟩

/-- What a trip takes down writes its own data and ABORT_STEP of the slot only (R119, R126). -/
theorem State.takeTrip_slot (s : State) (n : Nat) (hard : Bool) (abort : Nat) :
    ∃ tr, tr.due = true ∧ (s.takeTrip n hard abort).slot n =
      { s.slot n with trip := tr, ins := { (s.slot n).ins with abort := if abort = 0 then (s.slot n).ins.abort else abort } } := by
  unfold State.takeTrip
  extract_lets +onlyGivenNames x tj u v w
  have hu : ∃ tr, tr.due = true ∧ u.slot n = { s.slot n with trip := tr } := ⟨_, rfl, s.slot_modSlot_self n _⟩
  obtain ⟨tr, hdue, hu⟩ := hu
  refine ⟨tr, hdue, ?_⟩
  have hw : w.slot n = v.slot n := v.slot_setTripTime n n
  by_cases h : abort = 0
  · have hv : v = u := if_pos (by simp [h])
    rw [hw, hv, hu, if_pos h]
  · have hv : v = u.insAbort n abort := if_neg (by simp [h])
    rw [hw, hv, if_neg h, State.insAbort, State.slot_evtSlot, State.slot_modSlot_self, hu]

theorem State.counts_of_dies {s t : State} (h : t.dies = s.dies) (n cause : Nat) : t.counts n cause = s.counts n cause := by
  unfold State.counts
  rw [State.die_of_dies h]

/-- The trip's cause, once settled, and the counts of R140 and R393. -/
theorem State.tripSettle_slot (s : State) (n cause detail : Nat) :
    ∃ w, (s.tripSettle n cause detail).slot n =
      { s.slot n with
        trip := { (s.slot n).trip with cause := cause, detail := detail, unsettled := none }
        retry := { (s.slot n).retry with cnt := if s.counts n cause then sat 16 ((s.slot n).retry.cnt + 1) else (s.slot n).retry.cnt }
        wear := w } := by
  unfold State.tripSettle
  extract_lets +onlyGivenNames t a b c _ d
  obtain ⟨w, hw⟩ := (d.evtSlot n [12]).wearAdd_slot n 3 (by decide)
  have hd : d.slot n = c.slot n := State.slot_of_slots (by simp only [d]; split <;> rfl) n
  have ha : a.slot n = s.slot n := s.slot_setCause ..
  have hc : a.counts n cause = s.counts n cause := State.counts_of_dies (by simp [a]) n cause
  refine ⟨w, hw.trans ?_⟩
  rw [State.slot_evtSlot, hd, State.slot_modSnap, State.slot_modSlot_self, ha, hc]

/-! ## Registers past the steps of a trip -/

theorem State.reg_addWrap_ne (s : State) {a b : Nat} (hi lo k : Nat) (h : a ≠ b) : (s.addWrap b hi lo k).reg a = s.reg a :=
  s.reg_setReg_ne _ h

theorem State.each_reg {α : Type} {a : Nat} {g : α → State → State} (hg : ∀ x s, (g x s).reg a = s.reg a) (l : List α) (s : State) :
    (s.each l g).reg a = s.reg a := by
  induction l generalizing s with
  | nil => rfl
  | cons x l ih => exact (ih _).trans (hg x s)

/-- Sending a message counts it in TX_CNT and writes no other register (R203). -/
theorem State.reg_sendMsg (s : State) (n : Nat) (k : MsgKind) (incident : Nat) (dst : List Party) {a : Nat} (h : a ≠ terrB + 0x60) :
    (s.sendMsg n k incident dst).reg a = s.reg a := by
  have hcopy (s : State) (l : Bool) (m : Msg) : (s.sendCopy l m).reg a = s.reg a := by
    rw [← s.reg_addWrap_ne 31 0 1 h]
    unfold State.sendCopy
    dsimp only
    split <;> exact State.reg_of_regs (by simp) a
  unfold State.sendMsg
  refine State.each_reg (fun p s => ?_) dst s
  dsimp only
  split
  · exact hcopy ..
  · exact (State.reg_of_regs rfl a).trans (hcopy ..)

theorem State.reg_lockoutSend (s : State) (n : Nat) {a : Nat} (h : a ≠ terrB + 0x60) : (s.lockoutSend n).reg a = s.reg a := by
  unfold State.lockoutSend
  extract_lets +onlyGivenNames dst u v p
  split
  · rfl
  · have hv : v.reg a = u.reg a := by
      refine State.each_reg (fun p s => State.reg_of_regs ?_ a) dst u
      dsimp only
      split
      · rfl
      · split <;> simp
    exact (State.reg_of_regs (by simp) a).trans (hv.trans (s.reg_sendMsg _ _ _ _ h))

/-- What a trip takes down writes TRIP_TIME of its slot and no other register (R153). -/
theorem State.reg_takeTrip (s : State) (n : Nat) (hard : Bool) (abort : Nat) {a : Nat} (h0 : a ≠ slotB n + 0x1C8)
    (h1 : a ≠ slotB n + 0x1CC) (h2 : a ≠ slotB n + 0x1D0) : (s.takeTrip n hard abort).reg a = s.reg a := by
  unfold State.takeTrip
  extract_lets +onlyGivenNames x tj u v w
  have hw : w.reg a = v.reg a := by
    simp only [w, State.setTripTime, State.reg_setReg_ne _ _ h0, State.reg_setReg_ne _ _ h1, State.reg_setReg_ne _ _ h2]
  exact hw.trans (State.reg_of_regs (by simp only [v]; split <;> simp [u]) a)

/-- The registers of a slot lie above those of TERR (R31). -/
theorem slotB_ne_terrB (n off k : Nat) (h : k < 0x1000) : slotB n + off ≠ terrB + k := by
  unfold slotB terrB
  omega

theorem State.backup_of_reg {s t : State} {n : Nat} (h : t.reg (slotB n + 0x100) = s.reg (slotB n + 0x100)) :
    t.backup n = s.backup n := by
  unfold State.backup State.sf State.rf
  rw [h]

theorem State.backup_of_regs {s t : State} (h : t.regs = s.regs) (n : Nat) : t.backup n = s.backup n :=
  State.backup_of_reg (State.reg_of_regs h _)

/-! ## What a trip does (R123 to R126) -/

/-- The slot as a trip finds it at its pull-down: the restraint state aside, with the trip's own data and ABORT_STEP. -/
theorem State.tripFirst_slot (s : State) (n : Nat) (hard : Bool) (abort : Nat) :
    ∃ tr r, tr.due = true ∧ ((s.lockoutSend n).takeTrip n hard abort).slot n =
      { s.slot n with
        trip := tr, terr := r, ins := { (s.slot n).ins with abort := if abort = 0 then (s.slot n).ins.abort else abort } } := by
  obtain ⟨r, hr⟩ := s.lockoutSend_terrOnly n
  obtain ⟨tr, hdue, ht⟩ := (s.lockoutSend n).takeTrip_slot n hard abort
  exact ⟨tr, r, hdue, by rw [ht, hr]⟩

theorem State.tripFirst_backup (s : State) (n : Nat) (hard : Bool) (abort : Nat) :
    ((s.lockoutSend n).takeTrip n hard abort).backup n = s.backup n := by
  refine State.backup_of_reg ((State.reg_takeTrip _ n hard abort ?_ ?_ ?_).trans (s.reg_lockoutSend n (slotB_ne_terrB n _ _ (by decide)))) <;>
    omega

/-- Slot n of t has entered TRIPPED from s with both gates pulled down, its record due, and the insertion's ABORT_STEP. -/
structure TripBegun (s t : State) (n : Nat) (hard : Bool) (abort : Nat) : Prop where
  st : (t.slot n).st = .tripped
  prev : (t.slot n).prev = (s.slot n).st
  due : (t.slot n).trip.due = true
  pg : (t.slot n).pg = false
  gates : Pulled s t n hard
  count : (t.slot n).retry.cnt = (s.slot n).retry.cnt
  abort : (t.slot n).ins.abort = if abort = 0 then (s.slot n).ins.abort else abort

/-- The whole slot after a pull-down of its gates (R80, R86). -/
theorem State.pullGates_pulled (s : State) (n : Nat) (hard : Bool) :
    (s.pullGates n hard).slot n =
      { s.slot n with
        gA := (s.slot n).gA.pull s.now hard
        gB := if s.backup n then (s.slot n).gB.pull s.now hard else (s.slot n).gB
        limit := false
        limOffAt := if (s.slot n).limit then some s.now else (s.slot n).limOffAt } := s.slot_modSlot_self n _

theorem State.enter_abort (s : State) (n : Nat) (st : SM) (step : Nat) :
    ((s.enter n st step).slot n).ins.abort = (s.slot n).ins.abort := by
  obtain ⟨stable, waits, p, r, h⟩ := s.enter_entered n st step
  rw [h]
  rfl

/-- The slot that enters a state with both gates pulled down. -/
theorem State.pulledEnter_slot (s : State) (n : Nat) (hard : Bool) (st : SM) (step : Nat) {t : State}
    (ht : t = (s.pullGates n hard).enter n st step) :
    (t.slot n).st = st ∧ (t.slot n).prev = (s.slot n).st ∧ (t.slot n).pg = ((s.slot n).pg && st == .on) ∧ Pulled s t n hard ∧
    (t.slot n).trip = (s.slot n).trip ∧ (t.slot n).retry.cnt = (s.slot n).retry.cnt ∧ (t.slot n).ins.abort = (s.slot n).ins.abort ∧
    (t.slot n).pres = (s.slot n).pres := by
  subst ht
  have hab := (s.pullGates n hard).enter_abort n st step
  obtain ⟨hst, hprev, -, hpg, hA, hB, -, hpres, htrip, hcnt, -⟩ := (s.pullGates n hard).enter_slot n st step
  rw [s.pullGates_pulled n hard] at hab hprev hpg hA hB htrip hcnt hpres
  exact ⟨hst, hprev, hpg, ⟨hA, hB⟩, htrip, hcnt, hab, hpres⟩

theorem State.tripStart_begun (s : State) (n : Nat) (hard : Bool) (abort : Nat) :
    TripBegun s (s.tripStart n hard abort) n hard (if abort == 0 && (s.slot n).st == .charging then 9 else abort) := by
  unfold State.tripStart
  extract_lets +onlyGivenNames x a b c d
  obtain ⟨tr, r, hdue, hb⟩ := s.tripFirst_slot n hard (if abort == 0 && (s.slot n).st == .charging then 9 else abort)
  have hbb : b.backup n = s.backup n := s.tripFirst_backup n hard _
  have hnow : b.now = s.now := by simp [b, a]
  change b.slot n = _ at hb
  obtain ⟨hst, hprev, hpg, ⟨hA, hB⟩, htrip, hcnt, hab, -⟩ := b.pulledEnter_slot n hard .tripped 0 (t := c) rfl
  have hd : d.slot n = { c.slot n with revBlock := false } := c.slot_modSlot_self n _
  obtain ⟨buf, hbuf⟩ := d.snapAssign_slot n
  rw [hd] at hbuf
  rw [hbb, hnow] at hB
  rw [hnow] at hA
  rw [hb] at hprev hpg hA hB htrip hcnt hab
  clear_value b c d
  constructor
  case gates => exact ⟨by rw [hbuf]; exact hA, by rw [hbuf]; exact hB⟩
  all_goals rw [hbuf]
  · exact hst
  · exact hprev
  · exact (congrArg TripInfo.due htrip).trans hdue
  · exact hpg.trans (Bool.and_false _)
  · exact hcnt
  · exact hab

/-! ## Trips as the obligations state them -/

theorem State.enter_slotOnly (s : State) (n : Nat) (st : SM) (step : Nat) : SlotOnly n s (s.enter n st step) :=
  ⟨by constructor <;> simp, fun _ h => s.enter_other n st step h⟩

theorem State.modSlot_slotOnly (s : State) (n : Nat) (g : Slot → Slot) : SlotOnly n s (s.modSlot n g) :=
  ⟨by constructor <;> simp, fun _ h => s.slot_modSlot_ne g h⟩

/-- Whether a cause other than DIE_THERMAL counts is fixed by R123. -/
theorem State.counts_eq (s t : State) (n : Nat) {cause : Nat} (h : cause ≠ 0xD) : t.counts n cause = s.counts n cause := by
  unfold State.counts
  split <;> first | rfl | contradiction

theorem State.tripStart_slotOnly (s : State) (n : Nat) (hard : Bool) (abort : Nat) : SlotOnly n s (s.tripStart n hard abort) :=
  ⟨by constructor <;> simp, fun _ h => s.tripStart_other n hard abort h⟩

theorem State.tripSettle_slotOnly (s : State) (n cause detail : Nat) : SlotOnly n s (s.tripSettle n cause detail) :=
  ⟨by constructor <;> simp, fun _ h => s.tripSettle_other n cause detail h⟩

/-- A trip that has begun is settled with a cause other than DIE_THERMAL. -/
theorem TripBegun.settle {s u : State} {n ab : Nat} {hard : Bool} (hb : TripBegun s u n hard ab) (hu : SlotOnly n s u)
    {cause : Nat} (detail : Nat) (h : cause ≠ 0xD) :
    Tripped s (u.tripSettle n cause detail) n cause detail hard ∧
      ((u.tripSettle n cause detail).slot n).ins.abort = if ab = 0 then (s.slot n).ins.abort else ab := by
  obtain ⟨hst, hprev, hdue, hpg, ⟨hA, hB⟩, hcount, hab⟩ := hb
  obtain ⟨w, hw⟩ := u.tripSettle_slot n cause detail
  have ho := hu.trans (u.tripSettle_slotOnly n cause detail)
  generalize u.tripSettle n cause detail = v at hw ho
  rw [State.counts_eq s u n h, hcount] at hw
  refine ⟨⟨?_, ?_, ?_, ?_, ?_, ?_, ⟨?_, ?_⟩, ?_, ho⟩, ?_⟩ <;> rw [hw]
  · exact hst
  · exact hprev
  · exact hdue
  · exact hpg
  · exact hA
  · exact hB
  · exact hab

/-- A trip whose cause is not DIE_THERMAL does what R123 to R153 say of a trip. -/
theorem State.trip_tripped (s : State) (n : Nat) (hard : Bool) {cause : Nat} (detail abort : Nat) (h : cause ≠ 0xD) :
    Tripped s (s.trip n hard cause detail abort) n cause detail hard :=
  ((s.tripStart_begun n hard abort).settle (s.tripStart_slotOnly n hard abort) detail h).1

/-- The ABORT_STEP of a trip that ends an insertion (R119). -/
theorem State.trip_abort (s : State) (n : Nat) (hard : Bool) {cause : Nat} (detail : Nat) {abort : Nat} (h : cause ≠ 0xD) (h0 : abort ≠ 0) :
    ((s.trip n hard cause detail abort).slot n).ins.abort = abort := by
  have hab := ((s.tripStart_begun n hard abort).settle (s.tripStart_slotOnly n hard abort) detail h).2
  rw [State.trip, hab]
  simp [h0]

/-- What a trip of slot n reads of a state is the same in s and in t, and t differs from s on that slot only. -/
structure TripAlike (n : Nat) (s t : State) : Prop where
  now : t.now = s.now
  backup : t.backup n = s.backup n
  st : (t.slot n).st = (s.slot n).st
  gA : (t.slot n).gA = (s.slot n).gA
  gB : (t.slot n).gB = (s.slot n).gB
  cnt : (t.slot n).retry.cnt = (s.slot n).retry.cnt
  only : SlotOnly n s t

/-- A trip from a state that differs in what a trip does not read is a trip from the state before. -/
theorem Tripped.of_alike {s s' t : State} {n why what : Nat} {hard : Bool} (h : Tripped s' t n why what hard) (ha : TripAlike n s s')
    (hw : why ≠ 0xD) : Tripped s t n why what hard := by
  obtain ⟨hA, hB⟩ := h.gates
  refine ⟨h.st, h.prev.trans ha.st, h.cause, h.detail, h.due, h.pg, ⟨?_, ?_⟩, ?_, ha.only.trans h.others⟩
  · rw [hA, ha.gA, ha.now]
  · rw [hB, ha.gB, ha.now, ha.backup]
  · rw [h.count, ha.cnt, State.counts_eq s s' n hw]

/-- The outcome of a command that trips a slot. -/
theorem done_tripped {s u : State} {n why what : Nat} {hard : Bool} (h : Tripped s u n why what hard) :
    ∃ t, done s u = .next t ∧ Tripped s t n why what hard ∧ t.slot n = u.slot n := by
  obtain ⟨t, ht, hslot, -, -, honly⟩ := done_on_slot h.others
  obtain ⟨hA, hB⟩ := h.gates
  refine ⟨t, ht, ?_, hslot⟩
  constructor
  case others => exact honly
  case gates => exact ⟨by rw [hslot]; exact hA, by rw [hslot]; exact hB⟩
  all_goals rw [hslot]
  · exact h.st
  · exact h.prev
  · exact h.cause
  · exact h.detail
  · exact h.due
  · exact h.pg
  · exact h.count

theorem State.pullGates_slotOnly (s : State) (n : Nat) (hard : Bool) : SlotOnly n s (s.pullGates n hard) :=
  ⟨by constructor <;> simp, fun _ h => s.pullGates_other n hard h⟩

theorem State.evtSlot_slotOnly (s : State) (n m : Nat) (bits : List Nat) : SlotOnly n s (s.evtSlot m bits) :=
  .of_slots n (by constructor <;> simp) (by simp)

theorem State.raiseGates_slotOnly (s : State) (n : Nat) : SlotOnly n s (s.raiseGates n) :=
  ⟨by constructor <;> simp, fun _ h => s.raiseGates_other n h⟩

/-- A change of the slot that a trip does not read. -/
theorem State.modSlot_tripAlike (s : State) (n : Nat) (g : Slot → Slot) (hst : (g (s.slot n)).st = (s.slot n).st)
    (hA : (g (s.slot n)).gA = (s.slot n).gA) (hB : (g (s.slot n)).gB = (s.slot n).gB)
    (hc : (g (s.slot n)).retry.cnt = (s.slot n).retry.cnt) : TripAlike n s (s.modSlot n g) := by
  have hg := s.slot_modSlot_self n g
  exact ⟨by simp, State.backup_of_regs (by simp) n, by rw [hg, hst], by rw [hg, hA], by rw [hg, hB], by rw [hg, hc], s.modSlot_slotOnly n g⟩

/-! ## The paths a slot's state asks for (R83, R88, R104, R105, R112) -/

/-- What of a slot its state's paths are read from. -/
def Slot.asks (x : Slot) : SM × Nat × Bool × SM × Bool × Bool × Bool := (x.st, x.step, x.role, x.held, x.pres, x.htLatch, x.htOff)

theorem State.workB_of_role {s t : State} {n : Nat} (hb : t.backup n = s.backup n) (hr : (t.slot n).role = (s.slot n).role) :
    t.workB n = s.workB n := by
  unfold State.workB
  rw [hb, hr]

theorem State.wants_of_asks {s t : State} {n : Nat} (hb : t.backup n = s.backup n) (h : (t.slot n).asks = (s.slot n).asks) :
    t.wants n = s.wants n := by
  simp only [Slot.asks, Prod.mk.injEq] at h
  obtain ⟨hst, hstep, hrole, hheld, hpres, hl, ho⟩ := h
  unfold State.wants
  simp only [State.workB_of_role hb hrole, hb, hst, hstep, hheld, hpres, hl, ho]

theorem State.gateUp_of_asks {s t : State} {n : Nat} (hb : t.backup n = s.backup n) (h : (t.slot n).asks = (s.slot n).asks) :
    t.gateUp n = s.gateUp n := by
  unfold State.gateUp
  rw [State.wants_of_asks hb h]

/-- A change of a slot that leaves what its paths are read from. -/
theorem State.wants_modSlot {s : State} {n : Nat} {g : Slot → Slot} (h : (g (s.slot n)).asks = (s.slot n).asks) :
    (s.modSlot n g).wants n = s.wants n :=
  State.wants_of_asks (State.backup_of_regs (by simp) n) (by rw [State.slot_modSlot_self, h])

theorem State.gateUp_modSlot {s : State} {n : Nat} {g : Slot → Slot} (h : (g (s.slot n)).asks = (s.slot n).asks) :
    (s.modSlot n g).gateUp n = s.gateUp n := by
  unfold State.gateUp
  rw [State.wants_modSlot h]

/-- A gate with the path that its slot's state asks for. -/
def Gate.asked (g : Gate) (w : Option Path) : Gate := (w.map g.drive).getD g

@[simp] theorem Gate.asked_some (g : Gate) (p : Path) : g.asked (some p) = g.drive p := rfl
@[simp] theorem Gate.asked_none (g : Gate) : g.asked none = g := rfl

/-- Both gates take the paths their slot's state asks for, a reverse-current block aside (R88). -/
theorem State.raiseGates_slot (s : State) (n : Nat) (hr : (s.slot n).revBlock = false) :
    (s.raiseGates n).slot n =
      { s.slot n with gA := (s.slot n).gA.asked (s.wants n).1, gB := (s.slot n).gB.asked (s.wants n).2 } := by
  have h : (s.raiseGates n).slot n = _ := s.slot_modSlot_self n _
  rw [h, if_neg (by simp [hr])]
  rcases s.wants n with ⟨_ | a, _ | b⟩ <;> rfl

/-- The copies that assert after gates have been driven up are those before (R481). -/
theorem State.inOr_raiseGates (s : State) (n : Nat) :
    (s.raiseGates n).inOr n ((s.raiseGates n).slot n).deg = s.inOr n (s.slot n).deg := by
  have hdeg : ((s.raiseGates n).slot n).deg = (s.slot n).deg := by
    unfold State.raiseGates
    rw [State.slot_modSlot_self]
    split <;> rfl
  have hex : (s.raiseGates n).excl n = s.excl n := congrArg (fld · 27 24) (State.reg_of_regs (by simp) _)
  unfold State.inOr
  rw [hdeg, hex]

/-- With OFF_N high and no copy asserted a transition drives up the gates that its new state asks for (R136, R481). -/
theorem State.rise_calm {s : State} {n : Nat} {go : State → State} (ho : s.offN = false) (hm : (go s).inOr n ((go s).slot n).deg = 0) :
    s.rise n go = (go s).raiseGates n := by
  have hm' := ((go s).inOr_raiseGates n).trans hm
  simp [State.rise, State.upTrip, ho, hm']

end Sys2Proof.Machine
end

section
/-! PROOFS. The analog limit of a slot and its fault timer (O23). -/
namespace Sys2Proof.Machine

/-- The outcome of a command that changes one slot and no other home. -/
theorem done_modSlot (s : State) (n : Nat) (g : Slot → Slot) : ∃ t, done s (s.modSlot n g) = .next t ∧ Quiet (s.modSlot n g) t :=
  done_quiet s _ (by simp) (by simp) (by simp)

/-- The same beside events of a page. -/
theorem done_modSlot_evt (s : State) (n : Nat) (g : Slot → Slot) (p : Nat) (bits : List Nat) :
    ∃ t, done s ((s.modSlot n g).evt p bits) = .next t ∧ Quiet (s.modSlot n g) t := by
  obtain ⟨t, ht, hq⟩ := done_quiet s ((s.modSlot n g).evt p bits) (by simp) (by simp) (by simp)
  exact ⟨t, ht, Quiet.of_pages hq⟩

theorem execLimitEnter_of_up {n : Nat} {s : State} (hl : (s.slot n).limit = false) (hu : s.limitUp n = true) (hr : (s.slot n).revBlock = false) :
    execLimitEnter n s = done s ((s.modSlot n (fun x =>
      { x with limit := true, limOffAt := none, faultAt := some (x.faultAt.getD s.now) })).evtSlot n [22]) := by
  simp [execLimitEnter, hl, hu, hr]

theorem execLimitRelease_of_limit {n : Nat} {s : State} (hl : (s.slot n).limit = true) :
    execLimitRelease n s = done s (s.modSlot n (fun x => { x with limit := false, limOffAt := some s.now })) := by
  simp [execLimitRelease, hl]

theorem execFaultTimerReset_of_over {n a : Nat} {s : State} (ha : (s.slot n).limOffAt = some a) (hf : (s.slot n).faultAt.isSome = true)
    (hl : (s.slot n).limit = false) (h : a + 10 * US ≤ s.now) :
    execFaultTimerReset n s = done s (s.modSlot n (fun x =>
      { x with faultAt := none, limOffAt := none, prot := { x.prot with pgOkAt := x.prot.pgOkAt.map (fun _ => s.now) } })) := by
  simp [execFaultTimerReset, ha, hf, hl, h]

/-- An action of a slot that no condition of the cycle ranks before is done (R100, R125). -/
theorem State.ranked_first {s : State} {n k : Nat} (c : Instr) (act : State → State) (h : s.outranked n k = false) :
    s.ranked n k c act = act s := by
  simp [State.ranked, h]

theorem execLimitTimerExpiry_of_due {n : Nat} {s : State} (hd : s.limitDue n = true) (hu : s.gateUp n = true)
    (hst : (s.slot n).st ≠ .holdthru) (ho : s.outranked n 4 = false) :
    execLimitTimerExpiry n s = done s (s.trip n true 4 0 0) := by
  simp [execLimitTimerExpiry, hd, hu, hst, State.ranked_first _ _ ho]

/-- Settles O23: the entry, the release and the reset of the fault timer write the slot's own analog state, and the timer's end is a
trip on the HARD path. -/
theorem analogLimitAndFaultTimer : Obligations.AnalogLimitAndFaultTimer := by
  refine ⟨fun n s hl hu hr => ?_, fun n s hl => ?_, fun n a s ha hf hl h => ?_, fun n s hd hu hst ho => ?_⟩
  · obtain ⟨t, ht, hq⟩ := done_modSlot_evt s n _ (slotPage n) [22]
    exact ⟨t, (execLimitEnter_of_up hl hu hr).trans ht, hq⟩
  · obtain ⟨t, ht, hq⟩ := done_modSlot s n _
    exact ⟨t, (execLimitRelease_of_limit hl).trans ht, hq⟩
  · obtain ⟨t, ht, hslot, hregs, -, honly⟩ := done_on_slot (s.modSlot_slotOnly n _)
    refine ⟨t, (execFaultTimerReset_of_over ha hf hl h).trans ht, ?_, ?_, hregs.trans (by simp), honly⟩ <;>
      rw [hslot, State.slot_modSlot_self]
  · obtain ⟨t, ht, htrip, -⟩ := done_tripped (s.trip_tripped n true 0 0 (by decide : 4 ≠ 0xD))
    exact ⟨t, (execLimitTimerExpiry_of_due hd hu hst ho).trans ht, htrip⟩

end Sys2Proof.Machine
end

section
/-! PROOFS. The reverse-current block, the release of pull-downs and the fall of a gate (O24). -/
namespace Sys2Proof.Machine

/-! ## The start of a block (R88) -/

/-- The slot of a reverse-current block that begins. -/
def State.beginRev (s : State) (n : Nat) : State := (s.pullGates n true).modSlot n (fun x => { x with revBlock := true, revAt := s.now })

theorem State.beginRev_slot (s : State) (n : Nat) :
    (s.beginRev n).slot n = { (s.pullGates n true).slot n with revBlock := true, revAt := s.now } := State.slot_modSlot_self _ n _

theorem State.beginRev_slotOnly (s : State) (n : Nat) : SlotOnly n s (s.beginRev n) :=
  (s.pullGates_slotOnly n true).trans (State.modSlot_slotOnly _ n _)

theorem State.beginRev_regs (s : State) (n : Nat) : (s.beginRev n).regs = s.regs := by simp [State.beginRev]

theorem execReverseBlock_of_up {n : Nat} {s : State} (hu : s.gateUp n = true) (hr : (s.slot n).revBlock = false) (he : s.sf n 0x100 1 1 = 1) :
    execReverseBlock n s = done s ((s.beginRev n).evtSlot n [21]) := by
  simp [execReverseBlock, hu, hr, he, State.beginRev]

theorem execReverseBlock_of_not {n : Nat} {s : State} (h : s.gateUp n = false ∨ (s.slot n).revBlock = true ∨ s.sf n 0x100 1 1 ≠ 1) :
    execReverseBlock n s = done s s := by
  rcases h with h | h | h <;> simp [execReverseBlock, h]

/-! ## The end of a block (R88, R136) -/

/-- The slot without its reverse-current block. -/
def State.endRev (s : State) (n : Nat) : State := s.modSlot n (fun x => { x with revBlock := false })

theorem State.endRev_slot (s : State) (n : Nat) : (s.endRev n).slot n = { s.slot n with revBlock := false } := s.slot_modSlot_self n _

theorem State.endRev_gateUp (s : State) (n : Nat) : (s.endRev n).gateUp n = s.gateUp n := State.gateUp_modSlot rfl

theorem State.endRev_inOr (s : State) (n : Nat) : (s.endRev n).inOr n ((s.endRev n).slot n).deg = s.inOr n (s.slot n).deg := by
  rw [s.endRev_slot n]
  rfl

theorem execReverseBlockClear_of_over {n : Nat} {s : State} (hr : (s.slot n).revBlock = true) (h : (s.slot n).revAt + 50 * US ≤ s.now) :
    execReverseBlockClear n s = done s (if (s.slot n).st == .holdthru then (s.endRev n).raiseGates n
      else if s.gateUp n then (s.endRev n).rise n (fun s => s) else s.endRev n) := by
  have hst : ((s.endRev n).slot n).st = (s.slot n).st := by rw [s.endRev_slot n]
  rw [← hst, ← s.endRev_gateUp n]
  unfold execReverseBlockClear
  rw [if_neg (by simp [hr, h])]
  rfl

theorem execReverseBlockClear_of_early {n : Nat} {s : State} (h : s.now < (s.slot n).revAt + 50 * US) :
    execReverseBlockClear n s = done s s := by
  simp [execReverseBlockClear, h]

/-! ## The release of a pull-down (R80, R96) -/

theorem State.warnsEnd_slot (s : State) (n : Nat) :
    ∃ a b, (s.warnsEnd n).slot n = { s.slot n with offWarn := a, openWarn := b } := by
  unfold State.warnsEnd
  split
  · exact ⟨_, _, s.slot_modSlot_self n _⟩
  · exact ⟨_, _, rfl⟩

theorem State.warnsEnd_slotOnly (s : State) (n : Nat) : SlotOnly n s (s.warnsEnd n) :=
  ⟨by constructor <;> simp [State.warnsEnd], fun _ h => s.warnsEnd_other n h⟩

/-- Slot n with another gate: GATEA, or GATEB where gateB says so. -/
def Slot.setGate (x : Slot) (gateB : Bool) (g : Gate) : Slot := if gateB then { x with gB := g } else { x with gA := g }
def Slot.gate (x : Slot) (gateB : Bool) : Gate := if gateB then x.gB else x.gA

theorem execPulldownRelease_of_may {n : Nat} {gateB : Bool} {s : State} (h : ((s.slot n).gate gateB).mayRelease s.now = true)
    (hp : s.pkg.phase ≠ .powerOff) :
    execPulldownRelease n gateB s =
      done s ((s.modSlot n (fun x => x.setGate gateB ((s.slot n).gate gateB).release)).warnsEnd n) := by
  unfold Slot.gate at h
  simp [execPulldownRelease, h, hp, Slot.setGate, Slot.gate]

/-- A pull-down that may release does so, and writes its gate and the slot's part in EWARN_N only. -/
theorem execPulldownRelease_slot {n : Nat} {gateB : Bool} {s : State} (h : ((s.slot n).gate gateB).mayRelease s.now = true)
    (hp : s.pkg.phase ≠ .powerOff) :
    ∃ t, execPulldownRelease n gateB s = .next t ∧
      (∃ a b, t.slot n = { (s.slot n).setGate gateB ((s.slot n).gate gateB).release with offWarn := a, openWarn := b }) ∧
      t.regs = s.regs ∧ SlotOnly n s t := by
  set v := s.modSlot n (fun x => x.setGate gateB ((s.slot n).gate gateB).release)
  have hv : v.slot n = _ := s.slot_modSlot_self n _
  obtain ⟨a, b, hw⟩ := v.warnsEnd_slot n
  obtain ⟨t, ht, hslot, hregs, -, honly⟩ := done_on_slot ((s.modSlot_slotOnly n _).trans (v.warnsEnd_slotOnly n))
  exact ⟨t, (execPulldownRelease_of_may h hp).trans ht, ⟨a, b, by rw [hslot, hw, hv]⟩, hregs.trans (by simp [State.warnsEnd, v]), honly⟩

/-! ## The fall of a gate (R82, R189) -/

/-- A gate whose voltage has fallen below 1 V. -/
def Gate.fall (now : Nat) (g : Gate) : Gate := { g with low := true, enh := false, lowAt := if g.low then g.lowAt else now }

theorem State.tryCleared_slotOnly (s : State) (n : Nat) : SlotOnly n s (s.tryCleared n) :=
  ⟨by constructor <;> simp, fun _ h => s.tryCleared_other n h⟩

theorem execGateBelow1v_left10 (n : Nat) (gateB : Bool) {s : State} (hp : s.pkg.phase ≠ .powerOff) :
    execGateBelow1v n gateB true s = done s (s.modSlot n (fun x => x.setGate gateB (x.gate gateB).unenhance)) := by
  unfold execGateBelow1v
  rw [if_neg (by simp [hp])]
  cases gateB <;> rfl

theorem execGateBelow1v_below (n : Nat) (gateB : Bool) {s : State} (hp : s.pkg.phase ≠ .powerOff) :
    execGateBelow1v n gateB false s =
      done s ((s.modSlot n (fun x => x.setGate gateB (((s.slot n).gate gateB).fall s.now))).tryCleared n) := by
  unfold execGateBelow1v
  rw [if_neg (by simp [hp])]
  cases gateB <;> rfl

/-- A gate that falls below 1 V is written as fallen, and CLEARED may leave (R189). -/
theorem execGateBelow1v_slot (n : Nat) (gateB : Bool) {s : State} (hp : s.pkg.phase ≠ .powerOff) :
    ∃ t, execGateBelow1v n gateB false s = .next t ∧
      (∃ r, t.slot n = { (s.slot n).setGate gateB (((s.slot n).gate gateB).fall s.now) with terr := r }) ∧ SlotOnly n s t := by
  set v := s.modSlot n (fun x => x.setGate gateB (((s.slot n).gate gateB).fall s.now))
  have hv : v.slot n = _ := s.slot_modSlot_self n _
  obtain ⟨r, hr⟩ := v.tryCleared_terrOnly n
  obtain ⟨t, ht, hslot, -, -, honly⟩ := done_on_slot ((s.modSlot_slotOnly n _).trans (v.tryCleared_slotOnly n))
  exact ⟨t, (execGateBelow1v_below n gateB hp).trans ht, ⟨r, by rw [hslot, hr, hv]⟩, honly⟩

/-- Settles O24: a block pulls the gates down as `State.pullGates` does, its end drives them up (`State.rise_calm`) or trips the slot,
and the gates release and fall one at a time. -/
theorem reverseBlockAndPulldowns : Obligations.ReverseBlockAndPulldowns := by
  refine ⟨fun n s hu hr he => ?_, fun n s h => ?_, fun n s hr h => ⟨fun hc => ?_, fun hst hu ho => ?_, fun hst hu => ?_⟩,
    fun n s _ h => ?_, fun n s hp => ⟨fun h => ?_, fun h => ?_⟩, fun n s hp => ⟨?_, ?_, ?_, ?_⟩⟩
  · obtain ⟨t, ht, hslot, hregs, hevt, honly⟩ := done_on_slot ((s.beginRev_slotOnly n).trans (State.evtSlot_slotOnly _ n n [21]))
    rw [State.slot_evtSlot, s.beginRev_slot n, s.pullGates_pulled n true] at hslot
    refine ⟨t, (execReverseBlock_of_up hu hr he).trans ht, ?_, ?_, ⟨?_, ?_⟩, ?_, ?_, hevt _ _ (State.evtBit_evtSlot _ n 21 (by decide)),
      hregs.trans (by simp [State.beginRev_regs]), honly⟩ <;> rw [hslot]
  · obtain ⟨t, ht, hq⟩ := done_self s
    exact ⟨t, (execReverseBlock_of_not h).trans ht, hq⟩
  · have hx : execReverseBlockClear n s = done s ((s.endRev n).raiseGates n) := by
      rw [execReverseBlockClear_of_over hr h]
      rcases hc with hst | ⟨hu, ho, hm⟩
      · simp [hst]
      · rw [State.rise_calm (s := s.endRev n) (go := fun s => s) ho ((s.endRev_inOr n).trans hm), if_pos hu, ite_self]
    obtain ⟨t, ht, hq⟩ := done_quiet s ((s.endRev n).raiseGates n) (by simp [State.endRev]) (by simp [State.endRev]) (by simp [State.endRev])
    exact ⟨t, hx.trans ht, hq⟩
  · have hx : execReverseBlockClear n s = done s ((s.endRev n).trip n true 0xF 0 0) := by
      rw [execReverseBlockClear_of_over hr h]
      have ho' : (s.endRev n).offN = true := ho
      simp [hst, hu, State.rise, ho']
    have ha : TripAlike n s (s.endRev n) := s.modSlot_tripAlike n _ rfl rfl rfl rfl
    obtain ⟨t, ht, htrip, -⟩ := done_tripped (((s.endRev n).trip_tripped n true 0 0 (by decide : 0xF ≠ 0xD)).of_alike ha (by decide))
    exact ⟨t, hx.trans ht, htrip⟩
  · have hx : execReverseBlockClear n s = done s (s.endRev n) := by
      rw [execReverseBlockClear_of_over hr h]
      simp [hst, hu]
    obtain ⟨t, ht, hq⟩ := done_modSlot s n _
    exact ⟨t, hx.trans ht, hq⟩
  · obtain ⟨t, ht, hq⟩ := done_self s
    exact ⟨t, (execReverseBlockClear_of_early h).trans ht, hq⟩
  · obtain ⟨t, ht, ⟨a, b, hslot⟩, hregs, honly⟩ := execPulldownRelease_slot (gateB := false) h hp
    refine ⟨t, ht, ?_, ?_, ?_, ?_, hregs, honly⟩ <;> rw [hslot] <;> rfl
  · obtain ⟨t, ht, ⟨a, b, hslot⟩, hregs, honly⟩ := execPulldownRelease_slot (gateB := true) h hp
    refine ⟨t, ht, ?_, ?_, ?_, ?_, hregs, honly⟩ <;> rw [hslot] <;> rfl
  · obtain ⟨t, ht, ⟨r, hslot⟩, honly⟩ := execGateBelow1v_slot n false hp
    refine ⟨t, ht, ?_, ?_, ?_, honly⟩ <;> rw [hslot] <;> rfl
  · obtain ⟨t, ht, ⟨r, hslot⟩, honly⟩ := execGateBelow1v_slot n true hp
    refine ⟨t, ht, ?_, ?_, ?_, honly⟩ <;> rw [hslot] <;> rfl
  · obtain ⟨t, ht, hq⟩ := done_modSlot s n _
    exact ⟨t, (execGateBelow1v_left10 n false hp).trans ht, hq⟩
  · obtain ⟨t, ht, hq⟩ := done_modSlot s n _
    exact ⟨t, (execGateBelow1v_left10 n true hp).trans ht, hq⟩

end Sys2Proof.Machine
end

section
/-! PROOFS. The charge pumps of a die: failover, restart and exercise (O21). -/
namespace Sys2Proof.Machine

/-! ## What a record writes of a die (R174, R418, R423) -/

/-- Every die of t is that of s but for its log. -/
def LogOnly (s t : State) : Prop := ∀ e, ∃ l, t.die e = { s.die e with log := l }

theorem LogOnly.refl (s : State) : LogOnly s s := fun _ => ⟨_, rfl⟩

/-- A change of other homes after one that writes logs only. -/
theorem LogOnly.of_dies {s v u : State} (h : LogOnly s v) (hd : u.dies = v.dies) : LogOnly s u := fun e =>
  (State.die_of_dies hd e).symm ▸ h e

theorem LogOnly.modLog {s v : State} (h : LogOnly s v) (d : Nat) (f : Die → DieLog) :
    LogOnly s (v.modDie d (fun x => { x with log := f x })) := by
  intro e
  obtain ⟨l, hl⟩ := h e
  by_cases he : e = d
  · subst he
    exact ⟨_, by rw [State.die_modDie_self, hl]⟩
  · exact ⟨l, by rw [State.die_modDie_ne _ _ he, hl]⟩

theorem LogOnly.evtDie {s v : State} (h : LogOnly s v) (d : Nat) (bits : List Nat) : LogOnly s (v.evtDie d bits) :=
  h.of_dies (by simp)

theorem LogOnly.logPut {s v : State} (h : LogOnly s v) (d : Nat) (r : Rec) : LogOnly s (v.logPut d r) := by
  unfold State.logPut
  dsimp only
  split
  · split
    · split
      · exact (h.modLog d _).evtDie d [17]
      · exact h.modLog d _
    · exact (h.modLog d _).evtDie d [16]
  · exact h.modLog d _

theorem LogOnly.logFlush {s v : State} (h : LogOnly s v) (d : Nat) : LogOnly s (v.logFlush d) := by
  unfold State.logFlush
  split
  · exact h
  · exact (h.modLog d _).logPut d _

theorem LogOnly.logAdd {s v : State} (h : LogOnly s v) (d : Nat) (r : Rec) : LogOnly s (v.logAdd d r) := by
  unfold State.logAdd
  dsimp only
  split
  · split
    · split
      · split
        · exact (h.modLog d _).logFlush d
        · exact h.modLog d _
      · exact (h.logFlush d).modLog d _
    · exact h.modLog d _
  · exact (h.logFlush d).logPut d r

theorem LogOnly.gazRebuild {s v : State} (h : LogOnly s v) : LogOnly s v.gazRebuild := h.of_dies (by simp)

theorem LogOnly.nursRec {s v : State} (h : LogOnly s v) (code kind d inst sub failed spare : Nat) (x : Int) :
    LogOnly s (v.nursRec code kind d inst sub failed spare x) := h.logAdd _ _

theorem LogOnly.swap {s v : State} (h : LogOnly s v) (kind d inst sub failed spare : Nat) (x : Int) :
    LogOnly s (v.swap kind d inst sub failed spare x) := by
  have hcount : LogOnly s (v.addSat (nursB + 0x60) 15 0 1) := h.of_dies (by simp)
  exact (hcount.nursRec 0x0600 kind d inst sub failed spare x).of_dies (by simp [State.swap])

theorem LogOnly.exhausted {s v : State} (h : LogOnly s v) (kind d inst sub failed : Nat) :
    LogOnly s (v.exhausted kind d inst sub failed) :=
  (h.nursRec 0x0603 kind d inst sub failed 0 0).of_dies (by simp [State.exhausted])

/-! ## Failover (R78, R390) -/

/-- The outcome of a command whose new state has, beside other homes, the supplies that g makes of die d's. -/
theorem done_pow {s u : State} {d : Nat} {g : Power → Power} (hb : Beside s u) (hs : u.slots = s.slots)
    (hp : LogOnly (s.modDie d (fun x => { x with pow := g x.pow })) u) :
    ∃ t, done s u = .next t ∧ (t.die d).pow = g (s.die d).pow ∧ (∀ e, e ≠ d → (t.die e).pow = (s.die e).pow) ∧ DieOnly s t := by
  have h := done_next s u
  obtain ⟨hslots, hdies, -⟩ := done_fields h
  obtain ⟨hbeside, -⟩ := done_slotOnly h (.of_slots 0 hb hs)
  refine ⟨_, h, ?_, fun e he => ?_, ⟨hbeside, hslots.trans hs⟩⟩
  · obtain ⟨l, hl⟩ := hp d
    rw [State.die_of_dies hdies, hl, State.die_modDie_self]
  · obtain ⟨l, hl⟩ := hp e
    rw [State.die_of_dies hdies, hl, State.die_modDie_ne _ _ he]

/-- The supplies of a die whose running pump has failed while the standby pump can take over. -/
def Power.failover (p : Power) : Power :=
  { p with pumpRun := 1 - p.pumpRun, pumpFailed := setNbit p.pumpFailed p.pumpRun true, restarting := false, vcpLow := true, exFrom := none }

/-- The supplies of a die whose second pump has failed. -/
def Power.exhaust (p : Power) : Power := { p with pumpFailed := 3, restarting := false, vcpLow := true, exFrom := none }

theorem execPumpFailover_of_standby {d : Nat} {s : State} (hr : s.runs d = true) (hs : (s.die d).pow.stopped = false)
    (h0 : (s.die d).pow.pumpFailed ≠ 3) (h : setNbit (s.die d).pow.pumpFailed (s.die d).pow.pumpRun true ≠ 3) :
    execPumpFailover d s = done s ((s.modDie d (fun x => { x with pow := x.pow.failover })).swap 6 d (s.die d).pow.pumpRun 0
      (s.die d).pow.pumpRun (1 - (s.die d).pow.pumpRun) 0) := by
  unfold execPumpFailover
  rw [if_neg (by simp [hr, hs, h0]), if_neg (by simpa using h)]
  rfl

theorem execPumpFailover_of_last {d : Nat} {s : State} (hr : s.runs d = true) (hs : (s.die d).pow.stopped = false)
    (h0 : (s.die d).pow.pumpFailed ≠ 3) (h : setNbit (s.die d).pow.pumpFailed (s.die d).pow.pumpRun true = 3) :
    execPumpFailover d s = done s ((s.modDie d (fun x => { x with pow := x.pow.exhaust })).exhausted 6 d (s.die d).pow.pumpRun 0
      (s.die d).pow.pumpRun).gazRebuild := by
  unfold execPumpFailover
  rw [if_neg (by simp [hr, hs, h0]), if_pos (by simpa using h)]
  rfl

/-- A failover or a restart where the die does not run its pumps, or has none left, does nothing. -/
theorem execPump_of_idle {d : Nat} {s : State} (h : s.runs d = false ∨ (s.die d).pow.stopped = true ∨ (s.die d).pow.pumpFailed = 3) :
    execPumpFailover d s = done s s ∧ execPumpRestartDone d s = done s s := by
  have hc : (!s.runs d || (s.die d).pow.stopped || (s.die d).pow.pumpFailed == 3) = true := by
    rcases h with h | h | h <;> simp [h]
  exact ⟨congrArg (done s) (if_pos hc), congrArg (done s) (if_pos hc)⟩

/-- The outcome of a change of one die. -/
theorem done_modDie (s : State) (d : Nat) (g : Die → Die) : ∃ t, done s (s.modDie d g) = .next t ∧ Quiet (s.modDie d g) t :=
  done_quiet s _ (by simp) (by simp) (by simp)

theorem execPumpRestartDone_of_runs {d : Nat} {s : State} (hr : s.runs d = true) (hs : (s.die d).pow.stopped = false)
    (h0 : (s.die d).pow.pumpFailed ≠ 3) :
    execPumpRestartDone d s = done s (s.modDie d (fun x => { x with pow := { x.pow with restarting := false, vcpLow := false } })) := by
  simp [execPumpRestartDone, hr, hs, h0]

/-! ## The exercise of the standby pump (R445) -/

theorem setNbit_zero (k : Nat) : setNbit 0 k true = 2 ^ k := by
  simp [setNbit, nbit]

/-- One failed pump is not two. -/
theorem two_pow_ne_three (k : Nat) : 2 ^ k ≠ 3 := by
  cases k with
  | zero => decide
  | succ k => rw [pow_succ]; omega

/-- The supplies of a die after an exercise of its standby pump; fell says that VCP fell in it. -/
def Power.exercise (now : Nat) (fell : Bool) (p : Power) : Power :=
  { p with exAt := now, pumpFailed := if fell then 2 ^ (1 - p.pumpRun) else 0 }

theorem execSparePumpExercise_of_due {d : Nat} {fell : Bool} {s : State} (hr : s.runs d = true) (he : s.rf (modeB + 0x48) 4 4 = 1)
    (hb : s.anySlot d (fun x => x.st == .charging || (x.st == .seated && x.step == 3)) = false) (hw : (s.die d).pow.waits = false)
    (hf : (s.die d).pow.pumpFailed = 0) (h : (s.die d).pow.exAt + 60 * SEC ≤ s.now) :
    execSparePumpExercise d fell s = done s
      (if fell then (s.modDie d (fun x => { x with pow := x.pow.exercise s.now fell })).gazRebuild
        else s.modDie d (fun x => { x with pow := x.pow.exercise s.now fell })) := by
  unfold execSparePumpExercise
  rw [if_neg (by simp [hr, he, hb, hw, hf, h])]
  simp only [setNbit_zero]
  rfl

/-- Settles O21: the new state of each command has the supplies that the rule says (`Power.failover`, `Power.exhaust`,
`Power.exercise`); the records and the Gazetteer beside it keep them (`LogOnly`). -/
theorem chargePumps : Obligations.ChargePumps := by
  refine ⟨fun d s hr hs hf => ?_, fun d s hr hs hrun hf => ?_, fun d s h => ?_, fun d s hr hs hf => ?_,
    fun d fell s hr he hb hw hf h => ?_⟩
  · have hset : setNbit (s.die d).pow.pumpFailed (s.die d).pow.pumpRun true = 2 ^ (s.die d).pow.pumpRun := by rw [hf, setNbit_zero]
    obtain ⟨t, ht, hpow, hothers, honly⟩ := done_pow (g := Power.failover) (by constructor <;> simp) (by simp)
      ((LogOnly.refl (s.modDie d _)).swap 6 d (s.die d).pow.pumpRun 0 (s.die d).pow.pumpRun (1 - (s.die d).pow.pumpRun) 0)
    have hx := execPumpFailover_of_standby hr hs (by simp [hf]) (hset ▸ two_pow_ne_three _)
    refine ⟨t, hx.trans ht, ?_, ?_, ?_, ?_, hothers, honly⟩ <;> rw [hpow]
    · rfl
    · exact hset
    · rfl
    · rfl
  · have hset : setNbit (s.die d).pow.pumpFailed (s.die d).pow.pumpRun true = 3 := by
      rw [hf]
      generalize (s.die d).pow.pumpRun = run at hrun
      interval_cases run <;> rfl
    obtain ⟨t, ht, hpow, hothers, honly⟩ := done_pow (g := Power.exhaust) (by constructor <;> simp) (by simp)
      ((LogOnly.refl (s.modDie d _)).exhausted 6 d (s.die d).pow.pumpRun 0 (s.die d).pow.pumpRun).gazRebuild
    have hx := execPumpFailover_of_last hr hs (hf ▸ two_pow_ne_three _) hset
    refine ⟨t, hx.trans ht, ?_, ?_, ?_, hothers, honly⟩ <;> rw [hpow] <;> rfl
  · obtain ⟨hfail, hrest⟩ := execPump_of_idle h
    obtain ⟨t, ht, hq⟩ := done_self s
    exact ⟨⟨t, hfail.trans ht, hq⟩, ⟨t, hrest.trans ht, hq⟩⟩
  · obtain ⟨t, ht, hq⟩ := done_modDie s d _
    exact ⟨t, (execPumpRestartDone_of_runs hr hs hf).trans ht, hq⟩
  · obtain ⟨t, ht, hpow, hothers, honly⟩ := done_pow (s := s) (d := d) (g := Power.exercise s.now fell)
      (u := if fell then (s.modDie d (fun x => { x with pow := x.pow.exercise s.now fell })).gazRebuild
        else s.modDie d (fun x => { x with pow := x.pow.exercise s.now fell }))
      (by constructor <;> simp) (by simp) (by split; exacts [(LogOnly.refl _).gazRebuild, LogOnly.refl _])
    exact ⟨t, (execSparePumpExercise_of_due hr he hb hw hf h).trans ht, hpow, hothers, honly⟩

end Sys2Proof.Machine
end

section
/-! PROOFS. The control sample of a die: the code of VBUS_A, and the codes of a slot in EMPTY (O32). -/
namespace Sys2Proof.Machine

/-! ## The readings of a sample (R246, R249) -/

/-- A sample with one reading, of a slot of the die, takes that one. -/
theorem inOrder_singleton (d : Nat) (b : Samp) (x : SlotSamp) (h : x.slot < 16) : inOrder ⟨d, b, [x]⟩ = [x] := by
  have hk (k : Nat) : (List.range k).filterMap (fun i => [x].find? (fun y => y.slot == i)) = if x.slot < k then [x] else [] := by
    induction k with
    | zero => rfl
    | succ k ih =>
      rw [List.range_succ, List.filterMap_append, ih]
      rcases Nat.lt_trichotomy x.slot k with hlt | heq | hgt
      · simp [hlt, Nat.lt_succ_of_lt hlt, hlt.ne]
      · simp [heq]
      · simp [Nat.not_lt.mpr hgt.le, Nat.not_lt.mpr (Nat.succ_le_of_lt hgt), hgt.ne']
  exact (hk 16).trans (if_pos h)

/-- A code is computed from the factory's data, the modulators and the temperature of its die (R242 to R246). -/
theorem State.ctlCode_congr {s t : State} {d : Nat} (hi : t.ident = s.ident) (hm : (t.die d).belv.mods = (s.die d).belv.mods)
    (hp : (t.die d).belv.map = (s.die d).belv.map) (ht : (t.die d).belv.temp = (s.die d).belv.temp) (ch : Nat) (x : Samp) :
    t.ctlCode d ch x = s.ctlCode d ch x := by
  unfold State.ctlCode State.fact2 State.factCorr Belv.modl Belv.modOf
  simp only [hi, hm, hp, ht]

/-! ## VBUS_A (R116, R213) -/

/-- The sample of VBUS_A writes the bus readings of its die; the modulators and the temperature stand. -/
theorem State.busSample_belv (s : State) (d : Nat) (x : Samp) :
    ((s.busSample d x).die d).belv.busCode = (s.ctlCode d chBus x).1.toNat ∧
    ((s.busSample d x).die d).belv.busOvr = (s.ctlCode d chBus x).2 ∧
    ((s.busSample d x).die d).belv.mods = (s.die d).belv.mods ∧
    ((s.busSample d x).die d).belv.map = (s.die d).belv.map ∧
    ((s.busSample d x).die d).belv.temp = (s.die d).belv.temp := by
  unfold State.busSample
  extract_lets +onlyGivenNames b c u th low ok
  have hd : u.die d = s.die d := State.die_of_dies (by simp [u]) d
  rw [State.die_modDie_self, hd]
  clear_value u th low ok
  exact ⟨rfl, rfl, rfl, rfl, rfl⟩

theorem State.ctlCode_busSample (s : State) (d : Nat) (b x : Samp) (ch : Nat) : (s.busSample d b).ctlCode d ch x = s.ctlCode d ch x := by
  obtain ⟨-, -, hm, hp, ht⟩ := s.busSample_belv d b
  exact State.ctlCode_congr (by simp [State.busSample]) hm hp ht ch x

theorem State.busSample_frame (s : State) (d : Nat) (x : Samp) :
    (s.busSample d x).slots = s.slots ∧ (s.busSample d x).now = s.now ∧ (s.busSample d x).feram = s.feram ∧
    (s.busSample d x).mer = s.mer ∧ (s.busSample d x).frames = s.frames := by
  simp [State.busSample]

/-! ## The edges of the thermistor (R165, R178) -/

/-- The edges of TFET_FAULT and TJ_START_HIT write each slot's thermistor only. -/
theorem State.thEdges_slot (l : List Nat) (m : Nat) (s : State) : ∃ f, (s.thEdges l).slot m = { s.slot m with tfet := f } := by
  induction l generalizing s with
  | nil => exact ⟨_, rfl⟩
  | cons n l ih =>
    obtain ⟨f, hf⟩ := ih (s.thEdges [n])
    have hone : ∃ f, (s.thEdges [n]).slot m = { s.slot m with tfet := f } := by
      have hn (u : State) (bits : List Nat) : (if bits.isEmpty then u else u.evtSlot n bits).slot m = u.slot m := by
        split <;> simp
      by_cases hm : m = n
      · subst hm
        exact ⟨_, (hn _ _).trans (s.slot_modSlot_self m _)⟩
      · exact ⟨_, (hn _ _).trans (s.slot_modSlot_ne _ hm)⟩
    obtain ⟨g, hg⟩ := hone
    exact ⟨f, hf.trans (by rw [hg])⟩

/-! ## The sample of a slot in EMPTY (R84, R213) -/

/-- Slot n of t is that of s but for the thermal model's means, the trip's data and the retry counts. -/
def BooksOnly (n : Nat) (s t : State) : Prop :=
  ∃ a b tr r, t.slot n = { s.slot n with eA := a, eB := b, trip := tr, retry := r }

theorem BooksOnly.trans {n : Nat} {s t u : State} (h : BooksOnly n s t) (h' : BooksOnly n t u) : BooksOnly n s u := by
  obtain ⟨_, _, _, _, h⟩ := h
  obtain ⟨a, b, tr, r, h'⟩ := h'
  exact ⟨a, b, tr, r, by rw [h', h]⟩

theorem BooksOnly.of_slots {n : Nat} {s t : State} (h : t.slots = s.slots) : BooksOnly n s t := ⟨_, _, _, _, State.slot_of_slots h n⟩

theorem State.addPower_booksOnly (s : State) (n : Nat) (elemB : Bool) : BooksOnly n s (s.addPower n elemB) := by
  cases elemB <;> exact ⟨_, _, _, _, s.slot_modSlot_self n _⟩

theorem State.recordSample_booksOnly (s : State) (n : Nat) : BooksOnly n s (s.recordSample n) := by
  unfold State.recordSample
  extract_lets +onlyGivenNames x p
  refine BooksOnly.trans (t := s.modSlot n (fun x => if x.trip.due && !x.trip.sampled then
    { x with trip := { x.trip with sampled := true, iCode := p.1, vCode := p.2 } } else x)) ?_ (.of_slots (by simp))
  by_cases h : ((s.slot n).trip.due && !(s.slot n).trip.sampled) = true
  · exact ⟨_, _, _, _, (s.slot_modSlot_self n _).trans (if_pos h)⟩
  · exact ⟨_, _, _, _, (s.slot_modSlot_self n _).trans (if_neg h)⟩

theorem State.gateUp_of_empty {s : State} {n : Nat} (h : (s.slot n).st = .empty) : s.gateUp n = false := by
  simp [State.gateUp, State.wants, h]

/-- Slot x is the slot of sample r of die d in s with the sample's codes and SHORT levels, in its state and with its gates. -/
structure TakesCodes (s : State) (d : Nat) (r : SlotSamp) (x : Slot) : Prop where
  st : x.st = (s.slot (slotOf d r.slot)).st
  gA : x.gA = (s.slot (slotOf d r.slot)).gA
  gB : x.gB = (s.slot (slotOf d r.slot)).gB
  iCode : x.ctl.iCode = (s.ctlCode d (chI r.slot) r.i).1
  vCode : x.ctl.vCode = (s.ctlCode d (chV r.slot) r.v).1.toNat
  started : x.ctl.started = sat 65535 ((s.slot (slotOf d r.slot)).ctl.started + 1)
  shM : x.shM = (s.slot (slotOf d r.slot)).shM.see s.now r.shMid
  shV : x.shV = (s.slot (slotOf d r.slot)).shV.see s.now r.shVout

/-- The sample gives its slot both codes, counts itself and moves the SHORT levels (R84, R246). -/
theorem State.takeSample_slot (s : State) (d : Nat) (r : SlotSamp) :
    TakesCodes s d r ((s.takeSample d r).slot (slotOf d r.slot)) := by
  unfold State.takeSample
  extract_lets +onlyGivenNames n x i v young u u' iBad vBad shV short one near waits w
  have hw : w.slot n = s.slot n := by
    have hu : u'.slot n = s.slot n := State.slot_of_slots (by simp [u', u]) n
    by_cases h : waits = true
    · simp [w, h, hu]
    · simp [w, h, hu]
  have hnow : u'.now = s.now := by simp [u', u]
  have hnow' : w.now = s.now := by
    by_cases h : waits = true
    · simp [w, h, hnow]
    · simp [w, h, hnow]
  have hv : shV = (s.slot n).shV.see s.now r.shVout := by rw [← hnow]
  rw [State.slot_modSlot_self, hw, hnow', hv]
  exact ⟨rfl, rfl, rfl, rfl, rfl, rfl, rfl, rfl⟩

/-- With no gate driven up, the voltage and overcurrent terms of a sample keep the retry's bus time alone (R127, R131, R133). -/
theorem State.protSample_booksOnly {s : State} {n : Nat} (h : (s.slot n).st = .empty) : BooksOnly n s (s.protSample n) := by
  unfold State.protSample
  extract_lets +onlyGivenNames bus th u acc uvTh on low hold u' p
  have hb : BooksOnly n s u := by
    by_cases hr : (s.slot n).retry.busOv = true
    · exact ⟨_, _, _, _, (s.slot_modSlot_self n _).trans (if_pos hr)⟩
    · exact ⟨_, _, _, _, (s.slot_modSlot_self n _).trans (if_neg hr)⟩
  have hst : (u.slot n).st = .empty := by
    obtain ⟨_, _, _, _, hs⟩ := hb
    rw [hs]; exact h
  rw [if_pos (by simp [State.gateUp_of_empty hst])]
  exact hb

/-- The sample of a slot in EMPTY: its codes and its levels, and the books of the thermal model, the trip and the retry. -/
theorem State.slotSample_empty {s : State} {d : Nat} {r : SlotSamp} (h : (s.slot (slotOf d r.slot)).st = .empty) :
    BooksOnly (slotOf d r.slot) (s.takeSample d r) (s.slotSample d r) := by
  generalize hn : slotOf d r.slot = n at h
  have ht := (s.takeSample_slot d r).st
  rw [hn] at ht
  have keep {t u : State} (hb : BooksOnly n t u) (ht : (t.slot n).st = .empty) : (u.slot n).st = .empty := by
    obtain ⟨_, _, _, _, hb⟩ := hb
    rw [hb]; exact ht
  replace ht : ((s.takeSample d r).slot n).st = .empty := ht.trans h
  unfold State.slotSample
  extract_lets +onlyGivenNames m u u' v w
  obtain rfl : m = n := hn
  have hu : BooksOnly m (s.takeSample d r) u := State.addPower_booksOnly _ m false
  have hu' : BooksOnly m (s.takeSample d r) u' := by
    by_cases hb : u.backup m = true
    · simp only [u', if_pos hb]
      exact hu.trans (u.addPower_booksOnly m true)
    · simp only [u', if_neg hb]
      exact hu
  have hr := hu'.trans (u'.recordSample_booksOnly m)
  have hst := keep hr ht
  have hv : v = u'.recordSample m := by simp [v, State.stuckSample, hst]
  have hw : BooksOnly m (s.takeSample d r) w := by
    have hl : v.learnSample m = v := by simp [State.learnSample, hv, hst]
    have hw : w = v.protSample m := congrArg (State.protSample · m) hl
    rw [hw, hv]
    exact hr.trans (State.protSample_booksOnly hst)
  have hst := keep hw ht
  have h1 : w.superviseSample m = w := by simp [State.superviseSample, hst]
  have h2 : w.completeSample m = w := by simp [State.completeSample, hst]
  have h3 : w.pgSample m = w := by simp [State.pgSample, hst]
  rw [if_neg (by simp [m, h]), if_neg (by simp [m, h]), h1, h2, h3]
  exact hw

/-- The outcome of a command, in the homes that it does not settle. -/
theorem done_kept (s u : State) :
    ∃ t, done s u = .next t ∧ t.slots = u.slots ∧ t.dies = u.dies ∧ t.feram = u.feram ∧ t.mer = u.mer ∧ t.frames = u.frames := by
  obtain ⟨hslots, hdies, -, hferam, hframes, hmer, -⟩ := done_fields (done_next s u)
  exact ⟨_, done_next s u, hslots, hdies, hferam, hmer, hframes⟩

theorem execControlSample_of_grid {r : DieSamp} {s : State} (hr : s.runs r.die = true) (hg : (s.now - s.pkg.epoch) % 640 = 0)
    (hf : (s.die r.die).belv.fullAt = none) :
    execControlSample r s = done s
      (((s.busSample r.die r.bus).each (inOrder r) (fun x s => s.slotSample r.die x)).thEdges (slotsOf r.die)) := by
  unfold execControlSample
  rw [if_neg (by simp [hr, hg, hf])]

/-- A sample of VBUS_A alone gives it its code, in a slot of no state and on no gate. -/
theorem controlSample_bus {r : DieSamp} {s : State} (hr : s.runs r.die = true) (hg : (s.now - s.pkg.epoch) % 640 = 0)
    (hf : (s.die r.die).belv.fullAt = none) (hno : inOrder r = []) :
    ∃ t, execControlSample r s = .next t ∧ (t.die r.die).belv.busCode = (s.ctlCode r.die chBus r.bus).1.toNat ∧
      (t.die r.die).belv.busOvr = (s.ctlCode r.die chBus r.bus).2 ∧ t.feram = s.feram ∧ t.mer = s.mer ∧ t.frames = s.frames ∧
      ∀ n, (t.slot n).st = (s.slot n).st ∧ GatesKept s t n := by
  have hx := execControlSample_of_grid hr hg hf
  rw [hno] at hx
  change execControlSample r s = done s ((s.busSample r.die r.bus).thEdges (slotsOf r.die)) at hx
  obtain ⟨hslots, -, hferam, hmer, hframes⟩ := s.busSample_frame r.die r.bus
  obtain ⟨hcode, hovr, -⟩ := s.busSample_belv r.die r.bus
  generalize s.busSample r.die r.bus = u at *
  obtain ⟨t, ht, tslots, tdies, tferam, tmer, tframes⟩ := done_kept s (u.thEdges (slotsOf r.die))
  have hdie : t.die r.die = u.die r.die := State.die_of_dies (tdies.trans (by simp)) r.die
  refine ⟨t, hx.trans ht, by rw [hdie, hcode], by rw [hdie, hovr], ?_, ?_, ?_, fun n => ?_⟩
  · rw [tferam, ← hferam]; simp
  · rw [tmer, ← hmer]; simp
  · rw [tframes, ← hframes]; simp
  · obtain ⟨f, hf⟩ := State.thEdges_slot (slotsOf r.die) n u
    have hslot := (State.slot_of_slots tslots n).trans hf
    rw [State.slot_of_slots hslots n] at hslot
    exact ⟨by rw [hslot], by rw [hslot], by rw [hslot]⟩

/-- The sample of one slot, in EMPTY, gives it its codes and its levels. -/
theorem controlSample_empty {d : Nat} {b : Samp} {x : SlotSamp} {s : State} (hr : s.runs d = true) (hg : (s.now - s.pkg.epoch) % 640 = 0)
    (hf : (s.die d).belv.fullAt = none) (h16 : x.slot < 16) (he : (s.slot (slotOf d x.slot)).st = .empty) :
    ∃ t, execControlSample ⟨d, b, [x]⟩ s = .next t ∧ TakesCodes s d x (t.slot (slotOf d x.slot)) := by
  have hx := execControlSample_of_grid (r := ⟨d, b, [x]⟩) hr hg hf
  rw [inOrder_singleton d b x h16] at hx
  change execControlSample ⟨d, b, [x]⟩ s = done s (((s.busSample d b).slotSample d x).thEdges (slotsOf d)) at hx
  have hctl := fun ch y => s.ctlCode_busSample d b y ch
  obtain ⟨hslots, hnow, -⟩ := s.busSample_frame d b
  have hslot0 := State.slot_of_slots hslots (slotOf d x.slot)
  generalize s.busSample d b = u at *
  obtain ⟨hst, hgA, hgB, hi, hv, hc, hM, hV⟩ := u.takeSample_slot d x
  obtain ⟨_, _, _, _, hbooks⟩ := State.slotSample_empty (s := u) (d := d) (r := x) (by rw [hslot0]; exact he)
  generalize u.slotSample d x = w at *
  obtain ⟨f, hf⟩ := State.thEdges_slot (slotsOf d) (slotOf d x.slot) w
  obtain ⟨t, ht, tslots, -⟩ := done_kept s (w.thEdges (slotsOf d))
  have hslot := (State.slot_of_slots tslots (slotOf d x.slot)).trans hf
  rw [hbooks] at hslot
  simp only [hslot0, hnow, hctl] at hst hgA hgB hi hv hc hM hV
  refine ⟨t, hx.trans ht, ?_⟩
  rw [hslot]
  exact ⟨hst, hgA, hgB, hi, hv, hc, hM, hV⟩

/-- Settles O32: the sample of VBUS_A comes first, and a slot in EMPTY takes its codes with no transition to make. -/
theorem controlSampleTakesCodes : Obligations.ControlSampleTakesCodes := by
  refine ⟨fun r s hr hg hf hno => controlSample_bus hr hg hf hno, fun d b x s hr hg hf h16 he => ?_⟩
  obtain ⟨t, ht, hst, hgA, hgB, hi, hv, hc, hM, hV⟩ := controlSample_empty (b := b) hr hg hf h16 he
  exact ⟨t, ht, hst.trans he, hi, hv, hc, hM, hV, hgA, hgB⟩

end Sys2Proof.Machine
end

section
/-! PROOFS. The comparators of a slot: raw outputs, deglitched trips and the ends of their windows (O22). -/
namespace Sys2Proof.Machine

/-! ## Conditions of higher rank (R100, R125) -/

/-- A state that ranks no more than s does before j has no condition of higher rank than j, if s has none of higher rank than k. -/
theorem State.outranked_of_ranks {s t : State} {n j k : Nat} (hjk : j ≤ k) (hp : t.pending = s.pending)
    (hr : ∀ c r, r < j → t.rankOf n c = some r → s.rankOf n c = some r)
    (ht : rankTimed < j → t.timedDue n = true → t.gateUp n = true → s.timedDue n = true ∧ s.gateUp n = true)
    (h : s.outranked n k = false) : t.outranked n j = false := by
  rw [Bool.eq_false_iff] at h ⊢
  intro hb
  apply h
  unfold State.outranked at hb ⊢
  rw [hp] at hb
  rw [Bool.or_eq_true] at hb ⊢
  rcases hb with hb | hb
  · left
    rw [List.any_eq_true] at hb ⊢
    obtain ⟨c, hc, hb⟩ := hb
    refine ⟨c, hc, ?_⟩
    cases hrank : t.rankOf n c with
    | none => simp [hrank] at hb
    | some r =>
      have hlt : r < j := by simpa [hrank] using hb
      rw [hr c r hlt hrank]
      exact decide_eq_true (hlt.trans_le hjk)
  · right
    simp only [Bool.and_eq_true, decide_eq_true_eq] at hb ⊢
    obtain ⟨⟨hj, hd⟩, hg⟩ := hb
    exact ⟨⟨hj.trans_le hjk, (ht hj hd hg).1⟩, (ht hj hd hg).2⟩

/-- A cycle with no condition of higher rank than k has none of higher rank than j. -/
theorem State.outranked_mono {s : State} {n j k : Nat} (hjk : j ≤ k) (h : s.outranked n k = false) : s.outranked n j = false :=
  State.outranked_of_ranks hjk rfl (fun _ _ _ h => h) (fun _ hd hg => ⟨hd, hg⟩) h

/-- Before FAST ranks only OFF_N and INSTANT, which read the gates, the raw outputs and the exclusions. -/
theorem State.rankOf_before_fast {s t : State} {n r : Nat} {c : Instr} (ho : t.pkg.offLow = s.pkg.offLow) (hg : t.gateUp n = s.gateUp n)
    (hr : ∀ k, t.ripe n true k = s.ripe n true k) (he : t.excl n = s.excl n) (h2 : r < 2) (h : t.rankOf n c = some r) :
    s.rankOf n c = some r := by
  have hi (m : Nat) : t.inOr n m = s.inOr n m := by simp only [State.inOr, he]
  unfold State.rankOf at h ⊢
  split at h
  case h_1 => simpa only [ho, hg] using h
  case h_2 => simpa only [hg, hr, hi] using h
  case h_13 => exact nomatch h
  all_goals
    obtain ⟨-, ⟨⟩⟩ := Option.ite_none_right_eq_some.mp h
    omega

/-! ## The raw outputs (R188, R189, R191) -/

/-- What the comparators keep of a slot: its state, the raw and the deglitched outputs, and the windows. -/
def Slot.cmp (x : Slot) : SM × Nat × Nat × Option Win × Option Win := (x.st, x.raw, x.deg, x.winF, x.winI)

/-- Slot n of t keeps that of s, and t differs from s on slot n only. -/
structure CmpKept (n : Nat) (s t : State) : Prop where
  cmp : (t.slot n).cmp = (s.slot n).cmp
  now : t.now = s.now
  only : SlotOnly n s t

theorem CmpKept.refl (n : Nat) (s : State) : CmpKept n s s := ⟨rfl, rfl, .refl n s⟩

theorem CmpKept.trans {n : Nat} {s t u : State} (h : CmpKept n s t) (h' : CmpKept n t u) : CmpKept n s u :=
  ⟨h'.cmp.trans h.cmp, h'.now.trans h.now, h.only.trans h'.only⟩

theorem CmpKept.ite {n : Nat} {s t u : State} {p : Prop} [Decidable p] (ht : p → CmpKept n s t) (hu : ¬p → CmpKept n s u) :
    CmpKept n s (if p then t else u) := by
  by_cases h : p
  · rw [if_pos h]; exact ht h
  · rw [if_neg h]; exact hu h

theorem TerrOnly.cmpKept {n : Nat} {s t : State} (h : TerrOnly n s t) (hn : t.now = s.now) (ho : SlotOnly n s t) : CmpKept n s t := by
  obtain ⟨r, h⟩ := h
  exact ⟨by rw [h]; rfl, hn, ho⟩

/-- A change of the slot that touches neither outputs nor windows. -/
theorem State.modSlot_cmpKept (s : State) (n : Nat) (g : Slot → Slot) (hg : (g (s.slot n)).cmp = (s.slot n).cmp) :
    CmpKept n s (s.modSlot n g) :=
  ⟨by rw [State.slot_modSlot_self, hg], by simp, s.modSlot_slotOnly n g⟩

theorem State.restrain_cmpKept (s : State) (n : Nat) : CmpKept n s (s.restrain n) := by
  refine ⟨?_, by simp, by constructor <;> simp, fun _ h => s.restrain_other n h⟩
  unfold State.restrain
  split
  · simp [Slot.cmp]
  · rfl

theorem State.startWait_cmpKept (s : State) (n : Nat) : CmpKept n s (s.startWait n) := by
  refine ⟨?_, by simp, by constructor <;> simp, fun _ h => s.startWait_other n h⟩
  unfold State.startWait
  split
  · extract_lets +onlyGivenNames l u
    have hu : (u.slot n).cmp = (s.slot n).cmp := (s.modSlot_cmpKept n _ rfl).cmp
    split
    · exact hu
    · rw [← hu]
      simp [State.toHold, Slot.cmp]
  · rfl

theorem State.disagree_cmpKept (s : State) (n : Nat) : CmpKept n s (s.disagree n) := by
  refine ⟨?_, by simp, by constructor <;> simp, fun _ h => s.disagree_other n h⟩
  unfold State.disagree
  split <;> simp [Slot.cmp]

theorem State.rawLow_cmpKept (s : State) (n : Nat) : CmpKept n s (s.rawLow n) :=
  (s.rawLow_terrOnly n).cmpKept (by simp) ⟨by constructor <;> simp, fun _ h => s.rawLow_other n h⟩

/-- The raw output of a copy rises. -/
theorem rawOutputRise_raw {n c : Nat} {s : State} (hl : s.cmpLive n = true) (hc : nbit (s.slot n).raw c = false) :
    ∃ t, execRawOutputRise n c s = .next t ∧ (t.slot n).raw = setNbit (s.slot n).raw c true ∧ (t.slot n).st = (s.slot n).st ∧
      SlotOnly n s t := by
  unfold execRawOutputRise
  rw [if_neg (by simp [hl, hc])]
  extract_lets +onlyGivenNames any fast u v
  have huv : CmpKept n u v := .ite (fun _ => u.restrain_cmpKept n) (fun _ => .refl n u)
  obtain ⟨hcmp, -, honly⟩ : CmpKept n u (if (!fast && v.rawFast n) = true then v.startWait n else v) :=
    .ite (fun _ => huv.trans (v.startWait_cmpKept n)) (fun _ => huv)
  obtain ⟨t, ht, hslot, -, -, honly⟩ := done_on_slot ((s.modSlot_slotOnly n _).trans honly)
  rw [← hslot, show u.slot n = _ from s.slot_modSlot_self n _] at hcmp
  injection hcmp with hst hcmp
  injection hcmp with hraw
  exact ⟨t, ht, hraw, hst, honly⟩

/-- The close of a window when no copy in the OR is left asserted, on a slot x. -/
theorem Slot.closed_kept (x : Slot) (p : Bool) (inst : Bool) :
    let y := if p then x.setWin inst none else x
    y.st = x.st ∧ y.raw = x.raw ∧ y.deg = x.deg := by
  cases p <;> cases inst <;> exact ⟨rfl, rfl, rfl⟩

/-- The raw output of a copy falls, and with it the deglitched one. -/
theorem rawOutputFall_raw {n c : Nat} (lone : Bool) {s : State} (hl : s.cmpLive n = true) :
    ∃ t, execRawOutputFall n c lone s = .next t ∧ (t.slot n).raw = setNbit (s.slot n).raw c false ∧
      (t.slot n).deg = setNbit (s.slot n).deg c false ∧ (t.slot n).st = (s.slot n).st ∧ SlotOnly n s t := by
  unfold execRawOutputFall
  rw [if_neg (by simp [hl])]
  extract_lets +onlyGivenNames inst both u v w x
  have hu : CmpKept n s u := .ite (fun _ => s.disagree_cmpKept n) (fun _ => .refl n s)
  have hv : v.slot n = { u.slot n with raw := setNbit (u.slot n).raw c false, deg := setNbit (u.slot n).deg c false } :=
    u.slot_modSlot_self n _
  have hw : (w.slot n).st = (v.slot n).st ∧ (w.slot n).raw = (v.slot n).raw ∧ (w.slot n).deg = (v.slot n).deg := by
    rw [show w.slot n = _ from v.slot_modSlot_self n _]
    split
    · exact Slot.closed_kept _ _ inst
    · exact ⟨rfl, rfl, rfl⟩
  have hx : CmpKept n w (x.rawLow n) :=
    CmpKept.trans (.ite (fun _ => .refl n w) (fun _ => w.modSlot_cmpKept n _ rfl)) (x.rawLow_cmpKept n)
  obtain ⟨t, ht, hslot, -, -, honly⟩ := done_on_slot
    (((hu.only.trans (u.modSlot_slotOnly n _)).trans (v.modSlot_slotOnly n _)).trans hx.only)
  obtain ⟨hcmp, -⟩ := hx
  obtain ⟨hcmpu, -⟩ := hu
  rw [← hslot] at hcmp
  injection hcmp with hst hcmp
  injection hcmp with hraw hcmp
  injection hcmp with hdeg
  injection hcmpu with hstu hcmpu
  injection hcmpu with hrawu hcmpu
  injection hcmpu with hdegu
  obtain ⟨hws, hwr, hwd⟩ := hw
  rw [hv] at hws hwr hwd
  refine ⟨t, ht, ?_, ?_, ?_, honly⟩
  · rw [hraw, hwr, hrawu]
  · rw [hdeg, hwd, hdegu]
  · rw [hst, hws, hstu]

/-! ## The end of a window (R85, R126) -/

/-- What changes no slot keeps the comparators. -/
theorem CmpKept.of_slots {s t : State} (n : Nat) (hn : t.now = s.now) (h : Beside s t) (hs : t.slots = s.slots) : CmpKept n s t :=
  ⟨by rw [State.slot_of_slots hs], hn, .of_slots n h hs⟩

theorem State.settleTrip_cmpKept (s : State) (n : Nat) : CmpKept n s (s.settleTrip n) := by
  unfold State.settleTrip
  extract_lets +onlyGivenNames t
  split
  · exact .refl n s
  · obtain ⟨w, hw⟩ := s.tripSettle_slot n _ _
    exact ⟨by rw [hw]; rfl, by simp, s.tripSettle_slotOnly n _ _⟩

theorem State.loneCount_cmpKept (s : State) (n c : Nat) : CmpKept n s (s.loneCount n c) := by
  unfold State.loneCount
  extract_lets +onlyGivenNames u partner
  have hu : CmpKept n s u := s.modSlot_cmpKept n _ rfl
  refine hu.trans (.ite (fun _ => .refl n u) (fun _ => .ite (fun _ => ?_) (fun _ => .ite (fun _ => ?_) (fun _ => ?_))))
  · exact .of_slots n (by simp) (by constructor <;> simp) (by simp)
  · exact .of_slots n (by simp) (by constructor <;> simp) (by simp)
  · exact .trans (.of_slots n (by simp) (by constructor <;> simp) (by simp)) (State.rawLow_cmpKept _ n)

/-- The end of a window: what comes before and after writing it keeps the comparators. -/
theorem State.closeWin_kept {s : State} {n : Nat} {inst : Bool} {w : Win} (h : (s.slot n).win inst = some w) :
    ∃ v, CmpKept n s v ∧ CmpKept n (v.modSlot n (fun x => x.setWin inst (some { w with winEnd := 0 }))) (s.closeWin n inst) := by
  unfold State.closeWin
  rw [h]
  dsimp only
  refine ⟨_, ?_, .ite (fun _ => .refl n _) (fun _ => ?_)⟩
  · exact .ite (fun _ => .refl n s) (fun _ => .ite (fun _ => s.modSlot_cmpKept n _ rfl)
      (fun _ => .ite (fun _ => s.settleTrip_cmpKept n) (fun _ => .refl n s)))
  · exact (State.disagree_cmpKept _ n).trans (.ite (fun _ => State.loneCount_cmpKept _ n _) (fun _ => .refl n _))

theorem Slot.win_of_cmp {x y : Slot} (h : y.cmp = x.cmp) (inst : Bool) : y.st = x.st ∧ y.win inst = x.win inst := by
  injection h with hst h
  injection h with _ h
  injection h with _ h
  injection h with hF hI
  cases inst
  · exact ⟨hst, hF⟩
  · exact ⟨hst, hI⟩

theorem Slot.win_setWin (x : Slot) (inst : Bool) (w : Option Win) : (x.setWin inst w).win inst = w := by cases inst <;> rfl
theorem Slot.win_setWin_not (x : Slot) (inst : Bool) (w : Option Win) : (x.setWin inst w).win (!inst) = x.win (!inst) := by cases inst <;> rfl
theorem Slot.st_setWin (x : Slot) (inst : Bool) (w : Option Win) : (x.setWin inst w).st = x.st := by cases inst <;> rfl

/-- The end of a window writes that window and no other, and no state. -/
theorem State.closeWin_slot {s : State} {n : Nat} {inst : Bool} {w : Win} (h : (s.slot n).win inst = some w) :
    ((s.closeWin n inst).slot n).win inst = some { w with winEnd := 0 } ∧
    ((s.closeWin n inst).slot n).win (!inst) = (s.slot n).win (!inst) ∧ ((s.closeWin n inst).slot n).st = (s.slot n).st ∧
    (s.closeWin n inst).now = s.now := by
  obtain ⟨v, ⟨hv, hvn, -⟩, ⟨hc, hcn, -⟩⟩ := State.closeWin_kept h
  rw [State.slot_modSlot_self] at hc
  refine ⟨?_, ?_, ?_, hcn.trans ((State.modSlot_frame ..).1.trans hvn)⟩
  · rw [(Slot.win_of_cmp hc inst).2, Slot.win_setWin]
  · rw [(Slot.win_of_cmp hc (!inst)).2, Slot.win_setWin_not, (Slot.win_of_cmp hv (!inst)).2]
  · rw [(Slot.win_of_cmp hc inst).1, Slot.st_setWin, (Slot.win_of_cmp hv inst).1]

/-- A window that is over is closed. -/
def State.closeOver (n : Nat) (inst : Bool) (s : State) : State :=
  match (s.slot n).win inst with
  | some w => if w.winEnd != 0 && decide (w.winEnd ≤ s.now) then s.closeWin n inst else s
  | none => s

theorem execTripCauseSettle_eq (n : Nat) (s : State) :
    execTripCauseSettle n s = done s (State.closeOver n false (State.closeOver n true s)) := rfl

theorem State.closeOver_not (n : Nat) (inst : Bool) (s : State) :
    ((s.closeOver n inst).slot n).win (!inst) = (s.slot n).win (!inst) ∧ ((s.closeOver n inst).slot n).st = (s.slot n).st ∧
    (s.closeOver n inst).now = s.now := by
  unfold State.closeOver
  split
  case h_1 w hw =>
    split
    · exact (State.closeWin_slot hw).2
    · exact ⟨rfl, rfl, rfl⟩
  case h_2 => exact ⟨rfl, rfl, rfl⟩

theorem State.closeOver_self {n : Nat} {inst : Bool} {s : State} {w : Win} (h : (s.slot n).win inst = some w) (h0 : w.winEnd ≠ 0)
    (hn : w.winEnd ≤ s.now) :
    ((s.closeOver n inst).slot n).win inst = some { w with winEnd := 0 } ∧ ((s.closeOver n inst).slot n).st = (s.slot n).st := by
  have he : s.closeOver n inst = s.closeWin n inst := by simp [State.closeOver, h, h0, hn]
  obtain ⟨hw, -, hst, -⟩ := State.closeWin_slot h
  exact ⟨by rw [he, hw], by rw [he, hst]⟩

/-- TRIP_CAUSE_SETTLE closes a window that is over, whichever comparator's, in the state the slot is in. -/
theorem tripCauseSettle_closes {n : Nat} {inst : Bool} {w : Win} {s : State} (h : (s.slot n).win inst = some w) (h0 : w.winEnd ≠ 0)
    (hn : w.winEnd ≤ s.now) :
    ∃ t, execTripCauseSettle n s = .next t ∧ (t.slot n).win inst = some { w with winEnd := 0 } ∧ (t.slot n).st = (s.slot n).st := by
  rw [execTripCauseSettle_eq]
  obtain ⟨hwin, hst, hnow⟩ := State.closeOver_not n true s
  suffices hs : ((State.closeOver n false (State.closeOver n true s)).slot n).win inst = some { w with winEnd := 0 } ∧
      ((State.closeOver n false (State.closeOver n true s)).slot n).st = (s.slot n).st by
    obtain ⟨t, ht, tslots, -⟩ := done_kept s (State.closeOver n false (State.closeOver n true s))
    exact ⟨t, ht, by rw [State.slot_of_slots tslots]; exact hs.1, by rw [State.slot_of_slots tslots]; exact hs.2⟩
  cases inst with
  | true =>
    obtain ⟨hw, -⟩ := State.closeOver_self h h0 hn
    obtain ⟨hwin', hst', -⟩ := State.closeOver_not n false (State.closeOver n true s)
    exact ⟨hwin'.trans hw, hst'.trans hst⟩
  | false =>
    obtain ⟨hw, hst'⟩ := State.closeOver_self (hwin.trans h) h0 (hnow.symm ▸ hn)
    exact ⟨hw, hst'.trans hst⟩

/-! ## FAST and INSTANT assert (R84, R85, R126) -/

/-- The trip of both copies together, once decided: its cause is the comparator's own, with no DETAIL. -/
theorem State.cmpTrip_both {s : State} {n : Nat} {inst : Bool} (h : (s.slot n).win inst = some ⟨3, 0⟩) :
    s.cmpTrip n inst 0 = s.trip n true (if inst then 2 else 1) 0 0 := by
  cases inst with
  | false =>
    have h : (s.slot n).winF = some ⟨3, 0⟩ := h
    simp [State.cmpTrip, State.classify, h]
  | true =>
    have h : (s.slot n).winI = some ⟨3, 0⟩ := h
    simp [State.cmpTrip, State.classify, h]

theorem State.cmpDecide_both {s : State} {n : Nat} {inst : Bool} (hw : (s.slot n).win inst = some ⟨3, 0⟩) (hg : s.gateUp n = true)
    (hst : (s.slot n).st ≠ .holdthru) (ho : s.outranked n (if inst then 1 else 2) = false) (hl : inst = false → s.level n = 0) :
    s.cmpDecide n inst = s.trip n true (if inst then 2 else 1) 0 0 := by
  rw [← State.cmpTrip_both hw]
  cases inst with
  | false =>
    have ho : s.outranked n 2 = false := ho
    simp [State.cmpDecide, hg, ho, hst, State.waiter, hl]
  | true =>
    have ho : s.outranked n 1 = false := ho
    simp [State.cmpDecide, hg, ho, hst]

/-- The slot once both copies of a comparator have asserted together, with nothing in its window. -/
def State.bothUp (s : State) (n : Nat) (inst : Bool) : State :=
  ((s.modSlot n (fun x =>
    { x with
      deg := if inst then 12 else 3, degAt := s.now
      trip := if x.trip.due && decide (s.now ≤ x.trip.pullAt + 10) then
        { x.trip with copies := x.trip.copies ||| (if inst then 12 else 3) } else x.trip })).modSlot n
    (fun x => x.setWin inst (some ⟨3, 0⟩))).loneClear n inst

theorem State.cmpAssert_both {s : State} {n : Nat} {inst : Bool} (hl : s.cmpLive n = true) (he : s.excl n = 0) (hd : (s.slot n).deg = 0)
    (hw : (s.slot n).win inst = none) (hr : s.ripe n inst 3 = 3) :
    s.cmpAssert n inst 3 = (s.bothUp n inst).cmpDecide n inst := by
  have hi (m : Nat) : s.inOr n m = m := by simp [State.inOr, he]
  cases inst <;> simp [State.cmpAssert, State.bothUp, hr, hl, hd, hw, hi, cmpPart, State.agreed]

/-- The assertion writes what neither a trip nor the conditions that rank before FAST read. -/
theorem State.bothUp_slot (s : State) (n : Nat) (inst : Bool) :
    ∃ tr wI wF l, (s.bothUp n inst).slot n =
      { s.slot n with deg := if inst then 12 else 3, degAt := s.now, trip := tr, winI := wI, winF := wF, lone := l } ∧
      ((s.bothUp n inst).slot n).win inst = some ⟨3, 0⟩ := by
  unfold State.bothUp State.loneClear
  simp only [State.slot_modSlot_self]
  cases inst <;> exact ⟨_, _, _, _, rfl, rfl⟩

theorem State.bothUp_slotOnly (s : State) (n : Nat) (inst : Bool) : SlotOnly n s (s.bothUp n inst) := by
  unfold State.bothUp State.loneClear
  exact ((s.modSlot_slotOnly n _).trans (State.modSlot_slotOnly _ n _)).trans (State.modSlot_slotOnly _ n _)

theorem State.bothUp_frame (s : State) (n : Nat) (inst : Bool) :
    (s.bothUp n inst).now = s.now ∧ (s.bothUp n inst).pkg = s.pkg ∧ (s.bothUp n inst).regs = s.regs ∧
    (s.bothUp n inst).pending = s.pending := by
  simp [State.bothUp, State.loneClear]

/-- Both copies of FAST, or of INSTANT, trip the slot once both have asserted and nothing ranks before them. -/
theorem State.cmpAssert_trips {s : State} {n : Nat} {inst : Bool} (hl : s.cmpLive n = true) (hg : s.gateUp n = true)
    (hst : (s.slot n).st ≠ .holdthru) (he : s.excl n = 0) (hd : (s.slot n).deg = 0) (hw : (s.slot n).win inst = none)
    (hr : s.ripe n inst 3 = 3) (ho : s.outranked n (if inst then 1 else 2) = false) (hlev : inst = false → s.level n = 0) :
    Tripped s (s.cmpAssert n inst 3) n (if inst then 2 else 1) 0 true := by
  rw [State.cmpAssert_both hl he hd hw hr]
  obtain ⟨tr, wI, wF, l, hslot, hwin⟩ := s.bothUp_slot n inst
  obtain ⟨hnow, hpkg, hregs, hpend⟩ := s.bothUp_frame n inst
  have honly := s.bothUp_slotOnly n inst
  generalize s.bothUp n inst = u at hslot hwin hnow hpkg hregs hpend honly
  have hb := State.backup_of_regs hregs n
  have hgu : u.gateUp n = s.gateUp n := State.gateUp_of_asks hb (by rw [hslot]; rfl)
  have hreg (a : Nat) : u.reg a = s.reg a := State.reg_of_regs hregs a
  have hex : u.excl n = s.excl n := by simp only [State.excl, State.rf, hreg]
  have hri (k : Nat) : u.ripe n true k = s.ripe n true k := by
    simp only [State.ripe, hnow, hslot, if_true]
  have hk : (if inst then 1 else 2) ≤ 2 := by cases inst <;> decide
  have hou : u.outranked n (if inst then 1 else 2) = false :=
    State.outranked_of_ranks le_rfl hpend
      (fun c r hlt h => State.rankOf_before_fast (congrArg Pkg.offLow hpkg) hgu hri hex (hlt.trans_le hk) h)
      (fun h => absurd (h.trans_le hk) (by decide)) ho
  rw [State.cmpDecide_both hwin (hgu.trans hg) (by rw [hslot]; exact hst) hou
    (fun hi => (by simp only [State.level, State.sf, State.rf, hreg] : u.level n = s.level n).trans (hlev hi))]
  have hc : (if inst then 2 else 1) ≠ 0xD := by cases inst <;> decide
  exact (u.trip_tripped n true 0 0 hc).of_alike
    ⟨hnow, hb, by rw [hslot], by rw [hslot], by rw [hslot], by rw [hslot], honly⟩ hc

/-- Settles O22: the raw outputs and the windows write the comparators' own fields, and both copies together trip the slot. -/
theorem comparatorsAndTrips : Obligations.ComparatorsAndTrips := by
  refine ⟨fun n c s hl hc => rawOutputRise_raw hl hc, fun n c lone s hl => rawOutputFall_raw lone hl,
    fun n s hl hg hst he hd hw hr ho hlev => ?_, fun n s hl hg hst he hd hw hr ho => ?_,
    fun n inst w s h h0 hn => tripCauseSettle_closes h h0 hn⟩
  · obtain ⟨t, ht, htrip, -⟩ := done_tripped (State.cmpAssert_trips (inst := false) hl hg hst he hd hw hr ho (fun _ => hlev))
    exact ⟨t, ht, htrip⟩
  · obtain ⟨t, ht, htrip, -⟩ := done_tripped (State.cmpAssert_trips (inst := true) hl hg hst he hd hw hr ho nofun)
    exact ⟨t, ht, htrip⟩

end Sys2Proof.Machine
end

section
/-! PROOFS. The presence of a card, and the verdicts of the pre-check (O27). -/
namespace Sys2Proof.Machine

/-! ## Presence (R101, R142) -/

/-- An edge of PRES_N writes the pin and, where it changes, the start of its count. -/
theorem State.presEdge_slot (s : State) (n : Nat) (low : Bool) :
    (s.presEdge n low).slot n =
      { s.slot n with presN := low, presAt := if (s.slot n).presN = low then (s.slot n).presAt else s.now } := by
  unfold State.presEdge
  by_cases h : (s.slot n).presN = low
  · rw [if_pos (beq_iff_eq.mpr h), if_pos h, ← h]
  · rw [if_neg (by simp [h]), if_neg h, State.slot_modSlot_self]

theorem State.presEdge_slotOnly (s : State) (n : Nat) (low : Bool) : SlotOnly n s (s.presEdge n low) := by
  unfold State.presEdge
  split
  · exact .refl n s
  · exact s.modSlot_slotOnly n _

theorem presEdge_done (n : Nat) (low : Bool) (s : State) :
    ∃ t, done s (s.presEdge n low) = .next t ∧ (t.slot n).presN = low ∧ (t.slot n).st = (s.slot n).st ∧
      (t.slot n).presAt = (if (s.slot n).presN = low then (s.slot n).presAt else s.now) ∧ GatesKept s t n ∧ t.regs = s.regs ∧
      SlotOnly n s t := by
  obtain ⟨t, ht, hslot, hregs, -, honly⟩ := done_on_slot (s.presEdge_slotOnly n low)
  rw [s.presEdge_slot n low] at hslot
  exact ⟨t, ht, by rw [hslot], by rw [hslot], by rw [hslot], ⟨by rw [hslot], by rw [hslot]⟩, hregs.trans (by simp), honly⟩

theorem State.pumpCheck_slotOnly (s : State) (n d : Nat) : SlotOnly n s (s.pumpCheck d) :=
  .of_slots n (by constructor <;> simp) (by simp)

theorem State.remember_slotOnly (s : State) (n : Nat) : SlotOnly n s (s.remember n) :=
  ⟨by constructor <;> simp, fun _ h => s.remember_other n h⟩

/-- A removal writes the retry count and its timer only (R142). -/
theorem State.remember_slot (s : State) (n : Nat) :
    ∃ c r, (s.remember n).slot n = { s.slot n with retry := { (s.slot n).retry with cnt := c, remember := r } } := by
  unfold State.remember State.countReset
  extract_lets +onlyGivenNames r c u
  have hu : ∃ c r, u.slot n = { s.slot n with retry := { (s.slot n).retry with cnt := c, remember := r } } :=
    ⟨_, _, s.slot_modSlot_self n _⟩
  split
  · exact ⟨_, _, rfl⟩
  · split
    · simpa using hu
    · exact ⟨_, _, s.slot_modSlot_self n _⟩

theorem State.evtBit_pumpCheck (s : State) (d p b : Nat) : (s.pumpCheck d).evtBit p b = s.evtBit p b :=
  State.evtBit_of_pages (by simp) p b

theorem State.logPut_keeps_bit (s : State) (d : Nat) (r : Rec) {p b : Nat} (h : s.evtBit p b = true) : (s.logPut d r).evtBit p b = true := by
  unfold State.logPut
  dsimp only
  split
  · split
    · split
      · exact State.evt_keeps_bit _ _ p [17] b h
      · exact h
    · exact State.evt_keeps_bit _ _ p [16] b h
  · exact h

theorem State.logFlush_keeps_bit (s : State) (d : Nat) {p b : Nat} (h : s.evtBit p b = true) : (s.logFlush d).evtBit p b = true := by
  unfold State.logFlush
  split
  · exact h
  · exact State.logPut_keeps_bit _ d _ h

/-- A record is written to a die's log, which sets events and clears none. -/
theorem State.logSlot_keeps_bit (s : State) (n code : Nat) (data : List Nat) {p b : Nat} (h : s.evtBit p b = true) :
    (s.logSlot n code data).evtBit p b = true := by
  unfold State.logSlot State.log State.logAdd
  dsimp only
  split
  · split
    · split
      · split
        · exact State.logFlush_keeps_bit _ _ h
        · exact h
      · exact State.logFlush_keeps_bit _ _ h
    · exact h
  · exact State.logPut_keeps_bit _ _ _ (State.logFlush_keeps_bit _ _ h)

theorem State.remember_keeps_bit (s : State) (n : Nat) {p b : Nat} (h : s.evtBit p b = true) : (s.remember n).evtBit p b = true := by
  unfold State.remember State.countReset
  extract_lets +onlyGivenNames r c u
  have hu : u.evtBit p b = true := h
  split
  · exact h
  · split
    · exact State.logSlot_keeps_bit _ n _ _ (u.evt_keeps_bit _ p [6] b hu)
    · exact h

/-- A card seated in EMPTY starts the pre-check. -/
theorem State.cardIn_done {n : Nat} {s : State} (he : (s.slot n).st = .empty) :
    ∃ t, done s (s.cardIn n) = .next t ∧ (t.slot n).st = .seated ∧ (t.slot n).step = 2 ∧ (t.slot n).pres = true ∧
      (t.slot n).retry.remember = none ∧ (t.slot n).retry.cnt = (s.slot n).retry.cnt ∧
      t.evtBit (slotPage n) 20 = true ∧ GatesKept s t n ∧ SlotOnly n s t := by
  unfold State.cardIn
  extract_lets u
  rw [if_neg (by simp [he])]
  generalize hv : u.modSlot n (fun x => { x with retry := { x.retry with remember := none } }) = v
  have hvs : v.slot n = { s.slot n with pres := true, retry := { (s.slot n).retry with remember := none } } := by
    rw [← hv, State.slot_modSlot_self, show u.slot n = _ from s.slot_modSlot_self n _]
  have hvo : SlotOnly n s v := hv ▸ (s.modSlot_slotOnly n _).trans (u.modSlot_slotOnly n _)
  obtain ⟨a, b, p, r, hw⟩ := v.enter_entered n .seated 2
  rw [hvs] at hw
  obtain ⟨t, ht, hslot, -, hbit, honly⟩ := done_on_slot
    (((hvo.trans (v.enter_slotOnly n .seated 2)).trans (State.evtSlot_slotOnly _ n n [20])).trans (State.pumpCheck_slotOnly _ n (dieOf n)))
  rw [State.slot_pumpCheck, State.slot_evtSlot, hw] at hslot
  refine ⟨t, ht, by rw [hslot]; rfl, by rw [hslot]; rfl, by rw [hslot]; rfl, by rw [hslot]; rfl, by rw [hslot]; rfl, hbit _ _ ?_,
    ⟨by rw [hslot]; rfl, by rw [hslot]; rfl⟩, honly⟩
  rw [State.evtBit_pumpCheck]
  exact State.evtBit_evtSlot _ n 20 (by decide)

/-- What the end of a removal writes after the slot has entered EMPTY (R142). -/
theorem State.removed_done {n : Nat} {s u : State} (hu : SlotOnly n s u) :
    ∃ t c r, done s (((u.evtSlot n [13]).remember n).pumpCheck (dieOf n)) = .next t ∧
      t.slot n = { u.slot n with retry := { (u.slot n).retry with cnt := c, remember := r } } ∧ t.evtBit (slotPage n) 13 = true ∧
      SlotOnly n s t := by
  obtain ⟨c, r, hr⟩ := (u.evtSlot n [13]).remember_slot n
  obtain ⟨t, ht, hslot, -, hbit, honly⟩ := done_on_slot
    (((hu.trans (u.evtSlot_slotOnly n n [13])).trans (State.remember_slotOnly _ n)).trans (State.pumpCheck_slotOnly _ n (dieOf n)))
  rw [State.slot_pumpCheck, hr, State.slot_evtSlot] at hslot
  refine ⟨t, c, r, ht, hslot, hbit _ _ ?_, honly⟩
  rw [State.evtBit_pumpCheck]
  exact State.remember_keeps_bit _ n (State.evtBit_evtSlot _ n 13 (by decide))

/-- A card removed from a slot of an insertion or in ON leaves the slot in EMPTY with both gates down. -/
theorem State.cardOut_pulls {n : Nat} {s : State}
    (hst : (s.slot n).st = .seated ∨ (s.slot n).st = .waiting ∨ (s.slot n).st = .charging ∨ (s.slot n).st = .on) :
    ∃ t, done s (s.cardOut n) = .next t ∧ (t.slot n).st = .empty ∧ (t.slot n).prev = (s.slot n).st ∧ (t.slot n).pres = false ∧
      (t.slot n).pg = false ∧ Pulled s t n true ∧ t.evtBit (slotPage n) 13 = true ∧ SlotOnly n s t := by
  generalize hu : s.modSlot n (fun x => { x with pres := false }) = u
  generalize hv : (if (s.slot n).st = .charging then u.insAbort n 10 else u) = v
  have hus : u.slot n = { s.slot n with pres := false } := by rw [← hu, State.slot_modSlot_self]
  have huo : SlotOnly n s u := hu ▸ s.modSlot_slotOnly n _
  have hvs : ∃ i, v.slot n = { s.slot n with pres := false, ins := i } := by
    rw [← hv]
    split
    · exact ⟨{ (s.slot n).ins with abort := 10 }, by rw [State.insAbort, State.slot_evtSlot, State.slot_modSlot_self, hus]⟩
    · exact ⟨_, hus⟩
  have hvo : SlotOnly n s v := by
    rw [← hv]
    split
    · exact (huo.trans (u.modSlot_slotOnly n _)).trans (State.evtSlot_slotOnly _ n n [18])
    · exact huo
  have hvf : v.now = s.now ∧ v.regs = s.regs := by
    rw [← hv, ← hu]
    split <;> simp
  have hcard : s.cardOut n = (((((v.pullGates n true).enter n .empty 0).modSlot n (fun x => { x with revBlock := false })).evtSlot n
      [13]).remember n).pumpCheck (dieOf n) := by
    rw [← hv, ← hu]
    unfold State.cardOut
    rcases hst with h | h | h | h <;> simp [h]
  obtain ⟨hnow, hregs⟩ := hvf
  obtain ⟨i, hvs⟩ := hvs
  rw [hcard]
  generalize hw : (v.pullGates n true).enter n .empty 0 = w
  obtain ⟨hwst, hwprev, hwpg, ⟨hA, hB⟩, -, -, -, hwpres⟩ := v.pulledEnter_slot n true .empty 0 hw.symm
  have hwo : SlotOnly n s w := hw ▸ (hvo.trans (v.pullGates_slotOnly n true)).trans (State.enter_slotOnly _ n .empty 0)
  obtain ⟨t, c, r, ht, hslot, hbit, honly⟩ := State.removed_done (hwo.trans (w.modSlot_slotOnly n (fun x => { x with revBlock := false })))
  rw [State.slot_modSlot_self] at hslot
  rw [hnow, hvs] at hA hB
  rw [hvs] at hwprev hwpres
  rw [State.backup_of_regs hregs] at hB
  refine ⟨t, ht, ?_, ?_, ?_, ?_, ⟨?_, ?_⟩, hbit, honly⟩ <;> rw [hslot]
  · exact hwst
  · exact hwprev
  · exact hwpres
  · exact hwpg.trans (Bool.and_false _)
  · exact hA
  · exact hB

/-- A card removed from COOLDOWN leaves the slot in EMPTY, its cooldown running on. -/
theorem State.cardOut_cooldown {n : Nat} {s : State} (hst : (s.slot n).st = .cooldown) :
    ∃ t, done s (s.cardOut n) = .next t ∧ (t.slot n).st = .empty ∧ (t.slot n).prev = .cooldown ∧ (t.slot n).pres = false ∧
      (t.slot n).retry.cool = (s.slot n).retry.cool ∧ t.evtBit (slotPage n) 13 = true ∧ GatesKept s t n ∧ SlotOnly n s t := by
  generalize hu : s.modSlot n (fun x => { x with pres := false }) = u
  have hus : u.slot n = { s.slot n with pres := false } := by rw [← hu, State.slot_modSlot_self]
  have huo : SlotOnly n s u := hu ▸ s.modSlot_slotOnly n _
  have hcard : s.cardOut n = (((u.enter n .empty 0).evtSlot n [13]).remember n).pumpCheck (dieOf n) := by
    rw [← hu]
    unfold State.cardOut
    simp [hst]
  obtain ⟨a, b, p, r, hw⟩ := u.enter_entered n .empty 0
  obtain ⟨t, c, m, ht, hslot, hbit, honly⟩ := State.removed_done (huo.trans (u.enter_slotOnly n .empty 0))
  rw [hw, hus] at hslot
  rw [hcard]
  exact ⟨t, ht, by rw [hslot]; rfl, by rw [hslot]; exact hst, by rw [hslot]; rfl, by rw [hslot]; rfl, hbit,
    ⟨by rw [hslot]; rfl, by rw [hslot]; rfl⟩, honly⟩

/-- A card removed from TRIPPED or LOCKOUT is noted in the trip. -/
theorem State.cardOut_noted {n : Nat} {s : State} (hst : (s.slot n).st = .tripped ∨ (s.slot n).st = .lockout) :
    ∃ t, done s (s.cardOut n) = .next t ∧ (t.slot n).st = (s.slot n).st ∧ (t.slot n).pres = false ∧ (t.slot n).trip.removed = true ∧
      GatesKept s t n ∧ t.regs = s.regs ∧ SlotOnly n s t := by
  have hcard : s.cardOut n = (s.modSlot n (fun x => { x with pres := false })).modSlot n
      (fun x => { x with trip := { x.trip with removed := true } }) := by
    unfold State.cardOut
    rcases hst with h | h <;> simp [h]
  rw [hcard]
  obtain ⟨t, ht, hslot, hregs, -, honly⟩ := done_on_slot ((s.modSlot_slotOnly n _).trans (State.modSlot_slotOnly _ n _))
  rw [State.slot_modSlot_self, State.slot_modSlot_self] at hslot
  exact ⟨t, ht, by rw [hslot], by rw [hslot], by rw [hslot], ⟨by rw [hslot], by rw [hslot]⟩, hregs.trans (by simp), honly⟩

end Sys2Proof.Machine
end

section
/-! PROOFS. The verdicts of the pre-check and the pass elements it checks (O27). -/
namespace Sys2Proof.Machine

/-! ## What the ranks of a cycle read (R100, R125) -/

/-- What of a slot the ranks are read from, its gates aside. -/
def Slot.rankView (x : Slot) : SM × Nat × List Nat × Nat × Option Nat × Terr × Option Nat × Option Nat × Bool × Nat :=
  (x.st, x.raw, x.rawAt, x.deg, x.pendDg, x.terr, x.faultAt, x.prot.due, x.presN, x.presAt)

/-- What the ranks on slot n read is the same in s and in t; LEARN_C and LEARN_G of the slot they do not read. -/
structure RankAlike (n : Nat) (s t : State) : Prop where
  now : t.now = s.now
  pkg : t.pkg = s.pkg
  ident : t.ident = s.ident
  pending : t.pending = s.pending
  heard : t.heard = s.heard
  dies : ∀ d, (t.die d).present = (s.die d).present ∧ (t.die d).mode = (s.die d).mode
  regs : ∀ a, a ≠ slotB n + 0x158 → a ≠ slotB n + 0x15C → t.reg a = s.reg a
  others : ∀ m, m ≠ n → t.slot m = s.slot m
  view : (t.slot n).rankView = (s.slot n).rankView
  gateUp : t.gateUp n = s.gateUp n

theorem RankAlike.terrReg {n : Nat} {s t : State} (h : RankAlike n s t) : t.reg (terrB + 8) = s.reg (terrB + 8) :=
  h.regs _ (slotB_ne_terrB n 0x158 8 (by decide)).symm (slotB_ne_terrB n 0x15C 8 (by decide)).symm

theorem RankAlike.slotReg {n : Nat} {s t : State} (h : RankAlike n s t) (m off : Nat) (ho : off < 0x158 ∨ (0x15C < off ∧ off < 0x1000)) :
    t.reg (slotB m + off) = s.reg (slotB m + off) :=
  h.regs _ (by unfold slotB; omega) (by unfold slotB; omega)

theorem RankAlike.st {n : Nat} {s t : State} (h : RankAlike n s t) (m : Nat) : (t.slot m).st = (s.slot m).st := by
  by_cases hm : m = n
  · subst hm
    exact congrArg Prod.fst h.view
  · rw [h.others m hm]

/-- The refusal of a message reads the Trellis, the die and the state of the slot it is for (R186, R199). -/
theorem RankAlike.refuseReason {n : Nat} {s t : State} (h : RankAlike n s t) (m : Msg) : t.refuseReason m = s.refuseReason m := by
  have hlev (k : Nat) : t.level k = s.level k := congrArg (fld · 2 0) (h.slotReg k 0x280 (by omega))
  have hon : t.terrOn = s.terrOn := congrArg (fun w => fld w 0 0 == 1) h.terrReg
  have hhere (k : Nat) : t.slotHere k = s.slotHere k := by
    simp only [State.slotHere, State.present, State.fitted, h.ident, (h.dies _).1]
  simp only [State.refuseReason, hon, hhere, hlev, h.st]

/-- A rank of a condition is read alike. -/
theorem RankAlike.rankOf {n : Nat} {s t : State} (h : RankAlike n s t) (c : Instr) : t.rankOf n c = s.rankOf n c := by
  have hv := h.view
  simp only [Slot.rankView, Prod.mk.injEq] at hv
  obtain ⟨hst, hraw, hrawAt, hdeg, hpend, hterr, hfault, hdue, hpresN, hpresAt⟩ := hv
  have hexcl : t.excl n = s.excl n := congrArg (fld · 27 24) (h.slotReg n 0x118 (by omega))
  have hinOr (m : Nat) : t.inOr n m = s.inOr n m := by simp only [State.inOr, hexcl]
  have hcfg : t.rf (slotB n + 0x100) 5 4 = s.rf (slotB n + 0x100) 5 4 := congrArg (fld · 5 4) (h.slotReg n 0x100 (by omega))
  have hdg : t.fastDg n = s.fastDg n := by simp only [State.fastDg, hcfg, hpend]
  have hripe (i : Bool) (k : Nat) : t.ripe n i k = s.ripe n i k := by simp only [State.ripe, hdg, hraw, hrawAt, h.now]
  have hlev : t.level n = s.level n := congrArg (fld · 2 0) (h.slotReg n 0x280 (by omega))
  have hon : t.terrOn = s.terrOn := congrArg (fun w => fld w 0 0 == 1) h.terrReg
  have hruns (d : Nat) : t.runs d = s.runs d := by
    simp only [State.runs, State.present, State.fitted, h.ident, h.pkg, (h.dies d).1, (h.dies d).2]
  have hwaiter : t.waiter n = s.waiter n := by simp only [State.waiter, State.terrSlot, hon, hruns, hst, hlev]
  have hfast : t.fastActs n = s.fastActs n := by simp only [State.fastActs, hwaiter, hterr, h.now]
  have hfastOn : t.fastOn n = s.fastOn n := by simp only [State.fastOn, hinOr, hdeg]
  have hwait : t.waitOver n = s.waitOver n := by simp only [State.waitOver, hwaiter, hterr, h.now, hfastOn]
  have hhold : t.holdOver n = s.holdOver n := by simp only [State.holdOver, hwaiter, hterr, h.now, hfastOn]
  have hft : t.rf (slotB n + 0x10C) 23 8 = s.rf (slotB n + 0x10C) 23 8 := congrArg (fld · 23 8) (h.slotReg n 0x10C (by omega))
  have hlim : t.limitDue n = s.limitDue n := by simp only [State.limitDue, hft, hfault, h.now]
  have hrep (m : Msg) : t.repeated m = s.repeated m := by simp only [State.repeated, h.heard, h.now]
  have hrem : (t.slot n).removedBy t.now = (s.slot n).removedBy s.now := by simp only [Slot.removedBy, hpresN, hpresAt, h.now]
  unfold State.rankOf
  simp only [h.pkg, h.gateUp, hinOr, hripe, hfast, hwait, hhold, hlim, hrep, h.refuseReason, hst, hrem]

/-- The conditions of higher rank are read alike. -/
theorem RankAlike.outranked {n k : Nat} {s t : State} (h : RankAlike n s t) (ho : s.outranked n k = false) : t.outranked n k = false := by
  have hv := h.view
  simp only [Slot.rankView, Prod.mk.injEq] at hv
  obtain ⟨-, -, -, -, -, -, -, hdue, -⟩ := hv
  have htimed : t.timedDue n = s.timedDue n := by simp only [State.timedDue, hdue, h.now]
  exact State.outranked_of_ranks le_rfl h.pending (fun c r _ hr => (h.rankOf c).symm.trans hr)
    (fun _ hd hg => ⟨htimed.symm.trans hd, h.gateUp.symm.trans hg⟩) ho

/-- A change of the slot that neither its ranks nor its gates read. -/
theorem State.modSlot_rankAlike (s : State) (n : Nat) (g : Slot → Slot) (hv : (g (s.slot n)).rankView = (s.slot n).rankView)
    (hg : (g (s.slot n)).asks = (s.slot n).asks) : RankAlike n s (s.modSlot n g) where
  now := by simp
  pkg := by simp
  ident := by simp
  pending := by simp
  heard := by simp
  dies _ := ⟨rfl, rfl⟩
  regs a _ _ := State.reg_of_regs (by simp) a
  others m hm := s.slot_modSlot_ne g hm
  view := by rw [State.slot_modSlot_self, hv]
  gateUp := State.gateUp_modSlot hg

/-! ## The passes (R102, R104) -/

/-- An entry from any state but CHARGING, whose context it would leave, writes no register. -/
theorem State.enter_regs {s : State} {n : Nat} (st : SM) (step : Nat) (h : (s.slot n).st ≠ .charging) : (s.enter n st step).regs = s.regs := by
  unfold State.enter State.leave
  extract_lets x u v w waits stable a b
  have hu : u = s := if_neg (by simp [x, h])
  have hv : v.regs = s.regs := by
    simp only [v, hu]
    split <;> simp
  have hb : b.regs = w.regs := by
    simp only [b]
    split <;> simp [a]
  have hw : w.regs = v.regs := by
    simp only [w]
    split <;> simp
  exact (show (b.gatesIdle n).regs = b.regs by simp).trans (hb.trans (hw.trans hv))

theorem State.enter_kept (s : State) (n : Nat) (st : SM) (step : Nat) :
    ((s.enter n st step).slot n).deg = (s.slot n).deg ∧ ((s.enter n st step).slot n).revBlock = (s.slot n).revBlock := by
  obtain ⟨a, b, p, r, h⟩ := s.enter_entered n st step
  rw [h]
  exact ⟨rfl, rfl⟩

/-- A rise into a state that the entry reaches from any state but CHARGING, on a calm slot (R136, R481). -/
theorem State.rise_enter {s : State} {n : Nat} (st : SM) (step : Nat) (h : (s.slot n).st ≠ .charging) (ho : s.offN = false)
    (hd : s.inOr n (s.slot n).deg = 0) : s.rise n (fun s => s.enter n st step) = (s.enter n st step).raiseGates n := by
  refine State.rise_calm ho ?_
  have hex : (s.enter n st step).excl n = s.excl n := congrArg (fld · 27 24) (State.reg_of_regs (State.enter_regs st step h) _)
  unfold State.inOr at hd ⊢
  rw [(s.enter_kept n st step).1, hex]
  exact hd

/-- The end of step 1 with pass element B working: GATEA is checked in WAITING. -/
theorem stepOnePass_waiting {n : Nat} {s : State} (hst : (s.slot n).st = .seated) (hb : s.backup n = true) (hr : (s.slot n).role = true)
    (ho : s.offN = false) (hd : s.inOr n (s.slot n).deg = 0) (hv : (s.slot n).revBlock = false) :
    ∃ t, done s (s.stepOnePass n) = .next t ∧ (t.slot n).st = .waiting ∧ (t.slot n).gA = (s.slot n).gA.drive .enhance ∧
      (t.slot n).gB = (s.slot n).gB ∧ SlotOnly n s t := by
  have hc : (s.slot n).st ≠ .charging := by simp [hst]
  have hp : s.stepOnePass n = (s.enter n .waiting 0).raiseGates n := by
    rw [← State.rise_enter .waiting 0 hc ho hd]
    simp [State.stepOnePass, hb, hr]
  obtain ⟨est, -, -, -, eA, eB, erole, -⟩ := s.enter_slot n .waiting 0
  have hbe : (s.enter n .waiting 0).backup n = true := (State.backup_of_regs (State.enter_regs .waiting 0 hc) n).trans hb
  have hw : (s.enter n .waiting 0).wants n = (some .enhance, none) := by
    simp [State.wants, est, hbe, State.workB, erole, hr]
  have hslot := (s.enter n .waiting 0).raiseGates_slot n ((s.enter_kept n .waiting 0).2.trans hv)
  obtain ⟨t, ht, htslot, -, -, honly⟩ := done_on_slot ((s.enter_slotOnly n .waiting 0).trans (State.raiseGates_slotOnly _ n))
  rw [hslot, hw] at htslot
  refine ⟨t, by rw [hp]; exact ht, ?_, ?_, ?_, honly⟩ <;> rw [htslot]
  · exact est
  · exact congrArg (fun g : Gate => g.drive .enhance) eA
  · exact eB

/-- The end of step 1 with pass element A working: GATEB is driven up to check A. -/
theorem stepOnePass_checksA {n : Nat} {s : State} (hst : (s.slot n).st = .seated) (hb : s.backup n = true) (hr : (s.slot n).role = false)
    (ho : s.offN = false) (hd : s.inOr n (s.slot n).deg = 0) (hv : (s.slot n).revBlock = false) :
    ∃ t, done s (s.stepOnePass n) = .next t ∧ (t.slot n).st = .seated ∧ (t.slot n).step = 3 ∧ (t.slot n).ins.stepAt = s.now ∧
      (t.slot n).gB = (s.slot n).gB.drive .enhance ∧ (t.slot n).gA = (s.slot n).gA ∧ SlotOnly n s t := by
  generalize hu : s.modSlot n (fun x => { x with step := 3, ins := { x.ins with stepAt := s.now } }) = u
  have hus : u.slot n = { s.slot n with step := 3, ins := { (s.slot n).ins with stepAt := s.now } } := by
    rw [← hu, State.slot_modSlot_self]
  have huo : SlotOnly n s u := hu ▸ s.modSlot_slotOnly n _
  have hregs : u.regs = s.regs := by rw [← hu]; simp
  have hdu : u.inOr n (u.slot n).deg = 0 := by
    have hex : u.excl n = s.excl n := congrArg (fld · 27 24) (State.reg_of_regs hregs _)
    unfold State.inOr at hd ⊢
    rw [hus, hex]
    exact hd
  have hp : s.stepOnePass n = u.raiseGates n := by
    rw [← hu] at hdu ⊢
    rw [← State.rise_calm (go := fun s => s.modSlot n (fun x => { x with step := 3, ins := { x.ins with stepAt := s.now } })) ho hdu]
    simp [State.stepOnePass, hb, hr]
  have hw : u.wants n = (none, some .enhance) := by simp [State.wants, hus, hst]
  have hslot := u.raiseGates_slot n (by rw [hus]; exact hv)
  obtain ⟨t, ht, htslot, -, -, honly⟩ := done_on_slot (huo.trans (u.raiseGates_slotOnly n))
  rw [hslot, hw, hus] at htslot
  exact ⟨t, by rw [hp]; exact ht, by rw [htslot]; exact hst, by rw [htslot], by rw [htslot], by rw [htslot]; rfl, by rw [htslot]; rfl, honly⟩

/-- The entry into WAITING without a gate to drive up. -/
theorem done_enter (s : State) (n : Nat) (st : SM) (step : Nat) :
    ∃ t, done s (s.enter n st step) = .next t ∧ (t.slot n).st = st ∧ (t.slot n).prev = (s.slot n).st ∧ GatesKept s t n ∧
      SlotOnly n s t := by
  obtain ⟨est, eprev, -, -, eA, eB, -⟩ := s.enter_slot n st step
  obtain ⟨t, ht, hslot, -, -, honly⟩ := done_on_slot (s.enter_slotOnly n st step)
  exact ⟨t, ht, by rw [hslot, est], by rw [hslot, eprev], ⟨by rw [hslot, eA], by rw [hslot, eB]⟩, honly⟩

/-! ## The verdicts (R103 to R106, R143) -/

/-- A trip with no pull-down takes down its cause, its DETAIL and the insertion's ABORT_STEP, and leaves the gates (R123). -/
theorem State.quietTrip_slot (s : State) (n cause detail : Nat) {abort : Nat} (h0 : abort ≠ 0) (snap : Bool) :
    let x := (s.quietTrip n cause detail abort snap).slot n
    x.st = (s.slot n).st ∧ x.gA = (s.slot n).gA ∧ x.gB = (s.slot n).gB ∧ x.trip.cause = cause ∧ x.trip.detail = detail ∧
      x.ins.abort = abort := by
  unfold State.quietTrip
  extract_lets u v w x
  obtain ⟨tr, -, hu⟩ := s.takeTrip_slot n true abort
  have hv : ∃ tr, v.slot n = { u.slot n with trip := tr } := ⟨_, u.slot_modSlot_self n _⟩
  have hw : ∃ tr, w.slot n = { v.slot n with trip := tr } := by
    cases snap with
    | false => exact ⟨(v.slot n).trip, by rw [show w = v from if_neg Bool.false_ne_true]⟩
    | true =>
      obtain ⟨b, hb⟩ := v.snapAssign_slot n
      exact ⟨_, by rw [show w = v.snapAssign n from if_pos rfl, hb]⟩
  obtain ⟨tv, hv⟩ := hv
  obtain ⟨tw, hw⟩ := hw
  obtain ⟨wear, hx⟩ := w.tripSettle_slot n cause detail
  rw [show x = _ from hx, hw, hv, show u.slot n = _ from hu]
  exact ⟨rfl, rfl, rfl, rfl, rfl, if_neg h0⟩

theorem State.quietTrip_slotOnly (s : State) (n cause detail abort : Nat) (snap : Bool) :
    SlotOnly n s (s.quietTrip n cause detail abort snap) :=
  ⟨by constructor <;> simp, fun _ h => s.quietTrip_other n cause detail abort snap h⟩

theorem State.sendOpen_slotOnly (s : State) (n : Nat) : SlotOnly n s (s.sendOpen n) :=
  ⟨by constructor <;> simp, fun _ h => s.sendOpen_other n h⟩

/-- A short verdict on a slot with no gate driven up: TRIPPED, with the gates as they are. -/
theorem State.verdict_quiet {s s0 : State} {n : Nat} (hs : SlotOnly n s0 s) (cause : Nat) {abort : Nat} (open_ : Bool)
    (hg : s.gateUp n = false) (h0 : abort ≠ 0) :
    ∃ t, done s0 (s.verdict n cause abort open_) = .next t ∧ (t.slot n).st = .tripped ∧ (t.slot n).prev = (s.slot n).st ∧
      (t.slot n).trip.cause = cause ∧ (t.slot n).trip.detail = 8 ∧ (t.slot n).ins.abort = abort ∧ GatesKept s t n ∧ SlotOnly n s0 t := by
  obtain ⟨hst, hA, hB, hcause, hdetail, habort⟩ := s.quietTrip_slot n cause 8 h0 true
  have hqo := hs.trans (s.quietTrip_slotOnly n cause 8 abort true)
  have hv : s.verdict n cause abort open_ = if open_ then ((s.quietTrip n cause 8 abort true).enter n .tripped 0).sendOpen n
      else (s.quietTrip n cause 8 abort true).enter n .tripped 0 := by simp [State.verdict, hg]
  rw [hv]
  generalize s.quietTrip n cause 8 abort true = q at *
  obtain ⟨est, eprev, -, -, eA, eB, -, -, etrip, -⟩ := q.enter_slot n .tripped 0
  have eabort := q.enter_abort n .tripped 0
  have heo := hqo.trans (q.enter_slotOnly n .tripped 0)
  generalize q.enter n .tripped 0 = e at *
  obtain ⟨r, hr, ho⟩ : ∃ r, (if open_ then e.sendOpen n else e).slot n = { e.slot n with terr := r } ∧
      SlotOnly n s0 (if open_ then e.sendOpen n else e) := by
    cases open_
    · exact ⟨_, rfl, heo⟩
    · obtain ⟨r, hr⟩ := e.sendOpen_terrOnly n
      exact ⟨r, hr, heo.trans (e.sendOpen_slotOnly n)⟩
  obtain ⟨t, ht, hslot, -, -, honly⟩ := done_on_slot ho
  rw [hr] at hslot
  refine ⟨t, ht, ?_, ?_, ?_, ?_, ?_, ⟨?_, ?_⟩, honly⟩ <;> rw [hslot]
  · exact est
  · exact eprev.trans hst
  · exact (congrArg TripInfo.cause etrip).trans hcause
  · exact (congrArg TripInfo.detail etrip).trans hdetail
  · exact eabort.trans habort
  · exact eA.trans hA
  · exact eB.trans hB

/-- The slot with pass element A found shorted, before the swap: GATEB is pulled down, and the analog limit and a block end. -/
def State.aFound (s : State) (n : Nat) : State :=
  (s.pullGate n true).modSlot n (fun x => { x with revBlock := false, limit := false, limOffAt := if x.limit then some s.now else x.limOffAt })

theorem State.aFound_slot (s : State) (n : Nat) :
    ∃ l, (s.aFound n).slot n = { s.slot n with gB := (s.slot n).gB.pull s.now true, revBlock := false, limit := false, limOffAt := l } := by
  unfold State.aFound State.pullGate
  rw [State.slot_modSlot_self, State.slot_modSlot_self]
  exact ⟨_, rfl⟩

theorem State.aFound_slotOnly (s : State) (n : Nat) : SlotOnly n s (s.aFound n) :=
  (s.modSlot_slotOnly n _).trans (State.modSlot_slotOnly _ n _)

theorem State.foundShortA_eq (s : State) (n : Nat) :
    s.foundShortA n = if s.approve 0 then
      (((s.aFound n).enter n .seated 0).modSlot n (fun x => { x with ins := { x.ins with swapPending := true } })).nursReq 0 (dieOf n) n 0
      else (s.aFound n).roleSwap n false := rfl

/-- The roles swap at once. -/
theorem done_foundShortA_swap {n : Nat} {s s0 : State} (h0 : SlotOnly n s0 s) (ha : s.approve 0 = false) :
    ∃ t, done s0 (s.foundShortA n) = .next t ∧ (t.slot n).role = true ∧ (t.slot n).st = .seated ∧ (t.slot n).step = 2 ∧
      (t.slot n).gB = (s.slot n).gB.pull s.now true ∧ (t.slot n).gA = (s.slot n).gA ∧ SlotOnly n s0 t := by
  rw [State.foundShortA_eq, if_neg (by simp [ha])]
  obtain ⟨l, hl⟩ := s.aFound_slot n
  have ho := h0.trans (s.aFound_slotOnly n)
  generalize s.aFound n = u at *
  unfold State.roleSwap
  extract_lets d v w x
  have hx : x.slot n = { u.slot n with role := true } := by
    simp only [x, w, v, State.slot_swap, State.slot_logSlot, State.slot_evtSlot, State.slot_modSlot_self]
  have hxo : SlotOnly n v x := .of_slots n (by constructor <;> simp [x, w]) (by simp [x, w])
  obtain ⟨est, -, estep, -, eA, eB, erole, -⟩ := x.enter_slot n .seated 2
  obtain ⟨t, ht, hslot, -, -, honly⟩ := done_on_slot ((ho.trans ((u.modSlot_slotOnly n _).trans hxo)).trans (x.enter_slotOnly n .seated 2))
  rw [hx] at eA eB erole
  rw [hl] at eA eB
  exact ⟨t, ht, by rw [hslot, erole], by rw [hslot, est], by rw [hslot, estep], by rw [hslot, eB], by rw [hslot, eA], honly⟩

/-- The swap awaits approval. -/
theorem done_foundShortA_asks {n : Nat} {s s0 : State} (h0 : SlotOnly n s0 s) (ha : s.approve 0 = true) (hr : (s.slot n).role = false) :
    ∃ t, done s0 (s.foundShortA n) = .next t ∧ (t.slot n).role = false ∧ (t.slot n).st = .seated ∧ (t.slot n).step = 0 ∧
      (t.slot n).ins.swapPending = true ∧ (t.slot n).gB = (s.slot n).gB.pull s.now true ∧ (t.slot n).gA = (s.slot n).gA ∧
      SlotOnly n s0 t := by
  rw [State.foundShortA_eq, if_pos ha]
  obtain ⟨l, hl⟩ := s.aFound_slot n
  have ho := h0.trans (s.aFound_slotOnly n)
  generalize s.aFound n = u at *
  obtain ⟨est, -, estep, -, eA, eB, erole, -⟩ := u.enter_slot n .seated 0
  have heo := ho.trans (u.enter_slotOnly n .seated 0)
  generalize u.enter n .seated 0 = e at *
  have hno (v : State) : SlotOnly n v (v.nursReq 0 (dieOf n) n 0) := .of_slots n (by constructor <;> simp) (by simp)
  obtain ⟨t, ht, hslot, -, -, honly⟩ := done_on_slot ((heo.trans (e.modSlot_slotOnly n _)).trans (hno _))
  rw [State.slot_nursReq, State.slot_modSlot_self] at hslot
  rw [hl] at eA eB erole
  exact ⟨t, ht, by rw [hslot]; exact erole.trans hr, by rw [hslot]; exact est, by rw [hslot]; exact estep, by rw [hslot],
    by rw [hslot]; exact eB, by rw [hslot]; exact eA, honly⟩

/-- A trip through the SOFT path that nothing of higher rank precedes (R125). -/
theorem done_softTrip {s : State} {n rank cause detail abort : Nat} (ho : s.outranked n rank = false) (hl : s.outranked n rankLockout = false)
    (hc : cause ≠ 0xD) (h0 : abort ≠ 0) :
    ∃ t, done s (s.softTrip n rank cause detail abort) = .next t ∧ Tripped s t n cause detail false ∧ (t.slot n).ins.abort = abort := by
  have h : s.softTrip n rank cause detail abort = s.trip n false cause detail abort := by simp [State.softTrip, ho, hl]
  obtain ⟨t, ht, htrip, hslot⟩ := done_tripped (s.trip_tripped n false detail abort hc)
  exact ⟨t, h ▸ ht, htrip, by rw [hslot]; exact s.trip_abort n false detail hc h0⟩

theorem State.modSlot_congr {s : State} {n : Nat} {g g' : Slot → Slot} (h : g (s.slot n) = g' (s.slot n)) : s.modSlot n g = s.modSlot n g' := by
  unfold State.modSlot
  rw [h]

/-! ## The commands -/

theorem execPrecheck1Pass_of_clear {n : Nat} {s : State} (hr : s.runs (dieOf n) = true) (hst : (s.slot n).st = .seated)
    (hstep : (s.slot n).step = 2) (hs : s.shortVout n = false) (ho : s.outranked n rankOther = false) :
    execPrecheck1Pass n s = done s (s.stepOnePass n) := by
  simp [execPrecheck1Pass, hr, hst, hstep, hs, State.ranked_first _ _ ho]

theorem execPrecheck2Pass_of_held {n : Nat} {s : State} (hr : s.runs (dieOf n) = true) (hst : (s.slot n).st = .seated)
    (hstep : (s.slot n).step = 3) (he : (s.slot n).gB.enh = true) (ha : (s.slot n).gB.enhAt + 100 * US ≤ s.now) (hs : s.shortVout n = false)
    (ho : s.outranked n rankOther = false) : execPrecheck2Pass n s = done s (s.enter n .waiting 0) := by
  simp [execPrecheck2Pass, hr, hst, hstep, he, ha, hs, State.ranked_first _ _ ho]

theorem execShortVerdict_of_near {n a : Nat} {s : State} (hr : s.runs (dieOf n) = true) (hst : (s.slot n).st = .seated)
    (hstep : (s.slot n).step = 2) (ha : (s.slot n).ins.nearAt = some a) (h : a + SEC ≤ s.now) :
    execShortVerdict n s = done s (s.verdict n (if s.backup n then 8 else 6) 1 (!s.backup n)) := by
  simp [execShortVerdict, hr, hst, hstep, ha, h]

/-- VOUT has risen: the level that PASS_ELEMENT_A_SHORT saw. -/
def State.voutSeen (s : State) (n : Nat) : State := s.modSlot n (fun x => { x with shV := { out := true, raw := true, since := s.now } })

theorem State.voutSeen_slot (s : State) (n : Nat) :
    (s.voutSeen n).slot n = { s.slot n with shV := { out := true, raw := true, since := s.now } } := s.slot_modSlot_self n _

theorem execPassElementAShort_of_here {n : Nat} {s : State} (hr : s.runs (dieOf n) = true)
    (h : ((s.slot n).st = .seated ∧ (s.slot n).step = 3) ∨ ((s.slot n).st = .waiting ∧ (s.slot n).ins.armed = true)) :
    execPassElementAShort n s = done s (
      if !s.backup n then (s.voutSeen n).verdict n 6 2 true
      else if (s.slot n).role then (s.voutSeen n).verdict n 8 2 false
      else (s.voutSeen n).ranked n rankOther (.passElementAShort n) (·.foundShortA n)) := by
  unfold execPassElementAShort
  extract_lets x here u
  have hb : u.backup n = s.backup n := State.backup_of_regs (by simp [u]) n
  have hh : here = true := by
    rcases h with ⟨h1, h2⟩ | ⟨h1, h2⟩ <;> simp [here, x, h1, h2]
  rw [hb, if_neg (by simp [hr, hh])]
  rfl

theorem spareEnhDone_quiet (n : Nat) (s : State) (hp : s.pkg.phase ≠ .powerOff) (hb : s.backup n = true) :
    (s.workB n = false → (s.slot n).gB.path.isUp = true →
      ∃ t, execSpareEnhDone n s = .next t ∧
        Quiet (s.modSlot n (fun x => { x with gB := x.gB.enhance s.now, ins := { x.ins with spareEnh := false } })) t) ∧
    (s.workB n = true → (s.slot n).gA.path.isUp = true →
      ∃ t, execSpareEnhDone n s = .next t ∧
        Quiet (s.modSlot n (fun x => { x with gA := x.gA.enhance s.now, ins := { x.ins with spareEnh := false } })) t) := by
  unfold execSpareEnhDone
  extract_lets wb
  rw [if_neg (by simp [hp, hb])]
  constructor
  · intro hw hu
    rw [State.modSlot_congr (g' := fun x => { x with gB := x.gB.enhance s.now, ins := { x.ins with spareEnh := false } })
      (by simp [wb, hw, hu])]
    exact done_modSlot s n _
  · intro hw hu
    rw [State.modSlot_congr (g' := fun x => { x with gA := x.gA.enhance s.now, ins := { x.ins with spareEnh := false } })
      (by simp [wb, hw, hu])]
    exact done_modSlot s n _

/-- Pass element A is found shorted with B fitted (R104, R106): the swap, the request for it, or, with B working, a trip. -/
theorem passElementAShort_backup {n : Nat} {s : State} (hr : s.runs (dieOf n) = true) (hb : s.backup n = true) :
    ((s.slot n).role = false → ((s.slot n).st = .seated ∧ (s.slot n).step = 3) ∨ ((s.slot n).st = .waiting ∧ (s.slot n).ins.armed = true) →
      s.outranked n rankOther = false →
      (s.approve 0 = false →
        ∃ t, execPassElementAShort n s = .next t ∧ (t.slot n).role = true ∧ (t.slot n).st = .seated ∧ (t.slot n).step = 2 ∧
          (t.slot n).gB = (s.slot n).gB.pull s.now true ∧ (t.slot n).gA = (s.slot n).gA ∧ SlotOnly n s t) ∧
      (s.approve 0 = true →
        ∃ t, execPassElementAShort n s = .next t ∧ (t.slot n).role = false ∧ (t.slot n).st = .seated ∧ (t.slot n).step = 0 ∧
          (t.slot n).ins.swapPending = true ∧ (t.slot n).gB = (s.slot n).gB.pull s.now true ∧ (t.slot n).gA = (s.slot n).gA ∧ SlotOnly n s t)) ∧
    ((s.slot n).role = true → (s.slot n).st = .waiting → (s.slot n).ins.armed = true →
      ∃ t, execPassElementAShort n s = .next t ∧ Tripped s t n 8 8 true ∧ (t.slot n).ins.abort = 2) := by
  have hslot := s.voutSeen_slot n
  have honly : SlotOnly n s (s.voutSeen n) := s.modSlot_slotOnly n _
  have happ : (s.voutSeen n).approve 0 = s.approve 0 := by
    unfold State.approve State.rf
    rw [State.reg_of_regs (s := s) (by simp [State.voutSeen])]
  have hnow : (s.voutSeen n).now = s.now := by simp [State.voutSeen]
  refine ⟨fun hrole hhere ho => ?_, fun hrole hst harmed => ?_⟩
  · have hx : execPassElementAShort n s = done s ((s.voutSeen n).foundShortA n) := by
      have hrank : RankAlike n s (s.voutSeen n) := s.modSlot_rankAlike n _ rfl rfl
      rw [execPassElementAShort_of_here hr hhere, if_neg (by simp [hb]), if_neg (by simp [hrole]), State.ranked_first _ _ (hrank.outranked ho)]
    rw [hx]
    generalize s.voutSeen n = u at *
    refine ⟨fun ha => ?_, fun ha => ?_⟩
    · obtain ⟨t, ht, h1, h2, h3, h4, h5, h6⟩ := done_foundShortA_swap honly (happ.trans ha)
      exact ⟨t, ht, h1, h2, h3, by rw [h4, hslot, hnow], by rw [h5, hslot], h6⟩
    · obtain ⟨t, ht, h1, h2, h3, h4, h5, h6, h7⟩ := done_foundShortA_asks honly (happ.trans ha) (by rw [hslot]; exact hrole)
      exact ⟨t, ht, h1, h2, h3, h4, by rw [h5, hslot, hnow], by rw [h6, hslot], h7⟩
  · have hg : (s.voutSeen n).gateUp n = true := by
      have hu : s.gateUp n = true := by simp [State.gateUp, State.wants, hst, hb, State.workB, hrole]
      exact (State.gateUp_modSlot rfl).trans hu
    have hx : execPassElementAShort n s = done s ((s.voutSeen n).trip n true 8 8 2) := by
      rw [execPassElementAShort_of_here hr (.inr ⟨hst, harmed⟩), if_neg (by simp [hb]), if_pos hrole]
      simp [State.verdict, hg]
    have halike : TripAlike n s (s.voutSeen n) := s.modSlot_tripAlike n _ rfl rfl rfl rfl
    obtain ⟨t, ht, htrip, htslot⟩ := done_tripped
      (((s.voutSeen n).trip_tripped n true 8 2 (by decide : 8 ≠ 0xD)).of_alike halike (by decide : 8 ≠ 0xD))
    exact ⟨t, hx.trans ht, htrip, by rw [htslot]; exact State.trip_abort _ n true 8 (by decide : 8 ≠ 0xD) (by decide : 2 ≠ 0)⟩

/-- Pass element A is found shorted with no B fitted (R105). -/
theorem passElementAShort_single {n : Nat} {s : State} (hr : s.runs (dieOf n) = true) (hb : s.backup n = false) (hst : (s.slot n).st = .waiting)
    (ha : (s.slot n).ins.armed = true) :
    ∃ t, execPassElementAShort n s = .next t ∧ (t.slot n).st = .tripped ∧ (t.slot n).prev = .waiting ∧ (t.slot n).trip.cause = 6 ∧
      (t.slot n).trip.detail = 8 ∧ (t.slot n).ins.abort = 2 ∧ GatesKept s t n ∧ SlotOnly n s t := by
  have hslot := s.voutSeen_slot n
  have honly : SlotOnly n s (s.voutSeen n) := s.modSlot_slotOnly n _
  have hg : (s.voutSeen n).gateUp n = false := by
    have hu : s.gateUp n = false := by simp [State.gateUp, State.wants, hst, hb]
    exact (State.gateUp_modSlot rfl).trans hu
  have hx : execPassElementAShort n s = done s ((s.voutSeen n).verdict n 6 2 true) := by
    rw [execPassElementAShort_of_here hr (.inr ⟨hst, ha⟩), if_pos (by simp [hb])]
  obtain ⟨t, ht, htst, hprev, hcause, hdetail, habort, ⟨hA, hB⟩, honly⟩ := State.verdict_quiet honly 6 true hg (by decide : 2 ≠ 0)
  rw [hslot] at hprev hA hB
  exact ⟨t, hx.trans ht, htst, hprev.trans hst, hcause, hdetail, habort, ⟨hA, hB⟩, honly⟩

/-- A spare gate that does not enhance in time ends the insertion through the SOFT path (R104, R143). -/
theorem spareGateTimeout_trips {n : Nat} {s : State} (hr : s.runs (dieOf n) = true) (ho : s.outranked n rankOther = false) :
    ((s.slot n).st = .seated → (s.slot n).step = 3 → (s.slot n).gB.enh = false → (s.slot n).ins.stepAt + 3 * MS ≤ s.now →
      ∃ t, execSpareGateTimeout n s = .next t ∧ Tripped s t n 0xB 8 false ∧ (t.slot n).ins.abort = 3) ∧
    ((s.slot n).st = .waiting → (s.slot n).ins.spareEnh = true → (s.slot n).ins.spareAt + 3 * MS ≤ s.now →
      ∃ t, execSpareGateTimeout n s = .next t ∧ Tripped s t n 0xB 0 false ∧ (t.slot n).ins.abort = 3) := by
  have hl : s.outranked n rankLockout = false := State.outranked_mono (by decide) ho
  refine ⟨fun hst hstep he ha => ?_, fun hst hsp ha => ?_⟩
  · have hx : execSpareGateTimeout n s = done s (s.softTrip n rankOther 0xB 8 3) := by
      simp [execSpareGateTimeout, hr, hst, hstep, he, ha]
    rw [hx]
    exact done_softTrip ho hl (by decide : 0xB ≠ 0xD) (by decide)
  · have hx : execSpareGateTimeout n s = done s (s.softTrip n rankOther 0xB 0 3) := by
      simp [execSpareGateTimeout, hr, hst, hsp, ha]
    rw [hx]
    exact done_softTrip ho hl (by decide : 0xB ≠ 0xD) (by decide)

theorem execCardRemoval_of_removed {n : Nat} {s : State} (hp : s.pkg.phase = .run) (hrem : (s.slot n).removedBy s.now = true)
    (ho : s.outranked n rankRemoval = false) : execCardRemoval n false s = done s (s.cardOut n) := by
  simp [execCardRemoval, hp, hrem, State.ranked_first _ _ ho]

/-- Settles O27: each edge, pass and verdict is taken from the rule of the operation that it does. -/
theorem seatingAndPrecheck : Obligations.SeatingAndPrecheck := by
  refine ⟨fun n s => ⟨?_, ?_⟩, fun n s hr he hs ho => ?_, fun n s hp hrem ho => ?_, fun n s hr hst hstep hs ho => ⟨fun hb => ?_, ?_⟩,
    fun n s hr hst hstep he ha hs ho => ?_, fun n a s hr hst hstep hn ha => ?_, fun n s hr hb => passElementAShort_backup hr hb,
    fun n s hr hb hst ha => passElementAShort_single hr hb hst ha, fun n s hr ho => spareGateTimeout_trips hr ho, spareEnhDone_quiet⟩
  · obtain ⟨t, ht, hN, hst, hat, hrest⟩ := presEdge_done n true s
    exact ⟨t, ht, hN, hst, hat, hrest⟩
  · obtain ⟨t, ht, hN, hst, hat, hrest⟩ := presEdge_done n false s
    refine ⟨t, ht, hN, hst, hat.trans ?_, hrest⟩
    cases (s.slot n).presN <;> rfl
  · have hx : execCardSeated n false s = done s (s.cardIn n) := by simp [execCardSeated, hr, hs, State.ranked_first _ _ ho]
    obtain ⟨t, ht, hrest⟩ := State.cardIn_done he
    exact ⟨t, hx.trans ht, hrest⟩
  · have hx := execCardRemoval_of_removed hp hrem ho
    refine ⟨fun hst => ?_, fun hst => ?_, fun hst => ?_⟩
    · obtain ⟨t, ht, hrest⟩ := State.cardOut_pulls hst
      exact ⟨t, hx.trans ht, hrest⟩
    · obtain ⟨t, ht, hrest⟩ := State.cardOut_cooldown hst
      exact ⟨t, hx.trans ht, hrest⟩
    · obtain ⟨t, ht, hrest⟩ := State.cardOut_noted hst
      exact ⟨t, hx.trans ht, hrest⟩
  · have hx : s.stepOnePass n = s.enter n .waiting 0 := by simp [State.stepOnePass, hb]
    obtain ⟨t, ht, htst, -, hgates, honly⟩ := done_enter s n .waiting 0
    exact ⟨t, (execPrecheck1Pass_of_clear hr hst hstep hs ho).trans (hx ▸ ht), htst, hgates, honly⟩
  · intro hb hoff hd hv
    have hx := execPrecheck1Pass_of_clear hr hst hstep hs ho
    refine ⟨fun hrole => ?_, fun hrole => ?_⟩
    · obtain ⟨t, ht, hrest⟩ := stepOnePass_waiting hst hb hrole hoff hd hv
      exact ⟨t, hx.trans ht, hrest⟩
    · obtain ⟨t, ht, hrest⟩ := stepOnePass_checksA hst hb hrole hoff hd hv
      exact ⟨t, hx.trans ht, hrest⟩
  · obtain ⟨t, ht, htst, hprev, hrest⟩ := done_enter s n .waiting 0
    exact ⟨t, (execPrecheck2Pass_of_held hr hst hstep he ha hs ho).trans ht, htst, hprev.trans hst, hrest⟩
  · have hg : s.gateUp n = false := by simp [State.gateUp, State.wants, hst, hstep]
    obtain ⟨t, ht, htst, hprev, hrest⟩ := State.verdict_quiet (.refl n s) (if s.backup n then 8 else 6)
      (!s.backup n) hg (by decide : 1 ≠ 0)
    exact ⟨t, (execShortVerdict_of_near hr hst hstep hn ha).trans ht, htst, hprev.trans hst, hrest⟩

end Sys2Proof.Machine
end

section
/-! PROOFS. Charging: its start, its learning window, its pause and the handover (O28). -/
namespace Sys2Proof.Machine

/-! ## The wait of an insertion (R107) -/

theorem maskOf_nil {l : List Nat} (h : maskOf l = 0) : l = [] := by
  have hle (l : List Nat) (a : Nat) : a ≤ l.foldl (fun a k => a + 2 ^ k) a := by
    induction l generalizing a with
    | nil => exact le_rfl
    | cons k l ih => exact (Nat.le_add_right a (2 ^ k)).trans (ih (a + 2 ^ k))
  cases l with
  | nil => rfl
  | cons k l =>
    have hk : 0 + 2 ^ k ≤ maskOf (k :: l) := hle l (0 + 2 ^ k)
    have hpos := Nat.two_pow_pos k
    omega

/-- With no bit of WAIT_CAUSE set a working context serves the slot (R107, R275). -/
theorem State.ctxOf_of_waitCause {s : State} {n : Nat} (h : s.waitCause n = 0) : s.ctxOf n ≤ 17 := by
  have hnil := List.filter_eq_nil_iff.mp (maskOf_nil h) 6 (by decide)
  simp only [State.noContext, Bool.not_eq_true, Bool.or_eq_false_iff, decide_eq_false_iff_not] at hnil
  obtain ⟨⟨-, hctx⟩, -⟩ := hnil
  omega

theorem State.die_lt_of_runs {s : State} {d : Nat} (h : s.runs d = true) : d < 8 := by
  have hf : d < s.ident.part.dies := by
    simp only [State.runs, State.present, State.fitted, Bool.and_eq_true, decide_eq_true_eq] at h
    exact h.1.2.1
  have h8 (p : Part) : p.dies ≤ 8 := by cases p <;> decide
  exact hf.trans_le (h8 _)

/-! ## The binding of a context (R274, R294) -/

theorem State.each_reg_mem {α : Type} {a : Nat} {l : List α} {g : α → State → State} (hg : ∀ x ∈ l, ∀ s, (g x s).reg a = s.reg a)
    (s : State) : (s.each l g).reg a = s.reg a := by
  induction l generalizing s with
  | nil => rfl
  | cons x l ih => exact (ih (fun y hy => hg y (List.mem_cons_of_mem x hy)) _).trans (hg x List.mem_cons_self s)

/-- A commit writes the active banks of its die, which lie below every slot's block. -/
theorem State.copyBank_reg (s : State) {d c : Nat} (hd : d < 8) (hc : c ≤ 17) (n off : Nat) :
    (s.copyBank d c).reg (slotB n + off) = s.reg (slotB n + off) := by
  unfold State.copyBank
  have hk (k : Nat) (hk : k ∈ List.range 8) (o : Nat) (ho : o ∈ secWords) : slotB n + off ≠ activeA d c k o := by
    have ho : o ≤ 20 := by
      simp only [secWords, List.mem_cons, List.not_mem_nil, or_false] at ho
      omega
    have hk := List.mem_range.mp hk
    unfold slotB activeA contB
    omega
  exact State.each_reg_mem (fun k hm s => State.each_reg_mem (fun o ho s => s.reg_setReg_ne _ (hk k hm o ho)) s) s

theorem State.commitNow_reg (s : State) {d c : Nat} (hd : d < 8) (hc : c ≤ 17) (n off : Nat) :
    (s.commitNow d c).reg (slotB n + off) = s.reg (slotB n + off) := by
  refine Eq.trans (State.reg_of_regs ?_ _) (s.copyBank_reg hd hc n off)
  simp [State.commitNow, State.evtCont]

/-- The binding of a context writes its die, and by a commit the active banks: no slot, and no register of a slot. -/
theorem State.bindCtx_kept (s : State) (n : Nat) :
    Beside s (s.bindCtx n) ∧ (s.bindCtx n).slots = s.slots ∧
    (dieOf n < 8 → s.ctxOf n ≤ 17 → ∀ off, (s.bindCtx n).reg (slotB n + off) = s.reg (slotB n + off)) := by
  unfold State.bindCtx
  extract_lets d c cfg eng cur x u v t w
  have hu : Beside s u ∧ u.slots = s.slots ∧ (d < 8 → c ≤ 17 → ∀ off, u.reg (slotB n + off) = s.reg (slotB n + off)) := by
    simp only [u]
    split
    · exact ⟨by constructor <;> simp, by simp, fun hd hc off => s.commitNow_reg hd hc n off⟩
    · exact ⟨by constructor <;> simp, rfl, fun _ _ _ => rfl⟩
  have hw : Beside u w ∧ w.slots = u.slots ∧ w.regs = u.regs := by
    simp only [w]
    split
    · refine ⟨by constructor <;> simp [v, State.modTest], ?_, ?_⟩ <;> simp [v, State.modTest]
    · refine ⟨by constructor <;> simp [v], ?_, ?_⟩ <;> simp [v]
  clear_value u w
  obtain ⟨hub, hus, hur⟩ := hu
  obtain ⟨hwb, hws, hwr⟩ := hw
  refine ⟨(hub.trans hwb).trans (by constructor <;> simp [State.evtCont]), by simp [State.evtCont, hws, hus], fun hd hc off => ?_⟩
  exact (State.reg_of_regs (s := w) (by simp [State.evtCont]) _).trans ((State.reg_of_regs hwr _).trans (hur hd hc off))

/-! ## The start of charging (R83, R107, R108) -/

/-- The count of an insertion (R393). -/
theorem State.wearAdd_inserts (s : State) (n : Nat) :
    ∃ k, (s.wearAdd n 2).slot n = { s.slot n with wear :=
      { (s.slot n).wear with inserts := sat sat32 ((s.slot n).wear.inserts + 1), warned := k } } := by
  unfold State.wearAdd
  extract_lets u x
  have hu : u.slot n = { s.slot n with wear := { (s.slot n).wear with inserts := sat sat32 ((s.slot n).wear.inserts + 1) } } :=
    s.slot_modSlot_self n _
  obtain ⟨k, hk⟩ := u.wearWarn_slot n 2 x.wear.inserts
  exact ⟨k, hk.trans (by rw [hu])⟩

/-- The slot that CHARGING begins on: its state, its timer and its count of insertions; its gates stand. -/
structure ChargingBegun (s t : State) (n : Nat) : Prop where
  st : (t.slot n).st = .charging
  prev : (t.slot n).prev = (s.slot n).st
  step : (t.slot n).step ≠ 7
  timer : (t.slot n).ins.timer = s.now + s.sf n 0x14C 15 0 * MS
  inserts : (t.slot n).wear.inserts = sat sat32 ((s.slot n).wear.inserts + 1)
  gA : (t.slot n).gA = (s.slot n).gA
  gB : (t.slot n).gB = (s.slot n).gB
  role : (t.slot n).role = (s.slot n).role
  deg : (t.slot n).deg = (s.slot n).deg
  revBlock : (t.slot n).revBlock = (s.slot n).revBlock
  regs : dieOf n < 8 → s.ctxOf n ≤ 17 → ∀ off, t.reg (slotB n + off) = s.reg (slotB n + off)
  only : SlotOnly n s t

/-- Leaving WAIT or HOLD writes a record and no more of a die. -/
theorem LogOnly.standDown {s v : State} (h : LogOnly s v) (n : Nat) : LogOnly s (v.standDown n) := by
  unfold State.standDown
  extract_lets t u
  have hu : LogOnly s u := h.of_dies (by simp [u])
  split
  · exact LogOnly.logAdd (hu.of_dies (by simp)) _ _
  · exact hu

theorem LogOnly.modSlot {s v : State} (h : LogOnly s v) (n : Nat) (g : Slot → Slot) : LogOnly s (v.modSlot n g) := h.of_dies rfl

theorem LogOnly.evt {s v : State} (h : LogOnly s v) (p : Nat) (bits : List Nat) : LogOnly s (v.evt p bits) := h.of_dies (by simp)

theorem LogOnly.logLead {s v : State} (h : LogOnly s v) (block inst code : Nat) (data : List Nat) :
    LogOnly s (v.logLead block inst code data) := h.logAdd _ _

theorem LogOnly.wearWarn {s v : State} (h : LogOnly s v) (n which cnt : Nat) : LogOnly s (v.wearWarn n which cnt) := by
  unfold State.wearWarn
  extract_lets th
  split
  · exact ((h.modSlot n _).logLead 8 0 _ _).evt _ _
  · exact h

theorem LogOnly.wearAdd {s v : State} (h : LogOnly s v) (n which : Nat) : LogOnly s (v.wearAdd n which) :=
  (h.modSlot n _).wearWarn n which _

/-- An entry from any state but CHARGING writes records and no more of a die. -/
theorem LogOnly.enter {s : State} {n : Nat} (st : SM) (step : Nat) (h : (s.slot n).st ≠ .charging) : LogOnly s (s.enter n st step) := by
  unfold State.enter State.leave
  extract_lets x u v w waits stable a b
  have hu : u = s := if_neg (by simp [x, h])
  have hv : v.dies = s.dies := by
    simp only [v, hu]
    split <;> simp
  have hw : w.dies = v.dies := by
    simp only [w]
    split <;> simp
  have hb : b.dies = w.dies := by
    simp only [b]
    split <;> simp [a]
  have hs : LogOnly s b := (LogOnly.refl s).of_dies (hb.trans (hw.trans hv))
  unfold State.gatesIdle
  split
  · exact hs
  · extract_lets c
    refine LogOnly.of_dies (v := c) ?_ (by simp)
    simp only [c]
    split
    · exact hs.standDown n
    · exact hs

theorem LogOnly.ctxOf {s t : State} (h : LogOnly s t) (n : Nat) : t.ctxOf n = s.ctxOf n := by
  obtain ⟨l, hl⟩ := h (dieOf n)
  unfold State.ctxOf
  rw [hl]

theorem State.startCharging_begun {s : State} {n : Nat} (hst : (s.slot n).st ≠ .charging) : ChargingBegun s (s.startCharging n) n := by
  unfold State.startCharging
  generalize hk : (if (s.slot n).ins.winDone then 5 else 4) = k
  have hk7 : k ≠ 7 := by rw [← hk]; split <;> decide
  have hereg := State.enter_regs .charging k hst
  have hlog := LogOnly.enter .charging k hst
  have heo := s.enter_slotOnly n .charging k
  obtain ⟨est, eprev, estep, -, eA, eB, erole, -, -, -, -, ewear⟩ := s.enter_slot n .charging k
  obtain ⟨edeg, erev⟩ := s.enter_kept n .charging k
  have hnow : (s.enter n .charging k).now = s.now := by simp
  generalize s.enter n .charging k = e at *
  extract_lets e' timer bus u
  have htimer : timer = s.now + s.sf n 0x14C 15 0 * MS := by
    simp only [timer, State.sf, State.rf]
    rw [show e'.now = s.now from hnow, State.reg_of_regs (show e'.regs = s.regs from hereg)]
  have hu : ∃ i, i.timer = timer ∧ u.slot n = { e.slot n with ins := i } := by
    refine ⟨(u.slot n).ins, ?_, ?_⟩ <;> rw [show u.slot n = _ from e.slot_modSlot_self n _]
    dsimp only
    split <;> rfl
  have huo : SlotOnly n s u := heo.trans (e.modSlot_slotOnly n _)
  have hul : LogOnly s u := hlog.modSlot n _
  have hureg : u.regs = s.regs := hereg
  clear_value u
  obtain ⟨i, hi, hu⟩ := hu
  obtain ⟨j, hw⟩ := u.wearAdd_inserts n
  have hwo : SlotOnly n s (u.wearAdd n 2) := huo.trans ⟨by constructor <;> simp, fun _ h => u.wearAdd_other n 2 h⟩
  have hwl := hul.wearAdd n 2
  have hwreg : (u.wearAdd n 2).regs = s.regs := Eq.trans (by simp) hureg
  generalize u.wearAdd n 2 = w at *
  obtain ⟨hbb, hbs, hbr⟩ := w.bindCtx_kept n
  have hslot := State.slot_of_slots hbs n
  rw [hw, hu] at hslot
  constructor
  case only => exact hwo.trans (.of_slots n hbb hbs)
  case regs => exact fun hd hc off => (hbr hd (hwl.ctxOf n ▸ hc) off).trans (State.reg_of_regs hwreg _)
  all_goals rw [hslot]
  · exact est
  · exact eprev
  · exact estep.symm ▸ hk7
  · exact hi.trans htimer
  · exact congrArg (fun w : Wear => sat sat32 (w.inserts + 1)) ewear
  · exact eA
  · exact eB
  · exact erole
  · exact edeg
  · exact erev

/-- Charging begins with the working gate on the DAC path and a fitted spare on the ENHANCE path. -/
theorem chargingStart_done {n : Nat} {s : State} (hr : s.runs (dieOf n) = true) (hst : (s.slot n).st = .waiting) (hw : s.waitCause n = 0)
    (ho : s.offN = false) (hd : s.inOr n (s.slot n).deg = 0) (hv : (s.slot n).revBlock = false) (hk : s.outranked n rankOther = false) :
    ∃ t, execChargingStart n s = .next t ∧ (t.slot n).st = .charging ∧ (t.slot n).prev = .waiting ∧
      (t.slot n).ins.timer = s.now + s.sf n 0x14C 15 0 * MS ∧ (t.slot n).wear.inserts = sat sat32 ((s.slot n).wear.inserts + 1) ∧
      (t.slot n).gA = (s.slot n).gA.drive (if s.workB n then .enhance else .dac) ∧
      (t.slot n).gB = (if s.workB n then (s.slot n).gB.drive .dac else if s.backup n then (s.slot n).gB.drive .enhance else (s.slot n).gB) ∧
      SlotOnly n s t := by
  obtain ⟨est, eprev, estep, etimer, eins, eA, eB, erole, edeg, erev, ereg, eonly⟩ := State.startCharging_begun (s := s) (n := n) (by simp [hst])
  have ereg := ereg (State.die_lt_of_runs hr) (State.ctxOf_of_waitCause hw)
  have hrise : s.rise n (fun s => s.startCharging n) = (s.startCharging n).raiseGates n := by
    refine State.rise_calm ho ?_
    have hex : (s.startCharging n).excl n = s.excl n := congrArg (fld · 27 24) (ereg _)
    unfold State.inOr at hd ⊢
    rw [edeg, hex]
    exact hd
  have hx : execChargingStart n s = done s ((s.startCharging n).raiseGates n) := by
    rw [← hrise]
    simp [execChargingStart, hr, hst, hw, State.ranked_first _ _ hk]
  rw [hx]
  generalize s.startCharging n = u at *
  have hb : u.backup n = s.backup n := State.backup_of_reg (ereg 0x100)
  have hwb : u.workB n = s.workB n := State.workB_of_role hb erole
  have hwants : u.wants n = if s.workB n then (some .enhance, some .dac) else (some .dac, if s.backup n then some .enhance else none) := by
    simp only [State.wants, est, hb, hwb, beq_eq_false_iff_ne.mpr estep, Bool.false_eq_true, if_false]
  have hslot := u.raiseGates_slot n (erev.trans hv)
  obtain ⟨t, ht, htslot, -, -, honly⟩ := done_on_slot (eonly.trans (u.raiseGates_slotOnly n))
  rw [hslot, hwants] at htslot
  refine ⟨t, ht, ?_, ?_, ?_, ?_, ?_, ?_, honly⟩ <;> rw [htslot]
  · exact est
  · exact eprev.trans hst
  · exact etimer
  · exact eins
  · rw [← eA]
    cases s.workB n <;> rfl
  · rw [← eB]
    cases s.workB n <;> cases s.backup n <;> rfl

end Sys2Proof.Machine
end

section
/-! PROOFS. The learning window, the pause of charging and the handover (O28). -/
namespace Sys2Proof.Machine

/-! ## LEARN_C and LEARN_G (R110) -/

theorem fld_top_setFld (w : Word) : fld (setFld w 31 31 0) 31 31 = 0 := by
  have hw := w.isLt
  simp only [fld, setFld, BitVec.toNat_ofNat]
  omega

theorem fld_top_mkWord {x : Nat} (h : x ≤ 0xFFFFFF) : fld (mkWord [(0, x), (31, 1)]) 31 31 = 1 := by
  have hx : x + 2147483648 < 4294967296 := by omega
  have hd : (x + 2147483648) / 2147483648 = 1 := by omega
  norm_num [fld, mkWord, BitVec.toNat_ofNat, Nat.mod_eq_of_lt hx, hd]

theorem fld_low_mkWord {x : Nat} (h : x ≤ 0xFFFFFF) : fld (mkWord [(0, x), (31, 1)]) 23 0 = x := by
  rw [fld_mkWord_low 23 x _ (by decide) (by simp)]
  omega

theorem sat_le (limit v : Nat) : sat limit v ≤ limit := by
  unfold sat
  split <;> omega

/-- The slot once its learning window is over, before its fit is read: the step and the mark, and a request in the die's lane. -/
def State.windowOver (s : State) (n : Nat) : State :=
  (s.modSlot n (fun x => { x with step := if x.step == 4 then 5 else x.step, ins := { x.ins with winDone := true } })).modDie (dieOf n)
    (fun y => { y with eng := { y.eng with lane := y.eng.lane ++ [.fit n] } })

theorem State.windowOver_slot (s : State) (n : Nat) :
    ∃ k, (s.windowOver n).slot n = { s.slot n with step := k, ins := { (s.slot n).ins with winDone := true } } := by
  unfold State.windowOver
  rw [State.slot_modDie, State.slot_modSlot_self]
  exact ⟨_, rfl⟩

theorem State.modDie_slotOnly (s : State) (n d : Nat) (g : Die → Die) : SlotOnly n s (s.modDie d g) :=
  .of_slots n (by constructor <;> simp) (by simp)

theorem State.windowOver_slotOnly (s : State) (n : Nat) : SlotOnly n s (s.windowOver n) := by
  unfold State.windowOver
  exact (s.modSlot_slotOnly n _).trans (State.modDie_slotOnly _ n _ _)

theorem State.windowOver_regs (s : State) (n : Nat) : (s.windowOver n).regs = s.regs := by simp [State.windowOver]

/-- VALID of both is lost. -/
def State.unlearn (s : State) (n : Nat) : State := (s.setRf (slotB n + 0x158) 31 31 0).setRf (slotB n + 0x15C) 31 31 0

/-- Both take their values, in their units. -/
def State.learn (s : State) (n cu gu : Nat) : State :=
  (s.setReg (slotB n + 0x158) (mkWord [(0, cu), (31, 1)])).setReg (slotB n + 0x15C) (mkWord [(0, gu), (31, 1)])

theorem State.unlearn_slots (s : State) (n : Nat) : (s.unlearn n).slots = s.slots := by simp [State.unlearn]
theorem State.learn_slots (s : State) (n cu gu : Nat) : (s.learn n cu gu).slots = s.slots := by simp [State.learn]

theorem State.unlearn_slotOnly (s : State) (n : Nat) : SlotOnly n s (s.unlearn n) :=
  .of_slots n (by constructor <;> simp [State.unlearn]) (s.unlearn_slots n)

theorem State.learn_slotOnly (s : State) (n cu gu : Nat) : SlotOnly n s (s.learn n cu gu) :=
  .of_slots n (by constructor <;> simp [State.learn]) (s.learn_slots n cu gu)

theorem State.unlearn_reg (s : State) (n : Nat) :
    (s.unlearn n).rf (slotB n + 0x158) 31 31 = 0 ∧ (s.unlearn n).rf (slotB n + 0x15C) 31 31 = 0 := by
  unfold State.unlearn State.setRf State.rf
  rw [State.reg_setReg_ne _ _ (by omega : slotB n + 0x158 ≠ slotB n + 0x15C), State.reg_setReg_self, State.reg_setReg_self]
  exact ⟨fld_top_setFld _, fld_top_setFld _⟩

theorem State.learn_reg (s : State) (n cu gu : Nat) :
    (s.learn n cu gu).reg (slotB n + 0x158) = mkWord [(0, cu), (31, 1)] ∧
    (s.learn n cu gu).reg (slotB n + 0x15C) = mkWord [(0, gu), (31, 1)] ∧
    ∀ a, a ≠ slotB n + 0x158 → a ≠ slotB n + 0x15C → (s.learn n cu gu).reg a = s.reg a := by
  unfold State.learn
  refine ⟨?_, State.reg_setReg_self .., fun a h h' => ?_⟩
  · rw [State.reg_setReg_ne _ _ (by omega : slotB n + 0x158 ≠ slotB n + 0x15C), State.reg_setReg_self]
  · rw [State.reg_setReg_ne _ _ h', State.reg_setReg_ne _ _ h]

theorem execLearningWindowEnd_of_over {n : Nat} {s : State} (hr : s.runs (dieOf n) = true) (hst : (s.slot n).st = .charging)
    (hw : (s.slot n).ins.winDone = false) (h32 : 32 ≤ (s.slot n).ins.n) (h5 : (s.slot n).ins.five = true) :
    execLearningWindowEnd n s = done s (
      match fitOf (s.slot n).ins (s.sf n 0x104 23 0) with
      | none => (s.windowOver n).unlearn n
      | some (c, g) =>
        if c ≤ 0 then (s.windowOver n).unlearn n
        else
          let u := (s.windowOver n).learn n (sat 0xFFFFFF (openRound 4 (c * 10000000)).toNat) (sat 0xFFFFFF (openRound 5 (g * 1000000)).toNat)
          if c * 1000000 < (u.sf n 0x150 15 0 : Nat) || ((10 * u.sf n 0x150 31 16 : Nat) : Rat) < c * 1000000 then u.softTrip n rankSoa 5 0 4
          else u) := by
  unfold execLearningWindowEnd
  extract_lets x u v
  rw [if_neg (by simp [hr, hst, hw, h5, x, Nat.not_lt.mpr h32])]
  rfl

/-! ## The end of the learning window (R110) -/

/-- A window without a fit: LEARN_C and LEARN_G lose VALID. -/
theorem learningWindowEnd_void {n : Nat} {s : State} (hst : (s.slot n).st = .charging) :
    ∃ t, done s ((s.windowOver n).unlearn n) = .next t ∧ (t.slot n).ins.winDone = true ∧ (t.slot n).st = .charging ∧
      t.rf (slotB n + 0x158) 31 31 = 0 ∧ t.rf (slotB n + 0x15C) 31 31 = 0 ∧ GatesKept s t n ∧ SlotOnly n s t := by
  obtain ⟨k, hk⟩ := s.windowOver_slot n
  obtain ⟨hc, hg⟩ := (s.windowOver n).unlearn_reg n
  obtain ⟨t, ht, hslot, hregs, -, honly⟩ := done_on_slot ((s.windowOver_slotOnly n).trans ((s.windowOver n).unlearn_slotOnly n))
  have hslot := hslot.trans ((State.slot_of_slots (State.unlearn_slots _ n) n).trans hk)
  have hrf (a : Nat) : t.rf a 31 31 = ((s.windowOver n).unlearn n).rf a 31 31 := congrArg (fld · 31 31) (State.reg_of_regs hregs a)
  exact ⟨t, ht, by rw [hslot], by rw [hslot]; exact hst, (hrf _).trans hc, (hrf _).trans hg, ⟨by rw [hslot], by rw [hslot]⟩, honly⟩

/-- A window with a fit inside its limits: LEARN_C and LEARN_G take it. -/
theorem learningWindowEnd_learns {n : Nat} {s : State} {cu gu : Nat} (hst : (s.slot n).st = .charging) (hcu : cu ≤ 0xFFFFFF)
    (hgu : gu ≤ 0xFFFFFF) :
    ∃ t, done s ((s.windowOver n).learn n cu gu) = .next t ∧ (t.slot n).ins.winDone = true ∧ (t.slot n).st = .charging ∧
      t.rf (slotB n + 0x158) 31 31 = 1 ∧ t.rf (slotB n + 0x158) 23 0 = cu ∧ t.rf (slotB n + 0x15C) 31 31 = 1 ∧
      t.rf (slotB n + 0x15C) 23 0 = gu ∧ GatesKept s t n ∧ SlotOnly n s t := by
  obtain ⟨k, hk⟩ := s.windowOver_slot n
  obtain ⟨hc, hg, -⟩ := (s.windowOver n).learn_reg n cu gu
  obtain ⟨t, ht, hslot, hregs, -, honly⟩ := done_on_slot ((s.windowOver_slotOnly n).trans ((s.windowOver n).learn_slotOnly n cu gu))
  have hslot := hslot.trans ((State.slot_of_slots (State.learn_slots _ n cu gu) n).trans hk)
  have htc := (State.reg_of_regs hregs _).trans hc
  have htg := (State.reg_of_regs hregs _).trans hg
  refine ⟨t, ht, by rw [hslot], by rw [hslot]; exact hst, ?_, ?_, ?_, ?_, ⟨by rw [hslot], by rw [hslot]⟩, honly⟩ <;> unfold State.rf
  · rw [htc, fld_top_mkWord hcu]
  · rw [htc, fld_low_mkWord hcu]
  · rw [htg, fld_top_mkWord hgu]
  · rw [htg, fld_low_mkWord hgu]

theorem State.gateUp_of_charging {s : State} {n : Nat} (h : (s.slot n).st = .charging) : s.gateUp n = true := by
  simp only [State.gateUp, State.wants, h]
  cases s.workB n <;> simp

/-- The learned state ranks and trips as the state before. -/
theorem State.learnt_alike {s : State} {n : Nat} (cu gu : Nat) (hst : (s.slot n).st = .charging) :
    RankAlike n s ((s.windowOver n).learn n cu gu) ∧ TripAlike n s ((s.windowOver n).learn n cu gu) := by
  obtain ⟨k, hk⟩ := s.windowOver_slot n
  have hslot := (State.slot_of_slots ((s.windowOver n).learn_slots n cu gu) n).trans hk
  have honly := (s.windowOver_slotOnly n).trans ((s.windowOver n).learn_slotOnly n cu gu)
  obtain ⟨-, -, hreg⟩ := (s.windowOver n).learn_reg n cu gu
  have hregs (a : Nat) (h : a ≠ slotB n + 0x158) (h' : a ≠ slotB n + 0x15C) :=
    (hreg a h h').trans (State.reg_of_regs (s.windowOver_regs n) a)
  have hb : ((s.windowOver n).learn n cu gu).backup n = s.backup n :=
    State.backup_of_reg (hregs _ (by omega) (by omega))
  refine ⟨⟨by simp [State.learn, State.windowOver], by simp [State.learn, State.windowOver], by simp [State.learn, State.windowOver],
    by simp [State.learn, State.windowOver], by simp [State.learn, State.windowOver], fun d => ?_, hregs, honly.slots,
    by rw [hslot]; rfl, ?_⟩, ⟨by simp [State.learn, State.windowOver], hb, by rw [hslot], by rw [hslot], by rw [hslot], by rw [hslot], honly⟩⟩
  · have hd : ((s.windowOver n).learn n cu gu).die d = (s.windowOver n).die d := State.die_of_dies (by simp [State.learn]) d
    rw [hd]
    by_cases h : d = dieOf n
    · subst h
      simp only [State.windowOver, State.die_modDie_self]
      exact ⟨rfl, rfl⟩
    · simp only [State.windowOver, State.die_modDie_ne _ _ h]
      exact ⟨rfl, rfl⟩
  · rw [State.gateUp_of_charging hst]
    exact State.gateUp_of_charging (by rw [hslot]; exact hst)

/-- The learning window ends: no fit, a fit inside the capacitance's limits, and one outside them. -/
theorem learningWindowEnd_cases {n : Nat} {s : State} (hr : s.runs (dieOf n) = true) (hst : (s.slot n).st = .charging)
    (hw : (s.slot n).ins.winDone = false) (h32 : 32 ≤ (s.slot n).ins.n) (h5 : (s.slot n).ins.five = true) :
    (fitOf (s.slot n).ins (s.sf n 0x104 23 0) = none →
      ∃ t, execLearningWindowEnd n s = .next t ∧ (t.slot n).ins.winDone = true ∧ (t.slot n).st = .charging ∧
        t.rf (slotB n + 0x158) 31 31 = 0 ∧ t.rf (slotB n + 0x15C) 31 31 = 0 ∧ GatesKept s t n ∧ SlotOnly n s t) ∧
    (∀ c g, fitOf (s.slot n).ins (s.sf n 0x104 23 0) = some (c, g) → 0 < c →
      ((s.sf n 0x150 15 0 : Nat) : Rat) ≤ c * 1000000 → c * 1000000 ≤ ((10 * s.sf n 0x150 31 16 : Nat) : Rat) →
      ∃ t, execLearningWindowEnd n s = .next t ∧ (t.slot n).ins.winDone = true ∧ (t.slot n).st = .charging ∧
        t.rf (slotB n + 0x158) 31 31 = 1 ∧ t.rf (slotB n + 0x158) 23 0 = sat 0xFFFFFF (openRound 4 (c * 10000000)).toNat ∧
        t.rf (slotB n + 0x15C) 31 31 = 1 ∧ t.rf (slotB n + 0x15C) 23 0 = sat 0xFFFFFF (openRound 5 (g * 1000000)).toNat ∧
        GatesKept s t n ∧ SlotOnly n s t) ∧
    (∀ c g, fitOf (s.slot n).ins (s.sf n 0x104 23 0) = some (c, g) → 0 < c →
      c * 1000000 < ((s.sf n 0x150 15 0 : Nat) : Rat) ∨ ((10 * s.sf n 0x150 31 16 : Nat) : Rat) < c * 1000000 →
      s.outranked n rankLockout = false →
      ∃ t, execLearningWindowEnd n s = .next t ∧ Tripped s t n 5 0 false ∧ (t.slot n).ins.abort = 4) := by
  have hx := execLearningWindowEnd_of_over hr hst hw h32 h5
  have hlim (cu gu hi lo : Nat) : ((s.windowOver n).learn n cu gu).sf n 0x150 hi lo = s.sf n 0x150 hi lo :=
    congrArg (fld · hi lo) (((s.windowOver n).learn_reg n cu gu).2.2 _ (by omega) (by omega) |>.trans
      (State.reg_of_regs (s.windowOver_regs n) _))
  simp only [hlim] at hx
  refine ⟨fun hfit => ?_, fun c g hfit hc hlo hhi => ?_, fun c g hfit hc hout ho => ?_⟩
  · rw [hx, hfit]
    exact learningWindowEnd_void hst
  · rw [hx, hfit]
    dsimp only
    rw [if_neg (not_le.mpr hc), if_neg (by simp only [Bool.or_eq_true, decide_eq_true_eq, not_or, not_lt]; exact ⟨hlo, hhi⟩)]
    exact learningWindowEnd_learns hst (sat_le _ _) (sat_le _ _)
  · rw [hx, hfit]
    dsimp only
    rw [if_neg (not_le.mpr hc), if_pos (by simp only [Bool.or_eq_true, decide_eq_true_eq]; exact hout)]
    obtain ⟨hrank, halike⟩ := State.learnt_alike (sat 0xFFFFFF (openRound 4 (c * 10000000)).toNat)
      (sat 0xFFFFFF (openRound 5 (g * 1000000)).toNat) hst
    generalize (s.windowOver n).learn n _ _ = u at *
    have hl := hrank.outranked ho
    have hsoft : u.softTrip n rankSoa 5 0 4 = u.trip n false 5 0 4 := by
      simp [State.softTrip, hl, State.outranked_mono (by decide : rankSoa ≤ rankLockout) hl]
    obtain ⟨t, ht, htrip, hslot⟩ := done_tripped ((u.trip_tripped n false 0 4 (by decide : 5 ≠ 0xD)).of_alike halike (by decide : 5 ≠ 0xD))
    exact ⟨t, hsoft ▸ ht, htrip, by rw [hslot]; exact u.trip_abort n false 0 (by decide : 5 ≠ 0xD) (by decide : 4 ≠ 0)⟩

/-! ## The pause and the end of charging (R82, R111, R112) -/

/-- The pause pulls the working gate down through the SOFT path and ends the analog limit. -/
def Slot.paused (x : Slot) (wb : Bool) (now : Nat) : Slot :=
  let x := { x with limit := false, limOffAt := if x.limit then some now else x.limOffAt }
  if wb then { x with gB := x.gB.pull now false } else { x with gA := x.gA.pull now false }

theorem insertionPause_done {n : Nat} {s : State} (hr : s.runs (dieOf n) = true) (hst : (s.slot n).st = .charging)
    (hb : s.busBelowWarn (dieOf n) = true) (ho : s.outranked n rankOther = false) :
    ∃ t, execInsertionPause n s = .next t ∧ (t.slot n).st = .waiting ∧ (t.slot n).prev = .charging ∧ SlotOnly n s t ∧
      (if s.workB n then (t.slot n).gB = (s.slot n).gB.pull s.now false ∧ (t.slot n).gA = (s.slot n).gA
       else (t.slot n).gA = (s.slot n).gA.pull s.now false ∧ (t.slot n).gB = (s.slot n).gB) := by
  have hx : execInsertionPause n s = done s ((s.modSlot n (fun x => x.paused (s.workB n) s.now)).enter n .waiting 0) := by
    unfold execInsertionPause
    rw [if_neg (by simp [hr, hst, hb]), State.ranked_first _ _ ho]
    rfl
  rw [hx]
  generalize hu : s.modSlot n (fun x => x.paused (s.workB n) s.now) = u
  have hus : u.slot n = (s.slot n).paused (s.workB n) s.now := by rw [← hu, State.slot_modSlot_self]
  have huo : SlotOnly n s u := hu ▸ s.modSlot_slotOnly n _
  obtain ⟨est, eprev, -, -, eA, eB, -⟩ := u.enter_slot n .waiting 0
  obtain ⟨t, ht, hslot, -, -, honly⟩ := done_on_slot (huo.trans (u.enter_slotOnly n .waiting 0))
  rw [hus] at eprev eA eB
  refine ⟨t, ht, by rw [hslot, est], ?_, honly, ?_⟩ <;> rw [hslot]
  · rw [eprev, ← hst]
    cases s.workB n <;> rfl
  · rw [eA, eB]
    cases s.workB n <;> exact ⟨rfl, rfl⟩

/-- The working gate enhances. -/
def Slot.workEnhanced (x : Slot) (wb : Bool) (now : Nat) : Slot :=
  if wb then { x with gB := x.gB.enhance now } else { x with gA := x.gA.enhance now }

theorem execInsertionDone_of_up {n : Nat} {s : State} (hp : s.pkg.phase ≠ .powerOff) (hu : (s.workGate n).path.isUp = true)
    (ho : s.outranked n rankOther = false) :
    execInsertionDone n s = done s (
      if (s.modSlot n (fun x => x.workEnhanced (s.workB n) s.now)).runs (dieOf n) && (s.slot n).st == .charging && (s.slot n).step == 7
      then (s.modSlot n (fun x => x.workEnhanced (s.workB n) s.now)).insertionOn n
      else s.modSlot n (fun x => x.workEnhanced (s.workB n) s.now)) := by
  unfold execInsertionDone
  extract_lets x wb act
  rw [if_neg (by simp [hp, hu]), State.ranked_first _ _ ho]
  rfl

/-- The entry into ON at the end of an insertion (R112). -/
theorem State.insertionOn_slot (s : State) (n : Nat) :
    ∃ i, i.abort = 0 ∧ (s.insertionOn n).slot n = { (s.enter n .on 0).slot n with ins := i } ∧
      (s.insertionOn n).evtBit (slotPage n) 19 = true ∧ SlotOnly n s (s.insertionOn n) := by
  unfold State.insertionOn
  extract_lets x dur u v w c g
  have hw : w.slot n = { u.slot n with ins := { (u.slot n).ins with abort := 0 } } := by
    rw [show w.slot n = _ from v.slot_modSlot_self n _, State.slot_of_slots (show v.slots = u.slots by simp [v])]
  have hvo : SlotOnly n u v := .of_slots n (by constructor <;> simp [v]) (by simp [v])
  have hwo : SlotOnly n s w := ((s.enter_slotOnly n .on 0).trans hvo).trans (v.modSlot_slotOnly n _)
  refine ⟨{ (u.slot n).ins with abort := 0 }, rfl, ?_, ?_, ?_⟩
  · rw [State.slot_logSlot, State.slot_evtSlot, hw]
  · exact State.logSlot_keeps_bit _ n _ _ (w.evtBit_evtSlot n 19 (by decide))
  · exact (hwo.trans (w.evtSlot_slotOnly n n [19])).trans (.of_slots n (by constructor <;> simp) (by simp))

/-- The enhanced working gate ends the handover in ON. -/
theorem insertionDone_on {n : Nat} {s : State} (hp : s.pkg.phase ≠ .powerOff) (hu : (s.workGate n).path.isUp = true)
    (ho : s.outranked n rankOther = false) (hr : s.runs (dieOf n) = true) (hst : (s.slot n).st = .charging) (hstep : (s.slot n).step = 7) :
    ∃ t, execInsertionDone n s = .next t ∧ (t.slot n).st = .on ∧ (t.slot n).prev = .charging ∧ (t.slot n).ins.abort = 0 ∧
      t.evtBit (slotPage n) 19 = true ∧ SlotOnly n s t ∧
      (if s.workB n then (t.slot n).gB = (s.slot n).gB.enhance s.now ∧ (t.slot n).gA = (s.slot n).gA
       else (t.slot n).gA = (s.slot n).gA.enhance s.now ∧ (t.slot n).gB = (s.slot n).gB) := by
  have hrun : (s.modSlot n (fun x => x.workEnhanced (s.workB n) s.now)).runs (dieOf n) = true := hr
  have hx := execInsertionDone_of_up hp hu ho
  rw [if_pos (by rw [hrun, hst, hstep]; rfl)] at hx
  rw [hx]
  generalize hv : s.modSlot n (fun x => x.workEnhanced (s.workB n) s.now) = v
  have hvs : v.slot n = (s.slot n).workEnhanced (s.workB n) s.now := by rw [← hv, State.slot_modSlot_self]
  have hvo : SlotOnly n s v := hv ▸ s.modSlot_slotOnly n _
  obtain ⟨i, hi, hon, hbit, hono⟩ := v.insertionOn_slot n
  obtain ⟨est, eprev, -, -, eA, eB, -⟩ := v.enter_slot n .on 0
  obtain ⟨t, ht, hslot, -, hbits, honly⟩ := done_on_slot (hvo.trans hono)
  rw [hon] at hslot
  rw [hvs] at eprev eA eB
  refine ⟨t, ht, by rw [hslot]; exact est, ?_, by rw [hslot]; exact hi, hbits _ _ hbit, honly, ?_⟩ <;> rw [hslot]
  · refine eprev.trans (Eq.trans ?_ hst)
    cases s.workB n <;> rfl
  · simp only [eA, eB]
    cases s.workB n <;> exact ⟨rfl, rfl⟩

/-- Outside the handover the enhanced working gate sets its ENH bit alone. -/
theorem insertionDone_enhances {n : Nat} {s : State} (hp : s.pkg.phase ≠ .powerOff) (hu : (s.workGate n).path.isUp = true)
    (ho : s.outranked n rankOther = false) (h : (s.slot n).st ≠ .charging ∨ (s.slot n).step ≠ 7) :
    ∃ t, execInsertionDone n s = .next t ∧
      Quiet (s.modSlot n (fun x => if s.workB n then { x with gB := x.gB.enhance s.now } else { x with gA := x.gA.enhance s.now })) t := by
  have hx := execInsertionDone_of_up hp hu ho
  rw [if_neg (by rcases h with h | h <;> simp [h])] at hx
  rw [hx]
  exact done_modSlot s n _

/-- Settles O28: the start, the window, the pause and the end of charging each follow from what their operation writes. -/
theorem chargingAndHandover : Obligations.ChargingAndHandover := by
  refine ⟨fun n s hr hst hw ho hd hv hk => chargingStart_done hr hst hw ho hd hv hk,
    fun n s hr hst hw h32 h5 => learningWindowEnd_cases hr hst hw h32 h5,
    fun n s hr hst hb ho => insertionPause_done hr hst hb ho,
    fun n s hp hu ho => ⟨fun hr hst hstep => insertionDone_on hp hu ho hr hst hstep, fun h => insertionDone_enhances hp hu ho h⟩⟩

end Sys2Proof.Machine
end

section
/-! PROOFS. The ends of an insertion through the SOFT path: its timer, the handover time and the loss of the feedback (O29). -/
namespace Sys2Proof.Machine

/-! ## The timers (R111, R112) -/

theorem execInsertTimeout_of_over {n : Nat} {s : State} (hr : s.runs (dieOf n) = true) (hst : (s.slot n).st = .charging)
    (hstep : (s.slot n).step ≠ 7) (h : (s.slot n).ins.timer ≤ s.now) :
    execInsertTimeout n s = done s (s.softTrip n rankOther 0xB 0 6) := by
  simp [execInsertTimeout, hr, hst, hstep, h]

theorem execHandoverTimeout_of_over {n : Nat} {s : State} (hr : s.runs (dieOf n) = true) (hst : (s.slot n).st = .charging)
    (hstep : (s.slot n).step = 7) (h : (s.slot n).ins.handAt + 5 * MS ≤ s.now) :
    execHandoverTimeout n s = done s (s.softTrip n rankOther 0xB 0 7) := by
  simp [execHandoverTimeout, hr, hst, hstep, h]

/-! ## The loss of the feedback (R292, R293) -/

/-- The loss marked in the slot's context and in the events of its die's engine. -/
def State.fbMarked (s : State) (n : Nat) : State :=
  (s.modCtx (dieOf n) (s.ctxOf n) (fun c => { c with lostSet := true })).evtCont (dieOf n) [3]

theorem State.fbEnd_lost (s : State) (n : Nat) : s.fbEnd n 3 = (s.fbMarked n).softTrip n rankOther 0xC 0 8 := rfl

theorem State.fbMarked_slots (s : State) (n : Nat) : (s.fbMarked n).slots = s.slots := by simp [State.fbMarked, State.modCtx]
theorem State.fbMarked_regs (s : State) (n : Nat) : (s.fbMarked n).regs = s.regs := by simp [State.fbMarked, State.modCtx]
theorem State.fbMarked_now (s : State) (n : Nat) : (s.fbMarked n).now = s.now := by simp [State.fbMarked, State.modCtx]

/-- Of a die the mark writes the engine only. -/
theorem State.fbMarked_die (s : State) (n d : Nat) : ∃ e, (s.fbMarked n).die d = { s.die d with eng := e } := by
  have hd : (s.fbMarked n).die d = (s.modCtx (dieOf n) (s.ctxOf n) (fun c => { c with lostSet := true })).die d :=
    State.die_of_dies (by simp [State.fbMarked]) d
  rw [hd, State.modCtx]
  by_cases h : d = dieOf n
  · subst h
    exact ⟨_, s.die_modDie_self _ _⟩
  · exact ⟨_, State.die_modDie_ne _ _ h⟩

theorem State.fbMarked_rankAlike (s : State) (n : Nat) : RankAlike n s (s.fbMarked n) where
  now := s.fbMarked_now n
  pkg := by simp [State.fbMarked, State.modCtx]
  ident := by simp [State.fbMarked, State.modCtx]
  pending := by simp [State.fbMarked, State.modCtx]
  heard := by simp [State.fbMarked, State.modCtx]
  dies d := by
    obtain ⟨e, he⟩ := s.fbMarked_die n d
    rw [he]
    exact ⟨rfl, rfl⟩
  regs a _ _ := State.reg_of_regs (s.fbMarked_regs n) a
  others m _ := State.slot_of_slots (s.fbMarked_slots n) m
  view := by rw [State.slot_of_slots (s.fbMarked_slots n)]
  gateUp := State.gateUp_of_asks (State.backup_of_regs (s.fbMarked_regs n) n) (by rw [State.slot_of_slots (s.fbMarked_slots n)])

theorem State.fbMarked_tripAlike (s : State) (n : Nat) : TripAlike n s (s.fbMarked n) := by
  have hslot := State.slot_of_slots (s.fbMarked_slots n) n
  exact ⟨s.fbMarked_now n, State.backup_of_regs (s.fbMarked_regs n) n, by rw [hslot], by rw [hslot], by rw [hslot], by rw [hslot],
    .of_slots n (by constructor <;> simp [State.fbMarked, State.modCtx]) (s.fbMarked_slots n)⟩

/-- A trip through the SOFT path from a state that ranks and trips as the one before (R125). -/
theorem done_softTrip_alike {s u : State} {n cause detail abort : Nat} (hrank : RankAlike n s u) (halike : TripAlike n s u)
    (ho : s.outranked n rankOther = false) (hc : cause ≠ 0xD) (h0 : abort ≠ 0) :
    ∃ t, done s (u.softTrip n rankOther cause detail abort) = .next t ∧ Tripped s t n cause detail false ∧ (t.slot n).ins.abort = abort := by
  have hu := hrank.outranked ho
  have hsoft : u.softTrip n rankOther cause detail abort = u.trip n false cause detail abort := by
    simp [State.softTrip, hu, State.outranked_mono (by decide : rankLockout ≤ rankOther) hu]
  obtain ⟨t, ht, htrip, hslot⟩ := done_tripped ((u.trip_tripped n false detail abort hc).of_alike halike hc)
  exact ⟨t, hsoft ▸ ht, htrip, by rw [hslot]; exact u.trip_abort n false detail hc h0⟩

theorem execFbLost_of_over {n : Nat} {s : State} (hr : s.runs (dieOf n) = true) (hs : s.supervised n = true)
    (h : (s.ctx (dieOf n) (s.ctxOf n)).fbAt + 5120 ≤ s.now) :
    execFbLost n s = done s ((s.fbMarked n).softTrip n rankOther 0xC 0 8) := by
  rw [← s.fbEnd_lost n]
  simp [execFbLost, hr, hs, h]

/-- Settles O29: each condition is a trip through the SOFT path (`done_softTrip`); the loss of the feedback first marks the context and
the engine's events, which neither the ranks nor the trip read. -/
theorem insertionTimeouts : Obligations.InsertionTimeouts := by
  refine ⟨fun n s hr hst hstep h ho => ?_, fun n s hr hst hstep h ho => ?_, fun n s hr hs h ho => ?_⟩
  · obtain ⟨t, ht, hrest⟩ := done_softTrip ho (State.outranked_mono (by decide) ho) (by decide : 0xB ≠ 0xD) (by decide : 6 ≠ 0)
    exact ⟨t, (execInsertTimeout_of_over hr hst hstep h).trans ht, hrest⟩
  · obtain ⟨t, ht, hrest⟩ := done_softTrip ho (State.outranked_mono (by decide) ho) (by decide : 0xB ≠ 0xD) (by decide : 7 ≠ 0)
    exact ⟨t, (execHandoverTimeout_of_over hr hst hstep h).trans ht, hrest⟩
  · obtain ⟨t, ht, hrest⟩ := done_softTrip_alike (s.fbMarked_rankAlike n) (s.fbMarked_tripAlike n) ho (by decide : 0xC ≠ 0xD) (by decide : 8 ≠ 0)
    exact ⟨t, (execFbLost_of_over hr hs h).trans ht, hrest⟩

end Sys2Proof.Machine
end

section
/-! PROOFS. The release of PG, the end of the bus's part in EWARN_N, and the end of the REMEMBER timer (O30). -/
namespace Sys2Proof.Machine

/-! ## The release of PG (R113, R144, R195) -/

/-- RELEASE empties the lockout list and writes nothing else of the slot. -/
theorem State.releaseSend_terrOnly (s : State) (n : Nat) : TerrOnly n s (s.releaseSend n) := by
  unfold State.releaseSend
  extract_lets x dst u p
  have hu : TerrOnly n s u := s.modSlot_terrOnly n _
  split
  · exact .of_slots rfl
  · split
    · exact hu
    · exact hu.trans (.of_slots (by simp))

theorem State.releaseSend_slotOnly (s : State) (n : Nat) : SlotOnly n s (s.releaseSend n) :=
  ⟨by constructor <;> simp, fun _ h => s.releaseSend_other n h⟩

theorem State.sendMsg_evtBit (s : State) (n : Nat) (k : MsgKind) (incident : Nat) (dst : List Party) (p b : Nat) :
    (s.sendMsg n k incident dst).evtBit p b = s.evtBit p b := State.evtBit_of_pages (by simp) p b

theorem State.releaseSend_keeps_bit (s : State) (n : Nat) {p b : Nat} (h : s.evtBit p b = true) : (s.releaseSend n).evtBit p b = true := by
  unfold State.releaseSend
  extract_lets x dst u q
  have hu : (u.sendMsg n .release 0 dst).evtBit p b = true := (u.sendMsg_evtBit n .release 0 dst p b).trans h
  split
  · exact h
  · split
    · exact h
    · exact State.logSlot_keeps_bit _ n _ _ (State.evt_keeps_bit _ _ p [1] b hu)

section
variable {n a : Nat} {s : State} (ha : (s.slot n).prot.pgOkAt = some a) (hr : s.runs (dieOf n) = true) (hst : (s.slot n).st = .on)
  (hpg : (s.slot n).pg = false) (hoff : (s.slot n).offPend = none) (h : a + s.sf n 0x14C 27 20 * MS ≤ s.now)
include ha hr hst hpg hoff h

theorem execPgRelease_of_calm (hf : (s.slot n).faultAt = none) :
    execPgRelease n s = done s (((s.modSlot n (fun x => { x with pg := true })).evtSlot n [15]).releaseSend n) := by
  simp [execPgRelease, ha, hr, hst, hpg, hoff, h, hf]

theorem execPgRelease_of_fault (hf : (s.slot n).faultAt ≠ none) : execPgRelease n s = done s (s.evtSlot n [8]) := by
  simp [execPgRelease, ha, hr, hst, hpg, hoff, h, Option.isSome_iff_ne_none.mpr hf]

/-- PG is released, and a slot with a lockout list sends RELEASE. -/
theorem pgRelease_done (hf : (s.slot n).faultAt = none) :
    ∃ t, execPgRelease n s = .next t ∧ (t.slot n).pg = true ∧ (t.slot n).st = .on ∧ t.evtBit (slotPage n) 15 = true ∧
      GatesKept s t n ∧ SlotOnly n s t := by
  generalize hu : (s.modSlot n (fun x => { x with pg := true })).evtSlot n [15] = u
  have hus : u.slot n = { s.slot n with pg := true } := by rw [← hu, State.slot_evtSlot, State.slot_modSlot_self]
  have huo : SlotOnly n s u := hu ▸ (s.modSlot_slotOnly n _).trans (State.evtSlot_slotOnly _ n n [15])
  have hbit : u.evtBit (slotPage n) 15 = true := hu ▸ State.evtBit_evtSlot _ n 15 (by decide)
  obtain ⟨r, hr'⟩ := u.releaseSend_terrOnly n
  obtain ⟨t, ht, hslot, -, hbits, honly⟩ := done_on_slot (huo.trans (u.releaseSend_slotOnly n))
  rw [hr', hus] at hslot
  exact ⟨t, (execPgRelease_of_calm ha hr hst hpg hoff h hf).trans (hu ▸ ht), by rw [hslot], by rw [hslot]; exact hst,
    hbits _ _ (u.releaseSend_keeps_bit n hbit), ⟨by rw [hslot], by rw [hslot]⟩, honly⟩

/-- A running fault timer withholds the release. -/
theorem pgRelease_deferred (hf : (s.slot n).faultAt ≠ none) :
    ∃ t, execPgRelease n s = .next t ∧ Quiet s t ∧ t.evtBit (slotPage n) 8 = true := by
  obtain ⟨t, ht, hq⟩ := done_pages s (u := s.evtSlot n [8]) ⟨_, rfl⟩
  exact ⟨t, (execPgRelease_of_fault ha hr hst hpg hoff h hf).trans ht, hq,
    done_keeps_bit ht _ _ (s.evtBit_evtSlot n 8 (by decide))⟩

end

/-! ## EWARN_N and REMEMBER (R116, R142) -/

theorem execEwarnBusEnd_of_over {d a : Nat} {s : State} (ha : (s.die d).belv.busOkAt = some a) (hr : s.runs d = true)
    (hw : (s.die d).belv.busWarn = true) (h : a + MS ≤ s.now) :
    execEwarnBusEnd d s = done s (s.modDie d (fun x => { x with belv := { x.belv with busWarn := false, busOkAt := none } })) := by
  simp [execEwarnBusEnd, ha, hr, hw, h]

theorem execRememberExpiry_of_over {n a : Nat} {s : State} (ha : (s.slot n).retry.remember = some a) (hr : s.runs (dieOf n) = true)
    (hst : (s.slot n).st = .empty) (h : a ≤ s.now) : execRememberExpiry n s = done s (s.countReset n) := by
  simp [execRememberExpiry, ha, hr, hst, h]

/-- Clearing the count writes it and its timer only (R142). -/
theorem State.countReset_slot (s : State) (n : Nat) :
    (s.countReset n).slot n = { s.slot n with retry := { (s.slot n).retry with cnt := 0, remember := none } } := by
  unfold State.countReset
  dsimp only
  split
  · exact s.slot_modSlot_self n _
  · rw [State.slot_logSlot, State.slot_evtSlot, State.slot_modSlot_self]

theorem State.countReset_slotOnly (s : State) (n : Nat) : SlotOnly n s (s.countReset n) :=
  ⟨by constructor <;> simp, fun _ h => s.countReset_other n h⟩

/-- Settles O30: each timer that has run out writes what its own rule says of the slot or of the die. -/
theorem slotTimersRunOut : Obligations.SlotTimersRunOut := by
  refine ⟨fun n a s ha hr hst hpg hoff h => ⟨fun hf => pgRelease_done ha hr hst hpg hoff h hf,
    fun hf => pgRelease_deferred ha hr hst hpg hoff h hf⟩, fun d a s ha hr hw h => ?_, fun n a s ha hr hst h => ?_⟩
  · obtain ⟨t, ht, hq⟩ := done_modDie s d (fun x => { x with belv := { x.belv with busWarn := false, busOkAt := none } })
    exact ⟨t, (execEwarnBusEnd_of_over ha hr hw h).trans ht, hq⟩
  · obtain ⟨t, ht, hslot, hregs, -, honly⟩ := done_on_slot (s.countReset_slotOnly n)
    rw [s.countReset_slot n] at hslot
    exact ⟨t, (execRememberExpiry_of_over ha hr hst h).trans ht, by rw [hslot], by rw [hslot], by rw [hslot]; exact hst,
      ⟨by rw [hslot], by rw [hslot]⟩, hregs.trans (by simp), honly⟩

end Sys2Proof.Machine
end

section
/-! PROOFS. The stuck-current verdict, the end of the dwell and the end of the cooldown (O34). -/
namespace Sys2Proof.Machine

/-! ## The trip's cause and its record (R126, R150) -/

/-- A cause that is settled writes TRIP_CAUSE of its slot and no other register (R153). -/
theorem State.reg_tripSettle (s : State) (n cause detail : Nat) {a : Nat} (h : a ≠ slotB n + 0x1C4) :
    (s.tripSettle n cause detail).reg a = s.reg a := by
  unfold State.tripSettle
  extract_lets +onlyGivenNames t u v w _ x
  have hu : u.reg a = s.reg a := s.reg_setReg_ne _ h
  have hw : w.regs = u.regs := by simp [w, v]
  clear_value u v w
  have hx : x.regs = w.regs := by
    simp only [x]
    split <;> rfl
  rw [← hu]
  exact State.reg_of_regs (by simp [hx, hw]) a

/-- Settling a trip's cause leaves it settled, and writes the trip, the retry count and the wear of the slot only. -/
theorem State.settleTrip_slot (s : State) (n : Nat) :
    ∃ tr r w, tr.unsettled = none ∧ (s.settleTrip n).slot n = { s.slot n with trip := tr, retry := r, wear := w } := by
  unfold State.settleTrip
  extract_lets +onlyGivenNames t
  split
  case h_1 hu => exact ⟨t, _, _, hu, rfl⟩
  case h_2 =>
    obtain ⟨w, hw⟩ := s.tripSettle_slot n _ _
    exact ⟨_, _, _, rfl, hw⟩

theorem State.settleTrip_slotOnly (s : State) (n : Nat) : SlotOnly n s (s.settleTrip n) :=
  ⟨by constructor <;> simp, fun _ h => s.settleTrip_other n h⟩

theorem State.settleTrip_backup (s : State) (n : Nat) : (s.settleTrip n).backup n = s.backup n := by
  unfold State.settleTrip
  extract_lets +onlyGivenNames t
  split
  · rfl
  · exact State.backup_of_reg (s.reg_tripSettle n _ _ (by omega))

theorem State.settleTrip_of_settled {s : State} {n : Nat} (h : (s.slot n).trip.unsettled = none) : s.settleTrip n = s := by
  simp [State.settleTrip, h]

/-- The record of a settled trip is no longer due; of the slot it writes the trip's marks only. -/
theorem State.tripRecord_slot {s : State} {n : Nat} (h : (s.slot n).trip.unsettled = none) (next : Nat) :
    ∃ c, (s.tripRecord n next).slot n = { s.slot n with trip := { (s.slot n).trip with due := false, check := c } } := by
  unfold State.tripRecord
  rw [State.settleTrip_of_settled h]
  extract_lets +onlyGivenNames s' x t d flags mid data u v r w y
  have hw : w.slot n = s.slot n := State.slot_of_slots (by simp [w, v, u, s']) n
  split
  case isTrue hdue =>
    have hd : (s.slot n).trip.due = false := by simpa using hdue
    exact ⟨(s.slot n).trip.check, by rw [← hd]⟩
  case isFalse =>
    refine ⟨false, ?_⟩
    rw [State.slot_modSlot_self, State.slot_setRf, hw]

theorem State.tripRecord_slotOnly (s : State) (n next : Nat) : SlotOnly n s (s.tripRecord n next) :=
  ⟨by constructor <;> simp, fun _ h => s.tripRecord_other n next h⟩

/-! ## Leaving TRIPPED (R139) -/

theorem State.enter_cool (s : State) (n : Nat) (st : SM) (step : Nat) :
    ((s.enter n st step).slot n).retry.cool = (s.slot n).retry.cool := by
  obtain ⟨a, b, p, r, h⟩ := s.enter_entered n st step
  rw [h]
  rfl

/-- Slot x has left its state for st with its record written: the gates, the cause, DETAIL and the cooldown stand. -/
structure LeftTripped (x y : Slot) (st : SM) : Prop where
  st : y.st = st
  prev : y.prev = x.st
  gA : y.gA = x.gA
  gB : y.gB = x.gB
  cause : y.trip.cause = x.trip.cause
  detail : y.trip.detail = x.trip.detail
  due : y.trip.due = false
  cool : y.retry.cool = x.retry.cool

/-- The slot that enters a state once the record of its settled trip is written. -/
theorem State.recordEnter_left {s : State} {n : Nat} (h : (s.slot n).trip.unsettled = none) (next : Nat) (st : SM) (step : Nat) :
    LeftTripped (s.slot n) (((s.tripRecord n next).enter n st step).slot n) st := by
  obtain ⟨c, hc⟩ := State.tripRecord_slot h next
  obtain ⟨est, eprev, -, -, eA, eB, -, -, etrip, -⟩ := (s.tripRecord n next).enter_slot n st step
  have ecool := (s.tripRecord n next).enter_cool n st step
  rw [hc] at eprev eA eB etrip ecool
  exact ⟨est, eprev, eA, eB, (congrArg TripInfo.cause etrip :), (congrArg TripInfo.detail etrip :), (congrArg TripInfo.due etrip :), ecool⟩

theorem State.recordEnter_slotOnly (s : State) (n next : Nat) (st : SM) (step : Nat) :
    SlotOnly n s ((s.tripRecord n next).enter n st step) :=
  (s.tripRecord_slotOnly n next).trans (State.enter_slotOnly _ n st step)

theorem State.latch_slot (s : State) (n : Nat) : (s.latch n).slot n = (s.enter n .latched 0).slot n := State.slot_evtSlot ..

theorem State.latch_slotOnly (s : State) (n : Nat) : SlotOnly n s (s.latch n) :=
  (s.enter_slotOnly n .latched 0).trans (State.evtSlot_slotOnly _ n n [11])

/-! ## The stuck-current verdict (R134) -/

/-- The slot once its current is found stuck: the trip settled, then renamed by the pass element that carries the current. -/
def State.stuckFound (s : State) (n : Nat) : State :=
  let u := s.settleTrip n
  let c := if !u.backup n then 6 else if (u.slot n).role then 7 else 8
  ((u.setCause n c 7 (u.slot n).trip.st.code 6).modSlot n (fun x => { x with trip := { x.trip with cause := c, detail := 7 } })).modSnap n
    (fun sn => { sn with cause := c, detail := 7 })

theorem State.stuckFound_slot (s : State) (n : Nat) :
    ∃ tr r w, tr.unsettled = none ∧ tr.cause = (if s.backup n then (if (s.slot n).role then 7 else 8) else 6) ∧ tr.detail = 7 ∧
      (s.stuckFound n).slot n = { s.slot n with trip := tr, retry := r, wear := w } := by
  obtain ⟨tr, r, w, hu, hs⟩ := s.settleTrip_slot n
  refine ⟨{ tr with cause := if s.backup n then (if (s.slot n).role then 7 else 8) else 6, detail := 7 }, r, w, hu, rfl, rfl, ?_⟩
  unfold State.stuckFound
  rw [State.slot_modSnap, State.slot_modSlot_self, State.slot_setCause, s.settleTrip_backup n, hs]
  cases s.backup n <;> rfl

theorem State.stuckFound_slotOnly (s : State) (n : Nat) : SlotOnly n s (s.stuckFound n) := by
  have hcause (u : State) (c d e f : Nat) : SlotOnly n u (u.setCause n c d e f) := .of_slots n (by constructor <;> simp) (by simp)
  have hsnap (u : State) (g : Snap → Snap) : SlotOnly n u (u.modSnap n g) := .of_slots n (by constructor <;> simp) (by simp)
  exact (((s.settleTrip_slotOnly n).trans (hcause _ _ _ _ _)).trans (State.modSlot_slotOnly _ n _)).trans (hsnap _ _)

theorem State.sendOpen_keeps_bit (s : State) (n : Nat) {p b : Nat} (h : s.evtBit p b = true) : (s.sendOpen n).evtBit p b = true := by
  unfold State.sendOpen
  extract_lets dst q u
  split
  · exact h
  · exact State.logSlot_keeps_bit _ n _ _ ((u.sendMsg_evtBit n .upstreamOpen 0 dst p b).trans h)

theorem execStuckCurrentVerdict_of_stuck {n : Nat} {s : State} (hr : s.runs (dieOf n) = true) (hst : (s.slot n).st = .tripped)
    (hc : (s.slot n).trip.check = true) (hn : 8 ≤ (s.slot n).trip.stuckN) (hh : 8 ≤ (s.slot n).trip.stuckHi) :
    execStuckCurrentVerdict n s = done s (((((s.stuckFound n).tripRecord n 8).latch n).sendOpen n).pumpCheck (dieOf n)) := by
  unfold execStuckCurrentVerdict
  extract_lets t
  rw [if_neg (by simp [hr, hst, t, hc, Nat.not_lt.mpr hn, Nat.not_lt.mpr hh])]
  rfl

/-- The verdict latches the slot with its gates as they are and tells the targets (R196). -/
theorem stuckCurrentVerdict_done {n : Nat} {s : State} (hr : s.runs (dieOf n) = true) (hst : (s.slot n).st = .tripped)
    (hc : (s.slot n).trip.check = true) (hn : 8 ≤ (s.slot n).trip.stuckN) (hh : 8 ≤ (s.slot n).trip.stuckHi) :
    ∃ t, execStuckCurrentVerdict n s = .next t ∧ (t.slot n).st = .latched ∧ (t.slot n).prev = .tripped ∧ (t.slot n).trip.detail = 7 ∧
      (t.slot n).trip.cause = (if s.backup n then (if (s.slot n).role then 7 else 8) else 6) ∧ t.evtBit (slotPage n) 11 = true ∧
      GatesKept s t n ∧ SlotOnly n s t := by
  rw [execStuckCurrentVerdict_of_stuck hr hst hc hn hh]
  obtain ⟨tr, r, w, hu, hcause, hdetail, hs⟩ := s.stuckFound_slot n
  have ho := s.stuckFound_slotOnly n
  generalize s.stuckFound n = u at *
  obtain ⟨est, eprev, eA, eB, ecause, edetail, -, -⟩ := State.recordEnter_left (s := u) (n := n) (by rw [hs]; exact hu) 8 .latched 0
  rw [← State.latch_slot] at est eprev eA eB ecause edetail
  rw [hs] at eprev eA eB ecause edetail
  have hlo := (ho.trans (u.tripRecord_slotOnly n 8)).trans (State.latch_slotOnly _ n)
  have hbit : ((u.tripRecord n 8).latch n).evtBit (slotPage n) 11 = true := State.evtBit_evtSlot _ n 11 (by decide)
  generalize (u.tripRecord n 8).latch n = v at *
  obtain ⟨q, hq⟩ := v.sendOpen_terrOnly n
  obtain ⟨t, ht, hslot, -, hbits, honly⟩ := done_on_slot ((hlo.trans (v.sendOpen_slotOnly n)).trans (State.pumpCheck_slotOnly _ n (dieOf n)))
  rw [State.slot_pumpCheck, hq] at hslot
  refine ⟨t, ht, ?_, ?_, ?_, ?_, hbits _ _ ((State.evtBit_pumpCheck ..).trans (v.sendOpen_keeps_bit n hbit)), ⟨?_, ?_⟩, honly⟩ <;> rw [hslot]
  · exact est
  · exact eprev.trans hst
  · exact edetail.trans hdetail
  · exact ecause.trans hcause
  · exact eA
  · exact eB

/-! ## The end of the dwell (R138, R139, R140) -/

/-- The slot whose cooldown starts; after BUS_OV the bus is awaited besides (R133). -/
def State.cooling (s : State) (n : Nat) : State :=
  s.modSlot n (fun x => { x with retry := { x.retry with cool := some (s.now + s.coolTime n), busOv := x.trip.cause == 0xA, busOkAt := none } })

theorem State.dwellEnd_eq (s : State) (n : Nat) :
    s.dwellEnd n = if s.latches n (s.slot n).trip.cause || decide (s.sf n 0x1B4 11 8 < (s.slot n).retry.cnt) then
        ((s.tripRecord n 8).latch n).pumpCheck (dieOf n)
      else if (s.slot n).trip.removed then ((((s.cooling n).tripRecord n 1).enter n .empty 0).remember n).pumpCheck (dieOf n)
      else ((s.cooling n).tripRecord n 7).enter n .cooldown 0 := rfl

theorem State.cooling_slot (s : State) (n : Nat) :
    ∃ r, r.cool = some (s.now + s.coolTime n) ∧ (s.cooling n).slot n = { s.slot n with retry := r } := ⟨_, rfl, s.slot_modSlot_self n _⟩

theorem State.cooling_slotOnly (s : State) (n : Nat) : SlotOnly n s (s.cooling n) := s.modSlot_slotOnly n _

/-- A slot that does not retry leaves TRIPPED for LATCHED. -/
theorem done_dwellLatch {n : Nat} {s : State} (h : (s.slot n).trip.unsettled = none) :
    ∃ t, done s (((s.tripRecord n 8).latch n).pumpCheck (dieOf n)) = .next t ∧ LeftTripped (s.slot n) (t.slot n) .latched ∧ SlotOnly n s t := by
  obtain ⟨t, ht, hslot, -, -, honly⟩ := done_on_slot
    (((s.tripRecord_slotOnly n 8).trans (State.latch_slotOnly _ n)).trans (State.pumpCheck_slotOnly _ n (dieOf n)))
  rw [State.slot_pumpCheck, State.latch_slot] at hslot
  exact ⟨t, ht, by rw [hslot]; exact State.recordEnter_left h 8 .latched 0, honly⟩

/-- A slot that cools leaves TRIPPED for COOLDOWN. -/
theorem done_dwellCool {n : Nat} {s u : State} (hu : SlotOnly n s u) (h : (u.slot n).trip.unsettled = none) :
    ∃ t, done s ((u.tripRecord n 7).enter n .cooldown 0) = .next t ∧ LeftTripped (u.slot n) (t.slot n) .cooldown ∧ SlotOnly n s t := by
  obtain ⟨t, ht, hslot, -, -, honly⟩ := done_on_slot (hu.trans (u.recordEnter_slotOnly n 7 .cooldown 0))
  exact ⟨t, ht, by rw [hslot]; exact State.recordEnter_left h 7 .cooldown 0, honly⟩

/-- A slot that cools after a removal leaves TRIPPED for EMPTY, and its retry count is remembered (R142). -/
theorem done_dwellRemoved {n : Nat} {s u : State} (hu : SlotOnly n s u) (h : (u.slot n).trip.unsettled = none) :
    ∃ t, done s ((((u.tripRecord n 1).enter n .empty 0).remember n).pumpCheck (dieOf n)) = .next t ∧
      LeftTripped (u.slot n) (t.slot n) .empty ∧ SlotOnly n s t := by
  have hleft := State.recordEnter_left h 1 .empty 0
  have ho := hu.trans (u.recordEnter_slotOnly n 1 .empty 0)
  generalize (u.tripRecord n 1).enter n .empty 0 = v at *
  obtain ⟨c, r, hr⟩ := v.remember_slot n
  obtain ⟨t, ht, hslot, -, -, honly⟩ := done_on_slot ((ho.trans (v.remember_slotOnly n)).trans (State.pumpCheck_slotOnly _ n (dieOf n)))
  rw [State.slot_pumpCheck, hr] at hslot
  exact ⟨t, ht, by rw [hslot]; exact { hleft with }, honly⟩

theorem State.settled_of_dwellOver {s : State} {n : Nat} (h : s.dwellOver n = true) : (s.slot n).trip.unsettled = none := by
  simp only [State.dwellOver, Bool.and_eq_true, Option.isNone_iff_eq_none] at h
  obtain ⟨⟨⟨hu, -⟩, -⟩, -⟩ := h
  exact hu

theorem execTripDwellEnd_of_over {n : Nat} {s : State} (hr : s.runs (dieOf n) = true) (hst : (s.slot n).st = .tripped)
    (hd : s.dwellOver n = true) (ho : s.outranked n rankOther = false) : execTripDwellEnd n s = done s (s.dwellEnd n) := by
  simp [execTripDwellEnd, hr, hst, hd, State.ranked_first _ _ ho]

/-- The dwell ends in LATCHED, in EMPTY or in COOLDOWN. -/
theorem tripDwellEnd_done {n : Nat} {s : State} (hr : s.runs (dieOf n) = true) (hst : (s.slot n).st = .tripped)
    (hd : s.dwellOver n = true) (ho : s.outranked n rankOther = false) :
    ∃ t, execTripDwellEnd n s = .next t ∧ (t.slot n).trip.cause = (s.slot n).trip.cause ∧ (t.slot n).trip.due = false ∧
      GatesKept s t n ∧ SlotOnly n s t ∧
      (if s.latches n (s.slot n).trip.cause || decide (s.sf n 0x1B4 11 8 < (s.slot n).retry.cnt) then (t.slot n).st = .latched
       else if (s.slot n).trip.removed then (t.slot n).st = .empty ∧ (t.slot n).retry.cool = some (s.now + s.coolTime n)
       else (t.slot n).st = .cooldown ∧ (t.slot n).retry.cool = some (s.now + s.coolTime n)) := by
  have hu := State.settled_of_dwellOver hd
  obtain ⟨r, hcool, hs⟩ := s.cooling_slot n
  have hco := s.cooling_slotOnly n
  have hcu : ((s.cooling n).slot n).trip.unsettled = none := by rw [hs]; exact hu
  rw [execTripDwellEnd_of_over hr hst hd ho, s.dwellEnd_eq n]
  generalize s.cooling n = u at *
  split
  · obtain ⟨t, ht, hleft, honly⟩ := done_dwellLatch hu
    exact ⟨t, ht, hleft.cause, hleft.due, ⟨hleft.gA, hleft.gB⟩, honly, hleft.st⟩
  · split
    · obtain ⟨t, ht, hleft, honly⟩ := done_dwellRemoved hco hcu
      rw [hs] at hleft
      exact ⟨t, ht, hleft.cause, hleft.due, ⟨hleft.gA, hleft.gB⟩, honly, hleft.st, hleft.cool.trans hcool⟩
    · obtain ⟨t, ht, hleft, honly⟩ := done_dwellCool hco hcu
      rw [hs] at hleft
      exact ⟨t, ht, hleft.cause, hleft.due, ⟨hleft.gA, hleft.gB⟩, honly, hleft.st, hleft.cool.trans hcool⟩

/-! ## The end of the cooldown (R133, R139) -/

/-- The slot whose cooldown is over. -/
def State.cooled (s : State) (n : Nat) : State :=
  s.modSlot n (fun x => { x with retry := { x.retry with cool := none, busOv := false, busOkAt := none } })

theorem State.coolOver_eq (s : State) (n : Nat) :
    s.coolOver n = if ((s.cooled n).slot n).pres then
        ((((s.cooled n).enter n .seated 2).evtSlot n [7]).logSlot n 0x0230 []).pumpCheck (dieOf n)
      else ((s.cooled n).enter n .empty 0).pumpCheck (dieOf n) := rfl

theorem State.cooled_slot (s : State) (n : Nat) :
    (s.cooled n).slot n = { s.slot n with retry := { (s.slot n).retry with cool := none, busOv := false, busOkAt := none } } :=
  s.slot_modSlot_self n _

theorem State.cooled_slotOnly (s : State) (n : Nat) : SlotOnly n s (s.cooled n) := s.modSlot_slotOnly n _

theorem execCooldownExpiry_of_over {n a : Nat} {s : State} (hr : s.runs (dieOf n) = true) (hst : (s.slot n).st = .cooldown)
    (ha : (s.slot n).retry.cool = some a) (h : a ≤ s.now)
    (hb : (s.slot n).retry.busOv = false ∨ ∃ b, (s.slot n).retry.busOkAt = some b ∧ b + MS ≤ s.now)
    (ho : s.outranked n rankOther = false) : execCooldownExpiry n s = done s (s.coolOver n) := by
  rcases hb with hb | ⟨b, hb, hms⟩
  · simp [execCooldownExpiry, hr, hst, ha, h, hb, State.ranked_first _ _ ho]
  · simp [execCooldownExpiry, hr, hst, ha, h, hb, hms, State.ranked_first _ _ ho]

theorem State.logSlot_slotOnly (s : State) (n code : Nat) (data : List Nat) : SlotOnly n s (s.logSlot n code data) :=
  .of_slots n (by constructor <;> simp) (by simp)

/-- The cooldown ends in a retry with a card, and in EMPTY without one. -/
theorem done_coolOver (s : State) (n : Nat) :
    ∃ t, done s (s.coolOver n) = .next t ∧ (t.slot n).retry.cool = none ∧ (t.slot n).retry.cnt = (s.slot n).retry.cnt ∧
      GatesKept s t n ∧ SlotOnly n s t ∧
      (if (s.slot n).pres then (t.slot n).st = .seated ∧ (t.slot n).step = 2 ∧ t.evtBit (slotPage n) 7 = true
       else (t.slot n).st = .empty) := by
  have hs := s.cooled_slot n
  have hco := s.cooled_slotOnly n
  have hpres : ((s.cooled n).slot n).pres = (s.slot n).pres := by rw [hs]
  rw [s.coolOver_eq n, hpres]
  generalize s.cooled n = u at *
  split
  · obtain ⟨est, -, estep, -, eA, eB, -, -, -, ecnt, -⟩ := u.enter_slot n .seated 2
    have ecool := u.enter_cool n .seated 2
    rw [hs] at eA eB ecnt ecool
    obtain ⟨t, ht, hslot, -, hbits, honly⟩ := done_on_slot ((((hco.trans (u.enter_slotOnly n .seated 2)).trans
      (State.evtSlot_slotOnly _ n n [7])).trans (State.logSlot_slotOnly _ n 0x0230 [])).trans (State.pumpCheck_slotOnly _ n (dieOf n)))
    rw [State.slot_pumpCheck, State.slot_logSlot, State.slot_evtSlot] at hslot
    refine ⟨t, ht, by rw [hslot, ecool], by rw [hslot, ecnt], ⟨by rw [hslot, eA], by rw [hslot, eB]⟩, honly, by rw [hslot, est],
      by rw [hslot, estep], hbits _ _ ?_⟩
    rw [State.evtBit_pumpCheck]
    exact State.logSlot_keeps_bit _ n _ _ (State.evtBit_evtSlot _ n 7 (by decide))
  · obtain ⟨est, -, -, -, eA, eB, -, -, -, ecnt, -⟩ := u.enter_slot n .empty 0
    have ecool := u.enter_cool n .empty 0
    rw [hs] at eA eB ecnt ecool
    obtain ⟨t, ht, hslot, -, -, honly⟩ := done_on_slot
      ((hco.trans (u.enter_slotOnly n .empty 0)).trans (State.pumpCheck_slotOnly _ n (dieOf n)))
    rw [State.slot_pumpCheck] at hslot
    exact ⟨t, ht, by rw [hslot, ecool], by rw [hslot, ecnt], ⟨by rw [hslot, eA], by rw [hslot, eB]⟩, honly, by rw [hslot, est]⟩

/-- Settles O34: the verdict, the dwell and the cooldown each write the slot's books and enter a state, which moves no gate. -/
theorem dwellVerdictAndCooldown : Obligations.DwellVerdictAndCooldown := by
  refine ⟨fun n s hr hst hc hn hh => stuckCurrentVerdict_done hr hst hc hn hh, fun n s hr hst hd ho => tripDwellEnd_done hr hst hd ho,
    fun n a s hr hst ha h hb ho => ?_⟩
  obtain ⟨t, ht, hrest⟩ := done_coolOver s n
  exact ⟨t, (execCooldownExpiry_of_over hr hst ha h hb ho).trans ht, hrest⟩

end Sys2Proof.Machine
end

section
/-! PROOFS. STABLE_TIME and the retry count (O31). -/
namespace Sys2Proof.Machine

/-! ## The pages of a record (R174, R418, R423) -/

/-- A record writes no page but that of its die. -/
theorem State.logPut_page (s : State) {d q : Nat} (r : Rec) (h : q ≠ pageNo (dieB d)) : (s.logPut d r).page q = s.page q := by
  unfold State.logPut
  dsimp only
  split
  · split
    · split
      · exact State.evt_page_ne _ [17] h
      · rfl
    · exact State.evt_page_ne _ [16] h
  · rfl

theorem State.logFlush_page (s : State) {d q : Nat} (h : q ≠ pageNo (dieB d)) : (s.logFlush d).page q = s.page q := by
  unfold State.logFlush
  split
  · rfl
  · exact State.logPut_page _ _ h

theorem State.logAdd_page (s : State) {d q : Nat} (r : Rec) (h : q ≠ pageNo (dieB d)) : (s.logAdd d r).page q = s.page q := by
  unfold State.logAdd
  dsimp only
  split
  · split
    · split
      · split
        · exact State.logFlush_page _ h
        · rfl
      · exact s.logFlush_page h
    · rfl
  · exact (State.logPut_page _ r h).trans (s.logFlush_page h)

/-- The page of a slot lies above those of the dies (R31). -/
theorem slotPage_ne_die (n : Nat) : slotPage n ≠ pageNo (dieB (dieOf n)) := by
  unfold slotPage pageNo slotB dieB dieOf
  omega

theorem slotPage_not_settlePage (n : Nat) : ¬ SettlePage (slotPage n) := by
  intro h
  have hr := h.range
  unfold slotPage pageNo slotB at hr
  omega

/-! ## The time that an entry into ON takes from its register (R141) -/

/-- The words of a bank stand at the first 24 bytes of its sections. -/
theorem secWords_le {o : Nat} (h : o ∈ secWords) : o ≤ 20 := by
  simp only [secWords, List.mem_cons, List.not_mem_nil, or_false] at h
  omega

section
variable {a : Nat} (ha : 24 ≤ a % 32)
include ha

theorem ne_activeA {o : Nat} (d n k : Nat) (h : o ≤ 20) : a ≠ activeA d n k o := by
  unfold activeA contB
  omega

theorem ne_editA {o : Nat} (d n k : Nat) (h : o ≤ 20) : a ≠ editA d n k o := by
  unfold editA contB
  omega

theorem ne_ctxB {o : Nat} (d n : Nat) (h : o ≤ 20) : a ≠ ctxB d n + o := by
  unfold ctxB contB
  omega

/-- A commit leaves every word that can be no word of a bank. -/
theorem State.commitNow_reg_beside (s : State) (d n : Nat) : (s.commitNow d n).reg a = s.reg a := by
  have hcopy : (s.copyBank d n).reg a = s.reg a :=
    State.each_reg (fun k s => State.each_reg_mem (fun o ho s => s.reg_setReg_ne _ (ne_activeA ha d n k (secWords_le ho))) s) _ s
  exact (State.reg_of_regs (by simp [State.commitNow, State.evtCont]) a).trans hcopy

theorem State.commitReq_reg_beside (s : State) (d n : Nat) : (s.commitReq d n).reg a = s.reg a := by
  unfold State.commitReq
  split
  · exact State.reg_of_regs (by simp) a
  · split
    · exact State.reg_of_regs (by simp) a
    · exact s.commitNow_reg_beside ha d n

theorem State.swap_reg_beside (s : State) (kind d inst sub failed spare : Nat) (v : Int) :
    (s.swap kind d inst sub failed spare v).reg a = s.reg a := by
  have hn : a ≠ nursB + 0x60 := by
    unfold nursB
    omega
  unfold State.swap
  exact (State.reg_of_regs (s := s.addSat (nursB + 0x60) 15 0 1) (by simp) a).trans (s.reg_setReg_ne _ hn)

/-- Mapping a spare context copies words of its registers and of its banks only (R391). -/
theorem State.spareMap_reg_beside (s : State) (d n : Nat) : (s.spareMap d n).reg a = s.reg a := by
  unfold State.spareMap
  extract_lets eng bad
  split
  · rfl
  · split
    · exact State.reg_of_regs (by simp) a
    case h_2 c _ =>
      extract_lets u v w x
      have hu : u.reg a = s.reg a := by
        refine State.each_reg_mem (fun o ho s => s.reg_setReg_ne _ (ne_ctxB ha d c (secWords_le ho))) s
      have hv : v.reg a = u.reg a := by
        refine State.each_reg (fun k s => State.each_reg_mem (fun o ho s => ?_) s) _ u
        exact (State.reg_setReg_ne _ _ (ne_activeA ha d c k (secWords_le ho))).trans
          (State.reg_setReg_ne _ _ (ne_editA ha d c k (secWords_le ho)))
      have hw : w.reg a = v.reg a := State.reg_of_regs (by simp [w]) a
      exact (x.swap_reg_beside ha 7 d n 0 n c 0).trans ((w.commitReq_reg_beside ha d c).trans (hw.trans (hv.trans hu)))

theorem State.spareGo_reg_beside (s : State) (d n : Nat) : (s.spareGo d n).reg a = s.reg a := by
  unfold State.spareGo
  split
  · exact State.reg_of_regs (by simp) a
  · exact (State.spareMap_reg_beside ha _ d n).trans (State.reg_of_regs (by simp) a)

/-- Unbinding the context of a slot for ON writes words of banks and of contexts only (R274). -/
theorem State.unbindCtx_on_reg_beside (s : State) (n : Nat) : (s.unbindCtx n true).reg a = s.reg a := by
  unfold State.unbindCtx
  extract_lets +onlyGivenNames d c disc u v w cap x
  have hu : u.reg a = s.reg a := State.reg_of_regs (by simp [u]) a
  have hv : v.reg a = u.reg a := by
    simp only [v]
    split
    · exact u.commitNow_reg_beside ha d c
    · rfl
  have hw : w.regs = v.regs := by
    simp only [w]
    split
    · simp
    · rfl
  have hx : x.regs = w.regs := by
    simp only [x, Bool.not_true, Bool.and_false, Bool.false_and, Bool.false_eq_true, if_false]
    split
    · split
      · simp
      · rfl
    · rfl
  have hxs : x.reg a = s.reg a := (State.reg_of_regs (hx.trans hw) a).trans (hv.trans hu)
  split
  · rfl
  · split
    · exact (x.spareGo_reg_beside ha d c).trans hxs
    · exact hxs

theorem State.leave_on_reg_beside (s : State) (n : Nat) : (s.leave n .on).reg a = s.reg a := by
  unfold State.leave
  extract_lets x u v
  have hu : u.reg a = s.reg a := by
    simp only [u]
    split
    · exact s.unbindCtx_on_reg_beside ha n
    · rfl
  have hv : v.regs = u.regs := by
    simp only [v]
    split <;> simp
  have hr : (if x.ins.swapPending = true then v.nursDrop 0 (dieOf n) n 0 else v).regs = v.regs := by split <;> simp
  exact (State.reg_of_regs (hr.trans hv) a).trans hu

end

/-- STABLE_TIME starts at the entry into ON. -/
theorem State.enter_on_stable (s : State) (n step : Nat) :
    ((s.enter n .on step).slot n).retry.stable = some (s.now + s.sf n 0x1B8 31 16 * SEC) := by
  have hreg : (s.leave n .on).reg (slotB n + 0x1B8) = s.reg (slotB n + 0x1B8) :=
    s.leave_on_reg_beside (by unfold slotB; omega) n
  unfold State.enter
  extract_lets u waits stable v w
  have hstable : stable = s.now + s.sf n 0x1B8 31 16 * SEC := by
    simp only [stable, State.sf, State.rf, u, hreg, State.leave_frame]
  obtain ⟨p, r, h⟩ := w.gatesIdle_slot n
  have hw : w.slot n = v.slot n := State.slot_of_slots (by simp only [w]; split <;> simp) n
  rw [h, hw, State.slot_modSlot_self, ← hstable]
  rfl

/-- The end of a handover starts STABLE_TIME. -/
theorem insertionDone_stable {n : Nat} {s : State} (hr : s.runs (dieOf n) = true) (hst : (s.slot n).st = .charging)
    (hstep : (s.slot n).step = 7) (hu : (s.workGate n).path.isUp = true) (ho : s.outranked n rankOther = false) :
    ∃ t, execInsertionDone n s = .next t ∧ (t.slot n).st = .on ∧
      (t.slot n).retry.stable = some (s.now + s.sf n 0x1B8 31 16 * SEC) := by
  have hp : s.pkg.phase ≠ .powerOff := by
    rintro hp
    simp [State.runs, hp] at hr
  have hx := execInsertionDone_of_up hp hu ho
  have hrun : (s.modSlot n (fun x => x.workEnhanced (s.workB n) s.now)).runs (dieOf n) = true := hr
  rw [if_pos (by rw [hrun, hst, hstep]; rfl)] at hx
  have hvo := s.modSlot_slotOnly n (fun x => x.workEnhanced (s.workB n) s.now)
  have hvs : (s.modSlot n (fun x => x.workEnhanced (s.workB n) s.now)).now + (s.modSlot n (fun x => x.workEnhanced (s.workB n) s.now)).sf n 0x1B8 31 16 * SEC =
    s.now + s.sf n 0x1B8 31 16 * SEC := rfl
  generalize s.modSlot n (fun x => x.workEnhanced (s.workB n) s.now) = v at hx hvo hvs
  obtain ⟨i, -, hon, -, hono⟩ := v.insertionOn_slot n
  obtain ⟨t, ht, hslot, -⟩ := done_on_slot (hvo.trans hono)
  rw [hon] at hslot
  refine ⟨t, hx.trans ht, by rw [hslot]; exact (v.enter_slot n .on 0).1, ?_⟩
  rw [hslot, ← hvs]
  exact v.enter_on_stable n 0

/-! ## The end of STABLE_TIME (R141) -/

theorem execStableTimeExpiry_of_over {n a : Nat} {s : State} (ha : (s.slot n).retry.stable = some a) (hr : s.runs (dieOf n) = true)
    (hst : (s.slot n).st = .on) (h : a ≤ s.now) :
    execStableTimeExpiry n s = done s ((s.modSlot n (fun x => { x with retry := { x.retry with stable := none } })).countReset n) := by
  simp [execStableTimeExpiry, ha, hr, hst, h]

/-- Clearing a count that was not 0 sets COUNT_RESET, and no other event of the slot (R141). -/
theorem State.countReset_evtBit (s : State) (n : Nat) :
    (s.countReset n).evtBit (slotPage n) 6 = (s.evtBit (slotPage n) 6 || decide ((s.slot n).retry.cnt ≠ 0)) := by
  unfold State.countReset
  extract_lets c u
  have hu : u.evtBit (slotPage n) 6 = s.evtBit (slotPage n) 6 := rfl
  by_cases h : c = 0
  · have hc : (s.slot n).retry.cnt = 0 := h
    rw [if_pos (by simp [h]), hu, hc]
    simp
  · have hc : (s.slot n).retry.cnt ≠ 0 := h
    have hlog : ((u.evtSlot n [6]).logSlot n 0x0233 []).page (slotPage n) = (u.evtSlot n [6]).page (slotPage n) :=
      State.logAdd_page _ _ (slotPage_ne_die n)
    rw [if_neg (by simp [h]), State.evtBit, hlog, decide_eq_true hc, Bool.or_true]
    exact State.evtBit_evtSlot u n 6 (by decide)

/-- STABLE_TIME ends with the retry count 0. -/
theorem stableTimeExpiry_clears {n a : Nat} {s : State} (ha : (s.slot n).retry.stable = some a) (hr : s.runs (dieOf n) = true)
    (hst : (s.slot n).st = .on) (h : a ≤ s.now) :
    ∃ t, execStableTimeExpiry n s = .next t ∧ (t.slot n).retry.cnt = 0 ∧ (t.slot n).retry.stable = none ∧ (t.slot n).st = .on ∧
      t.evtBit (slotPage n) 6 = (s.evtBit (slotPage n) 6 || decide ((s.slot n).retry.cnt ≠ 0)) ∧
      t.regs = s.regs ∧ SlotOnly n s t := by
  generalize hv : s.modSlot n (fun x => { x with retry := { x.retry with stable := none } }) = v
  have hvs : v.slot n = { s.slot n with retry := { (s.slot n).retry with stable := none } } := by rw [← hv, State.slot_modSlot_self]
  have hvo : SlotOnly n s v := hv ▸ s.modSlot_slotOnly n _
  have hvb : v.evtBit (slotPage n) 6 = s.evtBit (slotPage n) 6 := by rw [← hv]; rfl
  have hvr : v.regs = s.regs := by rw [← hv]; rfl
  obtain ⟨t, ht, hslot, hregs, -, honly⟩ := done_on_slot (hvo.trans (v.countReset_slotOnly n))
  obtain ⟨hevt, -⟩ := done_events ht (slotPage_not_settlePage n)
  rw [v.countReset_slot n, hvs] at hslot
  refine ⟨t, (execStableTimeExpiry_of_over ha hr hst h).trans (hv ▸ ht), by rw [hslot], by rw [hslot], by rw [hslot]; exact hst, ?_,
    hregs.trans (by simp [hvr]), honly⟩
  rw [State.evtBit, hevt]
  exact (v.countReset_evtBit n).trans (by rw [hvb, hvs])

/-! ## The reverse-current block (R88, R141) -/

/-- A block leaves the state and the retry count's timers of its slot. -/
theorem reverseBlock_keeps_retry {n : Nat} {s : State} (hu : s.gateUp n = true) (hr : (s.slot n).revBlock = false)
    (he : s.sf n 0x100 1 1 = 1) (hst : (s.slot n).st = .on) :
    ∃ t, execReverseBlock n s = .next t ∧ (t.slot n).revBlock = true ∧ (t.slot n).st = .on ∧ (t.slot n).retry = (s.slot n).retry := by
  obtain ⟨t, ht, hslot, -⟩ := done_on_slot ((s.beginRev_slotOnly n).trans (State.evtSlot_slotOnly _ n n [21]))
  rw [State.slot_evtSlot, s.beginRev_slot n, s.pullGates_pulled n true] at hslot
  exact ⟨t, (execReverseBlock_of_up hu hr he).trans ht, by rw [hslot], by rw [hslot]; exact hst, by rw [hslot]⟩

/-- So does its end. -/
theorem reverseBlockClear_keeps_retry {n : Nat} {s : State} (hr : (s.slot n).revBlock = true) (h : (s.slot n).revAt + 50 * US ≤ s.now)
    (hst : (s.slot n).st = .on) (ho : s.offN = false) (hm : s.inOr n (s.slot n).deg = 0) :
    ∃ t, execReverseBlockClear n s = .next t ∧ (t.slot n).revBlock = false ∧ (t.slot n).st = .on ∧
      (t.slot n).retry = (s.slot n).retry := by
  have hup : s.gateUp n = true := by simp [State.gateUp, State.wants, hst]
  have hx : execReverseBlockClear n s = done s ((s.endRev n).raiseGates n) := by
    rw [execReverseBlockClear_of_over hr h,
      State.rise_calm (s := s.endRev n) (go := fun s => s) ho ((s.endRev_inOr n).trans hm), if_pos hup, ite_self]
  have hend := s.endRev_slot n
  have hrev : ((s.endRev n).slot n).revBlock = false := by rw [hend]
  have hendo : SlotOnly n s (s.endRev n) := s.modSlot_slotOnly n _
  generalize s.endRev n = u at *
  obtain ⟨t, ht, hslot, -⟩ := done_on_slot (hendo.trans (u.raiseGates_slotOnly n))
  rw [u.raiseGates_slot n hrev, hend] at hslot
  exact ⟨t, hx.trans ht, by rw [hslot], by rw [hslot]; exact hst, by rw [hslot]⟩

/-- Settles O31: the entry into ON sets the time that its end compares with, and a block writes no field of the retry. -/
theorem stableTimeClearsTheRetryCount : Obligations.StableTimeClearsTheRetryCount :=
  ⟨fun _ _ hr hst hstep hu ho => insertionDone_stable hr hst hstep hu ho, fun _ _ _ ha hr hst h => stableTimeExpiry_clears ha hr hst h,
    fun _ _ hu hr he hst => reverseBlock_keeps_retry hu hr he hst, fun _ _ hr h hst ho hm => reverseBlockClear_keeps_retry hr h hst ho hm⟩

end Sys2Proof.Machine
end

section
/-! PROOFS. OFF_N and the disabling of the terraces on a state whose slots overlay each other's registers (O15, O38). -/
namespace Sys2Proof.Machine

/-- A state with a slot that the part does not have: slot 768, of die 48, stands before slot 3 in the map, and the active bank of
context 15 of die 48 lies at the same addresses as the registers of slot 3 (R31, R311). When slot 768 leaves CHARGING its context is
unbound, and the pending commit of the empty edit bank writes 0 to SLOT_CFG of slot 3, whose BACKUP falls (R71, R274, R294). -/
def overlaidSlots : State :=
  ({ State.reset with slots := [
      (768, { st := .charging, deg := 3, terr := { sub := .wait } }),
      (3, { st := .waiting, deg := 3, gB := { path := .enhance }, terr := { sub := .wait } })] }.setReg (slotB 3 + 0x100) 1).setDie 48
    { eng := { map := [15], ctxs := (List.replicate 18 ({} : Ctx)).set 15 { bound := true, commitPend := true } } }

/-- Slot 3 waits with pass element B driven up, and OFF_N does not trip it: by its turn slot 768 has cleared its BACKUP. -/
theorem overlaidSlots_offNFall :
    overlaidSlots.gateUp 3 = true ∧ (overlaidSlots.slot 3).st = .waiting ∧
      (match exec .offNFall overlaidSlots with | .next t => (t.slot 3).st | _ => .tripped) = .waiting := by decide +kernel

/-- Slot 3 trips when the terraces are disabled, and keeps GATEB driven up: by its turn slot 768 has cleared its BACKUP. -/
theorem overlaidSlots_terrDisable :
    overlaidSlots.takes .qspi (terrB + 8) = true ∧ (overlaidSlots.slot 3).terr.sub ≠ .idle ∧ overlaidSlots.fastOn 3 = true ∧
      (match exec (.terrDisable .qspi) overlaidSlots with | .next t => (t.slot 3).gB.path | _ => .hard) = .enhance ∧
      overlaidSlots.backup 3 = true ∧ ((overlaidSlots.slot 3).gB.pull overlaidSlots.now true).path = .hard := by decide +kernel

/-- Refutes O15: a slot in RUN with a gate driven up does not trip when another slot's trip takes its BACKUP first. The state
(`overlaidSlots`) has a slot beyond the 128 of the part; no run reaches it, and no premise shuts it out. -/
theorem not_offPinTripsEverySlot : ¬ Obligations.OffPinTripsEverySlot := by
  rintro ⟨hfall, -⟩
  obtain ⟨hup, hwaiting, hafter⟩ := overlaidSlots_offNFall
  obtain ⟨t, ht, -, -, -, htrips⟩ := hfall overlaidSlots (by decide) (by decide)
  obtain ⟨htripped, -⟩ := htrips 3 hup (by rw [hwaiting]; decide)
  rw [ht] at hafter
  exact absurd (htripped.symm.trans hafter) (by decide)

/-- Refutes O38: a slot in WAIT with FAST asserted trips at the disabling of the terraces without the pull-down of GATEB, when another
slot's trip takes its BACKUP first. The state (`overlaidSlots`) has a slot beyond the 128 of the part; no run reaches it, and no
premise shuts it out. -/
theorem not_terraceTimersAndDisable : ¬ Obligations.TerraceTimersAndDisable := by
  rintro ⟨-, -, -, -, hdisable⟩
  obtain ⟨htakes, hsub, hfast, hafter, hbackup, hpull⟩ := overlaidSlots_terrDisable
  obtain ⟨t, ht, -, -, hslots⟩ := hdisable .qspi overlaidSlots htakes
  obtain ⟨-, -, -, -, -, hfastOn⟩ := hslots 3
  obtain ⟨-, -, -, hB⟩ := hfastOn hsub hfast
  rw [ht] at hafter
  rw [if_pos hbackup] at hB
  have hhard : (t.slot 3).gB.path = .hard := (congrArg Gate.path hB).trans hpull
  exact absurd (hhard.symm.trans hafter) (by decide)

end Sys2Proof.Machine
end

section
/-! PROOFS. The timed-overcurrent registers of a slot, and the clearing of its energy (O33). -/
namespace Sys2Proof.Machine

/-! ## A register write that is taken (R46) -/

/-- A write of a locked register is taken where its page is unlocked for the initiator. -/
theorem State.write_takenLocked (s : State) (ini : Ini) (a : Nat) (act : State → State) (h : s.takesLocked ini a = true) :
    ∃ pg, s.write ini a true act = act { s with pages := pg } := by
  simp only [State.takesLocked, Bool.and_eq_true] at h
  obtain ⟨htakes, hunlocked⟩ := h
  exact s.write_taken ini a true act htakes (.inr hunlocked)

/-- What a command writes of a slot, it writes of the state before its page noted the access. -/
theorem SlotOnly.of_paged {n : Nat} {s t : State} {pg : List (Nat × Page)} (h : SlotOnly n { s with pages := pg } t) : SlotOnly n s t :=
  ⟨{ h.toBeside with }, h.slots⟩

/-! ## TOC_PTi (R130) -/

theorem find?_minsert {α : Type} (k : Nat) (v : α) {m : List (Nat × α)} (h : ∀ e ∈ m, e.1 ≠ k) :
    (minsert k v m).find? (fun e => e.1 == k) = some (k, v) := by
  induction m with
  | nil => simp [minsert]
  | cons e m ih =>
    unfold minsert
    split
    · simp
    · rw [List.find?_cons_of_neg (by simpa using h e (by simp)), ih (fun x hx => h x (by simp [hx]))]

/-- The word of a point with valid fields. -/
def tocWord (v : Word) : Word := mkWord [(24, fld v 31 24), (0, fld v 23 0)]

/-- A write of a point with valid fields holds it in the place of the one before. -/
theorem State.tocPoint_valid (s : State) (n i : Nat) {v : Word} (hm : 9 ≤ fld v 31 24) (ht : 10 ≤ fld v 23 0) :
    s.tocPoint n i v = s.modSlot n (fun x =>
      { x with prot := { x.prot with ptHeld := minsert i (tocWord v) (x.prot.ptHeld.filter (fun e => e.1 != i)) } }) := by
  simp [State.tocPoint, tocWord, hm, ht]

/-- The point written last is the one held. -/
theorem State.tocPt_of_held {s : State} {n i : Nat} {w : Word} {l : List (Nat × Word)}
    (h : (s.slot n).prot.ptHeld = minsert i w (l.filter (fun e => e.1 != i))) : s.tocPt n i = w := by
  unfold State.tocPt
  rw [h, find?_minsert i w (fun e he => by simpa using (List.mem_filter.mp he).2)]

theorem tocPtWrite_holds {ini : Ini} {n i : Nat} {v : Word} {s : State} (hw : s.takesLocked ini (slotB n + 0x190 + 4 * i) = true)
    (hm : 9 ≤ fld v 31 24) (htime : 10 ≤ fld v 23 0) :
    ∃ t, execTocPtWrite ini n i v s = .next t ∧ t.tocPt n i = tocWord v ∧ t.regs = s.regs ∧
      (t.slot n).st = (s.slot n).st ∧ GatesKept s t n ∧ SlotOnly n s t := by
  unfold execTocPtWrite
  obtain ⟨pg, hp⟩ := s.write_takenLocked ini _ (fun s => s.tocPoint n i v) hw
  rw [hp, State.tocPoint_valid _ n i hm htime]
  obtain ⟨t, ht, hslot, hregs, -, honly⟩ := done_on_slot (s := s) (State.modSlot_slotOnly { s with pages := pg } n (fun x =>
    { x with prot := { x.prot with ptHeld := minsert i (tocWord v) (x.prot.ptHeld.filter (fun e => e.1 != i)) } })).of_paged
  rw [State.slot_modSlot_self] at hslot
  exact ⟨t, ht, State.tocPt_of_held (congrArg (fun x => x.prot.ptHeld) hslot), hregs, by rw [hslot]; rfl,
    ⟨by rw [hslot]; rfl, by rw [hslot]; rfl⟩, honly⟩

/-! ## TOC_CFG (R128, R130) -/

/-- The slot's registers once the points that it holds are committed. -/
def State.tocCommit (s : State) (n : Nat) : State :=
  s.each (s.slot n).prot.ptHeld (fun e s => s.setReg (slotB n + 0x190 + 4 * e.1) e.2)

/-- A write of TOC_CFG with valid fields commits the points and clears the accumulator. -/
theorem State.tocCfg_valid (s : State) (n : Nat) {v : Word} (hlo : 100 ≤ fld v 31 16) (hhi : fld v 31 16 ≤ 10000)
    (hmode : fld v 1 0 ≤ 1 ∨ (fld v 1 0 = 2 ∧ s.tocOrdered n = true)) :
    s.tocCfg n v = ((s.tocCommit n).setReg (slotB n + 0x180) (mkWord [(16, fld v 31 16), (0, fld v 1 0)])).modSlot n
      (fun x => { x with prot := { x.prot with ptHeld := [], acc := 0 } }) := by
  have hm : fld v 1 0 ≤ 2 := by omega
  have hword : fld (mkWord [(16, fld v 31 16), (0, fld v 1 0)]) 1 0 = fld v 1 0 := by
    rw [show mkWord [(16, fld v 31 16), (0, fld v 1 0)] = mkWord [(0, fld v 1 0), (16, fld v 31 16)] by simp [mkWord, Nat.add_comm],
      fld_mkWord_low 1 _ _ (by decide) (by simp)]
    omega
  have hord : (fld v 1 0 == 2 && !s.tocOrdered n) = false := by
    rcases hmode with h | ⟨-, h⟩
    · rw [beq_eq_false_iff_ne.mpr (by omega), Bool.false_and]
    · rw [h, Bool.not_true, Bool.and_false]
  simp [State.tocCfg, State.tocCommit, hlo, hhi, hm, hword, hord]

theorem State.tocCommit_slots (s : State) (n : Nat) : (s.tocCommit n).slots = s.slots := by simp [State.tocCommit]

theorem State.tocCommit_slotOnly (s : State) (n : Nat) : SlotOnly n s (s.tocCommit n) :=
  .of_slots n (by constructor <;> simp [State.tocCommit]) (s.tocCommit_slots n)

theorem tocCfgWrite_commits {ini : Ini} {n : Nat} {v : Word} {s : State} (hw : s.takesLocked ini (slotB n + 0x180) = true)
    (hlo : 100 ≤ fld v 31 16) (hhi : fld v 31 16 ≤ 10000) (hmode : fld v 1 0 ≤ 1 ∨ (fld v 1 0 = 2 ∧ s.tocOrdered n = true)) :
    ∃ t, execTocCfgWrite ini n v s = .next t ∧ t.reg (slotB n + 0x180) = mkWord [(16, fld v 31 16), (0, fld v 1 0)] ∧
      (∀ i w, (s.slot n).prot.ptHeld = [(i, w)] → i < 8 → t.reg (slotB n + 0x190 + 4 * i) = w) ∧
      (t.slot n).prot.ptHeld = [] ∧ (t.slot n).prot.acc = 0 ∧ (t.slot n).st = (s.slot n).st ∧ GatesKept s t n ∧ SlotOnly n s t := by
  unfold execTocCfgWrite
  obtain ⟨pg, hp⟩ := s.write_takenLocked ini _ (fun s => s.tocCfg n v) hw
  have hvalid := State.tocCfg_valid { s with pages := pg } n hlo hhi hmode
  rw [hp, hvalid]
  have hco := State.tocCommit_slotOnly { s with pages := pg } n
  have hcs := State.slot_of_slots (State.tocCommit_slots { s with pages := pg } n) n
  have hpoint (i : Nat) (w : Word) (hheld : (s.slot n).prot.ptHeld = [(i, w)]) :
      (State.tocCommit { s with pages := pg } n).reg (slotB n + 0x190 + 4 * i) = w := by
    have hc : State.tocCommit { s with pages := pg } n = State.each { s with pages := pg } [(i, w)] _ :=
      congrArg (fun l => State.each { s with pages := pg } l _) hheld
    rw [hc]
    exact State.reg_setReg_self _ _ _
  generalize State.tocCommit { s with pages := pg } n = u at *
  have hset : SlotOnly n u (u.setReg (slotB n + 0x180) (mkWord [(16, fld v 31 16), (0, fld v 1 0)])) :=
    .of_slots n (by constructor <;> simp) rfl
  obtain ⟨t, ht, hslot, hregs, -, honly⟩ := done_on_slot ((hco.of_paged.trans hset).trans
    (State.modSlot_slotOnly _ n (fun x => { x with prot := { x.prot with ptHeld := [], acc := 0 } })))
  rw [State.slot_modSlot_self, State.slot_setReg, hcs] at hslot
  refine ⟨t, ht, (State.reg_of_regs hregs _).trans (u.reg_setReg_self _ _), fun i w hheld hi => ?_, ?_, ?_, ?_, ⟨?_, ?_⟩, honly⟩
  · exact (State.reg_of_regs hregs _).trans ((u.reg_setReg_ne _ (by omega)).trans (hpoint i w hheld))
  all_goals rw [hslot]
  · rfl
  · rfl
  · rfl

/-! ## The energy of a slot (R261) -/

theorem State.energyZero_eq (s : State) (n : Nat) :
    s.energyZero n = s.modSlot n (fun x => { x with meter := if x.meter.accAt = some s.now then
        { x.meter with energy := clampI (-(2 ^ 95)) (2 ^ 95 - 1) x.meter.accE, frames := 1, flagged := b2n x.meter.accF }
      else { x.meter with energy := 0, frames := 0, flagged := 0 } }) := by
  refine State.modSlot_congr ?_
  by_cases h : (s.slot n).meter.accAt = some s.now <;> simp [h, b2n]

theorem energyClear_done {ini : Ini} {n : Nat} {s : State} (hw : s.takes ini (slotB n + 0xB4) = true) {g : Slot → Slot}
    (hg : s.energyZero n = s.modSlot n g) : ∃ t, execEnergyClear ini n s = .next t ∧ Quiet (s.modSlot n g) t := by
  unfold execEnergyClear
  obtain ⟨pg, hp⟩ := s.write_taken ini _ false (fun s => s.energyZero n) hw (.inl rfl)
  rw [hp]
  have hz : State.energyZero { s with pages := pg } n = { s.modSlot n g with pages := pg } := by rw [← hg]; rfl
  rw [hz]
  obtain ⟨t, ht, hq⟩ := done_quiet s { s.modSlot n g with pages := pg } (by simp) (by simp) (by simp)
  exact ⟨t, ht, Quiet.of_pages hq⟩

/-- Settles O33: a taken write of each register does what its field says, on the state whose page noted the write. -/
theorem timedOvercurrentAndEnergyRegisters : Obligations.TimedOvercurrentAndEnergyRegisters := by
  refine ⟨fun ini n i v s _ hw hm ht => tocPtWrite_holds hw hm ht, fun ini n v s hw hlo hhi hmode => tocCfgWrite_commits hw hlo hhi hmode,
    fun ini n s hw => ⟨fun hacc => energyClear_done hw ?_, fun hacc => energyClear_done hw ?_⟩⟩ <;>
  · rw [s.energyZero_eq n]
    exact State.modSlot_congr (by simp [hacc])

end Sys2Proof.Machine
end

section
/-! PROOFS. The five terrace messages at their target: receipt, RESTRAIN and CLEARED (O37). -/
namespace Sys2Proof.Machine

/-! ## Records keep events (R418, R423) -/

theorem State.logAdd_keeps_bit (s : State) (d : Nat) (r : Rec) {p b : Nat} (h : s.evtBit p b = true) : (s.logAdd d r).evtBit p b = true := by
  unfold State.logAdd
  dsimp only
  split
  · split
    · split
      · split
        · exact State.logFlush_keeps_bit _ _ h
        · exact h
      · exact State.logFlush_keeps_bit _ _ h
    · exact h
  · exact State.logPut_keeps_bit _ _ _ (State.logFlush_keeps_bit _ _ h)

theorem State.logLead_keeps_bit (s : State) (block inst code : Nat) (data : List Nat) {p b : Nat} (h : s.evtBit p b = true) :
    (s.logLead block inst code data).evtBit p b = true := State.logAdd_keeps_bit _ _ _ h

/-! ## A message that is heard (R186, R187, R207) -/

/-- The state once an accepted message is remembered and counted in RX_CNT. -/
def State.heardMsg (s : State) (m : Msg) : State := (s.hear m).addWrap (terrB + 0x64) 31 0 1

/-- What an accepted message does by its kind. -/
def State.terrAct (s : State) (m : Msg) : State :=
  match m.kind with
  | .restrain => s.restrainIn m
  | .cleared => s.clearedIn m
  | .lockout => s.lockoutIn m
  | .release => s.releaseIn m
  | .upstreamOpen => s.upstreamIn m

/-- Each row hands its message to the receiver. -/
theorem exec_terrCmd (m : Msg) (s : State) : exec (terrCmd m) s = done s (s.recvTerr m) := by
  obtain ⟨k, _⟩ := m
  cases k <;> rfl

section
variable {m : Msg} {s : State}

theorem State.recvTerr_of_repeated (h : s.repeated m = true) : s.recvTerr m = s := by simp [State.recvTerr, h]

theorem State.recvTerr_of_refused (hr : s.inRun = true) (hc : s.repeated m = false)
    (hl : m.kind ≠ .lockout ∨ s.outranked m.tgtSlot rankLockout = false) (h : s.refuseReason m ≠ 0) :
    s.recvTerr m = (s.hear m).refuseMsg m (s.refuseReason m) := by
  have hh : (s.hear m).refuseReason m = s.refuseReason m := rfl
  rcases hl with hl | hl <;> simp [State.recvTerr, hr, hc, hl, hh, h]

theorem State.recvTerr_of_accepted (hr : s.inRun = true) (hc : s.repeated m = false) (h : s.refuseReason m = 0)
    (hl : m.kind ≠ .lockout ∨ s.outranked m.tgtSlot rankLockout = false) : s.recvTerr m = (s.heardMsg m).terrAct m := by
  have hh : (s.hear m).refuseReason m = s.refuseReason m := rfl
  have hk : (m.kind == .lockout && s.outranked m.tgtSlot rankLockout) = false := by
    rcases hl with hl | hl <;> simp [hl]
  unfold State.recvTerr
  rw [if_neg (by simp [hr, hc]), if_neg (by simp [hk])]
  dsimp only
  rw [if_neg (by simp [hh, h])]
  rfl

end

theorem State.refuseMsg_evt (s : State) (m : Msg) (reason : Nat) : (s.refuseMsg m reason).evtBit (pageNo terrB) 7 = true := by
  unfold State.refuseMsg
  extract_lets u v
  have hv : v.evtBit (pageNo terrB) 7 = (s.evt (pageNo terrB) [7]).evtBit (pageNo terrB) 7 := State.evtBit_of_pages (by simp [u, v]) _ _
  exact v.logLead_keeps_bit _ _ _ _ (hv.trans (s.evtBit_evt (pageNo terrB) 7 (by decide)))

/-- t is s but for the messages heard and RX_CNT. -/
structure MsgTaken (s t : State) : Prop where
  now : t.now = s.now
  ident : t.ident = s.ident
  pkg : t.pkg = s.pkg
  slots : t.slots = s.slots
  dies : t.dies = s.dies
  pending : t.pending = s.pending
  reg : ∀ a, a ≠ terrB + 0x64 → t.reg a = s.reg a

theorem State.heardMsg_taken (s : State) (m : Msg) : MsgTaken s (s.heardMsg m) :=
  ⟨rfl, rfl, rfl, rfl, rfl, rfl, fun _ h => (s.hear m).reg_addWrap_ne 31 0 1 h⟩

theorem State.heardMsg_slotOnly (s : State) (m : Msg) (n : Nat) : SlotOnly n s (s.heardMsg m) :=
  .of_slots n (by constructor <;> simp [State.heardMsg]) rfl

section
variable {s t : State} (h : MsgTaken s t)
include h

theorem MsgTaken.symm : MsgTaken t s :=
  ⟨h.now.symm, h.ident.symm, h.pkg.symm, h.slots.symm, h.dies.symm, h.pending.symm, fun a ha => (h.reg a ha).symm⟩

theorem MsgTaken.slot (n : Nat) : t.slot n = s.slot n := State.slot_of_slots h.slots n

theorem MsgTaken.slotReg (n off : Nat) : t.reg (slotB n + off) = s.reg (slotB n + off) :=
  h.reg _ (slotB_ne_terrB n off 0x64 (by decide))

theorem MsgTaken.backup (n : Nat) : t.backup n = s.backup n := State.backup_of_reg (h.slotReg n 0x100)

theorem MsgTaken.gateUp (n : Nat) : t.gateUp n = s.gateUp n := State.gateUp_of_asks (h.backup n) (by rw [h.slot])

theorem MsgTaken.gatesOff (n : Nat) : t.gatesOff n = s.gatesOff n := by simp only [State.gatesOff, h.slot, h.backup]

theorem MsgTaken.excl (n : Nat) : t.excl n = s.excl n := congrArg (fld · 27 24) (h.slotReg n 0x118)

theorem MsgTaken.inOr (n k : Nat) : t.inOr n k = s.inOr n k := by simp only [State.inOr, h.excl]

theorem MsgTaken.fastOn (n : Nat) : t.fastOn n = s.fastOn n := by simp only [State.fastOn, h.inOr, h.slot]

theorem MsgTaken.waiter (n : Nat) : t.waiter n = s.waiter n := by
  have hon : t.terrOn = s.terrOn := congrArg (fun w => fld w 0 0 == 1) (h.reg (terrB + 8) (by decide))
  have hlev : t.level n = s.level n := congrArg (fld · 2 0) (h.slotReg n 0x280)
  have hruns : t.runs (dieOf n) = s.runs (dieOf n) := by
    simp only [State.runs, State.present, State.fitted, h.ident, h.pkg, State.die_of_dies h.dies]
  simp only [State.waiter, State.terrSlot, hon, hlev, hruns, h.slot]

theorem MsgTaken.ripe (n : Nat) (i : Bool) (k : Nat) : t.ripe n i k = s.ripe n i k := by
  have hcfg : t.rf (slotB n + 0x100) 5 4 = s.rf (slotB n + 0x100) 5 4 := congrArg (fld · 5 4) (h.slotReg n 0x100)
  have hdg : t.fastDg n = s.fastDg n := by simp only [State.fastDg, hcfg, h.slot]
  unfold State.ripe
  rw [hdg, h.slot, h.now]

/-- What ranks before UPSTREAM_OPEN does not read the messages heard (R125). -/
theorem MsgTaken.rankOf_before_open {n r : Nat} {c : Instr} (hr : r < 3) (hc : t.rankOf n c = some r) : s.rankOf n c = some r := by
  have hfast : t.fastActs n = s.fastActs n := by simp only [State.fastActs, h.waiter, h.slot, h.now]
  have hwait : t.waitOver n = s.waitOver n := by simp only [State.waitOver, h.waiter, h.slot, h.now, h.fastOn]
  have hhold : t.holdOver n = s.holdOver n := by simp only [State.holdOver, h.waiter, h.slot, h.now, h.fastOn]
  unfold State.rankOf at hc ⊢
  split at hc
  case h_1 => simpa only [h.pkg, h.gateUp] using hc
  case h_2 => simpa only [h.gateUp, h.ripe, h.inOr] using hc
  case h_3 => simpa only [h.gateUp, h.ripe, h.inOr, hfast] using hc
  case h_4 => simpa only [hwait] using hc
  case h_5 => simpa only [hhold] using hc
  case h_13 => exact nomatch hc
  all_goals
    obtain ⟨-, ⟨⟩⟩ := Option.ite_none_right_eq_some.mp hc
    omega

theorem MsgTaken.outranked_open_of_not {n : Nat} (ho : s.outranked n 3 = false) : t.outranked n 3 = false := by
  have htimed : t.timedDue n = s.timedDue n := by simp only [State.timedDue, h.slot, h.now]
  exact State.outranked_of_ranks le_rfl h.pending (fun _ _ hr hc => h.rankOf_before_open hr hc)
    (fun _ hd hg => ⟨htimed.symm.trans hd, (h.gateUp n).symm.trans hg⟩) ho

theorem MsgTaken.outranked_open (n : Nat) : t.outranked n 3 = s.outranked n 3 := by
  cases hs : s.outranked n 3 with
  | false => exact h.outranked_open_of_not hs
  | true =>
    rw [← Bool.not_eq_false]
    intro ht
    rw [h.symm.outranked_open_of_not ht] at hs
    exact nomatch hs

theorem MsgTaken.tripAlike {n : Nat} (ho : SlotOnly n s t) : TripAlike n s t :=
  ⟨h.now, h.backup n, by rw [h.slot], by rw [h.slot], by rw [h.slot], by rw [h.slot], ho⟩

end

theorem TripAlike.trans {n : Nat} {s t u : State} (h : TripAlike n s t) (h' : TripAlike n t u) : TripAlike n s u :=
  ⟨h'.now.trans h.now, h'.backup.trans h.backup, h'.st.trans h.st, h'.gA.trans h.gA, h'.gB.trans h.gB, h'.cnt.trans h.cnt,
    h.only.trans h'.only⟩

end Sys2Proof.Machine
end

section
/-! PROOFS. RESTRAIN, CLEARED and UPSTREAM_OPEN at their slot (O37). -/
namespace Sys2Proof.Machine

/-! ## RESTRAIN (R190, R191) -/

/-- The entry that a RESTRAIN leaves. -/
def State.entryOf (s : State) (m : Msg) : Entry := { src := m.srcAddr, slot := m.srcSlot, incident := m.incident, at_ := s.now }

/-- Whether the table of the target already holds an entry of the sender. -/
def State.holdsEntry (s : State) (m : Msg) : Bool :=
  (s.slot m.tgtSlot).terr.entries.any (fun x => x.src == m.srcAddr && x.slot == m.srcSlot)

/-- The table of the target with the entry of a RESTRAIN, renewed or appended. -/
def State.tableWith (s : State) (m : Msg) : List Entry :=
  if s.holdsEntry m then (s.slot m.tgtSlot).terr.entries.map (fun x => if x.src == m.srcAddr && x.slot == m.srcSlot then s.entryOf m else x)
  else (s.slot m.tgtSlot).terr.entries ++ [s.entryOf m]

theorem State.modTerr_slotOnly (s : State) (n : Nat) (g : Terr → Terr) : SlotOnly n s (s.modTerr n g) := s.modSlot_slotOnly n _

theorem State.modTerr_slot (s : State) (n : Nat) (g : Terr → Terr) : (s.modTerr n g).slot n = { s.slot n with terr := g (s.slot n).terr } :=
  s.slot_modSlot_self n _

theorem State.toHold_slotOnly (s : State) (n : Nat) : SlotOnly n s (s.toHold n) :=
  ⟨by constructor <;> simp, fun _ h => s.toHold_other n h⟩

theorem State.toHold_slot (s : State) (n : Nat) : (s.toHold n).slot n = { s.slot n with terr := { (s.slot n).terr with sub := .hold } } :=
  (State.slot_addSat ..).trans (s.slot_modSlot_self n _)

section
variable {m : Msg} {s : State}

theorem State.restrainIn_of_not (h : s.gateUp m.tgtSlot = false ∨ s.waiter m.tgtSlot = false) : s.restrainIn m = s := by
  rcases h with h | h <;> simp [State.restrainIn, h]

section
variable (hu : s.gateUp m.tgtSlot = true) (hw : s.waiter m.tgtSlot = true)
include hu hw

theorem State.restrainIn_of_full (hn : s.holdsEntry m = false) (hl : 8 ≤ (s.slot m.tgtSlot).terr.entries.length) :
    s.restrainIn m = s.evt (pageNo terrB) [5] := by
  unfold State.holdsEntry at hn
  unfold State.restrainIn
  rw [if_neg (by simp [hu, hw])]
  extract_lets l e held
  rw [if_pos (by simp only [held, l, e, hn, hl]; decide)]

theorem State.restrainIn_of_room (h : s.holdsEntry m = true ∨ (s.slot m.tgtSlot).terr.entries.length < 8) :
    SlotOnly m.tgtSlot s (s.restrainIn m) ∧ (s.restrainIn m).slot m.tgtSlot = { s.slot m.tgtSlot with terr := {
      (s.slot m.tgtSlot).terr with
        entries := s.tableWith m
        lastSrc := (m.srcAddr, m.srcSlot)
        sub := if (s.slot m.tgtSlot).terr.sub = .wait then .hold else (s.slot m.tgtSlot).terr.sub } } := by
  unfold State.restrainIn
  rw [if_neg (by simp [hu, hw])]
  extract_lets l e held l' t
  have hroom : (!held && decide (8 ≤ l.length)) = false := by
    rcases h with h | h
    · rw [show held = true from h]
      rfl
    · rw [show decide (8 ≤ l.length) = false from decide_eq_false (Nat.not_le.mpr h), Bool.and_false]
  rw [if_neg (by rw [hroom]; decide)]
  have hl : l' = s.tableWith m := rfl
  have ht : t.slot m.tgtSlot = _ := s.modTerr_slot m.tgtSlot _
  have ho : SlotOnly m.tgtSlot s t := s.modTerr_slotOnly m.tgtSlot _
  clear_value t
  by_cases hs : (s.slot m.tgtSlot).terr.sub = .wait
  · rw [if_pos (by simp [ht, hs])]
    exact ⟨ho.trans (t.toHold_slotOnly _), by rw [t.toHold_slot, ht, if_pos hs, hl]⟩
  · rw [if_neg (by simp [ht, hs])]
    exact ⟨ho, by rw [ht, if_neg hs, hl]⟩

end

/-! ## CLEARED (R190, R191) -/

/-- The table of the target without the entry that a CLEARED names. -/
def State.tableLess (s : State) (m : Msg) : List Entry :=
  (s.slot m.tgtSlot).terr.entries.filter (fun x => !(x.src == m.srcAddr && x.slot == m.srcSlot && x.incident == m.incident))

/-- The slot's table once a CLEARED has taken its entry out. -/
def State.tableCut (s : State) (m : Msg) : State :=
  s.modTerr m.tgtSlot (fun t => { t with entries := s.tableLess m, lastSrc := (m.srcAddr, m.srcSlot) })

/-- A table with no entry of the name is left as it is. -/
theorem State.tableLess_of_length (h : (s.tableLess m).length = (s.slot m.tgtSlot).terr.entries.length) :
    s.tableLess m = (s.slot m.tgtSlot).terr.entries := List.filter_eq_self.mpr (List.length_filter_eq_length_iff.mp h)

theorem State.clearedIn_eq (s : State) (m : Msg) : s.clearedIn m =
    if (s.tableLess m).length == (s.slot m.tgtSlot).terr.entries.length then s
    else if (s.tableLess m).isEmpty && (s.slot m.tgtSlot).terr.sub == .hold then
      if (s.tableCut m).fastOn m.tgtSlot then (s.tableCut m).trip m.tgtSlot true 1 0 0 else (s.tableCut m).standDown m.tgtSlot
    else s.tableCut m := rfl

theorem State.clearedIn_of_none (h : (s.tableLess m).length = (s.slot m.tgtSlot).terr.entries.length) : s.clearedIn m = s := by
  rw [s.clearedIn_eq m, if_pos (beq_iff_eq.mpr h)]

theorem State.clearedIn_of_cut (h : (s.tableLess m).length ≠ (s.slot m.tgtSlot).terr.entries.length)
    (hl : (s.slot m.tgtSlot).terr.sub ≠ .hold ∨ s.tableLess m ≠ []) : s.clearedIn m = s.tableCut m := by
  rw [s.clearedIn_eq m, if_neg (by simpa using h), if_neg]
  intro hb
  simp only [Bool.and_eq_true, List.isEmpty_iff, beq_iff_eq] at hb
  exact hl.elim (· hb.2) (· hb.1)

theorem State.clearedIn_of_last (hs : (s.slot m.tgtSlot).terr.sub = .hold) (hl : s.tableLess m = [])
    (he : (s.slot m.tgtSlot).terr.entries ≠ []) :
    s.clearedIn m = if (s.tableCut m).fastOn m.tgtSlot then (s.tableCut m).trip m.tgtSlot true 1 0 0 else (s.tableCut m).standDown m.tgtSlot := by
  rw [s.clearedIn_eq m, if_neg, if_pos (by simp [hl, hs])]
  simpa [hl] using fun h => he (List.length_eq_zero_iff.mp h.symm)

theorem State.tableCut_tripAlike (s : State) (m : Msg) : TripAlike m.tgtSlot s (s.tableCut m) := by
  unfold State.tableCut State.modTerr
  exact s.modSlot_tripAlike m.tgtSlot _ rfl rfl rfl rfl

theorem State.tableCut_slot (s : State) (m : Msg) : (s.tableCut m).slot m.tgtSlot = { s.slot m.tgtSlot with terr := {
    (s.slot m.tgtSlot).terr with entries := s.tableLess m, lastSrc := (m.srcAddr, m.srcSlot) } } := s.modTerr_slot ..

theorem State.tableCut_fastOn (s : State) (m : Msg) : (s.tableCut m).fastOn m.tgtSlot = s.fastOn m.tgtSlot := by
  have hr : (s.tableCut m).excl m.tgtSlot = s.excl m.tgtSlot := congrArg (fld · 27 24) (State.reg_of_regs (by simp [State.tableCut]) _)
  simp only [State.fastOn, State.inOr, hr, s.tableCut_slot m]

/-- A slot that stands down from HOLD says so (R191, R196). -/
theorem State.standDown_evt {s : State} {n : Nat} (h : (s.slot n).terr.sub = .hold) : (s.standDown n).evtBit (pageNo terrB) 0 = true := by
  unfold State.standDown
  extract_lets t u
  rw [if_pos (by simp [t, h])]
  exact State.logSlot_keeps_bit _ n _ _ (u.evtBit_evt (pageNo terrB) 0 (by decide))

theorem State.standDown_slotOnly (s : State) (n : Nat) : SlotOnly n s (s.standDown n) :=
  ⟨by constructor <;> simp, fun _ h => s.standDown_other n h⟩

/-! ## UPSTREAM_OPEN (R116, R125, R135, R196) -/

/-- The slot with the sender of an UPSTREAM_OPEN in its trip. -/
def State.openMarked (s : State) (m : Msg) : State :=
  s.modSlot m.tgtSlot (fun x => { x with openWarn := true, trip := { x.trip with downAddr := m.srcAddr, downSlot := m.srcSlot } })

/-- The slot that takes part in EWARN_N until both its gates are off. -/
def State.openWarned (s : State) (n : Nat) : State := if s.gatesOff n then s else s.modSlot n (fun x => { x with openWarn := true })

theorem State.upstreamIn_of_trip (hst : (s.slot m.tgtSlot).st ≠ .holdthru) (hu : s.gateUp m.tgtSlot = true)
    (ho : s.outranked m.tgtSlot 3 = false) : s.upstreamIn m = (s.trip m.tgtSlot true 6 6 0).openMarked m := by
  unfold State.upstreamIn
  extract_lets n u
  rw [if_neg (by simpa [n] using hst), if_pos (by simp [n, hu, ho])]
  rfl

theorem State.upstreamIn_of_record (hst : (s.slot m.tgtSlot).st ≠ .holdthru)
    (h : s.gateUp m.tgtSlot = false ∨ s.outranked m.tgtSlot 3 = true) :
    s.upstreamIn m = (s.openWarned m.tgtSlot).terrRec m.tgtSlot 0x0244 m.srcAddr m.srcSlot 5 0 0 := by
  unfold State.upstreamIn
  extract_lets n u
  rw [if_neg (by simpa [n] using hst), if_neg (by rcases h with h | h <;> simp [n, h])]
  rfl

/-- A tripped slot stays one when its warning and its trip's sender are written. -/
theorem Tripped.openMarked {s u : State} {m : Msg} {why what : Nat} {hard : Bool} (h : Tripped s u m.tgtSlot why what hard) :
    Tripped s (u.openMarked m) m.tgtSlot why what hard := by
  obtain ⟨hst, hprev, hcause, hdetail, hdue, hpg, ⟨hA, hB⟩, hcount, hothers⟩ := h
  have hslot : (u.openMarked m).slot m.tgtSlot = _ := u.slot_modSlot_self m.tgtSlot _
  refine ⟨?_, ?_, ?_, ?_, ?_, ?_, ⟨?_, ?_⟩, ?_, hothers.trans (u.modSlot_slotOnly m.tgtSlot _)⟩ <;> rw [hslot]
  · exact hst
  · exact hprev
  · exact hcause
  · exact hdetail
  · exact hdue
  · exact hpg
  · exact hA
  · exact hB
  · exact hcount

theorem State.openMarked_slot (s : State) (m : Msg) : ((s.openMarked m).slot m.tgtSlot).trip.downAddr = m.srcAddr ∧
    ((s.openMarked m).slot m.tgtSlot).trip.downSlot = m.srcSlot ∧ ((s.openMarked m).slot m.tgtSlot).openWarn = true := by
  have hslot : (s.openMarked m).slot m.tgtSlot = _ := s.slot_modSlot_self m.tgtSlot _
  rw [hslot]
  exact ⟨rfl, rfl, rfl⟩

end

theorem State.openWarned_slot (s : State) (n : Nat) :
    (s.openWarned n).slot n = { s.slot n with openWarn := (s.slot n).openWarn || !s.gatesOff n } := by
  unfold State.openWarned
  split
  case isTrue h => rw [h, Bool.not_true, Bool.or_false]
  case isFalse h =>
    rw [Bool.not_eq_true] at h
    rw [State.slot_modSlot_self, h, Bool.not_false, Bool.or_true]

theorem State.terrRec_slotOnly (s : State) (n m code addr slot type low cnt : Nat) :
    SlotOnly n s (s.terrRec m code addr slot type low cnt) := .of_slots n (by constructor <;> simp) (by simp)

theorem State.openWarned_slotOnly (s : State) (n : Nat) : SlotOnly n s (s.openWarned n) := by
  unfold State.openWarned
  split
  · exact .refl n s
  · exact s.modSlot_slotOnly n _

end Sys2Proof.Machine
end

section
/-! PROOFS. LOCKOUT and RELEASE at their slot (O37). -/
namespace Sys2Proof.Machine

/-! ## Records and counts past LOCKOUT (R126, R153, R393) -/

theorem State.evtBit_modSlot (s : State) (n : Nat) (g : Slot → Slot) (p b : Nat) : (s.modSlot n g).evtBit p b = s.evtBit p b :=
  State.evtBit_of_pages (by simp) p b

theorem State.evtBit_evts_kept (s : State) (q : Nat) (bits : List Nat) {p b : Nat} (h : s.evtBit p b = true) :
    (s.evt q bits).evtBit p b = true := s.evt_keeps_bit q p bits b h

theorem State.wearWarn_keeps_bit (s : State) (n which cnt : Nat) {p b : Nat} (h : s.evtBit p b = true) :
    (s.wearWarn n which cnt).evtBit p b = true := by
  unfold State.wearWarn
  extract_lets th
  split
  · exact State.evtBit_evts_kept _ _ _ (State.logLead_keeps_bit _ _ _ _ _ ((s.evtBit_modSlot n _ p b).trans h))
  · exact h

theorem State.wearAdd_keeps_bit (s : State) (n which : Nat) {p b : Nat} (h : s.evtBit p b = true) :
    (s.wearAdd n which).evtBit p b = true := by
  unfold State.wearAdd
  extract_lets +onlyGivenNames u x
  exact u.wearWarn_keeps_bit n which _ ((s.evtBit_modSlot n _ p b).trans h)

section
variable {s : State} {n : Nat} (h : (s.slot n).trip.unsettled = none)
include h

theorem State.tripRecord_keeps_bit (next : Nat) {p b : Nat} (hb : s.evtBit p b = true) : (s.tripRecord n next).evtBit p b = true := by
  unfold State.tripRecord
  rw [State.settleTrip_of_settled h]
  extract_lets +onlyGivenNames s' x t d flags mid data u v r w y
  split
  · exact hb
  · have hv : v.evtBit p b = true := (State.evtBit_of_pages (by simp [v, u, s']) p b).trans (State.logFlush_keeps_bit s d hb)
    have hw : w.evtBit p b = true := v.logAdd_keeps_bit d r hv
    exact (State.evtBit_of_pages (by simp [y]) p b).trans hw

/-- The record of a settled trip writes the next state in TRIP_CAUSE and no other register (R153). -/
theorem State.reg_tripRecord (next : Nat) {a : Nat} (ha : a ≠ slotB n + 0x1C4) : (s.tripRecord n next).reg a = s.reg a := by
  unfold State.tripRecord
  rw [State.settleTrip_of_settled h]
  extract_lets +onlyGivenNames s' x t d flags mid data u v r w y
  split
  · rfl
  · have hw : w.reg a = s.reg a := State.reg_of_regs (by simp [w, v, u, s']) a
    have hy : y.reg a = w.reg a := w.reg_setReg_ne _ ha
    exact (State.reg_of_regs (by simp) a).trans (hy.trans hw)

end

/-- What a trip takes down is settled. -/
theorem State.takeTrip_settled (s : State) (n : Nat) (hard : Bool) (abort : Nat) :
    ((s.takeTrip n hard abort).slot n).trip.unsettled = none := by
  unfold State.takeTrip
  extract_lets +onlyGivenNames x tj u v w
  have hu : (u.slot n).trip.unsettled = none := by
    rw [show u.slot n = _ from s.slot_modSlot_self n _]
  have hw : w.slot n = v.slot n := v.slot_setTripTime n n
  have hv : (v.slot n).trip = (u.slot n).trip := by
    simp only [v]
    split
    · rfl
    · rw [State.insAbort, State.slot_evtSlot, State.slot_modSlot_self]
  rw [hw, hv, hu]

theorem State.tripRecord_or_slot {s : State} {n : Nat} (h : (s.slot n).trip.unsettled = none) (c : Bool) (next : Nat) :
    (∃ tr, (if c then s.tripRecord n next else s).slot n = { s.slot n with trip := tr }) ∧
      (if c then s.tripRecord n next else s).backup n = s.backup n := by
  cases c with
  | false => exact ⟨⟨_, rfl⟩, rfl⟩
  | true =>
    obtain ⟨k, hk⟩ := State.tripRecord_slot h next
    exact ⟨⟨_, hk⟩, State.backup_of_reg (State.reg_tripRecord h next (by omega))⟩

/-! ## LOCKOUT (R139, R143) -/

/-- Slot n has left s for LOCKOUT, as R143 says; its gates aside. -/
structure LockedOut (s t : State) (n : Nat) : Prop where
  st : (t.slot n).st = .lockout
  held : (t.slot n).held = (s.slot n).st
  cnt : (t.slot n).retry.cnt = (s.slot n).retry.cnt
  cause : (t.slot n).trip.cause = 0xE
  pg : (t.slot n).pg = false
  event : t.evtBit (slotPage n) 10 = true

theorem State.evtBit_lockout (s : State) (n : Nat) (up : Bool) : (s.evtSlot n (if up then [12, 10] else [10])).evtBit (slotPage n) 10 = true := by
  cases up with
  | false => exact s.evtBit_evtSlot n 10 (by decide)
  | true => exact (s.evt_bit (slotPage n) [12, 10] 10 (by decide)).trans (Bool.or_true _)

theorem State.lockoutEnter_slotOnly (s : State) (n : Nat) : SlotOnly n s (s.lockoutEnter n) :=
  ⟨by constructor <;> simp, fun _ h => s.lockoutEnter_other n h⟩

/-- The gates as LOCKOUT finds them, or on the SOFT path where one was driven up. -/
theorem State.pullGates_if (s : State) (n : Nat) (up : Bool) : ∃ l a, (if up then s.pullGates n false else s).slot n =
    { s.slot n with
      gA := if up then (s.slot n).gA.pull s.now false else (s.slot n).gA
      gB := if up && s.backup n then (s.slot n).gB.pull s.now false else (s.slot n).gB
      limit := l, limOffAt := a } := by
  cases up with
  | false => exact ⟨_, _, rfl⟩
  | true => exact ⟨_, _, s.pullGates_pulled n false⟩

theorem State.lockoutEnter_locked {s : State} {n : Nat} (h : (s.slot n).trip.unsettled = none) :
    LockedOut s (s.lockoutEnter n) n ∧
      ((s.lockoutEnter n).slot n).gA = (if s.gateUp n then (s.slot n).gA.pull s.now false else (s.slot n).gA) ∧
      ((s.lockoutEnter n).slot n).gB = (if s.gateUp n && s.backup n then (s.slot n).gB.pull s.now false else (s.slot n).gB) := by
  unfold State.lockoutEnter
  extract_lets +onlyGivenNames x up a b c d e f g i j k
  obtain ⟨⟨tr₀, ha⟩, hab⟩ : (∃ tr, a.slot n = { s.slot n with trip := tr }) ∧ a.backup n = s.backup n := State.tripRecord_or_slot h _ 10
  obtain ⟨tr, te, -, hc⟩ := a.tripFirst_slot n false (if x.st == .charging then 9 else 0)
  have hcb : c.backup n = a.backup n := a.tripFirst_backup n false _
  have hcs : (c.slot n).trip.unsettled = none := b.takeTrip_settled n false _
  have hcn : c.now = s.now := by simp only [c, b, a]; split <;> simp
  change c.slot n = _ at hc
  obtain ⟨l, la, hd⟩ : ∃ l a, d.slot n = _ := c.pullGates_if n up
  obtain ⟨bf, he⟩ : ∃ bf, e.slot n = _ := d.snapAssign_slot n
  have hew : (e.withdraw n).slot n = _ := e.slot_modSlot_self n _
  have hf := (e.withdraw n).enter_slot n .lockout 0
  rw [show (e.withdraw n).enter n .lockout 0 = f from rfl] at hf
  obtain ⟨fst, -, -, fpg, fA, fB, -, -, ftrip, fcnt, -⟩ := hf
  rw [hew, he, hd] at fpg fA fB ftrip fcnt
  have hg : g.slot n = _ := f.slot_modSlot_self n _
  have hk : k.slot n = g.slot n := by simp [k, j, i]
  have hkb : k.evtBit (slotPage n) 10 = true := j.evtBit_lockout n up
  obtain ⟨w, hw⟩ := k.wearAdd_slot n 3 (by decide)
  have hwb : (k.wearAdd n 3).evtBit (slotPage n) 10 = true := k.wearAdd_keeps_bit n 3 hkb
  rw [hk, hg] at hw
  clear_value c d e f g k
  have hs : ((k.wearAdd n 3).slot n).trip.unsettled = none := by
    rw [hw]
    exact (congrArg TripInfo.unsettled ftrip).trans hcs
  obtain ⟨r, hr⟩ := State.tripRecord_slot hs 10
  have hbit := State.tripRecord_keeps_bit hs 10 hwb
  generalize (k.wearAdd n 3).tripRecord n 10 = z at hr hbit
  rw [hw] at hr
  rw [hc, ha] at fpg fA fB fcnt
  rw [hcb, hab, hcn] at fB
  rw [hcn] at fA
  refine ⟨⟨?_, ?_, ?_, ?_, ?_, hbit⟩, ?_, ?_⟩ <;> rw [hr]
  · exact fst
  · exact fcnt
  · exact fpg.trans (Bool.and_false _)
  · exact fA
  · exact fB

/-! ## RELEASE (R143) -/

/-- The slot as RELEASE finds it, its event and its record written. -/
def State.unlocked (s : State) (n : Nat) : State := (s.evtSlot n [9]).logSlot n 0x0232 []

/-- The insertion of a slot released to WAITING: its timer is armed with VOUT above the SHORT level. -/
def State.rearm (s : State) (n : Nat) (i : Ins) : Ins := { i with armed := !s.shortVout n }
/-- The same with the spare element enhanced. -/
def State.enhance (s : State) (n : Nat) (i : Ins) : Ins := { i with spareEnh := true, spareAt := s.now, armed := !s.shortVout n }

/-- A slot released to WAITING, with its insertion as given. -/
def State.rewaits (s : State) (n : Nat) (g : Ins → Ins) : State := (s.enter n .waiting 0).modSlot n (fun x => { x with ins := g x.ins })

theorem State.unlocked_slotOnly (s : State) (n : Nat) : SlotOnly n s (s.unlocked n) :=
  .of_slots n (by constructor <;> simp [State.unlocked]) (by simp [State.unlocked])

theorem State.unlocked_slot (s : State) (n : Nat) : (s.unlocked n).slot n = s.slot n := by simp [State.unlocked]

theorem State.rewaits_slotOnly (s : State) (n : Nat) (g : Ins → Ins) : SlotOnly n s (s.rewaits n g) :=
  (s.enter_slotOnly n .waiting 0).trans (State.modSlot_slotOnly _ n _)

theorem State.rewaits_slot (s : State) (n : Nat) (g : Ins → Ins) : ((s.rewaits n g).slot n).st = .waiting ∧
    ((s.rewaits n g).slot n).prev = (s.slot n).st ∧ ((s.rewaits n g).slot n).deg = (s.slot n).deg := by
  obtain ⟨est, eprev, -⟩ := s.enter_slot n .waiting 0
  have edeg := (s.enter_kept n .waiting 0).1
  have hslot : (s.rewaits n g).slot n = _ := State.slot_modSlot_self _ n _
  rw [hslot]
  exact ⟨est, eprev, edeg⟩

theorem State.raiseGates_st (s : State) (n : Nat) : ((s.raiseGates n).slot n).st = (s.slot n).st ∧
    ((s.raiseGates n).slot n).prev = (s.slot n).prev := by
  have hslot : (s.raiseGates n).slot n = _ := s.slot_modSlot_self n _
  rw [hslot]
  split <;> exact ⟨rfl, rfl⟩

section
variable {s : State} {n : Nat}

theorem State.lockoutLeave_of_absent (h : (s.slot n).presN = false) :
    s.lockoutLeave n = ((s.unlocked n).enter n .empty 0).pumpCheck (dieOf n) := by
  unfold State.lockoutLeave
  extract_lets x u
  rw [if_pos (by simp [x, h])]
  rfl

theorem State.lockoutLeave_of_seated (h : (s.slot n).presN = true) (hc : (s.slot n).trip.removed = true ∨
    ((s.slot n).held ≠ .waiting ∧ (s.slot n).held ≠ .charging ∧ (s.slot n).held ≠ .on)) :
    s.lockoutLeave n = (s.unlocked n).enter n .seated 2 := by
  unfold State.lockoutLeave
  extract_lets x u
  rw [if_neg (by simp [x, h]), if_neg]
  · rfl
  · rcases hc with hc | ⟨h1, h2, h3⟩
    · simp [x, hc]
    · simp [x, h1, h2, h3]

theorem State.lockoutLeave_of_held (h : (s.slot n).presN = true) (hr : (s.slot n).trip.removed = false)
    (hc : (s.slot n).held = .waiting ∨ (s.slot n).held = .charging ∨ (s.slot n).held = .on) :
    s.lockoutLeave n = if (s.unlocked n).backup n then (s.unlocked n).rise n (fun v => v.rewaits n (v.enhance n))
      else (s.unlocked n).rewaits n ((s.unlocked n).rearm n) := by
  have hx : (((s.slot n).held == .waiting || (s.slot n).held == .charging || (s.slot n).held == .on) && !(s.slot n).trip.removed) = true := by
    rcases hc with hc | hc | hc <;> rw [hc, hr] <;> rfl
  unfold State.lockoutLeave
  extract_lets x u
  rw [if_neg (by simp [x, h]), if_pos hx]
  rfl

theorem State.unlocked_backup (s : State) (n : Nat) : (s.unlocked n).backup n = s.backup n :=
  State.backup_of_regs (by simp [State.unlocked]) n

/-- With no backup, or with OFF_N high and no copy asserted, a held slot goes to WAITING (R136, R481). -/
theorem State.lockoutLeave_waits (hst : (s.slot n).st = .lockout) (h : (s.slot n).presN = true) (hr : (s.slot n).trip.removed = false)
    (hc : (s.slot n).held = .waiting ∨ (s.slot n).held = .charging ∨ (s.slot n).held = .on)
    (hb : s.backup n = false ∨ (s.offN = false ∧ s.inOr n (s.slot n).deg = 0)) :
    SlotOnly n s (s.lockoutLeave n) ∧ ((s.lockoutLeave n).slot n).st = .waiting ∧ ((s.lockoutLeave n).slot n).prev = .lockout := by
  have hl := State.lockoutLeave_of_held h hr hc
  have hu := s.unlocked_slot n
  have huo := s.unlocked_slotOnly n
  have hub := s.unlocked_backup n
  have huoff : (s.unlocked n).offN = s.offN := by simp [State.offN, State.unlocked]
  have hur : (s.unlocked n).regs = s.regs := by simp [State.unlocked]
  generalize s.unlocked n = u at *
  obtain ⟨wst, wprev, wdeg⟩ := u.rewaits_slot n (u.enhance n)
  obtain ⟨vst, vprev, -⟩ := u.rewaits_slot n (u.rearm n)
  rw [hu, hst] at wprev vprev
  rw [hub] at hl
  cases hbk : s.backup n with
  | false =>
    rw [hl, hbk]
    exact ⟨huo.trans (u.rewaits_slotOnly n _), vst, vprev⟩
  | true =>
    obtain ⟨hoff, hin⟩ := hb.resolve_left (by simp [hbk])
    have hwr : (u.rewaits n (u.enhance n)).regs = u.regs := by
      have he := State.enter_regs (s := u) (n := n) .waiting 0 (by rw [hu, hst]; decide)
      simpa [State.rewaits] using he
    have hex : (u.rewaits n (u.enhance n)).excl n = s.excl n := congrArg (fld · 27 24) (State.reg_of_regs (hwr.trans hur) _)
    have hin' : (u.rewaits n (u.enhance n)).inOr n ((u.rewaits n (u.enhance n)).slot n).deg = 0 := by
      rw [wdeg, hu]
      simpa only [State.inOr, hex] using hin
    obtain ⟨rst, rprev⟩ := (u.rewaits n (u.enhance n)).raiseGates_st n
    have hrise : u.rise n (fun v => v.rewaits n (v.enhance n)) = (u.rewaits n (u.enhance n)).raiseGates n :=
      State.rise_calm (go := fun v => v.rewaits n (v.enhance n)) (huoff.trans hoff) hin'
    rw [hl, hbk, if_pos rfl, hrise]
    exact ⟨huo.trans ((u.rewaits_slotOnly n _).trans (State.raiseGates_slotOnly _ n)), rst.trans wst, rprev.trans wprev⟩

end

end Sys2Proof.Machine
end

section
/-! PROOFS. The outcomes of the five terrace messages (O37). -/
namespace Sys2Proof.Machine

section
variable {m : Msg} {s : State}

/-- A command on slot n after a message is heard: the outcome shows the slot as the command leaves it. -/
theorem done_heard {n : Nat} {u : State} (h : SlotOnly n (s.heardMsg m) u) :
    ∃ t, done s u = .next t ∧ t.slot n = u.slot n ∧ (∀ p b, u.evtBit p b = true → t.evtBit p b = true) ∧ SlotOnly n s t := by
  obtain ⟨t, ht, hslot, -, hbit, honly⟩ := done_on_slot ((s.heardMsg_slotOnly m n).trans h)
  exact ⟨t, ht, hslot, hbit, honly⟩

/-- The same where the message leaves every slot as it was. -/
theorem done_heard_slots {u : State} (h : u.slots = s.slots) :
    ∃ t, done s u = .next t ∧ t.slots = s.slots ∧ (∀ p b, u.evtBit p b = true → t.evtBit p b = true) := by
  obtain ⟨t, ht, hslots, -⟩ := done_kept s u
  exact ⟨t, ht, hslots.trans h, fun p b hb => done_keeps_bit ht p b hb⟩

section
variable (hr : s.inRun = true) (hc : s.repeated m = false) (h : s.refuseReason m = 0)
include hr hc h

theorem exec_terrCmd_accepted (hl : m.kind ≠ .lockout ∨ s.outranked m.tgtSlot rankLockout = false) :
    exec (terrCmd m) s = done s ((s.heardMsg m).terrAct m) := by
  rw [exec_terrCmd, State.recvTerr_of_accepted hr hc h hl]

theorem restrainReceive_accepted (hk : m.kind = .restrain) : exec (.restrainReceive m) s = done s ((s.heardMsg m).restrainIn m) := by
  simpa only [terrCmd, State.terrAct, hk] using exec_terrCmd_accepted hr hc h (.inl (by rw [hk]; decide))

theorem clearedReceive_accepted (hk : m.kind = .cleared) : exec (.clearedReceive m) s = done s ((s.heardMsg m).clearedIn m) := by
  simpa only [terrCmd, State.terrAct, hk] using exec_terrCmd_accepted hr hc h (.inl (by rw [hk]; decide))

theorem lockoutReceive_accepted (hk : m.kind = .lockout) (ho : s.outranked m.tgtSlot rankLockout = false) :
    exec (.lockoutReceive m) s = done s ((s.heardMsg m).lockoutIn m) := by
  simpa only [terrCmd, State.terrAct, hk] using exec_terrCmd_accepted hr hc h (.inr ho)

theorem releaseReceive_accepted (hk : m.kind = .release) : exec (.releaseReceive m) s = done s ((s.heardMsg m).releaseIn m) := by
  simpa only [terrCmd, State.terrAct, hk] using exec_terrCmd_accepted hr hc h (.inl (by rw [hk]; decide))

theorem upstreamOpenReceive_accepted (hk : m.kind = .upstreamOpen) :
    exec (.upstreamOpenReceive m) s = done s ((s.heardMsg m).upstreamIn m) := by
  simpa only [terrCmd, State.terrAct, hk] using exec_terrCmd_accepted hr hc h (.inl (by rw [hk]; decide))

end

/-! ## Receipt -/

theorem terrCmd_repeated (h : s.repeated m = true) : ∃ t, exec (terrCmd m) s = .next t ∧ Quiet s t := by
  rw [exec_terrCmd, State.recvTerr_of_repeated h]
  exact done_self s

theorem terrCmd_refused (hr : s.inRun = true) (hc : s.repeated m = false) (h : s.refuseReason m ≠ 0)
    (hl : m.kind ≠ .lockout ∨ s.outranked m.tgtSlot rankLockout = false) :
    ∃ t, exec (terrCmd m) s = .next t ∧ t.slots = s.slots ∧ t.evtBit (pageNo terrB) 7 = true := by
  rw [exec_terrCmd, State.recvTerr_of_refused hr hc hl h]
  obtain ⟨t, ht, hslots, hbit⟩ := done_heard_slots (u := (s.hear m).refuseMsg m (s.refuseReason m)) (s := s) (by simp)
  exact ⟨t, ht, hslots, hbit _ _ ((s.hear m).refuseMsg_evt m _)⟩

/-! ## RESTRAIN -/

section
variable (hk : m.kind = .restrain) (hr : s.inRun = true) (hc : s.repeated m = false) (h : s.refuseReason m = 0)
include hk hr hc h

theorem restrainReceive_idle (hn : s.gateUp m.tgtSlot = false ∨ s.waiter m.tgtSlot = false) :
    ∃ t, exec (.restrainReceive m) s = .next t ∧ t.slots = s.slots := by
  have hh := s.heardMsg_taken m
  rw [restrainReceive_accepted hr hc h hk, State.restrainIn_of_not (by rwa [hh.gateUp, hh.waiter])]
  obtain ⟨t, ht, hslots, -⟩ := done_heard_slots hh.slots
  exact ⟨t, ht, hslots⟩

section
variable (hu : s.gateUp m.tgtSlot = true) (hw : s.waiter m.tgtSlot = true)
include hu hw

theorem restrainReceive_full (hn : s.holdsEntry m = false) (hl : 8 ≤ (s.slot m.tgtSlot).terr.entries.length) :
    ∃ t, exec (.restrainReceive m) s = .next t ∧ t.slots = s.slots ∧ t.evtBit (pageNo terrB) 5 = true := by
  have hh := s.heardMsg_taken m
  have hfull := State.restrainIn_of_full ((hh.gateUp _).trans hu) ((hh.waiter _).trans hw)
    (by unfold State.holdsEntry; rwa [hh.slot]) (by rwa [hh.slot])
  rw [restrainReceive_accepted hr hc h hk, hfull]
  obtain ⟨t, ht, hslots, hbit⟩ := done_heard_slots (u := (s.heardMsg m).evt (pageNo terrB) [5]) (s := s) (by simpa using hh.slots)
  exact ⟨t, ht, hslots, hbit _ _ ((s.heardMsg m).evtBit_evt (pageNo terrB) 5 (by decide))⟩

theorem restrainReceive_entered (hn : s.holdsEntry m = true ∨ (s.slot m.tgtSlot).terr.entries.length < 8) :
    ∃ t, exec (.restrainReceive m) s = .next t ∧ SlotOnly m.tgtSlot s t ∧ (t.slot m.tgtSlot).terr.entries = s.tableWith m ∧
      (t.slot m.tgtSlot).st = (s.slot m.tgtSlot).st ∧
      (t.slot m.tgtSlot).terr.sub = (if (s.slot m.tgtSlot).terr.sub = .wait then .hold else (s.slot m.tgtSlot).terr.sub) ∧
      GatesKept s t m.tgtSlot := by
  have hh := s.heardMsg_taken m
  have hholds : (s.heardMsg m).holdsEntry m = s.holdsEntry m := by simp only [State.holdsEntry, hh.slot]
  have hwith : (s.heardMsg m).tableWith m = s.tableWith m := by simp only [State.tableWith, hholds, hh.slot, State.entryOf, hh.now]
  obtain ⟨honly, hslot⟩ := State.restrainIn_of_room ((hh.gateUp _).trans hu) ((hh.waiter _).trans hw) (by rwa [hholds, hh.slot])
  rw [hwith, hh.slot] at hslot
  obtain ⟨t, ht, htslot, -, htonly⟩ := done_heard honly
  rw [hslot] at htslot
  refine ⟨t, (restrainReceive_accepted hr hc h hk).trans ht, htonly, ?_, ?_, ?_, ?_, ?_⟩ <;> rw [htslot]

end
end

/-! ## CLEARED -/

section
variable (hk : m.kind = .cleared) (hr : s.inRun = true) (hc : s.repeated m = false) (h : s.refuseReason m = 0)
include hk hr hc h

theorem clearedReceive_cut (hn : (s.slot m.tgtSlot).terr.sub ≠ .hold ∨ s.tableLess m ≠ [] ∨ (s.slot m.tgtSlot).terr.entries = []) :
    ∃ t, exec (.clearedReceive m) s = .next t ∧ SlotOnly m.tgtSlot s t ∧ (t.slot m.tgtSlot).st = (s.slot m.tgtSlot).st ∧
      (t.slot m.tgtSlot).terr.sub = (s.slot m.tgtSlot).terr.sub ∧ (t.slot m.tgtSlot).terr.entries = s.tableLess m ∧
      GatesKept s t m.tgtSlot := by
  have hh := s.heardMsg_taken m
  have hless : (s.heardMsg m).tableLess m = s.tableLess m := by simp only [State.tableLess, hh.slot]
  rw [clearedReceive_accepted hr hc h hk]
  by_cases hlen : (s.tableLess m).length = (s.slot m.tgtSlot).terr.entries.length
  · rw [State.clearedIn_of_none (by rwa [hless, hh.slot])]
    obtain ⟨t, ht, htslot, -, htonly⟩ := done_heard (.refl m.tgtSlot (s.heardMsg m))
    rw [hh.slot] at htslot
    exact ⟨t, ht, htonly, by rw [htslot], by rw [htslot], by rw [htslot, State.tableLess_of_length hlen], by rw [htslot], by rw [htslot]⟩
  · have hl : (s.slot m.tgtSlot).terr.sub ≠ .hold ∨ s.tableLess m ≠ [] := by
      rcases hn with hn | hn | hn
      · exact .inl hn
      · exact .inr hn
      · exact absurd (by simp [State.tableLess, hn]) hlen
    rw [State.clearedIn_of_cut (by rwa [hless, hh.slot]) (by rwa [hless, hh.slot])]
    have hslot := (s.heardMsg m).tableCut_slot m
    rw [hless, hh.slot] at hslot
    obtain ⟨t, ht, htslot, -, htonly⟩ := done_heard ((s.heardMsg m).tableCut_tripAlike m).only
    rw [hslot] at htslot
    refine ⟨t, ht, htonly, ?_, ?_, ?_, ?_, ?_⟩ <;> rw [htslot]

section
variable (hs : (s.slot m.tgtSlot).terr.sub = .hold) (hl : s.tableLess m = []) (he : (s.slot m.tgtSlot).terr.entries ≠ [])
include hs hl he

theorem clearedReceive_last : exec (.clearedReceive m) s = done s (if s.fastOn m.tgtSlot then ((s.heardMsg m).tableCut m).trip m.tgtSlot true 1 0 0
    else ((s.heardMsg m).tableCut m).standDown m.tgtSlot) := by
  have hh := s.heardMsg_taken m
  have hless : (s.heardMsg m).tableLess m = s.tableLess m := by simp only [State.tableLess, hh.slot]
  rw [clearedReceive_accepted hr hc h hk, State.clearedIn_of_last (by rwa [hh.slot]) (hless.trans hl) (by rwa [hh.slot]),
    State.tableCut_fastOn, hh.fastOn]

theorem clearedReceive_trips (hf : s.fastOn m.tgtSlot = true) :
    ∃ t, exec (.clearedReceive m) s = .next t ∧ Tripped s t m.tgtSlot 1 0 true := by
  have hh := s.heardMsg_taken m
  have halike := (hh.tripAlike (s.heardMsg_slotOnly m m.tgtSlot)).trans ((s.heardMsg m).tableCut_tripAlike m)
  have htrip := (((s.heardMsg m).tableCut m).trip_tripped m.tgtSlot true (cause := 1) 0 0 (by decide)).of_alike halike (by decide)
  obtain ⟨t, ht, htripped, -⟩ := done_tripped htrip
  rw [clearedReceive_last hk hr hc h hs hl he, if_pos hf]
  exact ⟨t, ht, htripped⟩

theorem clearedReceive_standsDown (hf : s.fastOn m.tgtSlot = false) :
    ∃ t, exec (.clearedReceive m) s = .next t ∧ SlotOnly m.tgtSlot s t ∧ (t.slot m.tgtSlot).st = (s.slot m.tgtSlot).st ∧
      (t.slot m.tgtSlot).terr.sub = .idle ∧ (t.slot m.tgtSlot).terr.entries = [] ∧ t.evtBit (pageNo terrB) 0 = true ∧
      GatesKept s t m.tgtSlot := by
  have hh := s.heardMsg_taken m
  have hless : (s.heardMsg m).tableLess m = s.tableLess m := by simp only [State.tableLess, hh.slot]
  have hcut := (s.heardMsg m).tableCut_slot m
  rw [hless, hl, hh.slot] at hcut
  have hslot := ((s.heardMsg m).tableCut m).standDown_slot m.tgtSlot
  have hsub : (((s.heardMsg m).tableCut m).slot m.tgtSlot).terr.sub = (s.slot m.tgtSlot).terr.sub := by rw [hcut]
  have hevt := State.standDown_evt (hsub.trans hs)
  obtain ⟨t, ht, htslot, hbit, htonly⟩ := done_heard (((s.heardMsg m).tableCut_tripAlike m).only.trans (State.standDown_slotOnly _ m.tgtSlot))
  rw [hslot, hcut] at htslot
  rw [clearedReceive_last hk hr hc h hs hl he, if_neg (by simp [hf])]
  refine ⟨t, ht, htonly, ?_, ?_, ?_, hbit _ _ hevt, ?_, ?_⟩ <;> rw [htslot]

end
end

/-! ## LOCKOUT and RELEASE -/

section
variable (hr : s.inRun = true) (hc : s.repeated m = false) (h : s.refuseReason m = 0)
include hr hc h

theorem lockoutReceive_locks (hk : m.kind = .lockout) (ho : s.outranked m.tgtSlot rankLockout = false)
    (hl : (s.slot m.tgtSlot).st.locksOut = true) (hs : (s.slot m.tgtSlot).trip.unsettled = none) :
    ∃ t, exec (.lockoutReceive m) s = .next t ∧ SlotOnly m.tgtSlot s t ∧ LockedOut s t m.tgtSlot ∧
      (s.gateUp m.tgtSlot = true → Pulled s t m.tgtSlot false) ∧ (s.gateUp m.tgtSlot = false → GatesKept s t m.tgtSlot) := by
  have hh := s.heardMsg_taken m
  obtain ⟨⟨est, eheld, ecnt, ecause, epg, eevt⟩, eA, eB⟩ := State.lockoutEnter_locked (s := s.heardMsg m) (n := m.tgtSlot) (by rwa [hh.slot])
  rw [hh.slot] at eheld ecnt eA eB
  rw [hh.gateUp, hh.now] at eA eB
  rw [hh.backup] at eB
  have hin : (s.heardMsg m).lockoutIn m = (s.heardMsg m).lockoutEnter m.tgtSlot := by
    rw [State.lockoutIn, if_pos (by rw [hh.slot]; exact hl)]
  obtain ⟨t, ht, htslot, hbit, htonly⟩ := done_heard ((s.heardMsg m).lockoutEnter_slotOnly m.tgtSlot)
  rw [← htslot] at est eheld ecnt ecause epg eA eB
  refine ⟨t, ?_, htonly, ⟨est, eheld, ecnt, ecause, epg, hbit _ _ eevt⟩, fun hu => ⟨?_, ?_⟩, fun hu => ⟨?_, ?_⟩⟩
  · rw [lockoutReceive_accepted hr hc h hk ho, hin, ht]
  · rw [eA, if_pos hu]
  · rw [eB, hu, Bool.true_and]
  · rw [eA, hu, if_neg (by decide)]
  · rw [eB, hu, Bool.false_and, if_neg (by decide)]

theorem lockoutReceive_passes (hk : m.kind = .lockout) (ho : s.outranked m.tgtSlot rankLockout = false)
    (hl : (s.slot m.tgtSlot).st.locksOut = false) : ∃ t, exec (.lockoutReceive m) s = .next t ∧ t.slots = s.slots := by
  have hh := s.heardMsg_taken m
  have hin : (s.heardMsg m).lockoutIn m = s.heardMsg m := if_neg (by simp [hh.slot, hl])
  obtain ⟨t, ht, hslots, -⟩ := done_heard_slots hh.slots
  exact ⟨t, by rw [lockoutReceive_accepted hr hc h hk ho, hin, ht], hslots⟩

section
variable (hk : m.kind = .release)
include hk

theorem releaseReceive_passes (hst : (s.slot m.tgtSlot).st ≠ .lockout) : ∃ t, exec (.releaseReceive m) s = .next t ∧ t.slots = s.slots := by
  have hh := s.heardMsg_taken m
  have hin : (s.heardMsg m).releaseIn m = s.heardMsg m := if_neg (by simp [hh.slot, hst])
  obtain ⟨t, ht, hslots, -⟩ := done_heard_slots hh.slots
  exact ⟨t, by rw [releaseReceive_accepted hr hc h hk, hin, ht], hslots⟩

section
variable (hst : (s.slot m.tgtSlot).st = .lockout)
include hst

theorem releaseReceive_leaves : exec (.releaseReceive m) s = done s ((s.heardMsg m).lockoutLeave m.tgtSlot) := by
  have hin : (s.heardMsg m).releaseIn m = (s.heardMsg m).lockoutLeave m.tgtSlot := if_pos (by simp [(s.heardMsg_taken m).slot, hst])
  rw [releaseReceive_accepted hr hc h hk, hin]

theorem releaseReceive_empties (hp : (s.slot m.tgtSlot).presN = false) :
    ∃ t, exec (.releaseReceive m) s = .next t ∧ SlotOnly m.tgtSlot s t ∧ (t.slot m.tgtSlot).st = .empty := by
  have hh := s.heardMsg_taken m
  have honly := ((s.heardMsg m).unlocked_slotOnly m.tgtSlot).trans
    ((State.enter_slotOnly _ m.tgtSlot .empty 0).trans (State.pumpCheck_slotOnly _ m.tgtSlot (dieOf m.tgtSlot)))
  obtain ⟨est, -⟩ := ((s.heardMsg m).unlocked m.tgtSlot).enter_slot m.tgtSlot .empty 0
  obtain ⟨t, ht, htslot, -, htonly⟩ := done_heard honly
  rw [State.slot_pumpCheck] at htslot
  rw [releaseReceive_leaves hr hc h hk hst, State.lockoutLeave_of_absent (by rwa [hh.slot])]
  exact ⟨t, ht, htonly, by rw [htslot, est]⟩

theorem releaseReceive_seats (hp : (s.slot m.tgtSlot).presN = true) (hn : (s.slot m.tgtSlot).trip.removed = true ∨
    ((s.slot m.tgtSlot).held ≠ .waiting ∧ (s.slot m.tgtSlot).held ≠ .charging ∧ (s.slot m.tgtSlot).held ≠ .on)) :
    ∃ t, exec (.releaseReceive m) s = .next t ∧ SlotOnly m.tgtSlot s t ∧ (t.slot m.tgtSlot).st = .seated ∧ (t.slot m.tgtSlot).step = 2 := by
  have hh := s.heardMsg_taken m
  have honly := ((s.heardMsg m).unlocked_slotOnly m.tgtSlot).trans (State.enter_slotOnly _ m.tgtSlot .seated 2)
  obtain ⟨est, -, estep, -⟩ := ((s.heardMsg m).unlocked m.tgtSlot).enter_slot m.tgtSlot .seated 2
  obtain ⟨t, ht, htslot, -, htonly⟩ := done_heard honly
  rw [releaseReceive_leaves hr hc h hk hst, State.lockoutLeave_of_seated (by rwa [hh.slot]) (by rwa [hh.slot])]
  exact ⟨t, ht, htonly, by rw [htslot, est], by rw [htslot, estep]⟩

theorem releaseReceive_waits (hp : (s.slot m.tgtSlot).presN = true) (hn : (s.slot m.tgtSlot).trip.removed = false)
    (hd : (s.slot m.tgtSlot).held = .waiting ∨ (s.slot m.tgtSlot).held = .charging ∨ (s.slot m.tgtSlot).held = .on)
    (hb : s.backup m.tgtSlot = false ∨ (s.offN = false ∧ s.inOr m.tgtSlot (s.slot m.tgtSlot).deg = 0)) :
    ∃ t, exec (.releaseReceive m) s = .next t ∧ SlotOnly m.tgtSlot s t ∧ (t.slot m.tgtSlot).st = .waiting ∧
      (t.slot m.tgtSlot).prev = .lockout := by
  have hh := s.heardMsg_taken m
  have hoff : (s.heardMsg m).offN = s.offN := by simp only [State.offN, hh.pkg]
  obtain ⟨honly, est, eprev⟩ := State.lockoutLeave_waits (s := s.heardMsg m) (n := m.tgtSlot) (by rwa [hh.slot]) (by rwa [hh.slot])
    (by rwa [hh.slot]) (by rwa [hh.slot]) (by rwa [hh.backup, hoff, hh.inOr, hh.slot])
  obtain ⟨t, ht, htslot, -, htonly⟩ := done_heard honly
  rw [releaseReceive_leaves hr hc h hk hst]
  exact ⟨t, ht, htonly, by rw [htslot, est], by rw [htslot, eprev]⟩

end
end

/-! ## UPSTREAM_OPEN -/

section
variable (hk : m.kind = .upstreamOpen) (hst : (s.slot m.tgtSlot).st ≠ .holdthru)
include hk hst

theorem upstreamOpenReceive_trips (hu : s.gateUp m.tgtSlot = true) (ho : s.outranked m.tgtSlot 3 = false) :
    ∃ t, exec (.upstreamOpenReceive m) s = .next t ∧ Tripped s t m.tgtSlot 6 6 true ∧ (t.slot m.tgtSlot).trip.downAddr = m.srcAddr ∧
      (t.slot m.tgtSlot).trip.downSlot = m.srcSlot ∧ (t.slot m.tgtSlot).openWarn = true := by
  have hh := s.heardMsg_taken m
  have htrip := (((s.heardMsg m).trip_tripped m.tgtSlot true (cause := 6) 6 0 (by decide)).of_alike
    (hh.tripAlike (s.heardMsg_slotOnly m m.tgtSlot)) (by decide)).openMarked
  obtain ⟨eaddr, eslot, ewarn⟩ := ((s.heardMsg m).trip m.tgtSlot true 6 6 0).openMarked_slot m
  obtain ⟨t, ht, htripped, htslot⟩ := done_tripped htrip
  rw [upstreamOpenReceive_accepted hr hc h hk, State.upstreamIn_of_trip (by rwa [hh.slot]) ((hh.gateUp _).trans hu) ((hh.outranked_open _).trans ho)]
  exact ⟨t, ht, htripped, by rw [htslot, eaddr], by rw [htslot, eslot], by rw [htslot, ewarn]⟩

theorem upstreamOpenReceive_records (hn : s.gateUp m.tgtSlot = false ∨ s.outranked m.tgtSlot 3 = true) :
    ∃ t, exec (.upstreamOpenReceive m) s = .next t ∧ SlotOnly m.tgtSlot s t ∧ (t.slot m.tgtSlot).st = (s.slot m.tgtSlot).st ∧
      (t.slot m.tgtSlot).openWarn = ((s.slot m.tgtSlot).openWarn || !s.gatesOff m.tgtSlot) ∧ GatesKept s t m.tgtSlot := by
  have hh := s.heardMsg_taken m
  have hslot := (s.heardMsg m).openWarned_slot m.tgtSlot
  rw [hh.slot, hh.gatesOff] at hslot
  obtain ⟨t, ht, htslot, -, htonly⟩ := done_heard (((s.heardMsg m).openWarned_slotOnly m.tgtSlot).trans
    (State.terrRec_slotOnly _ m.tgtSlot m.tgtSlot 0x0244 m.srcAddr m.srcSlot 5 0 0))
  rw [State.slot_terrRec, hslot] at htslot
  rw [upstreamOpenReceive_accepted hr hc h hk, State.upstreamIn_of_record (by rwa [hh.slot]) (by rwa [hh.gateUp, hh.outranked_open])]
  refine ⟨t, ht, htonly, ?_, ?_, ?_, ?_⟩ <;> rw [htslot]

end
end
end

/-- Settles O37: a message is dropped, refused or heard; one that is heard acts on its slot by its kind. -/
theorem terraceMessagesAct : Obligations.TerraceMessagesAct := by
  refine ⟨fun m s hr => ⟨terrCmd_repeated, fun hc h hl => terrCmd_refused hr hc h hl⟩, ?_, ?_, ?_, ?_, ?_⟩
  · intro m e s hk he hr hc h
    subst he
    refine ⟨fun hu hw => ⟨fun hn hl => ?_, fun hn => ?_, fun hn hl => restrainReceive_full hk hr hc h hu hw hn hl⟩, restrainReceive_idle hk hr hc h⟩
    · have hn : s.holdsEntry m = false := hn
      obtain ⟨t, ht, honly, hentries, hrest⟩ := restrainReceive_entered hk hr hc h hu hw (.inr hl)
      exact ⟨t, ht, honly, hentries.trans (if_neg (by simp [hn])), hrest⟩
    · have hn : s.holdsEntry m = true := hn
      obtain ⟨t, ht, honly, hentries, hst, hrest⟩ := restrainReceive_entered hk hr hc h hu hw (.inl hn)
      exact ⟨t, ht, honly, hst, hentries.trans (if_pos hn), hrest⟩
  · intro m l s hk hl hr hc h
    subst hl
    exact ⟨clearedReceive_cut hk hr hc h, fun hs hl he => ⟨clearedReceive_trips hk hr hc h hs hl he, clearedReceive_standsDown hk hr hc h hs hl he⟩⟩
  · intro m s hk hr hc h ho
    refine ⟨fun hl hs => ?_, lockoutReceive_passes hr hc h hk ho⟩
    obtain ⟨t, ht, honly, ⟨hst, hheld, hcnt, hcause, hpg, hevt⟩, hgates⟩ := lockoutReceive_locks hr hc h hk ho hl hs
    exact ⟨t, ht, honly, hst, hheld, hcnt, hcause, hpg, hevt, hgates⟩
  · intro m s hk hr hc h
    exact ⟨fun hst => ⟨releaseReceive_empties hr hc h hk hst, releaseReceive_seats hr hc h hk hst, releaseReceive_waits hr hc h hk hst⟩,
      releaseReceive_passes hr hc h hk⟩
  · intro m s hk hr hc h hst
    exact ⟨upstreamOpenReceive_trips hr hc h hk hst, upstreamOpenReceive_records hr hc h hk hst⟩

end Sys2Proof.Machine
end

section
/-! PROOFS. Rows of the FeRAM: what a row write keeps, and what reads back (O59). -/
namespace Sys2Proof.Machine

/-! ## Bytes within a row (R401, R402) -/

/-- A byte stored at a logical offset. -/
def State.storeByte (s : State) (d o b : Nat) : State :=
  { s with feram := mset 0 s.feram (0x80000 * d + s.physOff d o) (BitVec.ofNat 8 b) }

theorem State.logicalWrite_cons (s : State) (d o b : Nat) (r : List Nat) :
    s.logicalWrite d o (b :: r) = (s.storeByte d o b).logicalWrite d (o + 1) r := rfl

/-- A logical write changes the FeRAM alone. -/
theorem State.logicalWrite_feram (s : State) (d o : Nat) (bytes : List Nat) : ∃ f, s.logicalWrite d o bytes = { s with feram := f } := by
  induction bytes generalizing s o with
  | nil => exact ⟨s.feram, rfl⟩
  | cons b r ih => exact ih (s.storeByte d o b) (o + 1)

/-- Two bytes of one row lie apart, wherever the row lies. -/
theorem State.physOff_ne (s : State) (d : Nat) {a b : Nat} (hrow : a / 64 = b / 64) (h : a ≠ b) : s.physOff d a ≠ s.physOff d b := by
  unfold State.physOff
  rw [hrow]
  split <;> omega

theorem State.logicalByte_storeByte_self (s : State) (d o b : Nat) : (s.storeByte d o b).logicalByte d o = b % 256 := by
  have h : (s.storeByte d o b).logicalByte d o = _ := congrArg BitVec.toNat (mget_mset_self 0 s.feram _ (BitVec.ofNat 8 b))
  exact h.trans (BitVec.toNat_ofNat b 8)

theorem State.logicalByte_storeByte_ne (s : State) (d b : Nat) {o j : Nat} (hrow : j / 64 = o / 64) (h : j ≠ o) :
    (s.storeByte d o b).logicalByte d j = s.logicalByte d j :=
  congrArg BitVec.toNat (mget_mset_ne 0 s.feram _ (fun e => s.physOff_ne d hrow h (Nat.add_left_cancel e)))

/-- A write within a row leaves the bytes of the row before it. -/
theorem State.logicalByte_logicalWrite_before (s : State) (d : Nat) {o j : Nat} {bytes : List Nat}
    (hrow : ∀ k < bytes.length, (o + k) / 64 = j / 64) (h : j < o) : (s.logicalWrite d o bytes).logicalByte d j = s.logicalByte d j := by
  induction bytes generalizing s o with
  | nil => rfl
  | cons b r ih =>
    rw [s.logicalWrite_cons, ih _ (fun k hk => ?_) (by omega), State.logicalByte_storeByte_ne (o := o) s d b (hrow 0 (by simp)).symm (Nat.ne_of_lt h)]
    rw [Nat.add_right_comm]
    exact hrow (k + 1) (by simpa using hk)

/-- A write within a row reads back. -/
theorem State.logicalRead_logicalWrite (s : State) (d : Nat) {o : Nat} {bytes : List Nat} (hrow : ∀ k < bytes.length, (o + k) / 64 = o / 64) :
    (s.logicalWrite d o bytes).logicalRead d o bytes.length = bytes.map (· % 256) := by
  induction bytes generalizing s o with
  | nil => rfl
  | cons b r ih =>
    have hnext (k : Nat) (hk : k < r.length) : (o + 1 + k) / 64 = o / 64 := by
      rw [Nat.add_right_comm]
      exact hrow (k + 1) (by simpa using hk)
    have hrest := ih (s.storeByte d o b) (fun k hk => (hnext k hk).trans (hnext 0 (by omega)).symm)
    have hfirst := (s.storeByte d o b).logicalByte_logicalWrite_before d (o := o + 1) hnext (Nat.lt_succ_self o)
    rw [State.logicalByte_storeByte_self] at hfirst
    rw [s.logicalWrite_cons, List.map_cons, ← hfirst, ← hrest]
    simp only [State.logicalRead, List.length_cons, List.range_succ_eq_map, List.map_cons, List.map_map]
    simp [Function.comp_def, Nat.add_assoc, Nat.add_comm 1]

/-! ## Rows that are written and read back (R402) -/

/-- The die once a row has been written n times in all. -/
def State.rowWorn (s : State) (d row n : Nat) : State := s.modDie d (fun x => { x with rowWear := mset 0 x.rowWear row n })

/-- A row below its limit, whose read-back differs at most once, is written. -/
theorem State.rowWrite_written {s : State} {d row fails : Nat} (hf : fails ≤ 1) (h : mget 0 (s.die d).rowWear row + 1 + fails < rowLimit) :
    s.rowWrite d row fails = (s.rowWorn d row (mget 0 (s.die d).rowWear row + 1 + fails), true) := by
  have hmin : Nat.min fails 1 = fails := Nat.min_eq_left hf
  unfold State.rowWrite
  extract_lets n u bad data
  have hn : n = mget 0 (s.die d).rowWear row + 1 + fails := by simp only [n, hmin]
  rw [if_pos (by simp only [bad, hn, Bool.and_eq_true, Bool.not_eq_true', decide_eq_false_iff_not, decide_eq_true_eq]; omega)]
  rw [← hn]
  rfl

/-- t is s but for the FeRAM and the wear of the rows of die d. -/
structure RowsKept (d : Nat) (s t : State) : Prop where
  slots : t.slots = s.slots
  die : ∃ w, t.die d = { s.die d with rowWear := w }

theorem RowsKept.trans {d : Nat} {s t u : State} (h : RowsKept d s t) (h' : RowsKept d t u) : RowsKept d s u := by
  obtain ⟨w, hw⟩ := h.die
  obtain ⟨w', hw'⟩ := h'.die
  exact ⟨h'.slots.trans h.slots, w', by rw [hw', hw]⟩

theorem State.rowWorn_kept (s : State) (d row n : Nat) : RowsKept d s (s.rowWorn d row n) :=
  ⟨by simp [State.rowWorn], _, s.die_modDie_self d _⟩

/-- One row of a write of several: the row is written, then its share of the bytes. -/
def rowStep (d o : Nat) (bytes : List Nat) (m : State × Bool) (r : Nat) : State × Bool :=
  let w := m.1.rowWrite d r 0
  let a := Nat.max o (64 * r)
  (if w.2 then w.1.logicalWrite d a ((bytes.drop (a - o)).take (64 * r + 64 - a)) else w.1, m.2 && w.2)

theorem State.rowsWrite_eq (s : State) (d o : Nat) (bytes : List Nat) :
    s.rowsWrite d o bytes = ((List.range (cdiv (o % 64 + bytes.length) 64)).map (· + o / 64)).foldl (rowStep d o bytes) (s, true) := rfl

/-- Rows below their limits are all written, each once. -/
theorem rowSteps_written (d o : Nat) (bytes : List Nat) {l : List Nat} (hl : l.Nodup) (s : State)
    (h : ∀ r ∈ l, mget 0 (s.die d).rowWear r + 1 < rowLimit) :
    (l.foldl (rowStep d o bytes) (s, true)).2 = true ∧ RowsKept d s (l.foldl (rowStep d o bytes) (s, true)).1 := by
  induction l generalizing s with
  | nil => exact ⟨rfl, rfl, _, rfl⟩
  | cons r l ih =>
    obtain ⟨hr, hl⟩ := List.nodup_cons.mp hl
    have hw := State.rowWrite_written (s := s) (fails := 0) (Nat.zero_le 1) (h r List.mem_cons_self)
    obtain ⟨f, hf⟩ := (s.rowWorn d r (mget 0 (s.die d).rowWear r + 1 + 0)).logicalWrite_feram d (Nat.max o (64 * r))
      ((bytes.drop (Nat.max o (64 * r) - o)).take (64 * r + 64 - Nat.max o (64 * r)))
    have hstep : rowStep d o bytes (s, true) r = ({ s.rowWorn d r (mget 0 (s.die d).rowWear r + 1 + 0) with feram := f }, true) := by
      simp only [rowStep, hw, hf, Bool.and_true, if_true]
    have hkept : RowsKept d s { s.rowWorn d r (mget 0 (s.die d).rowWear r + 1 + 0) with feram := f } :=
      (s.rowWorn_kept d r _).trans ⟨rfl, _, rfl⟩
    have hwear (k : Nat) (hk : k ∈ l) :
        mget 0 ((s.rowWorn d r (mget 0 (s.die d).rowWear r + 1 + 0)).die d).rowWear k = mget 0 (s.die d).rowWear k := by
      have hkr : k ≠ r := fun e => hr (e ▸ hk)
      rw [State.rowWorn, State.die_modDie_self]
      rw [mget_mset_ne 0 _ _ hkr]
    rw [List.foldl_cons, hstep]
    obtain ⟨hall, hrest⟩ := ih hl { s.rowWorn d r (mget 0 (s.die d).rowWear r + 1 + 0) with feram := f } (fun k hk => (congrArg (· + 1 < rowLimit) (hwear k hk)).mpr (h k (List.mem_cons_of_mem r hk)))
    exact ⟨hall, hkept.trans hrest⟩

theorem State.rowsWrite_written {s : State} {d : Nat} (h : ∀ r, mget 0 (s.die d).rowWear r + 1 < rowLimit) (o : Nat) (bytes : List Nat) :
    (s.rowsWrite d o bytes).2 = true ∧ RowsKept d s (s.rowsWrite d o bytes).1 := by
  rw [s.rowsWrite_eq]
  exact rowSteps_written d o bytes (List.nodup_range.map (add_left_injective (o / 64))) s (fun r _ => h r)

/-! ## The places of the logs past a row write (R402, R419) -/

/-- Every die of t has its log's NEXT, COUNT and oldest record where they were, and t has the slots of s. -/
structure PlacesKept (s t : State) : Prop where
  slots : t.slots = s.slots
  log : ∀ e, (t.die e).log.next = (s.die e).log.next ∧ (t.die e).log.count = (s.die e).log.count ∧ (t.die e).log.oldest = (s.die e).log.oldest

theorem PlacesKept.refl (s : State) : PlacesKept s s := ⟨rfl, fun _ => ⟨rfl, rfl, rfl⟩⟩

section
variable {s v : State} (h : PlacesKept s v)
include h

theorem PlacesKept.of_dies {t : State} (hs : t.slots = v.slots) (hd : t.dies = v.dies) : PlacesKept s t :=
  ⟨hs.trans h.slots, fun e => by rw [State.die_of_dies hd]; exact h.log e⟩

/-- A change of a die that leaves the places of its log. -/
theorem PlacesKept.modDie (d : Nat) {g : Die → Die} (hg : ∀ x, (g x).log.next = x.log.next ∧ (g x).log.count = x.log.count ∧
    (g x).log.oldest = x.log.oldest := by exact fun _ => ⟨rfl, rfl, rfl⟩) : PlacesKept s (v.modDie d g) := by
  refine ⟨Eq.trans (by simp) h.slots, fun e => ?_⟩
  by_cases he : e = d
  · subst he
    rw [State.die_modDie_self]
    obtain ⟨hn, hc, ho⟩ := h.log e
    obtain ⟨gn, gc, go⟩ := hg (v.die e)
    exact ⟨gn.trans hn, gc.trans hc, go.trans ho⟩
  · rw [State.die_modDie_ne v g he]
    exact h.log e

theorem PlacesKept.evt (p : Nat) (bits : List Nat) : PlacesKept s (v.evt p bits) := h.of_dies (by simp) (by simp)

theorem PlacesKept.logPut (d : Nat) (r : Rec) : PlacesKept s (v.logPut d r) := by
  unfold State.logPut
  dsimp only
  split
  · split
    · split
      · exact (h.modDie d).evt _ _
      · exact h.modDie d
    · exact (h.modDie d).evt _ _
  · exact h.modDie d

theorem PlacesKept.logFlush (d : Nat) : PlacesKept s (v.logFlush d) := by
  unfold State.logFlush
  split
  · exact h
  · exact (h.modDie d).logPut d _

theorem PlacesKept.logAdd (d : Nat) (r : Rec) : PlacesKept s (v.logAdd d r) := by
  unfold State.logAdd
  dsimp only
  split
  · split
    · split
      · split
        · exact (h.modDie d).logFlush d
        · exact h.modDie d
      · exact (h.logFlush d).modDie d
    · exact h.modDie d
  · exact (h.logFlush d).logPut d _

theorem PlacesKept.logLead (block inst code : Nat) (data : List Nat) : PlacesKept s (v.logLead block inst code data) := h.logAdd _ _

theorem PlacesKept.logicalWrite (d o : Nat) (bytes : List Nat) : PlacesKept s (v.logicalWrite d o bytes) := by
  obtain ⟨f, hf⟩ := v.logicalWrite_feram d o bytes
  rw [hf]
  exact h.of_dies rfl rfl

theorem PlacesKept.exhausted (kind d inst sub failed : Nat) : PlacesKept s (v.exhausted kind d inst sub failed) :=
  (h.logLead _ _ _ _).evt _ _

theorem PlacesKept.swap (kind d inst sub failed spare : Nat) (x : Int) : PlacesKept s (v.swap kind d inst sub failed spare x) := by
  have ha : PlacesKept s ((v.addSat (nursB + 0x60) 15 0 1).nursRec 0x0600 kind d inst sub failed spare x) :=
    (h.of_dies (by simp) (by simp) : PlacesKept s (v.addSat (nursB + 0x60) 15 0 1)).logLead _ _ _ _
  exact (ha.evt (pageNo nursB) [0]).of_dies (by simp [State.swap]) (by simp [State.swap])

theorem PlacesKept.rowMove (d row : Nat) : PlacesKept s (v.rowMove d row) := by
  unfold State.rowMove
  extract_lets old k u
  have hu : PlacesKept s u := h.modDie d
  exact hu.logicalWrite d _ _

theorem PlacesKept.rowWrite (d row fails : Nat) : PlacesKept s (v.rowWrite d row fails).1 := by
  unfold State.rowWrite
  extract_lets n u bad data w k x
  have hu : PlacesKept s u := h.modDie d
  split
  · exact hu
  · split
    · have hw : PlacesKept s w := (hu.modDie d).evt _ _
      exact (hw.exhausted _ _ _ _ _).logLead _ _ _ _
    · have hx : PlacesKept s x := ((hu.rowMove d row).evt _ _).logLead _ _ _ _
      exact hx.swap _ _ _ _ _ _ _

theorem PlacesKept.keepWrite (d o : Nat) (bytes : List Nat) : PlacesKept s (v.keepWrite d o bytes) := by
  have hstep (m : State × Bool) (r : Nat) (hm : PlacesKept s m.1) : PlacesKept s (rowStep d (keepBase d + o) bytes m r).1 := by
    unfold rowStep
    extract_lets w a
    have hw : PlacesKept s w.1 := hm.rowWrite d r 0
    dsimp only
    split
    · exact hw.logicalWrite d _ _
    · exact hw
  have hsteps (l : List Nat) (m : State × Bool) (hm : PlacesKept s m.1) :
      PlacesKept s (l.foldl (rowStep d (keepBase d + o) bytes) m).1 := by
    induction l generalizing m with
    | nil => exact hm
    | cons r l ih => exact ih _ (hstep m r hm)
  unfold State.keepWrite
  rw [State.rowsWrite_eq]
  exact hsteps _ (v, true) h

end

end Sys2Proof.Machine
end

section
/-! PROOFS. The log and the snapshots (O59). -/
namespace Sys2Proof.Machine

/-! ## The record that is written (R402, R414, R418, R419) -/

@[simp] theorem le_length (n v : Nat) : (le n v).length = n := by
  induction n generalizing v with
  | zero => rfl
  | succ n ih => simp [le, ih]

theorem Rec.bytes_length (d : Nat) {r : Rec} (h : r.data.length = 12) : (r.bytes d).length = 32 := by
  simp [Rec.bytes, h]

/-- A record of 32 bytes lies in one row. -/
theorem logRow (d next : Nat) {k : Nat} (hk : k < 32) : (logBase d + 32 * next + k) / 64 = (logBase d + 32 * next) / 64 := by
  unfold logBase
  split <;> omega

theorem State.die_evt (s : State) (p : Nat) (bits : List Nat) (d : Nat) : (s.evt p bits).die d = s.die d := State.die_of_dies (by simp) d

theorem State.die_evtDie (s : State) (e : Nat) (bits : List Nat) (d : Nat) : (s.evtDie e bits).die d = s.die d := State.die_evt ..

/-- Logical bytes are read from the FeRAM and the row map of their die. -/
theorem State.logicalRead_congr {s t : State} {d : Nat} (hf : t.feram = s.feram) (hm : (t.die d).rowMap = (s.die d).rowMap) (o n : Nat) :
    t.logicalRead d o n = s.logicalRead d o n := by
  simp only [State.logicalRead, State.logicalByte, State.feramByte, State.physOff, hf, hm]

/-- The log of a die once its oldest record is written at NEXT. -/
def DieLog.written (l : DieLog) (rest : List Rec) : DieLog :=
  { l with
    queue := rest, next := (l.next + 1) % 4096, count := sat 4096 (l.count + 1)
    oldest := if l.count == 4096 then (l.oldest + 1) % 4096 else l.oldest }

section
variable {d fails : Nat} {r : Rec} {s : State} {o : Nat} (ho : o = logBase d + 32 * (s.die d).log.next) (hf : fails ≤ 1)
  (hw : mget 0 (s.die d).rowWear (o / 64) + 1 + fails < rowLimit)
include ho hf hw

theorem State.recordWrite_written (rest : List Rec) :
    (s.recordWrite d fails r rest).slots = s.slots ∧ (s.recordWrite d fails r rest).evtBit (pageNo logB) 0 = true ∧
    (s.recordWrite d fails r rest).die d = { s.die d with
      log := (s.die d).log.written rest, rowWear := mset 0 (s.die d).rowWear (o / 64) (mget 0 (s.die d).rowWear (o / 64) + 1 + fails) } ∧
    (r.data.length = 12 → (s.recordWrite d fails r rest).logicalRead d o 32 = (r.bytes d).map (· % 256)) := by
  unfold State.recordWrite
  extract_lets l o' u w v
  have hoo : o' = o := ho.symm
  have hu : u.die d = { s.die d with log := { (s.die d).log with queue := rest } } := s.die_modDie_self d _
  have hus : u.slots = s.slots := by simp [u]
  have hwear : (u.die d).rowWear = (s.die d).rowWear := by rw [hu]
  have hrow : w = (u.rowWorn d (o / 64) (mget 0 (s.die d).rowWear (o / 64) + 1 + fails), true) := by
    rw [← hwear]
    simp only [w, hoo]
    exact State.rowWrite_written hf (by rwa [hwear])
  have hwd : w.1.die d = { u.die d with rowWear := mset 0 (u.die d).rowWear (o / 64) (mget 0 (s.die d).rowWear (o / 64) + 1 + fails) } := by
    rw [hrow]
    exact u.die_modDie_self d _
  have hws : w.1.slots = u.slots := by
    rw [hrow]
    exact (u.rowWorn_kept d _ _).slots
  have hw2 : w.2 = true := by rw [hrow]
  obtain ⟨f, hfer⟩ := w.1.logicalWrite_feram d o' (r.bytes d)
  have hv : v = { w.1 with feram := f } := hfer
  have hread (h12 : r.data.length = 12) : v.logicalRead d o 32 = (r.bytes d).map (· % 256) := by
    have hlen := Rec.bytes_length d h12
    rw [← hlen, ← hoo]
    exact w.1.logicalRead_logicalWrite d (fun k hk => logRow d _ (hlen ▸ hk))
  clear_value u w v
  rw [if_neg (by rw [hw2]; decide)]
  have hvd : v.die d = w.1.die d := State.die_of_dies (by rw [hv]) d
  have hvs : v.slots = w.1.slots := by rw [hv]
  refine ⟨?_, State.evtBit_evt _ _ _ (by decide), ?_, fun h12 => (State.logicalRead_congr ?_ ?_ _ _).trans (hread h12)⟩
  · simpa using hvs.trans (hws.trans hus)
  · rw [State.die_evt, State.die_modDie_self, hvd, hwd, hu]
    rfl
  · simp
  · rw [State.die_evt, State.die_modDie_self]

end

theorem feramRowWrite_done {d fails : Nat} {r : Rec} {rest : List Rec} {s : State} (hq : (s.die d).log.queue = r :: rest)
    (hp : s.present d = true) (hb : s.feramBlocked d = false) (hf : fails ≤ 1)
    (hw : mget 0 (s.die d).rowWear ((logBase d + 32 * (s.die d).log.next) / 64) + 1 + fails < rowLimit) :
    ∃ t, exec (.feramRowWrite d fails) s = .next t ∧ t.die d = { s.die d with
        log := (s.die d).log.written rest
        rowWear := mset 0 (s.die d).rowWear ((logBase d + 32 * (s.die d).log.next) / 64)
          (mget 0 (s.die d).rowWear ((logBase d + 32 * (s.die d).log.next) / 64) + 1 + fails) } ∧
      t.evtBit (pageNo logB) 0 = true ∧ t.slots = s.slots ∧
      (r.data.length = 12 → t.logicalRead d (logBase d + 32 * (s.die d).log.next) 32 = (r.bytes d).map (· % 256)) := by
  obtain ⟨hslots, hevt, hdie, hread⟩ := State.recordWrite_written (r := r) rfl hf hw rest
  have hx : exec (.feramRowWrite d fails) s = done s (s.recordWrite d fails r rest) := by
    simp [exec, execFeramRowWrite, hp, hb, hq]
  generalize s.recordWrite d fails r rest = u at hslots hevt hdie hread hx
  obtain ⟨t, ht, tslots, tdies, tferam, -⟩ := done_kept s u
  have htd := State.die_of_dies tdies d
  exact ⟨t, hx.trans ht, htd.trans hdie, done_keeps_bit ht _ _ hevt, tslots.trans hslots,
    fun h12 => (State.logicalRead_congr tferam (by rw [htd]) _ _).trans (hread h12)⟩

/-! ## The coalesced record (R423) -/

theorem State.logPut_coal (s : State) (d : Nat) (r : Rec) : ((s.logPut d r).die d).log.coal = (s.die d).log.coal := by
  unfold State.logPut
  dsimp only
  split
  · split
    · split
      · rw [State.die_evtDie, State.die_modDie_self]
      · rw [State.die_modDie_self]
    · rw [State.die_evtDie, State.die_modDie_self]
  · rw [State.die_modDie_self]

theorem coalesceFlush_done {d : Nat} {r : Rec} {s : State} (hc : (s.die d).log.coal = some r) (hr : s.runs d = true)
    (hw : r.at_ + s.rf (logB + 0x40) 13 0 * MS ≤ s.now) :
    ∃ t, exec (.coalesceFlush d) s = .next t ∧ (t.die d).log.coal = none ∧ t.slots = s.slots ∧ t.feram = s.feram ∧ t.regs = s.regs := by
  have hx : exec (.coalesceFlush d) s = done s (s.logFlush d) := by simp [exec, execCoalesceFlush, hc, hr, hw]
  have hcoal : ((s.logFlush d).die d).log.coal = none := by
    simp only [State.logFlush, hc]
    rw [State.logPut_coal, State.die_modDie_self]
  obtain ⟨t, ht, -⟩ := done_kept s (s.logFlush d)
  obtain ⟨tslots, tdies, tregs, tferam, -⟩ := done_fields ht
  exact ⟨t, hx.trans ht, by rw [State.die_of_dies tdies]; exact hcoal, tslots.trans (by simp), tferam.trans (by simp), tregs.trans (by simp)⟩

/-! ## A record that is read (R421) -/

/-- A field at the foot of a word reads what was set in it. -/
theorem fld_setFld_low (w : Word) (v : Nat) : fld (setFld w 11 0 v) 11 0 = v % 4096 := by
  unfold fld setFld
  have hw := w.isLt
  simp only [BitVec.toNat_ofNat]
  omega

/-- A read that is served and not refused is what its row makes of it (R392). -/
theorem State.readAt_served {s : State} (ini : Ini) {a : Nat} (act : State → State) (hs : s.serving = true) (hr : s.refusal a = 0) :
    s.readAt ini a act = act s := by
  have h := hs
  simp only [State.serving, Bool.and_eq_true] at h
  obtain ⟨⟨hrun, -⟩, hlead⟩ := h
  simp [State.readAt, hrun, hlead, hs, hr]

theorem logRead_done (ini : Ini) {s : State} (hs : s.serving = true) (hr : s.refusal (logB + 0x48) = 0)
    (hb : bit (s.reg (logB + 0x44)) 31 = true) :
    ∃ t, exec (.logRead ini) s = .next t ∧ t.rsp.length = 1 ∧ t.rf (logB + 0x44) 11 0 = (s.rf (logB + 0x44) 11 0 + 1) % 4096 ∧
      t.slots = s.slots ∧ t.dies = s.dies ∧ t.feram = s.feram := by
  have hx : exec (.logRead ini) s = done s (s.recRead ini) :=
    congrArg (done s) (s.readAt_served ini (fun s => s.recRead ini) hs hr)
  have hrec : (s.recRead ini).rsp.length = 1 ∧ (s.recRead ini).rf (logB + 0x44) 11 0 = (s.rf (logB + 0x44) 11 0 + 1) % 4096 ∧
      (s.recRead ini).slots = s.slots ∧ (s.recRead ini).dies = s.dies ∧ (s.recRead ini).feram = s.feram := by
    unfold State.recRead
    extract_lets p d b w u v
    have hv : v = u.setRf (logB + 0x44) 11 0 (fld p 11 0 + 1) := if_pos hb
    have hf : v.rf (logB + 0x44) 11 0 = (fld p 11 0 + 1) % 4096 := by
      rw [hv, State.rf, State.setRf, State.reg_setReg_self, fld_setFld_low]
    have hus : u.slots = s.slots := by simp [u]
    have hud : u.dies = s.dies := by simp [u]
    have huf : u.feram = s.feram := by simp [u]
    clear_value u v
    subst hv
    exact ⟨rfl, hf, hus, hud, huf⟩
  obtain ⟨hrsp, hreg, hslots, hdies, hferam⟩ := hrec
  generalize s.recRead ini = u at *
  obtain ⟨t, ht, -⟩ := done_kept s u
  obtain ⟨tslots, tdies, tregs, tferam, -, -, -, -, -, -, -, -, -, -, -, -, trsp, -⟩ := done_fields ht
  exact ⟨t, hx.trans ht, by rw [trsp, hrsp], (congrArg (fld · 11 0) (State.reg_of_regs tregs _)).trans hreg, tslots.trans hslots,
    tdies.trans hdies, tferam.trans hferam⟩

/-! ## The log that is cleared (R422) -/

/-- One die of a clear: its log is emptied up to NEXT, and the keep area says so. -/
def State.wipeLog (s : State) (d : Nat) : State :=
  (s.modDie d (fun x => { x with log := { x.log with oldest := (s.die d).log.next, count := 0 } })).keepWrite d 0 (le 2 (s.die d).log.next)

/-- Die d of s has no record that a reader has not taken, up to NEXT as it stood. -/
structure Wiped (d n : Nat) (s : State) : Prop where
  next : (s.die d).log.next = n
  count : (s.die d).log.count = 0
  oldest : (s.die d).log.oldest = n

theorem PlacesKept.wiped {d n : Nat} {s t : State} (h : PlacesKept s t) (hw : Wiped d n s) : Wiped d n t := by
  obtain ⟨hn, hc, ho⟩ := h.log d
  exact ⟨hn.trans hw.next, hc.trans hw.count, ho.trans hw.oldest⟩

theorem State.wipeLog_slots (s : State) (d : Nat) : (s.wipeLog d).slots = s.slots :=
  ((PlacesKept.refl (s.modDie d _)).keepWrite d 0 _).slots.trans (by simp)

theorem State.wipeLog_next (s : State) (d e : Nat) : ((s.wipeLog e).die d).log.next = (s.die d).log.next := by
  refine (((PlacesKept.refl (s.modDie e _)).keepWrite e 0 _).log d).1.trans ?_
  by_cases he : d = e
  · subst he
    rw [State.die_modDie_self]
  · rw [State.die_modDie_ne s _ he]

theorem State.wipeLog_self (s : State) (d : Nat) : Wiped d (s.die d).log.next (s.wipeLog d) := by
  refine ((PlacesKept.refl (s.modDie d _)).keepWrite d 0 _).wiped ⟨?_, ?_, ?_⟩ <;> rw [State.die_modDie_self]

theorem State.wipeLog_wiped {s : State} {d n : Nat} (h : Wiped d n s) (e : Nat) : Wiped d n (s.wipeLog e) := by
  by_cases he : d = e
  · subst he
    rw [← h.next]
    exact s.wipeLog_self d
  · refine ((PlacesKept.refl (s.modDie e _)).keepWrite e 0 _).wiped ⟨?_, ?_, ?_⟩ <;> rw [State.die_modDie_ne s _ he]
    · exact h.next
    · exact h.count
    · exact h.oldest

theorem State.each_wipeLog (s : State) (l : List Nat) : (s.each l (fun d s => s.wipeLog d)).slots = s.slots ∧
    (∀ d, ((s.each l (fun d s => s.wipeLog d)).die d).log.next = (s.die d).log.next) ∧
    (∀ d n, Wiped d n s ∨ (d ∈ l ∧ (s.die d).log.next = n) → Wiped d n (s.each l (fun d s => s.wipeLog d))) := by
  induction l generalizing s with
  | nil => exact ⟨rfl, fun _ => rfl, fun d n h => h.resolve_right (by simp)⟩
  | cons e l ih =>
    obtain ⟨hslots, hnext, hwiped⟩ := ih (s.wipeLog e)
    refine ⟨hslots.trans (s.wipeLog_slots e), fun d => (hnext d).trans (s.wipeLog_next d e), fun d n h => hwiped d n ?_⟩
    rcases h with h | ⟨hd, hn⟩
    · exact .inl (State.wipeLog_wiped h e)
    · rcases List.mem_cons.mp hd with rfl | hd
      · exact .inl (hn ▸ s.wipeLog_self d)
      · exact .inr ⟨hd, (s.wipeLog_next d e).trans hn⟩

theorem State.mem_presentDies {s : State} {d : Nat} (h : s.present d = true) : d ∈ s.presentDies := by
  have hd : d < 8 := by
    simp only [State.present, State.fitted, Bool.and_eq_true, decide_eq_true_eq] at h
    have h8 (p : Part) : p.dies ≤ 8 := by cases p <;> decide
    exact h.1.trans_le (h8 _)
  exact List.mem_filter.mpr ⟨List.mem_range.mpr hd, h⟩

section
variable {s : State} {mask d : Nat} (hp : s.present d = true) (hm : nbit mask d = true)
include hp hm

theorem State.mem_clearDies : d ∈ s.presentDies.filter (nbit mask) := List.mem_filter.mpr ⟨State.mem_presentDies hp, hm⟩

theorem State.clearDies_isEmpty : (s.presentDies.filter (nbit mask)).isEmpty = false :=
  List.isEmpty_eq_false_iff.mpr (List.ne_nil_of_mem (State.mem_clearDies hp hm))

theorem State.logWipe_of_blocked (hb : (s.presentDies.filter (nbit mask)).any s.feramBlocked = true) :
    s.logWipe mask = s.reject (pageNo logB) := by
  simp only [State.logWipe, State.clearDies_isEmpty hp hm, hb, if_true, if_false, Bool.false_eq_true]

theorem State.logWipe_wiped (hb : (s.presentDies.filter (nbit mask)).any s.feramBlocked = false) :
    (s.logWipe mask).slots = s.slots ∧ Wiped d (s.die d).log.next (s.logWipe mask) := by
  obtain ⟨hslots, -, hwiped⟩ := s.each_wipeLog (s.presentDies.filter (nbit mask))
  have hw := hwiped d (s.die d).log.next (.inr ⟨State.mem_clearDies hp hm, rfl⟩)
  have hx : s.logWipe mask = ((s.each (s.presentDies.filter (nbit mask)) (fun d s => s.wipeLog d)).evt (pageNo logB) [2]).logLead 10 0 0x0006
      [mask % 256] := by
    unfold State.logWipe
    dsimp only
    rw [if_neg (by rw [State.clearDies_isEmpty hp hm]; decide), if_neg (by rw [hb]; decide)]
    rfl
  have hk := ((PlacesKept.refl (s.each (s.presentDies.filter (nbit mask)) (fun d s => s.wipeLog d))).evt (pageNo logB) [2]).logLead 10 0 0x0006
    [mask % 256]
  rw [hx]
  exact ⟨hk.slots.trans hslots, hk.wiped hw⟩

theorem logClear_done (ini : Ini) (ht : s.takesLocked ini (logB + 0x70) = true)
    (hb : (s.presentDies.filter (nbit mask)).any s.feramBlocked = false) :
    ∃ t, exec (.logClear ini mask) s = .next t ∧ (t.die d).log.count = 0 ∧ (t.die d).log.oldest = (s.die d).log.next ∧ t.slots = s.slots := by
  obtain ⟨pg, hpg⟩ := s.write_takenLocked ini _ (fun s => s.logWipe mask) ht
  obtain ⟨hslots, -, hcount, holdest⟩ := State.logWipe_wiped (s := { s with pages := pg }) hp hm hb
  have hx : exec (.logClear ini mask) s = done s (State.logWipe { s with pages := pg } mask) := congrArg (done s) hpg
  obtain ⟨t, hnext, tslots, tdies, -⟩ := done_kept s (State.logWipe { s with pages := pg } mask)
  have htd := State.die_of_dies tdies d
  exact ⟨t, hx.trans hnext, by rw [htd, hcount], by rw [htd, holdest]; rfl, tslots.trans hslots⟩

theorem logClear_refused (ini : Ini) (ht : s.takesLocked ini (logB + 0x70) = true)
    (hb : (s.presentDies.filter (nbit mask)).any s.feramBlocked = true) :
    ∃ t, exec (.logClear ini mask) s = .next t ∧ Quiet s t ∧ t.evtBit (pageNo logB) 31 = true := by
  obtain ⟨pg, hpg⟩ := s.write_takenLocked ini _ (fun s => s.logWipe mask) ht
  have hrej := State.logWipe_of_blocked (s := { s with pages := pg }) hp hm hb
  have hx : exec (.logClear ini mask) s = done s (State.reject { s with pages := pg } (pageNo logB)) := congrArg (done s) (hpg.trans hrej)
  obtain ⟨t, hnext, hquiet⟩ := done_pages s (u := State.reject { s with pages := pg } (pageNo logB)) ⟨_, rfl⟩
  exact ⟨t, hx.trans hnext, hquiet, done_keeps_bit hnext _ _ (State.evtBit_evt _ (pageNo logB) 31 (by decide))⟩

end

/-! ## Snapshots (R147, R148, R403, R424) -/

/-- An entry that reads something lies in its list. -/
theorem lt_of_getD_some {α : Type} {l : List (Option α)} {b : Nat} {x : α} (h : l.getD b none = some x) : b < l.length := by
  by_contra hb
  rw [List.getD_eq_default l none (Nat.le_of_not_lt hb)] at h
  exact nomatch h

theorem getD_set_self {α : Type} {l : List (Option α)} {b : Nat} (hb : b < l.length) (y : Option α) : (l.set b y).getD b none = y := by
  simp [List.getD, hb]

section
variable {d b : Nat} {sn : Snap} {s : State} (hg : (s.die d).snaps.getD b none = some sn) (hr : s.runs d = true)
include hg hr

theorem snapshotComplete_done (hp : 2048 ≤ sn.post) :
    ∃ t, exec (.snapshotComplete d b) s = .next t ∧ (t.die d).snaps.getD b none = some { sn with full := true, fullAt := s.now } ∧
      t.slots = s.slots ∧ t.feram = s.feram ∧ t.regs = s.regs := by
  obtain ⟨t, ht, hq⟩ := done_modDie s d (fun x => { x with snaps := x.snaps.set b (some { sn with full := true, fullAt := s.now }) })
  have hx : exec (.snapshotComplete d b) s = .next t := by
    rw [← ht]
    simp only [exec, execSnapshotComplete, hg, hr, hp, decide_true, Bool.and_self, if_true]
  have hdie : t.die d = _ := (State.die_of_dies hq.dies d).trans (s.die_modDie_self d _)
  exact ⟨t, hx, by rw [hdie]; exact getD_set_self (lt_of_getD_some hg) _, hq.slots.trans (by simp), hq.feram.trans (by simp), hq.regs.trans (by simp)⟩

omit hr in
theorem snapshotSaved_waits (h : s.logWaits d = true ∨ s.snapSpaced d sn = false) :
    ∃ t, exec (.snapshotSaved d b) s = .next t ∧ Quiet s t := by
  have hx : exec (.snapshotSaved d b) s = done s s := by
    simp only [exec, execSnapshotSaved, hg]
    rw [if_pos (by rcases h with h | h <;> simp [h])]
  rw [hx]
  exact done_self s

theorem snapshotSaved_done (hb : s.feramBlocked d = false) (hf : sn.full = true) (hl : s.logWaits d = false) (hsp : s.snapSpaced d sn = true)
    (hw : ∀ r, mget 0 (s.die d).rowWear r + 1 < rowLimit) :
    ∃ t, exec (.snapshotSaved d b) s = .next t ∧ (t.die d).snaps.getD b none = none ∧ (t.die d).last = (s.die d).last.set b (some sn) ∧
      (t.die d).log.snapSlot = ((s.die d).log.snapSlot + 1) % snapSlots d ∧ t.slots = s.slots := by
  obtain ⟨hall, hslots, w, hdie⟩ := State.rowsWrite_written hw (snapBase d + 0x4040 * (s.die d).log.snapSlot) sn.bytes
  have hx : exec (.snapshotSaved d b) s = done s ((s.rowsWrite d (snapBase d + 0x4040 * (s.die d).log.snapSlot) sn.bytes).1.modDie d (fun x =>
      { x with
        snaps := x.snaps.set b none, last := x.last.set b (some sn)
        log := { x.log with snapAt := some s.now, snapSlot := ((s.die d).log.snapSlot + 1) % snapSlots d } })) := by
    simp only [exec, execSnapshotSaved, hg, hall, if_true]
    rw [if_neg (by simp [hr, hb, hf, hl, hsp])]
  generalize (s.rowsWrite d (snapBase d + 0x4040 * (s.die d).log.snapSlot) sn.bytes).1 = u at hslots hdie hx
  obtain ⟨t, ht, tslots, tdies, -⟩ := done_kept s (u.modDie d (fun x =>
      { x with
        snaps := x.snaps.set b none, last := x.last.set b (some sn)
        log := { x.log with snapAt := some s.now, snapSlot := ((s.die d).log.snapSlot + 1) % snapSlots d } }))
  have htd : t.die d = _ := (State.die_of_dies tdies d).trans (u.die_modDie_self d _)
  rw [hdie] at htd
  refine ⟨t, hx.trans ht, ?_, ?_, ?_, tslots.trans (Eq.trans (by simp) hslots)⟩ <;> rw [htd]
  exact getD_set_self (lt_of_getD_some hg) none

end

/-- Settles O59: a row that takes its write keeps the die but for its wear, and a record lies in one row, which reads back. -/
theorem logAndSnapshots : Obligations.LogAndSnapshots := by
  refine ⟨fun d fails r rest s hq hp hb hf hw => ?_, fun d r s hc hr hw => coalesceFlush_done hc hr hw, fun ini s hs hr hb => logRead_done ini hs hr hb,
    fun ini mask d s ht hp hm => ⟨logClear_done hp hm ini ht, logClear_refused hp hm ini ht⟩,
    fun d b sn s hg hr hp => snapshotComplete_done hg hr hp,
    fun d b sn s hg hr hb hf => ⟨snapshotSaved_done hg hr hb hf, snapshotSaved_waits hg⟩⟩
  obtain ⟨t, ht, hdie, hevt, hslots, hread⟩ := feramRowWrite_done hq hp hb hf (by omega)
  exact ⟨t, ht, by rw [hdie]; rfl, by rw [hdie]; rfl, by rw [hdie]; rfl, hevt, hslots, by rw [hdie]; exact mget_mset_self .., hread⟩

end Sys2Proof.Machine
end

section
/-! PROOFS. What a save leaves beside the FeRAM, and that both of its copies are written (O58). -/
namespace Sys2Proof.Machine

/-! ## Rows past the configuration and the slots (R402) -/

/-- t has the configuration store and the slots of s. -/
structure CfgKept (s t : State) : Prop where
  cfg : t.cfg = s.cfg
  slots : t.slots = s.slots

theorem CfgKept.trans {s t u : State} (h : CfgKept s t) (h' : CfgKept t u) : CfgKept s u :=
  ⟨h'.cfg.trans h.cfg, h'.slots.trans h.slots⟩

theorem State.modDie_cfgKept (s : State) (d : Nat) (g : Die → Die) : CfgKept s (s.modDie d g) := ⟨by simp, by simp⟩

theorem State.logicalWrite_cfgKept (s : State) (d o : Nat) (bytes : List Nat) : CfgKept s (s.logicalWrite d o bytes) := by
  obtain ⟨f, hf⟩ := s.logicalWrite_feram d o bytes
  rw [hf]
  exact ⟨rfl, rfl⟩

theorem State.rowMove_cfgKept (s : State) (d row : Nat) : CfgKept s (s.rowMove d row) :=
  (s.modDie_cfgKept d _).trans (State.logicalWrite_cfgKept _ d _ _)

theorem State.rowWrite_cfgKept (s : State) (d row fails : Nat) : CfgKept s (s.rowWrite d row fails).1 := by
  unfold State.rowWrite
  extract_lets n u bad data w k x
  have hu : CfgKept s u := s.modDie_cfgKept d _
  split
  · exact hu
  · split
    · exact ⟨by simp [w, hu.cfg], by simp [w, hu.slots]⟩
    · have hm := hu.trans (u.rowMove_cfgKept d row)
      exact ⟨by simp [x, hm.cfg], by simp [x, hm.slots]⟩

theorem rowStep_cfgKept (d o : Nat) (bytes : List Nat) (m : State × Bool) (r : Nat) : CfgKept m.1 (rowStep d o bytes m r).1 := by
  have hw := m.1.rowWrite_cfgKept d r 0
  unfold rowStep
  dsimp only
  split
  · exact hw.trans (State.logicalWrite_cfgKept _ d _ _)
  · exact hw

/-- A fold whose steps each keep the configuration and the slots keeps them. -/
theorem CfgKept.foldl {α β : Type} {g : β → State} {f : β → α → β} (hf : ∀ m x, CfgKept (g m) (g (f m x))) (l : List α) (m : β) :
    CfgKept (g m) (g (l.foldl f m)) := by
  induction l generalizing m with
  | nil => exact ⟨rfl, rfl⟩
  | cons x l ih => exact (hf m x).trans (ih _)

theorem State.rowsWrite_cfgKept (s : State) (d o : Nat) (bytes : List Nat) : CfgKept s (s.rowsWrite d o bytes).1 := by
  rw [s.rowsWrite_eq]
  exact CfgKept.foldl (g := Prod.fst) (rowStep_cfgKept d o bytes) _ (s, true)

/-! ## Rows past the other dies (R402) -/

/-- A row below its limit is written, and its die wears by one write. -/
theorem rowStep_written (d o : Nat) (bytes : List Nat) {s : State} {r : Nat} (h : mget 0 (s.die d).rowWear r + 1 < rowLimit) :
    ∃ f, rowStep d o bytes (s, true) r = ({ s.rowWorn d r (mget 0 (s.die d).rowWear r + 1) with feram := f }, true) := by
  obtain ⟨f, hf⟩ := (s.rowWorn d r (mget 0 (s.die d).rowWear r + 1)).logicalWrite_feram d (Nat.max o (64 * r))
    ((bytes.drop (Nat.max o (64 * r) - o)).take (64 * r + 64 - Nat.max o (64 * r)))
  exact ⟨f, by simp only [rowStep, State.rowWrite_written (Nat.zero_le 1) h, Nat.add_zero, hf, Bool.and_true, if_true]⟩

/-- Rows of one die that are below their limits are written without a trace on another die. -/
theorem rowSteps_die_ne (d o : Nat) (bytes : List Nat) {e : Nat} (he : e ≠ d) {l : List Nat} (hl : l.Nodup) (s : State)
    (h : ∀ r ∈ l, mget 0 (s.die d).rowWear r + 1 < rowLimit) : (l.foldl (rowStep d o bytes) (s, true)).1.die e = s.die e := by
  induction l generalizing s with
  | nil => rfl
  | cons r l ih =>
    obtain ⟨hr, hl⟩ := List.nodup_cons.mp hl
    obtain ⟨f, hf⟩ := rowStep_written d o bytes (h r List.mem_cons_self)
    have hwear (k : Nat) (hk : k ∈ l) :
        mget 0 ((s.rowWorn d r (mget 0 (s.die d).rowWear r + 1)).die d).rowWear k = mget 0 (s.die d).rowWear k := by
      rw [State.rowWorn, State.die_modDie_self]
      rw [mget_mset_ne 0 _ _ (fun e : k = r => hr (e ▸ hk))]
    have hrest := ih hl { s.rowWorn d r (mget 0 (s.die d).rowWear r + 1) with feram := f }
      (fun k hk => (congrArg (· + 1 < rowLimit) (hwear k hk)).mpr (h k (List.mem_cons_of_mem r hk)))
    have hfirst : (s.rowWorn d r (mget 0 (s.die d).rowWear r + 1)).die e = s.die e := s.die_modDie_ne _ he
    rw [List.foldl_cons, hf]
    exact hrest.trans hfirst

theorem State.rowsWrite_die_ne {s : State} {d e : Nat} (he : e ≠ d) (h : ∀ r, mget 0 (s.die d).rowWear r + 1 < rowLimit) (o : Nat)
    (bytes : List Nat) : (s.rowsWrite d o bytes).1.die e = s.die e := by
  rw [s.rowsWrite_eq]
  exact rowSteps_die_ne d o bytes he (List.nodup_range.map (add_left_injective (o / 64))) s (fun r _ => h r)

/-! ## The copies of a save (R408, R411) -/

/-- One die of a save: its copy is written. -/
def copyStep (v : Save) (m : State × Bool) (d : Nat) : State × Bool :=
  let x := m.1.rowsWrite d (copyBase v.copy) v.image
  (x.1, m.2 && x.2)

/-- The state once the copies of a save are written to dies, and whether no row was lost. -/
def State.copiesWrite (s : State) (v : Save) (ds : List Nat) : State × Bool := ds.foldl (copyStep v) (s, true)

/-- The state once the copies of a save that failed are broken. -/
def State.copiesBreak (s : State) (v : Save) (ds : List Nat) : State := s.each ds (fun d s => s.copyBreak d v.copy)

theorem State.copiesWrite_cfgKept (s : State) (v : Save) (ds : List Nat) : CfgKept s (s.copiesWrite v ds).1 :=
  CfgKept.foldl (g := Prod.fst) (f := copyStep v) (fun m d => m.1.rowsWrite_cfgKept d _ _) ds (s, true)

theorem State.copiesBreak_cfgKept (s : State) (v : Save) (ds : List Nat) : CfgKept s (s.copiesBreak v ds) :=
  CfgKept.foldl (g := id) (fun (u : State) d => u.logicalWrite_cfgKept d _ _) ds s

/-- On dies whose rows are below their limits no row of a copy is lost. -/
theorem State.copiesWrite_written {s : State} (v : Save) {ds : List Nat} (hds : ds.Nodup)
    (h : ∀ d ∈ ds, ∀ r, mget 0 (s.die d).rowWear r + 1 < rowLimit) : (s.copiesWrite v ds).2 = true := by
  unfold State.copiesWrite
  induction ds generalizing s with
  | nil => rfl
  | cons d ds ih =>
    obtain ⟨hd, hds⟩ := List.nodup_cons.mp hds
    have hw := h d List.mem_cons_self
    have hstep : copyStep v (s, true) d = ((s.rowsWrite d (copyBase v.copy) v.image).1, true) := by
      simp [copyStep, (State.rowsWrite_written hw _ _).1]
    rw [List.foldl_cons, hstep]
    refine ih hds (fun e he => ?_)
    rw [State.rowsWrite_die_ne (fun hed : e = d => hd (hed ▸ he)) hw]
    exact h e (List.mem_cons_of_mem d he)

theorem State.storeDies_nodup (s : State) : s.storeDies.Nodup := List.Nodup.filter _ (by decide)

/-! ## The end of a save (R411, R413) -/

/-- The state in which the copies of a save are written: the save is over, and a stage that was committed is closed. -/
def State.saveOver (s : State) (v : Save) : State :=
  s.modCfg (fun c => { c with save := none, stage := if v.op == 2 then none else c.stage })

theorem State.saveEnd_cfg (s : State) (op status records : Nat) :
    (s.saveEnd op status records).cfg = { s.cfg with result := records + status * 2 ^ 16 + op * 2 ^ 24 } := by
  unfold State.saveEnd
  dsimp only
  split <;> simp [State.modCfg]

/-- A save that failed ends with status 12. -/
def State.saveFailed (s : State) (v : Save) (ds : List Nat) : State := (s.copiesBreak v ds).saveEnd v.op 12 0

/-- A save whose copies are written ends with its record. -/
def State.saveWritten (s : State) (v : Save) (both : Bool) : State :=
  (s.logLead 9 0 0x0003 ([v.copy + 1, v.op] ++ le 4 v.seq ++ le 2 v.records ++ [b2n both])).saveEnd v.op (if both then 0 else 1) v.records

/-- What SAVE_DONE makes of a save that may end. -/
def State.saveEnded (s : State) (v : Save) (ok : Bool) : State :=
  let w := (s.saveOver v).copiesWrite v s.storeDies
  if !ok then (s.saveOver v).saveFailed v s.storeDies
  else if !w.2 then w.1.saveFailed v s.storeDies
  else w.1.saveWritten v (decide (s.storeDies.length = 2))

section
variable {v : Save} {s : State}

/-- A save that ended left no save in the store, with the slots as they were. -/
theorem CfgKept.saveEnd_over {u : State} (h : CfgKept (s.saveOver v) u) (op status records : Nat) :
    (u.saveEnd op status records).cfg.save = none ∧ (u.saveEnd op status records).slots = s.slots ∧
      (u.saveEnd op status records).cfg.result = records + status * 2 ^ 16 + op * 2 ^ 24 := by
  rw [State.saveEnd_cfg, h.cfg]
  exact ⟨rfl, Eq.trans (by simp) (h.slots.trans (by simp [State.saveOver])), rfl⟩

theorem State.saveFailed_over {u : State} (h : CfgKept (s.saveOver v) u) (ds : List Nat) :
    (u.saveFailed v ds).cfg.save = none ∧ (u.saveFailed v ds).slots = s.slots ∧
      (u.saveFailed v ds).cfg.result = 12 * 2 ^ 16 + v.op * 2 ^ 24 := by
  have he := (h.trans (u.copiesBreak_cfgKept v ds)).saveEnd_over v.op 12 0
  rwa [Nat.zero_add] at he

theorem State.saveWritten_over {u : State} (h : CfgKept (s.saveOver v) u) (both : Bool) :
    (u.saveWritten v both).cfg.save = none ∧ (u.saveWritten v both).slots = s.slots ∧
      (u.saveWritten v both).cfg.result = v.records + (if both then 0 else 1) * 2 ^ 16 + v.op * 2 ^ 24 :=
  CfgKept.saveEnd_over (h.trans ⟨by simp, by simp⟩) _ _ _

theorem State.saveEnded_over (ok : Bool) : (s.saveEnded v ok).cfg.save = none ∧ (s.saveEnded v ok).slots = s.slots := by
  have hw := (s.saveOver v).copiesWrite_cfgKept v s.storeDies
  unfold State.saveEnded
  dsimp only
  split
  · obtain ⟨hsave, hslots, -⟩ := State.saveFailed_over (s := s) (v := v) (u := s.saveOver v) ⟨rfl, rfl⟩ s.storeDies
    exact ⟨hsave, hslots⟩
  · split
    · obtain ⟨hsave, hslots, -⟩ := State.saveFailed_over hw s.storeDies
      exact ⟨hsave, hslots⟩
    · obtain ⟨hsave, hslots, -⟩ := State.saveWritten_over hw (decide (s.storeDies.length = 2))
      exact ⟨hsave, hslots⟩

/-- Where no row of the store is near its limit the save ends with its records, and says whether both dies hold the copy (R411). -/
theorem State.saveEnded_result (h : ∀ d r, mget 0 (s.die d).rowWear r + 1 < rowLimit) :
    (s.saveEnded v true).cfg.result = v.records + (if s.storeDies.length = 2 then 0 else 1) * 2 ^ 16 + v.op * 2 ^ 24 := by
  have hw := State.copiesWrite_written (s := s.saveOver v) v s.storeDies_nodup (fun d _ => h d)
  obtain ⟨-, -, hres⟩ := State.saveWritten_over ((s.saveOver v).copiesWrite_cfgKept v s.storeDies) (decide (s.storeDies.length = 2))
  unfold State.saveEnded
  simp only [hw]
  simpa using hres

variable (hv : s.cfg.save = some v)
include hv

/-- SAVE_DONE waits for the log records of the store's dies and while a FeRAM of them is blocked (R173, R403). -/
theorem saveDone_waits (ok : Bool) (h : s.storeDies.any s.logWaits = true ∨ s.storeDies.any s.feramBlocked = true) :
    ∃ t, exec (.saveDone ok) s = .next t ∧ Quiet s t := by
  have hx : exec (.saveDone ok) s = done s s := by
    simp only [exec, execSaveDone, hv]
    rw [if_pos (by rcases h with h | h <;> simp [h])]
  rw [hx]
  exact done_self s

variable (hr : s.inRun = true) (hl : s.storeDies.any s.logWaits = false) (hb : s.storeDies.any s.feramBlocked = false)
include hr hl hb

theorem exec_saveDone (ok : Bool) : exec (.saveDone ok) s = done s (s.saveEnded v ok) := by
  simp only [exec, execSaveDone, hv]
  rw [if_neg (by simp [hr, hl, hb])]
  rfl

theorem saveDone_ends (ok : Bool) : ∃ t, exec (.saveDone ok) s = .next t ∧ t.slots = s.slots ∧ t.cfg = (s.saveEnded v ok).cfg ∧
    t.cfg.save = none := by
  obtain ⟨hsave, hslots⟩ := s.saveEnded_over (v := v) ok
  obtain ⟨t, ht⟩ : ∃ t, done s (s.saveEnded v ok) = .next t := ⟨_, done_next ..⟩
  obtain ⟨tslots, -, -, -, -, -, -, -, tcfg, -⟩ := done_fields ht
  exact ⟨t, (exec_saveDone hv hr hl hb ok).trans ht, tslots.trans hslots, tcfg, by rw [tcfg, hsave]⟩

end

/-! ## SAVE and the stage (R411, R412, R413) -/

/-- The save of the records that differ from their defaults. -/
def State.recsSave (s : State) : Save :=
  { op := 1, copy := s.stageOf, image := mkImage s.ident.part.code (s.newestSeq + 1) s.saveRecs, seq := s.newestSeq + 1
    records := s.saveRecs.length }

/-- The save of the staged image. -/
def State.stageSave (s : State) : Save :=
  { op := 2, copy := s.cfg.stageCopy, image := s.stageImage, seq := imgSeq s.stageImage, records := imgCount s.stageImage }

section
variable {s : State}

section
variable (hs : s.cfg.stage = none)
include hs

theorem State.cfgSave_starts (hb : s.saveBar s.saveRecs.length = 0) :
    s.cfgSave = s.modCfg (fun c => { c with save := some s.recsSave }) := by
  simp [State.cfgSave, State.recsSave, hs, hb]

theorem State.cfgOpen_opens (hv : s.cfg.save = none) :
    s.cfgOpen = s.modCfg (fun c => { c with stage := some [], stageCopy := s.stageOf }) := by
  simp [State.cfgOpen, hs, hv]

theorem State.cfgCommit_refused : s.cfgCommit = s.cfgReject := by simp [State.cfgCommit, hs]

theorem State.cfgAbort_refused : s.cfgAbort = s.cfgReject := by simp [State.cfgAbort, hs]

end

section
variable (hs : s.cfg.stage ≠ none)
include hs

theorem State.cfgSave_busy : s.cfgSave = s.saveEnd 1 2 0 := by simp [State.cfgSave, Option.isSome_iff_ne_none.mpr hs]

theorem State.cfgOpen_refused (hv : s.cfg.save = none) : s.cfgOpen = s.cfgReject := by
  simp [State.cfgOpen, hv, Option.isSome_iff_ne_none.mpr hs]

/-- A stage that no status bars (R413) starts a save. -/
theorem State.cfgCommit_starts (hb : s.saveBar 0 = 0) (hi : imgStatus s.ident.part.code s.ident.uid s.stageImage = 0)
    (hn : s.newestSeq < imgSeq s.stageImage) : s.cfgCommit = s.modCfg (fun c => { c with save := some s.stageSave }) := by
  simp only [State.cfgCommit, hb, hi]
  simp [hs, Nat.not_le.mpr hn, State.modCfg, State.stageSave]

theorem State.cfgAbort_closes : s.cfgAbort = s.modCfg (fun c => { c with stage := none }) := by simp [State.cfgAbort, hs]

end
end

section
variable {ini : Ini} {s : State} (ht : s.takesLocked ini (cfgB + 0x48) = true)
include ht

/-- A write of CFG.CMD that is taken does its effect on the state whose page noted the write. -/
theorem done_cfgCmd (act : State → State) : ∃ pg, done s (s.write ini (cfgB + 0x48) true act) = done s (act { s with pages := pg }) := by
  obtain ⟨pg, hpg⟩ := s.write_takenLocked ini _ act ht
  exact ⟨pg, by rw [hpg]⟩

/-- A write of CFG.CMD whose effect is a change of the configuration store. -/
theorem done_cfgCmd_modCfg {act : State → State} (g : Cfg → Cfg)
    (h : ∀ pg, act { s with pages := pg } = State.modCfg { s with pages := pg } g) :
    ∃ t, done s (s.write ini (cfgB + 0x48) true act) = .next t ∧ Quiet { s with cfg := g s.cfg } t := by
  obtain ⟨pg, hpg⟩ := done_cfgCmd ht act
  obtain ⟨t, hnext, hq⟩ := done_quiet s (State.modCfg { s with pages := pg } g) rfl rfl rfl
  exact ⟨t, hpg.trans ((congrArg (done s) (h pg)).trans hnext), Quiet.of_pages (pg := pg) hq⟩

/-- A write of CFG.CMD that is refused. -/
theorem done_cfgCmd_refused {act : State → State} (h : ∀ pg, act { s with pages := pg } = State.cfgReject { s with pages := pg }) :
    ∃ t, done s (s.write ini (cfgB + 0x48) true act) = .next t ∧ Quiet s t ∧ t.evtBit (pageNo cfgB) 31 = true := by
  obtain ⟨pg, hpg⟩ := done_cfgCmd ht act
  obtain ⟨t, hnext, hq⟩ := done_pages s (u := State.cfgReject { s with pages := pg }) ⟨_, rfl⟩
  exact ⟨t, hpg.trans ((congrArg (done s) (h pg)).trans hnext), hq,
    done_keeps_bit hnext _ _ (State.evtBit_evt _ (pageNo cfgB) 31 (by decide))⟩

section
variable (hs : s.cfg.stage = none)
include hs

theorem save_starts (hb : s.saveBar s.saveRecs.length = 0) :
    ∃ t v, exec (.save ini) s = .next t ∧ t.cfg = { s.cfg with save := some v } ∧ v.op = 1 ∧ v.seq = s.newestSeq + 1 ∧
      v.copy = s.stageOf ∧ v.records = s.saveRecs.length ∧ t.feram = s.feram := by
  obtain ⟨t, hx, hq⟩ := done_cfgCmd_modCfg ht (act := (·.cfgSave)) (fun c => { c with save := some s.recsSave })
    (fun pg => State.cfgSave_starts (s := { s with pages := pg }) hs hb)
  exact ⟨t, s.recsSave, hx, hq.cfg, rfl, rfl, rfl, rfl, hq.feram⟩

/-- OPEN_STAGE begins a stage with an empty buffer (log entry 33), over the copy that does not hold the newest image (R404, R412). -/
theorem openStage_opens (hv : s.cfg.save = none) :
    ∃ t, exec (.openStage ini) s = .next t ∧ Quiet { s with cfg := { s.cfg with stage := some [], stageCopy := s.stageOf } } t :=
  done_cfgCmd_modCfg ht (act := (·.cfgOpen)) (fun c => { c with stage := some [], stageCopy := s.stageOf })
    (fun pg => State.cfgOpen_opens (s := { s with pages := pg }) hs hv)

theorem commitStage_refused : ∃ t, exec (.commitStage ini) s = .next t ∧ Quiet s t ∧ t.evtBit (pageNo cfgB) 31 = true :=
  done_cfgCmd_refused ht (act := (·.cfgCommit)) (fun pg => State.cfgCommit_refused (s := { s with pages := pg }) hs)

theorem abort_refused : ∃ t, exec (.abort ini) s = .next t ∧ Quiet s t ∧ t.evtBit (pageNo cfgB) 31 = true :=
  done_cfgCmd_refused ht (act := (·.cfgAbort)) (fun pg => State.cfgAbort_refused (s := { s with pages := pg }) hs)

end

section
variable (hs : s.cfg.stage ≠ none)
include hs

/-- SAVE with a stage open ends BUSY (R411, R413). -/
theorem save_busy :
    ∃ t, exec (.save ini) s = .next t ∧ t.cfg = { s.cfg with result := 2 * 2 ^ 16 + 2 ^ 24 } ∧ t.evtBit (pageNo cfgB) 2 = true ∧
      t.feram = s.feram := by
  obtain ⟨pg, hpg⟩ := done_cfgCmd ht (·.cfgSave)
  obtain ⟨u, hu⟩ : ∃ u : State, u = { s with pages := pg } := ⟨_, rfl⟩
  have hcfg : u.cfg = s.cfg := by rw [hu]
  have hferam : u.feram = s.feram := by rw [hu]
  rw [← hu, State.cfgSave_busy (by rwa [hcfg])] at hpg
  have hevt : (u.saveEnd 1 2 0).evtBit (pageNo cfgB) 2 = true :=
    State.logLead_keeps_bit _ _ _ _ _ (State.evtBit_evt _ (pageNo cfgB) 2 (by decide))
  obtain ⟨t, hnext⟩ : ∃ t, done s (u.saveEnd 1 2 0) = .next t := ⟨_, done_next ..⟩
  obtain ⟨-, -, -, tferam, -, -, -, -, tcfg, -⟩ := done_fields hnext
  exact ⟨t, hpg.trans hnext, by rw [tcfg, State.saveEnd_cfg, hcfg, Nat.zero_add, Nat.one_mul], done_keeps_bit hnext _ _ hevt,
    tferam.trans (Eq.trans (by simp) hferam)⟩

theorem openStage_refused (hv : s.cfg.save = none) :
    ∃ t, exec (.openStage ini) s = .next t ∧ Quiet s t ∧ t.evtBit (pageNo cfgB) 31 = true :=
  done_cfgCmd_refused ht (act := (·.cfgOpen)) (fun pg => State.cfgOpen_refused (s := { s with pages := pg }) hs hv)

theorem commitStage_starts (hb : s.saveBar 0 = 0)
    (hi : imgStatus s.ident.part.code s.ident.uid s.stageImage = 0) (hn : s.newestSeq < imgSeq s.stageImage) :
    ∃ t v, exec (.commitStage ini) s = .next t ∧ t.cfg = { s.cfg with save := some v } ∧ v.op = 2 ∧ v.copy = s.cfg.stageCopy ∧
      v.image = s.stageImage ∧ t.feram = s.feram := by
  obtain ⟨t, hx, hq⟩ := done_cfgCmd_modCfg ht (act := (·.cfgCommit)) (fun c => { c with save := some s.stageSave })
    (fun pg => State.cfgCommit_starts (s := { s with pages := pg }) hs hb hi hn)
  exact ⟨t, s.stageSave, hx, hq.cfg, rfl, rfl, rfl, hq.feram⟩

theorem abort_closes : ∃ t, exec (.abort ini) s = .next t ∧ Quiet { s with cfg := { s.cfg with stage := none } } t :=
  done_cfgCmd_modCfg ht (act := (·.cfgAbort)) (fun c => { c with stage := none })
    (fun pg => State.cfgAbort_closes (s := { s with pages := pg }) hs)

end
end

/-! ## The window of the stage (R404, R412) -/

section
variable {a : Nat} {l : Loc} {s : State} (hl : locate a = some l) (hb : l.blk = .feram) (hs : s.serving = true) (hr : s.refusal a = 0)
include hl hb hs hr

/-- A window write that is served and not refused acts. -/
theorem exec_stageWindowWrite (ini : Ini) (v : Word) : exec (.stageWindowWrite ini a v) s = done s (s.windowWrite a v) := by
  simp [exec, execStageWindowWrite, hl, hb, State.winAccess, hs, hr]

theorem stageWindowWrite_lands (ini : Ini) (v : Word) {o : Nat} {m : List (Nat × Byte)} (ho : s.stageOff a = some o) (hm : s.cfg.stage = some m) :
    ∃ t, exec (.stageWindowWrite ini a v) s = .next t ∧
      Quiet { s with cfg := { s.cfg with stage := some (writeBytes (le 4 v.toNat) (o / 4 * 4) m) } } t := by
  have hw : s.windowWrite a v = { s with cfg := { s.cfg with stage := some (writeBytes (le 4 v.toNat) (o / 4 * 4) m) } } := by
    simp [State.windowWrite, ho, hm, State.modCfg]
  rw [exec_stageWindowWrite hl hb hs hr, hw]
  exact done_quiet s _ rfl rfl rfl

theorem stageWindowWrite_outside (ini : Ini) (v : Word) (ho : s.stageOff a = none) :
    ∃ t, exec (.stageWindowWrite ini a v) s = .next t ∧ Quiet s t ∧ t.evtBit (pageNo cfgB) 3 = true := by
  have hw : s.windowWrite a v = s.evt (pageNo cfgB) [3] := by simp [State.windowWrite, ho]
  obtain ⟨t, hnext, hq⟩ := done_pages s (u := s.evt (pageNo cfgB) [3]) ⟨_, rfl⟩
  refine ⟨t, ?_, hq, done_keeps_bit hnext _ _ (s.evtBit_evt _ 3 (by decide))⟩
  rw [exec_stageWindowWrite hl hb hs hr, hw, hnext]

end

/-- Settles O58: what CFG.CMD and the window do to the store, case by case, and the end of a save by `State.saveEnded`. That a stage
begins with an empty buffer is the model's choice (log entry 33). -/
theorem configurationStore : Obligations.ConfigurationStore := by
  refine ⟨fun ini s ht => ⟨save_starts ht, save_busy ht, openStage_opens ht, openStage_refused ht, commitStage_starts ht, commitStage_refused ht,
      abort_closes ht, abort_refused ht⟩,
    fun ini a v l s hl hb hs hr => ⟨fun o m => stageWindowWrite_lands hl hb hs hr ini v, stageWindowWrite_outside hl hb hs hr ini v⟩,
    fun v s hv hr => ⟨fun hl hb => ⟨?_, ?_⟩, saveDone_waits hv true⟩⟩
  · obtain ⟨t, ht, hslots, hcfg, hsave⟩ := saveDone_ends hv hr hl hb true
    exact ⟨t, ht, hsave, hslots, fun h => (congrArg Cfg.result hcfg).trans (State.saveEnded_result h)⟩
  · obtain ⟨t, ht, hslots, hcfg, hsave⟩ := saveDone_ends hv hr hl hb false
    obtain ⟨-, -, hres⟩ := State.saveFailed_over (s := s) (v := v) (u := s.saveOver v) ⟨rfl, rfl⟩ s.storeDies
    exact ⟨t, ht, hsave, hslots, (congrArg Cfg.result hcfg).trans hres⟩

end Sys2Proof.Machine
end

section
/-! PROOFS. The update of the thermal model on a state whose die has more contexts than R273 gives it (O35). -/
namespace Sys2Proof.Machine

/-- The elements of one slot updated and, above TJ_TRIP, the slot tripped (R159, R161). -/
def State.slotUpdate (s : State) (n : Nat) : State :=
  let u := s.elemUpdate n false
  (if u.backup n then u.elemUpdate n true else u).soaTrip n

/-- What begins a lane period once the slots are updated: the count of the periods, the cycles of the update, and the period's number
(R298). -/
def State.laneBegins (s : State) (d : Nat) : State :=
  let work := ((slotsOf d).map (fun n => (1 + b2n (s.backup n)) * (1000 + s.sf n 0x200 2 0))).foldl (· + ·) 0
  let u := (s.addWrap (contB d + 0x84) 31 0 1).setRf (contB d + 0x80) 10 0 (sat 1600 (Config.updCyc work))
  u.modDie d (fun x => { x with eng := { x.eng with lanePeriod := (u.now - u.pkg.epoch) / 10000 } })

/-- A lane period leaves element B of every slot as the turns of the update left it. -/
theorem thermalModelUpdate_eB {d : Nat} {s : State} (hr : s.runs d = true) (hg : (s.now - s.pkg.epoch) % 10000 = 0) :
    ∃ t, exec (.thermalModelUpdate d) s = .next t ∧
      ∀ n, (t.slot n).eB = ((s.each (slotsOf d) (fun n s => s.slotUpdate n)).slot n).eB := by
  have hx : exec (.thermalModelUpdate d) s =
      done s (((s.each (slotsOf d) (fun n s => s.slotUpdate n)).laneBegins d).thEdges (slotsOf d)) := by
    simp only [exec, execThermalModelUpdate]
    rw [if_neg (by simp [hr, hg])]
    rfl
  have hv : ((s.each (slotsOf d) (fun n s => s.slotUpdate n)).laneBegins d).slots =
      (s.each (slotsOf d) (fun n s => s.slotUpdate n)).slots := by
    simp only [State.laneBegins, State.modDie_frame, State.setRf_frame, State.addWrap_frame]
  generalize (s.each (slotsOf d) (fun n s => s.slotUpdate n)).laneBegins d = v at hx hv
  obtain ⟨t, ht, hslots, -⟩ := done_kept s (v.thEdges (slotsOf d))
  refine ⟨t, hx.trans ht, fun n => ?_⟩
  obtain ⟨f, hf⟩ := v.thEdges_slot (slotsOf d) n
  rw [State.slot_of_slots hslots, hf, State.slot_of_slots hv]

/-- A state whose die 0 has 3,056 loop contexts, where R273 gives it 18: the active bank of context 3,055 would lie at the registers of
slot 1 (R31, R311). Slot 0, in CHARGING on that context with a commit pending, stands above TJ_TRIP; pass element B of slot 1 is fitted and
holds one sample. -/
def overlaidContext : State :=
  ({ State.reset with slots := [
      (0, { st := .charging, eA := { rise := [1000000000, 0, 0, 0], psum := 1000000000, pn := 1 } }),
      (1, { eB := { pn := 1 } })] }.setReg (slotB 1 + 0x100) 1).setDie 0
    { eng := { map := [3055], ctxs := (List.replicate 3056 ({} : Ctx)).set 3055 { bound := true, commitPend := true } } }

/-- The update trips slot 0 (R161), its context is unbound, and the pending commit of the empty edit bank writes 0 to SLOT_CFG of slot 1
(R274, R294): by the turn of slot 1 its BACKUP has fallen, and element B keeps its sample. -/
theorem overlaidContext_update :
    overlaidContext.runs 0 = true ∧ (overlaidContext.now - overlaidContext.pkg.epoch) % 10000 = 0 ∧
      overlaidContext.elemWaits 1 true = false ∧ overlaidContext.backup 1 = true ∧
      ((overlaidContext.each (slotsOf 0) (fun n s => s.slotUpdate n)).slot 1).eB.pn = 1 := by decide +kernel

/-- Refutes O35: an update does not reach element B of a slot whose BACKUP the SOA trip of an earlier slot of the die clears. The state
(`overlaidContext`) has more contexts than a die has (R273); no run from reset reaches it (`State.dieTablesOk`), and no premise shuts it
out. -/
theorem not_thermalUpdateAndSensors : ¬ Obligations.ThermalUpdateAndSensors := by
  rintro ⟨hupdate, -⟩
  obtain ⟨hruns, hgrid, hwaits, hbackup, hkept⟩ := overlaidContext_update
  obtain ⟨t, ht, -, helems, -⟩ := hupdate 0 overlaidContext hruns hgrid
  obtain ⟨-, helemB, -⟩ := helems 1 (by decide) _ rfl
  obtain ⟨-, hpn, -⟩ := helemB hwaits hbackup
  obtain ⟨t', ht', helemsB⟩ := thermalModelUpdate_eB hruns hgrid
  obtain rfl : t = t' := Host.Outcome.next.inj (ht.symm.trans ht')
  have hafter : (t.slot 1).eB.pn = 1 := (congrArg Elem.pn (helemsB 1)).trans hkept
  exact absurd (hpn.symm.trans hafter) (by decide)

end Sys2Proof.Machine
end

section
/-! PROOFS. The stance of a die: whether it serves, and since when it does not. What the shared operations leave of it (O14). -/
namespace Sys2Proof.Machine

/-- What of a die tells its place in the package: its mode, its bit of DIES_PRESENT, the time of its fault and the sensors of its
shutdown (R33, R171, R440). -/
def Die.stance (x : Die) : DieMode × Bool × Nat × Nat := (x.mode, x.present, x.faultAt, x.thermMask)

/-- The stance of every die of a map. -/
def stances (m : List (Nat × Die)) (e : Nat) : DieMode × Bool × Nat × Nat := (mget {} m e).stance

theorem State.stance_of_stances {s t : State} (h : stances t.dies = stances s.dies) (e : Nat) : (t.die e).stance = (s.die e).stance :=
  congrFun h e

/-! ## Choices and folds -/

@[simp] theorem stances_ite (c : Prop) [Decidable c] (a b : List (Nat × Die)) :
    stances (if c then a else b) = if c then stances a else stances b := apply_ite _ _ _ _

/-- A change of a die that leaves its stance leaves every stance. -/
theorem State.modDie_stances_of (s : State) (d : Nat) (g : Die → Die) (h : (g (s.die d)).stance = (s.die d).stance) :
    stances (s.modDie d g).dies = stances s.dies := by
  funext e
  simp only [stances, State.modDie, State.setDie_dies, mget_mset]
  split
  case isTrue he => rw [h, he]; rfl
  case isFalse => rfl

/-- The same, field by field. -/
@[simp] theorem State.modDie_stances (s : State) (d : Nat) (g : Die → Die) (hmode : (g (s.die d)).mode = (s.die d).mode)
    (hpresent : (g (s.die d)).present = (s.die d).present) (hfault : (g (s.die d)).faultAt = (s.die d).faultAt)
    (hmask : (g (s.die d)).thermMask = (s.die d).thermMask) : stances (s.modDie d g).dies = stances s.dies :=
  s.modDie_stances_of d g (by simp only [Die.stance, hmode, hpresent, hfault, hmask])

@[simp] theorem State.each_stances {α : Type} (s : State) (l : List α) (g : α → State → State)
    (h : ∀ x s, stances (g x s).dies = stances s.dies) : stances (s.each l g).dies = stances s.dies := by
  induction l generalizing s with
  | nil => rfl
  | cons x l ih => exact (ih (g x s)).trans (h x s)

/-! ## Records (R174, R399, R414 to R423) -/

@[simp] theorem State.logPut_stances (s : State) (d : Nat) (r : Rec) : stances (s.logPut d r).dies = stances s.dies := by
  simp [State.logPut]

@[simp] theorem State.logFlush_stances (s : State) (d : Nat) : stances (s.logFlush d).dies = stances s.dies := by
  unfold State.logFlush
  split <;> simp

@[simp] theorem State.logAdd_stances (s : State) (d : Nat) (r : Rec) : stances (s.logAdd d r).dies = stances s.dies := by
  unfold State.logAdd
  dsimp only
  split
  · split <;> simp
  · simp

@[simp] theorem State.log_stances (s : State) (d block inst code : Nat) (data : List Nat) :
    stances (s.log d block inst code data).dies = stances s.dies := by simp [State.log]

@[simp] theorem State.logLead_stances (s : State) (block inst code : Nat) (data : List Nat) :
    stances (s.logLead block inst code data).dies = stances s.dies := by simp [State.logLead]

@[simp] theorem State.logSlot_stances (s : State) (n code : Nat) (data : List Nat) :
    stances (s.logSlot n code data).dies = stances s.dies := by simp [State.logSlot]

@[simp] theorem State.swap_stances (s : State) (kind d inst sub failed spare : Nat) (v : Int) :
    stances (s.swap kind d inst sub failed spare v).dies = stances s.dies := by simp [State.swap, State.nursRec]

@[simp] theorem State.exhausted_stances (s : State) (kind d inst sub failed : Nat) :
    stances (s.exhausted kind d inst sub failed).dies = stances s.dies := by simp [State.exhausted, State.nursRec]

@[simp] theorem State.wearAdd_stances (s : State) (n which : Nat) : stances (s.wearAdd n which).dies = stances s.dies := by
  simp [State.wearAdd, State.wearWarn]

/-! ## The engine (R274, R294, R302, R304, R391) -/

@[simp] theorem State.modCtx_stances (s : State) (d n : Nat) (g : Ctx → Ctx) : stances (s.modCtx d n g).dies = stances s.dies := by
  simp [State.modCtx]

@[simp] theorem State.modCap_stances (s : State) (d : Nat) (g : Capture → Capture) : stances (s.modCap d g).dies = stances s.dies := by
  simp [State.modCap]

@[simp] theorem State.commitNow_stances (s : State) (d n : Nat) : stances (s.commitNow d n).dies = stances s.dies := by
  simp [State.commitNow]

@[simp] theorem State.commitReq_stances (s : State) (d n : Nat) : stances (s.commitReq d n).dies = stances s.dies := by
  simp [State.commitReq]

@[simp] theorem State.testStop_stances (s : State) (d reason : Nat) : stances (s.testStop d reason).dies = stances s.dies := by
  simp [State.testStop, State.modTest]

@[simp] theorem State.capFinish_stances (s : State) (d : Nat) (part : Bool) : stances (s.capFinish d part).dies = stances s.dies := by
  simp [State.capFinish]

@[simp] theorem State.capEndAt_stances (s : State) (d : Nat) : stances (s.capEndAt d).dies = stances s.dies := by
  simp [State.capEndAt, State.capLast, State.capTrigger]

@[simp] theorem State.spareMap_stances (s : State) (d n : Nat) : stances (s.spareMap d n).dies = stances s.dies := by
  unfold State.spareMap
  dsimp only
  split
  · rfl
  · split <;> simp

@[simp] theorem State.spareGo_stances (s : State) (d n : Nat) : stances (s.spareGo d n).dies = stances s.dies := by
  simp [State.spareGo]

@[simp] theorem State.unbindCtx_stances (s : State) (n : Nat) (toOn : Bool) : stances (s.unbindCtx n toOn).dies = stances s.dies := by
  simp [State.unbindCtx]

/-! ## Slots that enter a state and trip (R99, R126, R150) -/

@[simp] theorem State.standDown_stances (s : State) (n : Nat) : stances (s.standDown n).dies = stances s.dies := by
  simp [State.standDown, State.terrRec]

@[simp] theorem State.enter_stances (s : State) (n : Nat) (st : SM) (step : Nat) : stances (s.enter n st step).dies = stances s.dies := by
  simp [State.enter, State.leave, State.gatesIdle]

@[simp] theorem State.lockoutSend_stances (s : State) (n : Nat) : stances (s.lockoutSend n).dies = stances s.dies := by
  simp [State.lockoutSend, State.terrRec]

@[simp] theorem State.sendOpen_stances (s : State) (n : Nat) : stances (s.sendOpen n).dies = stances s.dies := by
  simp [State.sendOpen, State.terrRec]

@[simp] theorem State.snapAssign_stances (s : State) (n : Nat) : stances (s.snapAssign n).dies = stances s.dies := by
  unfold State.snapAssign
  dsimp only
  split <;> simp

@[simp] theorem State.modSnap_stances (s : State) (n : Nat) (g : Snap → Snap) : stances (s.modSnap n g).dies = stances s.dies := by
  refine State.modDie_stances_of _ _ _ ?_
  split
  · split <;> rfl
  · rfl

@[simp] theorem State.tripStart_stances (s : State) (n : Nat) (hard : Bool) (abort : Nat) :
    stances (s.tripStart n hard abort).dies = stances s.dies := by simp [State.tripStart]

@[simp] theorem State.tripSettle_stances (s : State) (n cause detail : Nat) : stances (s.tripSettle n cause detail).dies = stances s.dies := by
  simp [State.tripSettle]

@[simp] theorem State.trip_stances (s : State) (n : Nat) (hard : Bool) (cause detail abort : Nat) :
    stances (s.trip n hard cause detail abort).dies = stances s.dies := by simp [State.trip]

@[simp] theorem State.settleTrip_stances (s : State) (n : Nat) : stances (s.settleTrip n).dies = stances s.dies := by
  unfold State.settleTrip
  dsimp only
  split <;> simp

@[simp] theorem State.tripRecord_stances (s : State) (n next : Nat) : stances (s.tripRecord n next).dies = stances s.dies := by
  simp [State.tripRecord]

@[simp] theorem State.quietTrip_stances (s : State) (n cause detail abort : Nat) (snap : Bool) :
    stances (s.quietTrip n cause detail abort snap).dies = stances s.dies := by simp [State.quietTrip]

@[simp] theorem State.countReset_stances (s : State) (n : Nat) : stances (s.countReset n).dies = stances s.dies := by
  simp [State.countReset]

@[simp] theorem State.remember_stances (s : State) (n : Nat) : stances (s.remember n).dies = stances s.dies := by
  simp [State.remember]

@[simp] theorem State.latch_stances (s : State) (n : Nat) : stances (s.latch n).dies = stances s.dies := by
  simp [State.latch]

@[simp] theorem State.pumpCheck_stances (s : State) (d : Nat) : stances (s.pumpCheck d).dies = stances s.dies := by
  simp [State.pumpCheck]

@[simp] theorem State.turnOff_stances (s : State) (n : Nat) : stances (s.turnOff n).dies = stances s.dies := by
  simp [State.turnOff, State.goOff]

/-! ## What starts on a die (R162, R166 to R168, R215, R226, R435) -/

@[simp] theorem State.modBelv_stances (s : State) (d : Nat) (g : Belv → Belv) : stances (s.modBelv d g).dies = stances s.dies := by
  simp [State.modBelv]

@[simp] theorem State.startMods_stances (s : State) (d : Nat) : stances (s.startMods d).dies = stances s.dies := by
  simp [State.startMods]

@[simp] theorem State.survStart_stances (s : State) (d : Nat) : stances (s.survStart d).dies = stances s.dies := by
  simp [State.survStart, State.survStep]

@[simp] theorem State.unblock_stances (s : State) (d : Nat) : stances (s.unblock d).dies = stances s.dies := by
  simp [State.unblock]

@[simp] theorem State.gratExclude_stances (s : State) (d i : Nat) : stances (s.gratExclude d i).dies = stances s.dies := by
  simp [State.gratExclude]

@[simp] theorem State.gratDegraded_stances (s : State) (d : Nat) : stances (s.gratDegraded d).dies = stances s.dies := by
  simp [State.gratDegraded]

@[simp] theorem State.gratWindows_stances (s : State) (d : Nat) : stances (s.gratWindows d).dies = stances s.dies := by
  simp [State.gratWindows]

@[simp] theorem State.gratFirst_stances (s : State) (d : Nat) (t : Option (List Nat)) :
    stances (s.gratFirst d t).dies = stances s.dies := by
  unfold State.gratFirst
  cases t <;> simp [State.gratScan]

@[simp] theorem State.scanPending_stances (s : State) (d : Nat) : stances (s.scanPending d).dies = stances s.dies := by
  simp [State.scanPending]

@[simp] theorem State.dieStart_stances (s : State) (d : Nat) : stances (s.dieStart d).dies = stances s.dies := by
  simp [State.dieStart, State.riseReload, State.ctxMaps]

@[simp] theorem State.dieReset_stances (s : State) (d : Nat) : stances (s.dieReset d).dies = stances s.dies := by
  simp [State.dieReset]

@[simp] theorem State.holdEnter_dies (s : State) (n : Nat) : (s.holdEnter n).dies = s.dies := by
  unfold State.holdEnter
  dsimp only
  split <;> simp

/-- The logic of a die that stops leaves what its place in the package is read from. -/
@[simp] theorem State.dieHold_stances (s : State) (d : Nat) : stances (s.dieHold d).dies = stances s.dies := by
  simp [State.dieHold, State.clearPages]

@[simp] theorem State.setApart_stances (s : State) (d : Nat) : stances (s.setApart d).dies = stances s.dies := by
  simp [State.setApart]

/-! ## The package (R26, R199, R328, R341, R392) -/

@[simp] theorem State.reachUpdate_stances (s : State) : stances s.reachUpdate.dies = stances s.dies := by
  simp [State.reachUpdate, State.reachSlot, State.terrRec]

@[simp] theorem State.dropPair_stances (s : State) (k : Nat) (keep : Bool) : stances (s.dropPair k keep).dies = stances s.dies := by
  simp [State.dropPair]

@[simp] theorem State.autoJoin_stances (s : State) (ks : List Nat) : stances (s.autoJoin ks).dies = stances s.dies := by
  simp [State.autoJoin, State.joinStart, State.ringRec]

@[simp] theorem State.refFollow_stances (s : State) : stances s.refFollow.dies = stances s.dies := by
  simp [State.refFollow, State.refTo]

/-! ## Re-adoption (R438) -/

@[simp] theorem State.adoptSample_stances (s : State) (n : Nat) (a : AdoptIn) : stances (s.adoptSample n a).dies = stances s.dies := by
  simp [State.adoptSample, State.takeSample, State.stuckSample]

@[simp] theorem State.adoptBus_stances (s : State) (d : Nat) (a : AdoptIn) : stances (s.adoptBus d a).dies = stances s.dies := by
  simp [State.adoptBus, State.busSample]

@[simp] theorem State.adoptLatched_stances (s : State) (n : Nat) : stances (s.adoptLatched n).dies = stances s.dies := by
  simp [State.adoptLatched, State.keptTripTime]

@[simp] theorem State.adoptOff_stances (s : State) (n : Nat) : stances (s.adoptOff n).dies = stances s.dies := by
  simp [State.adoptOff, State.keptTripTime]

@[simp] theorem State.adoptUv_stances (s : State) (n : Nat) : stances (s.adoptUv n).dies = stances s.dies := by
  simp [State.adoptUv]

@[simp] theorem State.adoptRow_stances (s : State) (n : Nat) (a : Option AdoptIn) : stances (s.adoptRow n a).dies = stances s.dies := by
  unfold State.adoptRow
  dsimp only
  split
  · simp
  · split
    · simp
    · cases a <;> simp
    · rfl

@[simp] theorem State.readopt_stances (s : State) (n : Nat) (ad : List AdoptIn) : stances (s.readopt n ad).dies = stances s.dies := by
  unfold State.readopt
  dsimp only
  cases ad.find? (fun a => a.slot == n) <;> simp

@[simp] theorem State.adoptDie_stances (s : State) (d : Nat) (ad : List AdoptIn) : stances (s.adoptDie d ad).dies = stances s.dies := by
  unfold State.adoptDie
  cases ad.find? (fun a => dieOf a.slot == d) <;> simp

end Sys2Proof.Machine
end

section
/-! PROOFS. A die that is lost: by silence, by its watchdog, by its fixed shutdown (O14). -/
namespace Sys2Proof.Machine

/-! ## The other slots of a die that stops (R435, R437, R441) -/

theorem State.holdEnter_other (s : State) (m : Nat) {n : Nat} (h : n ≠ m) : (s.holdEnter m).slot n = s.slot n := by
  unfold State.holdEnter
  dsimp only
  split <;> simp [State.slot, State.withdraw, State.modSlot, mget_mset_ne, h, State.pullGates_other]

/-- A fold over slots leaves a slot that none of its turns is about. -/
theorem State.each_slot_of_not_mem {g : Nat → State → State} {n : Nat} (hg : ∀ m s, n ≠ m → (g m s).slot n = s.slot n) {l : List Nat}
    (hn : n ∉ l) (s : State) : (s.each l g).slot n = s.slot n := by
  induction l generalizing s with
  | nil => rfl
  | cons m l ih =>
    obtain ⟨hm, hl⟩ := not_or.mp (mt List.mem_cons.mpr hn)
    exact (ih hl (g m s)).trans (hg m s hm)

/-- The slots listed for a die are its own. -/
theorem State.dieOf_of_mem_dieSlots {s : State} {d n : Nat} (h : n ∈ s.dieSlots d) : dieOf n = d := by
  obtain ⟨e, he, rfl⟩ := List.mem_map.mp h
  simpa [dieOf] using (List.mem_filter.mp he).2

theorem State.holdEnter_pkg (s : State) (n : Nat) : (s.holdEnter n).pkg = s.pkg := by
  unfold State.holdEnter
  dsimp only
  split <;> simp

@[simp] theorem State.dieHold_pkg (s : State) (d : Nat) : (s.dieHold d).pkg = s.pkg := by
  have hfold : (s.each (s.dieSlots d) (fun n s => s.holdEnter n)).pkg = s.pkg :=
    State.each_pkg _ _ _ (fun n s => s.holdEnter_pkg n)
  simpa only [State.dieHold, State.clearPages, State.dieReset_frame] using hfold

theorem State.dieHold_slot (s : State) {e n : Nat} (h : dieOf n ≠ e) : (s.dieHold e).slot n = s.slot n :=
  (State.slot_of_slots (s := s.each (s.dieSlots e) (fun n s => s.holdEnter n)) (by simp [State.dieHold, State.clearPages]) n).trans
    (State.each_slot_of_not_mem (fun m s hm => s.holdEnter_other m hm) (fun hn => h (State.dieOf_of_mem_dieSlots hn)) s)

/-! ## A die that is gone (R68, R392, R441) -/

/-- A write of a slot's restraint state alone. -/
theorem State.modSlot_terr_terrOnly (s : State) (m n : Nat) (f : Slot → Terr) : TerrOnly n s (s.modSlot m (fun x => { x with terr := f x })) := by
  by_cases hm : n = m
  · subst hm
    exact ⟨_, s.slot_modSlot_self n _⟩
  · exact ⟨_, s.slot_modSlot_ne _ hm⟩

theorem State.reachSlot_terrOnly (s : State) (m n : Nat) : TerrOnly n s (s.reachSlot m) := by
  refine State.each_terrOnly (fun k s => ?_) _ s
  extract_lets w r u
  have hu : TerrOnly n s u := s.modSlot_terr_terrOnly m n _
  split
  · exact .of_slots rfl
  · exact hu.trans (.of_slots (by simp [State.terrRec]))

theorem State.reachUpdate_terrOnly (s : State) (n : Nat) : TerrOnly n s s.reachUpdate :=
  State.each_terrOnly (fun m s => s.reachSlot_terrOnly m n) _ s

theorem State.dropPair_terrOnly (s : State) (k : Nat) (keep : Bool) (n : Nat) : TerrOnly n s (s.dropPair k keep) := by
  unfold State.dropPair
  exact TerrOnly.trans (.of_slots (by simp)) (State.reachUpdate_terrOnly _ n)

/-- What the loss of other dies leaves of die d: its stance, and its slots but for their restraint state. -/
structure DieKept (d : Nat) (s t : State) : Prop where
  stance : (t.die d).stance = (s.die d).stance
  slots : ∀ n, dieOf n = d → TerrOnly n s t

theorem DieKept.trans {d : Nat} {s t u : State} (h : DieKept d s t) (h' : DieKept d t u) : DieKept d s u :=
  ⟨h'.stance.trans h.stance, fun n hn => (h.slots n hn).trans (h'.slots n hn)⟩

theorem DieKept.of_slots {d : Nat} {s t : State} (hd : stances t.dies = stances s.dies) (hs : t.slots = s.slots) : DieKept d s t :=
  ⟨State.stance_of_stances hd d, fun _ _ => .of_slots hs⟩

theorem State.dropPair_dieKept (s : State) (k : Nat) (keep : Bool) (d : Nat) : DieKept d s (s.dropPair k keep) :=
  ⟨State.stance_of_stances (by simp) d, fun n _ => s.dropPair_terrOnly k keep n⟩

/-- The dies that hold their slots for want of a lead die leave a die that does not serve (R441). -/
theorem State.noLead_dieKept {s : State} {d : Nat} (h : s.runs d = false) : DieKept d s s.noLead := by
  have hfold (l : List Nat) (hd : d ∉ l) (s : State) : DieKept d s
      (s.each l (fun e s => (s.dieHold e).modDie e (fun x => { x with mode := .fault, faultAt := s.now, attempts := 0 }))) := by
    induction l generalizing s with
    | nil => exact .of_slots rfl rfl
    | cons e l ih =>
      obtain ⟨he, hl⟩ := not_or.mp (mt List.mem_cons.mpr hd)
      refine DieKept.trans ⟨?_, fun n hn => ?_⟩ (ih hl _)
      · rw [State.die_modDie_ne _ _ he]
        exact State.stance_of_stances (s.dieHold_stances e) d
      · exact ⟨_, (State.slot_of_slots (by simp) n).trans (s.dieHold_slot (hn ▸ he))⟩
  unfold State.noLead
  split
  · exact .of_slots rfl rfl
  · exact hfold _ (by simp [h]) s

theorem State.dieGone_dieKept (s : State) (d : Nat) : DieKept d (s.modDie d (fun x => { x with present := false })) (s.dieGone d) := by
  unfold State.dieGone
  extract_lets u v
  have huv : DieKept d u v :=
    ⟨State.stance_of_stances (by simp [v]) d, fun n _ => TerrOnly.trans (.of_slots (by simp)) (State.reachUpdate_terrOnly _ n)⟩
  have hw : DieKept d u (if d < 2 then v.dropPair d else v) := by
    split
    · exact huv.trans (v.dropPair_dieKept d false d)
    · exact huv
  have hgone : (u.die d).present = false := congrArg Die.present (s.die_modDie_self d _)
  refine hw.trans (State.noLead_dieKept ?_)
  have hp := congrArg (fun x => x.2.1) hw.stance
  simp only [Die.stance, hgone] at hp
  unfold State.runs State.present
  rw [hp]
  simp

/-- Where a die that is lost ends: its mode and the time of its fault stand, a follower is no longer present, and of its slots nothing
but the restraint state is written. -/
theorem State.dieLost_stands (s : State) (d : Nat) :
    ((s.dieLost d).die d).mode = (s.die d).mode ∧ ((s.dieLost d).die d).faultAt = (s.die d).faultAt ∧
    ((s.dieLost d).die d).thermMask = (s.die d).thermMask ∧ (d ≠ s.pkg.lead → ((s.dieLost d).die d).present = false) ∧
    ∀ n, dieOf n = d → TerrOnly n s (s.dieLost d) := by
  unfold State.dieLost
  split
  case isTrue h =>
    have hlead : d = s.pkg.lead := by simp at h; exact h.1
    obtain ⟨hst, hslots⟩ := State.dropPair_dieKept { s with pkg := { s.pkg with hand := some (otherLead d), handLost := true } } d false d
    simp only [Die.stance, Prod.mk.injEq] at hst
    obtain ⟨hmode, -, hfault, hmask⟩ := hst
    exact ⟨hmode, hfault, hmask, fun hne => absurd hlead hne, hslots⟩
  case isFalse =>
    obtain ⟨hst, hslots⟩ := s.dieGone_dieKept d
    rw [State.die_modDie_self] at hst
    simp only [Die.stance, Prod.mk.injEq] at hst
    obtain ⟨hmode, hpresent, hfault, hmask⟩ := hst
    exact ⟨hmode, hfault, hmask, fun _ => hpresent, fun n hn => TerrOnly.trans (.of_slots (by simp)) (hslots n hn)⟩

/-! ## DIE-FAULT (R440) -/

theorem State.dieFault_stands (s : State) (d why : Nat) :
    ((s.dieFault d why).die d).mode = .fault ∧ ((s.dieFault d why).die d).faultAt = s.now ∧
    (d ≠ s.pkg.lead → ((s.dieFault d why).die d).present = false) := by
  unfold State.dieFault
  extract_lets holder u v
  have hv : (v.die d).stance = (u.die d).stance := State.stance_of_stances (u.setApart_stances d) d
  have hu : (u.die d).mode = .fault ∧ (u.die d).faultAt = s.now := by
    simp only [u, State.die_modDie_self, and_self]
  have hlog := State.stance_of_stances (v.log_stances holder 11 d 0x0703 [why]) d
  have hlead : (v.log holder 11 d 0x0703 [why]).pkg.lead = s.pkg.lead := by
    simp [v, u, State.setApart]
  obtain ⟨hmode, hfault, -, hpresent, -⟩ := (v.log holder 11 d 0x0703 [why]).dieLost_stands d
  have hst := hlog.trans hv
  simp only [Die.stance, Prod.mk.injEq] at hst
  obtain ⟨hm, -, hf, -⟩ := hst
  exact ⟨hmode.trans (hm.trans hu.1), hfault.trans (hf.trans hu.2), fun hne => hpresent (by rw [hlead]; exact hne)⟩

end Sys2Proof.Machine
end

section
/-! PROOFS. The fixed thermal shutdown of a die, its rejoin and its return, and what the commands answer (O14). -/
namespace Sys2Proof.Machine

/-! ## Folds over slots -/

/-- A fold over slots brings about, at each of them, what each turn brings about at its own. -/
theorem State.each_slot_of_mem {P : Slot → Prop} {g : Nat → State → State} {n : Nat} (hother : ∀ m s, n ≠ m → (g m s).slot n = s.slot n)
    (hself : ∀ s, P ((g n s).slot n)) {l : List Nat} (hn : n ∈ l) (s : State) : P ((s.each l g).slot n) := by
  induction l generalizing s with
  | nil => exact absurd hn List.not_mem_nil
  | cons m l ih =>
    by_cases hl : n ∈ l
    · exact ih hl (g m s)
    · obtain rfl : n = m := (List.mem_cons.mp hn).resolve_right hl
      have hrest : ((g n s).each l g).slot n = (g n s).slot n := State.each_slot_of_not_mem hother hl _
      exact hrest ▸ hself s

/-- A slot of a die that is not listed for it is as new. -/
theorem State.slot_of_not_mem_dieSlots {s : State} {n : Nat} (h : n ∉ s.dieSlots (dieOf n)) : s.slot n = {} := by
  have hnone : s.slots.find? (fun e => e.1 == n) = none := by
    refine List.find?_eq_none.mpr fun e he hen => h ?_
    obtain rfl : e.1 = n := by simpa using hen
    exact List.mem_map.mpr ⟨e, List.mem_filter.mpr ⟨he, by simp [dieOf]⟩, rfl⟩
  simp [State.slot, mget, hnone]

/-! ## The fixed thermal shutdown (R171) -/

/-- Both gates of a slot are held off, and its PG is down. -/
def Slot.Dark (x : Slot) : Prop := x.gA.path = .holdOff ∧ x.gB.path = .holdOff ∧ x.pg = false

theorem TerrOnly.dark {n : Nat} {s t : State} (h : TerrOnly n s t) (hs : (s.slot n).Dark) : (t.slot n).Dark := by
  obtain ⟨r, hr⟩ := h
  rw [hr]
  exact hs

/-- The end of a shutdown: in RUN the die is lost, in WARM-RESET it is no longer present. -/
def State.shutDie (s : State) (d : Nat) : State :=
  if s.inRun then s.dieLost d else
    let u := s.modDie d (fun x => { x with present := false })
    if d < 2 then u.dropPair d else u

theorem State.shutDie_stands (s : State) (d : Nat) :
    ((s.shutDie d).die d).mode = (s.die d).mode ∧ ((s.shutDie d).die d).thermMask = (s.die d).thermMask ∧
    ∀ n, dieOf n = d → TerrOnly n s (s.shutDie d) := by
  unfold State.shutDie
  split
  · obtain ⟨hmode, -, hmask, -, hslots⟩ := s.dieLost_stands d
    exact ⟨hmode, hmask, hslots⟩
  · extract_lets u
    have hu : u.die d = { s.die d with present := false } := s.die_modDie_self d _
    have hslots (n : Nat) : TerrOnly n s u := .of_slots (by simp [u])
    split
    · have hst := State.stance_of_stances (u.dropPair_stances d false) d
      simp only [Die.stance, Prod.mk.injEq, hu] at hst
      obtain ⟨hmode, -, -, hmask⟩ := hst
      exact ⟨hmode, hmask, fun n _ => (hslots n).trans (u.dropPair_terrOnly d false n)⟩
    · exact ⟨by rw [hu], by rw [hu], fun n _ => hslots n⟩

theorem State.thermalStop_stands (s : State) (d sensors : Nat) :
    ((s.thermalStop d sensors).die d).mode = .thermal ∧ ((s.thermalStop d sensors).die d).thermMask = sensors % 4 ∧
    ∀ n, dieOf n = d → ((s.thermalStop d sensors).slot n).Dark := by
  unfold State.thermalStop
  extract_lets restart masked tripped off dark reset
  have hmask : (masked.die d).thermMask = sensors % 4 := congrArg Die.thermMask (s.die_modDie_self d _)
  have hstances : stances ((dark.dieReset d).clearPages d).dies = stances masked.dies := by
    simp [dark, tripped, State.withdraw, State.clearPages]
  have hreset : (reset.die d).mode = .thermal ∧ (reset.die d).thermMask = sensors % 4 := by
    have hapart := State.stance_of_stances
      ((((dark.dieReset d).clearPages d).modDie d (fun x => { x with mode := .thermal })).setApart_stances d) d
    have hst := State.stance_of_stances hstances d
    rw [State.die_modDie_self] at hapart
    simp only [Die.stance, Prod.mk.injEq] at hapart hst
    exact ⟨hapart.1, hapart.2.2.2.trans (hst.2.2.2.trans hmask)⟩
  have hdark (n : Nat) (hn : dieOf n = d) : (dark.slot n).Dark := by
    have hother (m : Nat) (s : State) (hm : n ≠ m) : ((s.withdraw m).modSlot m (fun x =>
        { x with gA := off x.gA, gB := off x.gB, pg := false, revBlock := false, limit := false })).slot n = s.slot n := by
      rw [State.slot_modSlot_ne _ _ hm]
      exact s.withdraw_other m hm
    by_cases hmem : n ∈ tripped.dieSlots d
    · refine State.each_slot_of_mem hother (fun s => ?_) hmem tripped
      rw [State.slot_modSlot_self]
      exact ⟨rfl, rfl, rfl⟩
    · have hsame : dark.slot n = tripped.slot n := State.each_slot_of_not_mem hother hmem tripped
      rw [hsame, State.slot_of_not_mem_dieSlots (hn ▸ hmem)]
      exact ⟨rfl, rfl, rfl⟩
  have hslots : reset.slots = dark.slots := by simp [reset, State.setApart, State.clearPages]
  have hfinal (n : Nat) (hn : dieOf n = d) : (reset.slot n).Dark := by
    rw [State.slot_of_slots hslots n]
    exact hdark n hn
  clear_value reset
  obtain ⟨hmode, hmasked, hterr⟩ := reset.shutDie_stands d
  change ((reset.shutDie d).die d).mode = _ ∧ ((reset.shutDie d).die d).thermMask = _ ∧ ∀ n, dieOf n = d → ((reset.shutDie d).slot n).Dark
  exact ⟨hmode.trans hreset.1, hmasked.trans hreset.2, fun n hn => (hterr n hn).dark (hfinal n hn)⟩

/-! ## The rejoin and the return of a die (R172, R440, R441) -/

/-- The die is present and in its normal mode. -/
def State.Back (s : State) (d : Nat) : Prop := (s.die d).mode = .normal ∧ (s.die d).present = true

theorem State.back_of_stance {s t : State} {d : Nat} (h : (t.die d).stance = (s.die d).stance) (hs : s.Back d) : t.Back d := by
  simp only [Die.stance, Prod.mk.injEq] at h
  exact ⟨h.1.trans hs.1, h.2.1.trans hs.2⟩

theorem State.back_of_stances {s t : State} {d : Nat} (h : stances t.dies = stances s.dies) (hs : s.Back d) : t.Back d :=
  State.back_of_stance (State.stance_of_stances h d) hs

theorem State.modDie_back (s : State) (d : Nat) :
    (s.modDie d (fun x => { x with mode := .normal, present := true, apart := none })).Back d := by
  unfold State.Back
  rw [State.die_modDie_self]
  exact ⟨rfl, rfl⟩

theorem State.dieBack_back (s : State) (d : Nat) : (s.dieBack d).Back d := State.back_of_stances (by simp [State.dieBack]) (s.modDie_back d)

/-- The move of the lead role to a die that is back leaves a die back. -/
theorem State.leadBack_back {s : State} {d : Nat} (h : s.Back d) (e : Nat) (led : Bool) (ad : List AdoptIn) : (s.leadBack e led ad).Back d := by
  have hturn (f : Nat) (s : State) (h : s.Back d) : ((((s.modDie f (fun x => { x with mode := .normal })).unblock f).scanPending f).dieStart f
      |>.adoptDie f ad).Back d := by
    have hmod : (s.modDie f (fun x => { x with mode := .normal })).Back d := by
      by_cases hf : d = f
      · subst hf
        unfold State.Back
        rw [State.die_modDie_self]
        exact ⟨rfl, h.2⟩
      · unfold State.Back
        rw [State.die_modDie_ne _ _ hf]
        exact h
    exact State.back_of_stances (by simp) hmod
  have hfold (l : List Nat) (s : State) (h : s.Back d) : (s.each l (fun f s =>
      ((((s.modDie f (fun x => { x with mode := .normal })).unblock f).scanPending f).dieStart f).adoptDie f ad)).Back d := by
    induction l generalizing s with
    | nil => exact h
    | cons f l ih => exact ih _ (hturn f s h)
  unfold State.leadBack
  split
  · exact h
  · extract_lets moved u v
    refine hfold _ v (State.back_of_stances ?_ h)
    simp [v, u, State.leadDrop]

theorem State.rejoined_back (s : State) (d : Nat) (ad : List AdoptIn) : (s.rejoined d ad).Back d := by
  unfold State.rejoined
  extract_lets n led u v w x y
  have hu : u.Back d := s.dieBack_back d
  have hv : v.Back d := hu
  have hw : w.Back d := State.leadBack_back hv d led ad
  refine State.back_of_stances ?_ hw
  split <;> simp [y, x]

theorem State.rejoinedWarm_back (s : State) (d : Nat) : (s.rejoinedWarm d).Back d :=
  State.back_of_stances (by simp [State.rejoinedWarm]) (State.modDie_back (s.frameTableClear d) d)

theorem State.rejoinedWarm_slots (s : State) (d : Nat) : (s.rejoinedWarm d).slots = s.slots := by
  simp [State.rejoinedWarm, State.frameTableClear]

/-- A die that returns from its shutdown is present: in its normal mode, or held as in DIE-FAULT where it finds no lead die (R441). -/
theorem State.thermBack_stands (s : State) (d : Nat) (grat : List Nat) :
    ((s.thermBack d grat).die d).present = true ∧
    ((s.thermBack d grat).die d).mode = if s.inRun && !s.runs s.pkg.lead && decide (2 ≤ d) then .fault else .normal := by
  unfold State.thermBack
  extract_lets x led waits cleared back held evented r logged recorded scanned started
  have hback : back.Back d := by
    unfold back
    split
    · exact State.leadBack_back (cleared.dieBack_back d) d led []
    · exact cleared.modDie_back d
  have hheld : (held.die d).present = true ∧ (held.die d).mode = if waits then .fault else .normal := by
    unfold held
    split
    · rw [State.die_modDie_self]
      exact ⟨hback.2, rfl⟩
    · exact ⟨hback.2, hback.1⟩
  have hscanned : stances scanned.dies = stances held.dies := by
    simp [scanned, recorded, logged, evented, State.thermSlots, State.evtDie]
  have hstarted : stances started.dies = stances held.dies := by simp [started, hscanned]
  have hend : stances (if (!scanned.inRun || waits) = true then scanned else if d < 2 then started.autoJoin [d] else started).dies =
      stances held.dies := by
    split
    · exact hscanned
    · split
      · simpa using hstarted
      · exact hstarted
  have hst := State.stance_of_stances hend d
  simp only [Die.stance, Prod.mk.injEq] at hst
  obtain ⟨hmode, hpresent, -, -⟩ := hst
  exact ⟨hpresent.trans hheld.1, hmode.trans hheld.2⟩

end Sys2Proof.Machine
end

section
/-! PROOFS. The commands of a die that is lost, rejoins or returns (O14). -/
namespace Sys2Proof.Machine

/-- Settling writes no die and no slot. -/
theorem done_dies_slots (s u : State) : ∃ t, done s u = .next t ∧ t.dies = u.dies ∧ t.slots = u.slots := by
  obtain ⟨hslots, hdies, -⟩ := done_fields (done_next s u)
  exact ⟨_, done_next s u, hdies, hslots⟩

/-- Whether a die is present, or serves, is read from its stance. -/
theorem State.present_of_stances {s t : State} (h : stances t.dies = stances s.dies) (hi : t.ident = s.ident) (e : Nat) :
    t.present e = s.present e := by
  have hst := State.stance_of_stances h e
  simp only [Die.stance, Prod.mk.injEq] at hst
  simp only [State.present, State.fitted, hi, hst.2.1]

theorem State.runs_of_stances {s t : State} (h : stances t.dies = stances s.dies) (hi : t.ident = s.ident) (hp : t.pkg = s.pkg) (e : Nat) :
    t.runs e = s.runs e := by
  have hst := State.stance_of_stances h e
  simp only [Die.stance, Prod.mk.injEq] at hst
  simp only [State.runs, State.present_of_stances h hi, hp, hst.1]

/-! ## DIE-FAULT (R440) -/

theorem trellisSilence_faults {d : Nat} {s : State} (h : s.runs d = true) :
    ∃ t, exec (.trellisSilence d) s = .next t ∧ (t.die d).mode = .fault ∧ (t.die d).faultAt = s.now := by
  obtain ⟨hmode, hfault, -⟩ := s.dieFault_stands d 1
  obtain ⟨t, ht, hdies, -⟩ := done_dies_slots s (s.dieFault d 1)
  refine ⟨t, ?_, ?_, ?_⟩
  · change done s (if s.runs d then s.dieFault d 1 else s) = _
    rw [if_pos h, ht]
  · rw [State.die_of_dies hdies, hmode]
  · rw [State.die_of_dies hdies, hfault]

theorem watchdogExpiry_faults {d : Nat} {s : State} (h : s.runs d = true) (hd : d ≠ s.pkg.lead) :
    ∃ t, exec (.watchdogExpiry d) s = .next t ∧ (t.die d).mode = .fault ∧ (t.die d).present = false := by
  have hup : s.pkg.phase = .run ∧ s.present d = true ∧ (s.die d).mode = .normal := by simpa [State.runs, and_assoc] using h
  obtain ⟨hphase, hpresent, hnormal⟩ := hup
  obtain ⟨hmode, -, habsent⟩ := s.dieFault_stands d 0
  obtain ⟨t, ht, hdies, -⟩ := done_dies_slots s (s.dieFault d 0)
  refine ⟨t, ?_, ?_, ?_⟩
  · rw [← ht]
    simp [exec, execWatchdogExpiry, hd, hphase, hpresent, hnormal]
  · rw [State.die_of_dies hdies, hmode]
  · rw [State.die_of_dies hdies, habsent hd]

/-! ## The fixed shutdown and the return from it (R171, R172) -/

theorem thermalShutdown_darkens {d : Nat} (sensors : Nat) {s : State} (hphase : s.pkg.phase = .run ∨ s.pkg.phase = .warm)
    (hfit : s.fitted d = true) (hmode : (s.die d).mode ≠ .thermal) :
    ∃ t, exec (.thermalShutdown d sensors) s = .next t ∧ (t.die d).mode = .thermal ∧ (t.die d).thermMask = sensors % 4 ∧
      ∀ n, dieOf n = d → (t.slot n).Dark := by
  obtain ⟨hthermal, hmask, hdark⟩ := s.thermalStop_stands d sensors
  obtain ⟨t, ht, hdies, hslots⟩ := done_dies_slots s (s.thermalStop d sensors)
  refine ⟨t, ?_, ?_, ?_, fun n hn => ?_⟩
  · rw [← ht]
    simp [exec, execThermalShutdown, hphase, hfit, hmode]
  · rw [State.die_of_dies hdies, hthermal]
  · rw [State.die_of_dies hdies, hmask]
  · rw [State.slot_of_slots hslots]
    exact hdark n hn

theorem thermalRestart_returns {d : Nat} (grat : List Nat) {s : State} (hphase : s.pkg.phase = .run ∨ s.pkg.phase = .warm)
    (hfit : s.fitted d = true) (hmode : (s.die d).mode = .thermal) :
    ∃ t, exec (.thermalRestart d grat) s = .next t ∧ (t.die d).present = true ∧
      (t.die d).mode = if s.inRun && !s.runs s.pkg.lead && decide (2 ≤ d) then .fault else .normal := by
  obtain ⟨hpresent, hback⟩ := s.thermBack_stands d grat
  obtain ⟨t, ht, hdies, -⟩ := done_dies_slots s (s.thermBack d grat)
  refine ⟨t, ?_, ?_, ?_⟩
  · rw [← ht]
    simp [exec, execThermalRestart, hphase, hfit, hmode]
  · rw [State.die_of_dies hdies, hpresent]
  · rw [State.die_of_dies hdies, hback]

/-! ## The rejoin (R440) -/

/-- A rejoin is due for a die that is fitted, not present and in DIE-FAULT, one period after the last attempt. -/
structure State.RejoinDue (s : State) (d : Nat) : Prop where
  fitted : s.fitted d = true
  absent : s.present d = false
  fault : (s.die d).mode = .fault
  period : (s.die d).faultAt + 100 * MS * ((s.die d).attempts + 1) ≤ s.now

/-- The attempt is counted. -/
def State.attempted (s : State) (d : Nat) : State := s.modDie d (fun x => { x with attempts := x.attempts + 1 })

theorem State.attempted_stances (s : State) (d : Nat) : stances (s.attempted d).dies = stances s.dies := by simp [State.attempted]

/-- What an attempt that is due and reaches the Trellis does. -/
theorem dieRejoinAttempt_exec {d : Nat} (ad : List AdoptIn) {s : State} (hphase : s.pkg.phase = .run ∨ s.pkg.phase = .warm)
    (hdue : s.RejoinDue d) : exec (.dieRejoinAttempt d true ad) s = done s (
      let u := s.attempted d
      if u.inRun then (if u.runs u.pkg.lead || decide (d < 2) then u.rejoined d ad else u)
      else if u.present u.pkg.lead || decide (d < 2) then u.rejoinedWarm d else u) := by
  obtain ⟨hfit, habsent, hfault, hperiod⟩ := hdue
  simp only [exec, execDieRejoinAttempt, hfit, habsent, hfault, hperiod]
  rcases hphase with hphase | hphase <;>
    · simp only [hphase]
      rfl

theorem dieRejoinAttempt_run {d : Nat} (ad : List AdoptIn) {s : State} (hrun : s.inRun = true) (hdue : s.RejoinDue d)
    (hlead : s.runs s.pkg.lead = true ∨ d < 2) :
    ∃ t, exec (.dieRejoinAttempt d true ad) s = .next t ∧ (t.die d).mode = .normal ∧ (t.die d).present = true := by
  have hphase : s.pkg.phase = .run := by simpa [State.inRun] using hrun
  have hexec := dieRejoinAttempt_exec ad (.inl hphase) hdue
  extract_lets u at hexec
  have hurun : u.inRun = true := hrun
  have hruns : u.runs u.pkg.lead = s.runs s.pkg.lead := State.runs_of_stances (s.attempted_stances d) rfl rfl _
  have hguard : (u.runs u.pkg.lead || decide (d < 2)) = true := by simpa [hruns] using hlead
  rw [if_pos hurun, if_pos hguard] at hexec
  have hback := u.rejoined_back d ad
  obtain ⟨t, ht, hdies, -⟩ := done_dies_slots s (u.rejoined d ad)
  refine ⟨t, hexec.trans ht, ?_⟩
  rw [State.die_of_dies hdies]
  exact hback

theorem dieRejoinAttempt_warm {d : Nat} (ad : List AdoptIn) {s : State} (hwarm : s.pkg.phase = .warm) (hdue : s.RejoinDue d)
    (hlead : s.present s.pkg.lead = true ∨ d < 2) :
    ∃ t, exec (.dieRejoinAttempt d true ad) s = .next t ∧ (t.die d).mode = .normal ∧ (t.die d).present = true ∧ t.slots = s.slots := by
  have hexec := dieRejoinAttempt_exec ad (.inr hwarm) hdue
  extract_lets u at hexec
  have hurun : ¬ u.inRun = true := by simp [u, State.attempted, State.inRun, hwarm]
  have hpresent : u.present u.pkg.lead = s.present s.pkg.lead := State.present_of_stances (s.attempted_stances d) rfl _
  have hguard : (u.present u.pkg.lead || decide (d < 2)) = true := by simpa [hpresent] using hlead
  rw [if_neg hurun, if_pos hguard] at hexec
  obtain ⟨hmode, hback⟩ := u.rejoinedWarm_back d
  obtain ⟨t, ht, hdies, hslots⟩ := done_dies_slots s (u.rejoinedWarm d)
  have hsame : t.slots = s.slots := hslots.trans ((u.rejoinedWarm_slots d).trans (by simp [u, State.attempted]))
  refine ⟨t, hexec.trans ht, ?_⟩
  rw [State.die_of_dies hdies]
  exact ⟨hmode, hback, hsame⟩

/-- Settles O14, clause by clause of its statement: DIE-FAULT is `State.dieFault_stands`, the shutdown `State.thermalStop_stands`, the
rejoin `State.rejoined_back` and, in WARM-RESET by the choice of log entry 39, `State.rejoinedWarm_back`, the return
`State.thermBack_stands`. -/
theorem dieFaultShutdownAndReturn : Obligations.DieFaultShutdownAndReturn := by
  unfold Obligations.DieFaultShutdownAndReturn
  refine ⟨fun _ _ => trellisSilence_faults, fun _ _ => watchdogExpiry_faults, fun _ sensors _ => thermalShutdown_darkens sensors,
    fun d ad s hrun hfit habsent hfault hdue hlead => ?_, fun d ad s hwarm hfit habsent hfault hdue hlead => ?_,
    fun d grat s hphase hfit hmode => ?_⟩
  · exact dieRejoinAttempt_run ad hrun ⟨hfit, habsent, hfault, hdue⟩ hlead
  · exact dieRejoinAttempt_warm ad hwarm ⟨hfit, habsent, hfault, hdue⟩ hlead
  · obtain ⟨t, ht, hpresent, hback⟩ := thermalRestart_returns grat hphase hfit hmode
    refine ⟨t, ht, hpresent, fun hserved => ?_, fun hrun hfollower hnone => ?_⟩
    · rw [hback, if_neg]
      rcases hserved with hwarm | hd | hled
      · simp [State.inRun, hwarm]
      · simp [hd]
      · simp [hled]
    · rw [hback, if_pos]
      simp [State.inRun, hrun, hfollower, hnone]

end Sys2Proof.Machine
end

section
/-! PROOFS. The terrace settings that a slot's sub-state locks (O39). -/
namespace Sys2Proof.Machine

/-! ## A register write that its block refuses (R14, R33) -/

/-- An access that is not refused is not refused either where no Trellis response comes late. -/
theorem State.refusal_onTime {s : State} {a : Nat} (h : s.refusal a = 0) : (s.modPkg (fun p => { p with late := [] })).refusal a = 0 := by
  unfold State.refusal at h ⊢
  cases hl : locate a with
  | none => simp [hl] at h
  | some l =>
    cases hd : l.die with
    | none => simp [hd]
    | some d =>
      simp only [hl, hd] at h ⊢
      have hruns : (!s.runs d) = false := by
        cases hr : s.runs d <;> simp [hr] at h ⊢
      change (if (!s.runs d) = true then 2 else _) = 0
      simp [hruns, State.modPkg]

/-- A write that no merged word passes is refused whole. -/
theorem State.plainIf_refused (s : State) (p a : Nat) (r : Row) (v : Word) {check : Word → Bool} (act : State → State)
    (h : ∀ w, check w = false) : s.plainIf p a r v check act = s.reject p := by
  simp [State.plainIf, h]

/-- REGISTER_WRITE that is taken, and that the register's own rule refuses, sets WR_REJECT and changes nothing else. -/
theorem registerWrite_rejected {ini : Ini} {a : Nat} {v : Word} {s : State} {l : Loc} {r : Row} (ha : a / 4 * 4 = a)
    (hl : locate a = some l) (hh : l.blk.header = true) (hc : l.blk ≠ .cont) (ho : l.off ≠ 0x20) (hr : rowAt l = some r)
    (hw : s.takesLocked ini a = true)
    (hrej : ∀ u : State, u.regs = s.regs → u.slots = s.slots → u.regAct l r v s.nowNs = u.reject l.page) :
    ∃ t, exec (.registerWrite ini a v) s = .next t ∧ Quiet s t ∧ t.evtBit l.page 31 = true := by
  obtain ⟨htakes, hunlocked⟩ : s.takes ini a = true ∧ s.unlockedFor ini (lockPage a) = true := by
    simpa [State.takesLocked] using hw
  let u := s.modPkg (fun p => { p with late := [] })
  obtain ⟨hserving, hbar, hrefusal⟩ := State.takes_iff.mp htakes
  replace hrefusal : u.refusal a = 0 := State.refusal_onTime hrefusal
  have hserved : u.takes ini a = true := State.takes_iff.mpr ⟨hserving, hbar, hrefusal⟩
  obtain ⟨pg, hwrite⟩ := u.write_taken ini a (lockedFor l r v) (fun u => u.regAct l r v s.nowNs) hserved (.inr hunlocked)
  have hact : State.regAct { u with pages := pg } l r v s.nowNs = State.reject { u with pages := pg } l.page := hrej _ rfl rfl
  have hreg : u.regWrite ini a v s.now s.nowNs = State.reject { u with pages := pg } l.page := by
    rw [State.regWrite_eq_write u ini a v s.now s.nowNs (by rwa [ha]) hh hc ho hr (by rwa [ha]), ha]
    exact hwrite.trans hact
  have hu : s.lately [] (fun s => s.regWrite ini a v s.now s.nowNs) = State.reject { s with pages := pg } l.page :=
    congrArg (State.modPkg · (fun p => { p with late := s.pkg.late })) hreg
  obtain ⟨t, ht, hq⟩ := done_quiet s (State.reject { s with pages := pg } l.page) (by simp) (by simp) (by simp)
  refine ⟨t, ?_, ?_, ?_⟩
  · change execRegisterWrite ini a v [] s = .next t
    rw [execRegisterWrite, hu, ht]
  · exact Quiet.of_pages (pg := (State.reject { s with pages := pg } l.page).pages) hq
  · exact done_keeps_bit ht _ _ (State.evtBit_evt _ l.page 31 (by decide))

/-! ## TERR_CFG, TGT0 and TGT1 (R193) -/

theorem locate_slot {n o : Nat} (hn : n < 128) (ho : o < 0x1000) : locate (slotB n + o) = some ⟨.slot, n, o⟩ := by
  have hinst : (slotB n + o) / 0x1000 - 0x100 = n := by unfold slotB; omega
  have hoff : (slotB n + o) % 0x1000 = o := by unfold slotB; omega
  have hlow : 0x100000 ≤ slotB n + o := by unfold slotB; omega
  have hhigh : slotB n + o < 0x180000 := by unfold slotB; omega
  unfold locate
  repeat rw [if_neg (by omega)]
  rw [if_pos hhigh, hinst, hoff]

theorem State.writeSlot_terrBusy {u : State} {n o : Nat} (r : Row) (v : Word) (ho : o = 0x280 ∨ o = 0x284 ∨ o = 0x288)
    (hb : u.terrBusy n = true) : u.writeSlot n ⟨.slot, n, o⟩ r v = u.reject (slotPage n) := by
  have hcfg (w : Word) : u.terrCfgOk n w = false := by simp [State.terrCfgOk, hb]
  have htgt (w : Word) : u.tgtWriteOk n w = false := by simp [State.tgtWriteOk, hb]
  rcases ho with rfl | rfl | rfl
  · exact u.plainIf_refused (slotPage n) (slotB n + 0x280) r v (·.reachSlot n) hcfg
  · exact u.plainIf_refused (slotPage n) (slotB n + 0x284) r v (·.reachSlot n) htgt
  · exact u.plainIf_refused (slotPage n) (slotB n + 0x288) r v (·.reachSlot n) htgt

theorem rowAt_terrSlot (n : Nat) {o : Nat} (ho : o = 0x280 ∨ o = 0x284 ∨ o = 0x288) :
    ∃ r, rowAt ⟨.slot, n, o⟩ = some r ∧ r.acc = .rw := by
  have h : (rowAt ⟨.slot, 0, o⟩).map (·.acc) = some .rw := by rcases ho with rfl | rfl | rfl <;> decide
  exact Option.map_eq_some_iff.mp h

theorem slotTerrWrite_rejected {ini : Ini} {n o : Nat} (v : Word) {s : State} (hn : n < 128) (ho : o = 0x280 ∨ o = 0x284 ∨ o = 0x288)
    (hw : s.takesLocked ini (slotB n + o) = true) (hb : s.terrBusy n = true) :
    ∃ t, exec (.registerWrite ini (slotB n + o) v) s = .next t ∧ Quiet s t ∧ t.evtBit (slotPage n) 31 = true := by
  obtain ⟨r, hr, hacc⟩ := rowAt_terrSlot n ho
  refine registerWrite_rejected (l := ⟨.slot, n, o⟩) (by unfold slotB; omega) (locate_slot hn (by omega)) rfl (by simp) (by simp; omega)
    hr hw ?_
  intro u _ hslots
  have hub : u.terrBusy n = true := by simpa [State.terrBusy, State.slot_of_slots hslots] using hb
  have hact : u.regAct ⟨.slot, n, o⟩ r v s.nowNs = u.writeSlot n ⟨.slot, n, o⟩ r v := by
    simp [State.regAct, hacc]; omega
  rw [hact]
  exact State.writeSlot_terrBusy r v ho hub

/-! ## LEVEL_CFGn (R193) -/

/-- A slot that does not read as new is listed. -/
theorem State.mem_slots_of_ne {s : State} {n : Nat} (h : s.slot n ≠ {}) : (n, s.slot n) ∈ s.slots := by
  unfold State.slot mget at h ⊢
  split at h
  · next e he =>
    obtain rfl : e.1 = n := by simpa using List.find?_some he
    exact List.mem_of_find?_eq_some he
  · exact absurd rfl h

theorem State.levelWriteOk_of_waiting {s : State} {n : Nat} (hsub : (s.slot n).terr.sub ≠ .idle) (w : Word) :
    s.levelWriteOk (s.level n) w = false := by
  have hlisted : (n, s.slot n) ∈ s.slots := State.mem_slots_of_ne (fun h => hsub (by rw [h]))
  have hany : s.slots.any (fun e => e.2.terr.sub != .idle && s.level e.1 == s.level n) = true :=
    List.any_eq_true.mpr ⟨_, hlisted, by simp [hsub]⟩
  simp [State.levelWriteOk, hany]

theorem locate_levelCfg {k : Nat} (hk : k ≤ 7) : locate (terrB + 0x40 + 4 * k) = some ⟨.terr, 0, 0x40 + 4 * k⟩ := by
  revert k
  decide

theorem rowAt_levelCfg {k : Nat} (h1 : 1 ≤ k) (h7 : k ≤ 7) : ∃ r, rowAt ⟨.terr, 0, 0x40 + 4 * k⟩ = some r ∧ r.acc = .rw := by
  have h : (rowAt ⟨.terr, 0, 0x40 + 4 * k⟩).map (·.acc) = some .rw := by
    revert k
    decide
  exact Option.map_eq_some_iff.mp h

theorem levelCfgWrite_rejected {ini : Ini} {n k : Nat} (v : Word) {s : State} (h1 : 1 ≤ k) (h7 : k ≤ 7)
    (hw : s.takesLocked ini (terrB + 0x40 + 4 * k) = true) (hsub : (s.slot n).terr.sub ≠ .idle) (hlevel : s.level n = k) :
    ∃ t, exec (.registerWrite ini (terrB + 0x40 + 4 * k) v) s = .next t ∧ Quiet s t ∧ t.evtBit (pageNo terrB) 31 = true := by
  obtain ⟨r, hr, hacc⟩ := rowAt_levelCfg h1 h7
  refine registerWrite_rejected (l := ⟨.terr, 0, 0x40 + 4 * k⟩) (by unfold terrB; omega) (locate_levelCfg h7) rfl (by simp)
    (by simp; omega) hr hw ?_
  intro u hregs hslots
  have hlev : u.level n = k := by rw [← hlevel]; exact congrArg (fld · 2 0) (State.reg_of_regs hregs _)
  have hbar (w : Word) : u.levelWriteOk k w = false := by
    have hn : (u.slot n).terr.sub ≠ .idle := by rwa [State.slot_of_slots hslots]
    exact hlev ▸ State.levelWriteOk_of_waiting hn w
  have hact : u.regAct ⟨.terr, 0, 0x40 + 4 * k⟩ r v s.nowNs =
      u.plainIf (pageNo terrB) (terrB + (0x40 + 4 * k)) r v (u.levelWriteOk k) (·.reachUpdate) := by
    simp [State.regAct, hacc, Loc.page, Loc.base]
  exact hact.trans (u.plainIf_refused _ _ r v _ hbar)

/-- Settles O39: the sub-state bars the check of each register, by `slotTerrWrite_rejected` and `levelCfgWrite_rejected`, and a write
that no word passes does no more than set WR_REJECT, by `registerWrite_rejected`. -/
theorem terraceSettingsRefusedWhileWaiting : Obligations.TerraceSettingsRefusedWhileWaiting := by
  refine ⟨fun ini n o v s hn ho hw hbusy => slotTerrWrite_rejected v hn ho hw ?_,
    fun ini n k v s h1 h7 hw hsub hlevel => levelCfgWrite_rejected v h1 h7 hw hsub hlevel⟩
  simpa [State.terrBusy] using hbusy

end Sys2Proof.Machine
end

section
/-! PROOFS. What sending and receiving on a ring port keep: what has left, what a gap window holds back, the sequence of the frames that are
accepted, the FeRAM and the states of the slots (O50). -/
namespace Sys2Proof.Machine

/-! ## Ports (R316) -/

theorem State.port_of_ports {s t : State} (h : t.ports = s.ports) (i : Nat) : t.port i = s.port i := by unfold State.port; rw [h]

/-- A port whose link is UP is one of the part's. -/
theorem State.port_lt_of_up {s : State} {p : Nat} (h : s.portUp p = true) : p < s.ports.length := by
  by_contra hp
  have hnone : s.port p = {} := by simp [State.port, lget, Nat.le_of_not_lt hp]
  simp [State.portUp, hnone] at h

/-- A change of one port, where it is read. -/
theorem State.port_setPort (s : State) (q p : Nat) (x : Port) :
    (s.setPort p x).port q = if q = p ∧ p < s.ports.length then x else s.port q := by
  by_cases hq : q = p
  · subst hq
    by_cases hl : q < s.ports.length
    · simp [hl]
    · simp [hl, State.port, State.setPort, lget, lset]
  · simp [hq, State.port_setPort_ne s x hq]

theorem State.pair_of_pairs {s t : State} (hab : t.pairAB = s.pairAB) (hcd : t.pairCD = s.pairCD) (k : Nat) : t.pair k = s.pair k := by
  unfold State.pair; rw [hab, hcd]

/-! ## What the lanes keep -/

/-- What the sending of frames and the receipt of one leave in t of s: the time and the gap windows, all that has left, what a window still
holds back (R334), the sequence number that each port expects (R327), the FeRAM and the states of the slots. -/
structure LaneKept (s t : State) : Prop where
  now : t.now = s.now
  mer : t.mer = s.mer
  window : ∀ k, (t.pair k).window = (s.pair k).window
  outbox : s.outbox <+: t.outbox
  rxSeq : ∀ i, (t.port i).rxSeq = (s.port i).rxSeq
  kept : ∀ i o, s.clearsWindow (i / 2) s.now o.size = false → o ∈ (s.port i).kept → o ∈ (t.port i).kept
  feram : t.feram = s.feram
  st : ∀ n, (t.slot n).st = (s.slot n).st

/-- Whether an item clears a gap window turns on the time and on the window. -/
theorem State.clearsWindow_congr {s t : State} (hnow : t.now = s.now) (hmer : t.mer = s.mer) {k : Nat}
    (hwin : (t.pair k).window = (s.pair k).window) (start n : Nat) : t.clearsWindow k start n = s.clearsWindow k start n := by
  unfold State.clearsWindow State.nowNs
  rw [hnow, hmer, hwin]

theorem LaneKept.refl (s : State) : LaneKept s s :=
  ⟨rfl, rfl, fun _ => rfl, List.prefix_rfl, fun _ => rfl, fun _ _ _ h => h, rfl, fun _ => rfl⟩

theorem LaneKept.trans {s t u : State} (h : LaneKept s t) (h' : LaneKept t u) : LaneKept s u where
  now := h'.now.trans h.now
  mer := h'.mer.trans h.mer
  window k := (h'.window k).trans (h.window k)
  outbox := h.outbox.trans h'.outbox
  rxSeq i := (h'.rxSeq i).trans (h.rxSeq i)
  kept i o hc ho := by
    refine h'.kept i o ?_ (h.kept i o hc ho)
    rw [State.clearsWindow_congr h.now h.mer (h.window _), h.now, hc]
  feram := h'.feram.trans h.feram
  st n := (h'.st n).trans (h.st n)

/-- A change that writes no lane, no FeRAM and no state of a slot. -/
theorem LaneKept.of_ports {s t : State} (h : t.now = s.now ∧ t.mer = s.mer ∧ t.outbox = s.outbox ∧ t.ports = s.ports ∧ t.feram = s.feram)
    (hwin : ∀ k, (t.pair k).window = (s.pair k).window) (hst : ∀ n, (t.slot n).st = (s.slot n).st) : LaneKept s t := by
  obtain ⟨hnow, hmer, houtbox, hports, hferam⟩ := h
  exact ⟨hnow, hmer, hwin, by rw [houtbox], fun i => by rw [State.port_of_ports hports],
    fun i o _ ho => by rwa [State.port_of_ports hports], hferam, hst⟩

/-- A change of other homes. -/
theorem LaneKept.of_eq {s t : State} (h : (t.now = s.now ∧ t.mer = s.mer ∧ t.outbox = s.outbox ∧ t.ports = s.ports ∧ t.feram = s.feram) ∧
    t.pairAB = s.pairAB ∧ t.pairCD = s.pairCD ∧ t.slots = s.slots) : LaneKept s t := by
  obtain ⟨h, hab, hcd, hslots⟩ := h
  exact .of_ports h (fun k => by rw [State.pair_of_pairs hab hcd]) (fun n => by rw [State.slot_of_slots hslots])

theorem LaneKept.ite {s t u : State} {c : Prop} [Decidable c] (ht : LaneKept s t) (hu : LaneKept s u) : LaneKept s (if c then t else u) := by
  split
  · exact ht
  · exact hu

theorem State.each_laneKept {α : Type} {g : α → State → State} (hg : ∀ x s, LaneKept s (g x s)) (l : List α) (s : State) :
    LaneKept s (s.each l g) := by
  induction l generalizing s with
  | nil => exact .refl s
  | cons x l ih => exact (hg x s).trans (ih _)

theorem State.outbox_laneKept (s : State) (l : List (Nat × Out)) : LaneKept s { s with outbox := s.outbox ++ l } where
  now := rfl
  mer := rfl
  window _ := rfl
  outbox := List.prefix_append ..
  rxSeq _ := rfl
  kept _ _ _ h := h
  feram := rfl
  st _ := rfl

theorem State.emit_laneKept (s : State) (o : Out) : LaneKept s (s.emit o) := s.outbox_laneKept _

theorem State.modPair_laneKept (s : State) (k : Nat) {g : Pair → Pair} (hg : ∀ x, (g x).window = x.window) : LaneKept s (s.modPair k g) := by
  have hslots : (s.modPair k g).slots = s.slots := by simp
  refine .of_ports (by simp) (fun j => ?_) (fun n => by rw [State.slot_of_slots hslots])
  unfold State.modPair State.setPair State.pair
  by_cases hk : k = 0 <;> by_cases hj : j = 0 <;> simp [hk, hj, hg]

/-- A port that expects the same frame and holds back what it must, and an outbox that has grown. -/
theorem State.setPort_laneKept (s : State) (i : Nat) {x : Port} {l : List (Nat × Out)} (hseq : x.rxSeq = (s.port i).rxSeq)
    (hkept : ∀ o, s.clearsWindow (i / 2) s.now o.size = false → o ∈ (s.port i).kept → o ∈ x.kept) :
    LaneKept s { s.setPort i x with outbox := s.outbox ++ l } where
  now := rfl
  mer := rfl
  window _ := rfl
  outbox := List.prefix_append ..
  rxSeq j := by
    change ((s.setPort i x).port j).rxSeq = _
    rw [State.port_setPort]
    split
    · next h => rw [hseq, h.1]
    · rfl
  kept j o hc ho := by
    change o ∈ ((s.setPort i x).port j).kept
    rw [State.port_setPort]
    split
    · next h =>
      obtain ⟨rfl, -⟩ := h
      exact hkept o hc ho
    · exact ho
  feram := rfl
  st _ := rfl

theorem State.modPort_laneKept (s : State) (i : Nat) {g : Port → Port} (hseq : (g (s.port i)).rxSeq = (s.port i).rxSeq)
    (hkept : (s.port i).kept ⊆ (g (s.port i)).kept) : LaneKept s (s.modPort i g) := by
  have h := s.setPort_laneKept i (l := []) hseq (fun o _ ho => hkept ho)
  rwa [List.append_nil] at h

/-! ## Sending (R326, R327, R334) -/

theorem State.sendItem_laneKept (s : State) (i n : Nat) (o : Out) : LaneKept s (s.sendItem i n o) := by
  unfold State.sendItem
  exact .ite (s.emit_laneKept o) (s.modPort_laneKept i rfl (List.subset_append_left ..))

theorem State.linkWord_laneKept (s : State) (i : Nat) (w : LWord) : LaneKept s (s.linkWord i w) := by
  cases w <;> exact s.sendItem_laneKept ..

/-- The frames that start at a port leave the sequence of what it accepts. -/
theorem State.pumpPort_rxSeq (s : State) (i : Nat) (l : List Frame) (x : Port) (o : List Out) : (s.pumpPort i l x o).1.rxSeq = x.rxSeq := by
  induction l generalizing x o with
  | nil => rfl
  | cons f r ih =>
    unfold State.pumpPort
    dsimp only
    split
    · exact ih _ _
    · rfl

/-- What does not clear the window stays behind what does. -/
theorem State.mem_drop_cleared {s : State} {i : Nat} {o : Out} (hc : s.clearsWindow (i / 2) s.now o.size = false) (ho : o ∈ (s.port i).kept) :
    o ∈ (s.port i).kept.drop (s.cleared i).length := by
  let p : Out → Bool := fun o => s.clearsWindow (i / 2) s.now o.size
  have hsplit : (s.port i).kept.takeWhile p ++ (s.port i).kept.dropWhile p = (s.port i).kept := List.takeWhile_append_dropWhile
  have hdrop : (s.port i).kept.drop (s.cleared i).length = (s.port i).kept.dropWhile p := by
    have h : ((s.port i).kept.takeWhile p ++ (s.port i).kept.dropWhile p).drop (s.cleared i).length = _ := List.drop_left
    rwa [hsplit] at h
  rw [hdrop]
  rw [← hsplit] at ho
  refine (List.mem_append.mp ho).resolve_left fun htake => ?_
  have hp : p o = true := List.mem_takeWhile_imp htake
  simp [p, hc] at hp

theorem State.pump_laneKept (s : State) (i : Nat) : LaneKept s (s.pump i) := by
  unfold State.pump
  refine .ite (s.setPort_laneKept i ?_ (fun o hc ho => s.mem_drop_cleared hc ho)) (.refl s)
  dsimp only
  split
  · rfl
  · exact s.pumpPort_rxSeq ..

theorem State.sendPort_laneKept (s : State) (i : Nat) (f : Frame) : LaneKept s (s.sendPort i f) := by
  unfold State.sendPort
  exact .ite (.ite (s.sendItem_laneKept ..) (.refl s)) ((s.modPort_laneKept i rfl (List.Subset.refl _)).trans (State.pump_laneKept _ i))

theorem State.sendPair_laneKept (s : State) (k : Nat) (f : Frame) : LaneKept s (s.sendPair k f) := by
  unfold State.sendPair
  exact .ite (.refl s) (.ite (s.sendPort_laneKept ..) (s.sendPort_laneKept ..))

theorem State.sendFrame_laneKept (s : State) (f : Frame) : LaneKept s (s.sendFrame f).1 := by
  unfold State.sendFrame
  split
  · split
    · exact s.sendPair_laneKept ..
    · exact .refl s
  · exact .refl s

/-! ## Settling (R54, R319, R334, R340) -/

theorem State.sendEvent_laneKept (s : State) : LaneKept s s.sendEvent := by
  unfold State.sendEvent
  dsimp only
  have h : LaneKept s { s with pkg := { s.pkg with evSeq := (s.pkg.evSeq + 1) % 65536 } } := .of_eq (by simp)
  exact .ite h (h.trans (State.sendFrame_laneKept ..))

theorem State.settleSummary_laneKept (s : State) : LaneKept s s.settleSummary := by
  unfold State.settleSummary
  extract_lets n u
  have hu : LaneKept s u := .ite s.sendEvent_laneKept (.refl s)
  exact hu.trans (.of_eq (by simp))

theorem State.settleLines_laneKept (s : State) : LaneKept s s.settleLines := by
  unfold State.settleLines
  dsimp only
  refine (State.each_laneKept (fun i s => ?_) _ _).trans (State.each_laneKept (fun k s => ?_) _ _)
  · have hpump : LaneKept s (if s.pumpDue i then s.pump i else s) := .ite (s.pump_laneKept i) (.refl s)
    refine hpump.trans (.ite (.refl _) ((State.modPort_laneKept _ i rfl (List.Subset.refl _)).trans (State.emit_laneKept ..)))
  · exact .ite (.refl s) ((s.modPair_laneKept k (g := fun p => { p with drv := !p.drv }) (fun _ => rfl)).trans (State.emit_laneKept ..))

theorem State.settle_laneKept (s : State) : LaneKept s s.settle := by
  unfold State.settle
  have hbits : LaneKept s s.settleEwarn.settleFault.settleDirty := .of_eq (by simp)
  exact hbits.trans ((State.settleSummary_laneKept _).trans ((State.settleLines_laneKept _).trans (.of_eq (by simp))))

/-- The outcome of a command keeps what its new state holds on the lanes. -/
theorem done_laneKept {s u t : State} (h : done s u = .next t) (hnow : u.now = s.now) : LaneKept u t := by
  rw [done_next] at h
  cases h
  have hs := u.settle_laneKept
  exact ⟨hnow.symm, hs.mer, hs.window, hs.outbox, hs.rxSeq, hs.kept, hs.feram, hs.st⟩

/-! ## A frame that is received (R322, R330, R336, R345, R347) -/

theorem State.response_laneKept (s : State) (f : Frame) : LaneKept s (s.response f) := by
  unfold State.response
  extract_lets g
  exact .ite (.of_eq (by simp)) (.ite (.of_eq (by simp)) (.of_eq (by simp)))

theorem State.respond_laneKept (s : State) (f : Frame) (status : Nat) (payload : List Nat) : LaneKept s (s.respond f status payload) := by
  unfold State.respond
  exact .ite (s.response_laneKept _) (s.sendFrame_laneKept _)

theorem State.strip_laneKept (s : State) (k : Nat) (f : Frame) : LaneKept s (s.strip k f) := by
  unfold State.strip
  extract_lets u
  have hu : LaneKept s u := .of_eq (by simp [u])
  split
  · exact hu.trans (u.respond_laneKept ..)
  · exact hu.trans (u.respond_laneKept ..)
  · exact hu

theorem State.forward_laneKept (s : State) (k out units : Nat) (f : Frame) : LaneKept s (s.forward k out units f) := by
  unfold State.forward
  exact .ite (.of_eq (by simp)) (s.sendPair_laneKept ..)

theorem State.passBack_laneKept (s : State) (p : Nat) (f : Frame) : LaneKept s (s.passBack p f) := by
  unfold State.passBack
  exact .ite (.of_eq (by simp)) (s.sendPort_laneKept ..)

theorem State.request_laneKept (s : State) (k : Nat) (f : Frame) : LaneKept s (s.request k f) := by
  unfold State.request
  refine .ite (.ite (.refl s) (LaneKept.trans (.of_eq ?_) (State.respond_laneKept ..))) (.of_eq ?_) <;> simp

theorem State.streamRx_laneKept (s : State) (src seq : Nat) (es : List (BitVec 64)) : LaneKept s (s.streamRx src seq es) := by
  unfold State.streamRx
  refine .ite (.of_eq (by simp)) ?_
  extract_lets q v u
  have hu : LaneKept s u := by
    unfold u
    split
    · exact .ite (.of_eq (by simp [v])) (.of_eq (by simp [v]))
    · exact .ite (.of_eq (by simp)) (.of_eq (by simp))
  refine hu.trans (State.each_laneKept (fun e s => ?_) es u)
  exact .ite (.of_eq (by simp)) (.of_eq (by simp))

theorem State.deliver_laneKept (s : State) (k : Nat) (f : Frame) : LaneKept s (s.deliver k f) := by
  unfold State.deliver
  split
  · exact s.request_laneKept ..
  · exact s.request_laneKept ..
  · exact s.response_laneKept ..
  · exact s.streamRx_laneKept ..
  · exact .refl s

theorem State.route1_laneKept (s : State) (k : Nat) (f : Frame) : LaneKept s (s.route1 k f) := by
  unfold State.route1
  extract_lets ring own
  split
  · exact .refl s
  · exact .refl s
  · exact .refl s
  · split
    · exact .ite (s.strip_laneKept ..) (s.deliver_laneKept ..)
    · extract_lets u
      have hu : LaneKept s u := .ite (s.deliver_laneKept ..) (.refl s)
      exact hu.trans (u.forward_laneKept ..)

theorem State.setRoutes_laneKept (s : State) (r : Routes) : LaneKept s (s.setRoutes r) := by
  have hab : (s.setRoutes r).pairAB = s.pairAB := by simp
  have hcd : (s.setRoutes r).pairCD = s.pairCD := by simp
  refine .of_ports (by simp) (fun k => by rw [State.pair_of_pairs hab hcd]) (fun n => ?_)
  obtain ⟨terr, hslot⟩ := State.reachUpdate_terrOnly { s with routes := r } n
  exact (congrArg Slot.st hslot :)

theorem State.noteWrap_laneKept (s : State) (k : Nat) (routes : Option Routes) : LaneKept s (s.noteWrap k routes) := by
  unfold State.noteWrap
  extract_lets was u
  have hu : LaneKept s u := s.modPair_laneKept k (fun _ => rfl)
  refine .ite hu ?_
  have hevt : LaneKept s (u.ringEvt k [4]) := hu.trans (.of_eq (by simp))
  split
  · exact hevt.trans (State.setRoutes_laneKept ..)
  · exact hevt

end Sys2Proof.Machine
end

section
/-! PROOFS. The bounds of the addresses that a line carries, and what an address is to the part while errors of a link are counted (O50). -/
namespace Sys2Proof

/-! ## Addresses on a line (R320, R323) -/

theorem frameOf_src_lt {b : List Nat} {f : Frame} (h : frameOf b = some f) : f.src < 16384 := by
  unfold frameOf at h
  extract_lets at_ pl len at h
  split at h
  · contradiction
  · obtain ⟨-, hsome⟩ := Option.ite_none_left_eq_some.mp h
    obtain rfl := Option.some.inj hsome
    exact Nat.mod_lt _ (by decide)

theorem Line.frame_src_lt {rx : Line} {f : Frame} (h : rx.frame.f = some f) : f.src < 16384 := by
  unfold Line.frame at h
  extract_lets cs v body bad ends at h
  split at h
  · exact frameOf_src_lt h
  · obtain ⟨hd, -, hf⟩ := Option.bind_eq_some_iff.mp h
    exact frameOf_src_lt hf

theorem msgOf_tgtAddr_lt (k : MsgKind) (u : Nat) : (msgOf k u).tgtAddr < 16384 := Nat.mod_lt _ (by decide)

theorem Line.urgent_tgtAddr_lt {rx : Line} {m : Msg} {ok : Bool} (h : rx.urgent = some (m, ok)) : m.tgtAddr < 16384 := by
  unfold Line.urgent at h
  split at h
  · split at h
    · cases h
      exact msgOf_tgtAddr_lt ..
    · cases h
      exact msgOf_tgtAddr_lt ..
    · contradiction
  · contradiction

namespace Machine

/-! ## Errors that are counted (R355) -/

/-- A normal frame as it arrives, its errors counted. -/
def State.countErrors (s : State) (p n : Nat) : State := if n == 0 then s else s.addSat (linkCnt p) 15 0 n

@[simp] theorem State.countErrors_frame (s : State) (p n : Nat) :
    (s.countErrors p n).now = s.now ∧ (s.countErrors p n).mer = s.mer ∧ (s.countErrors p n).pairAB = s.pairAB ∧
    (s.countErrors p n).pairCD = s.pairCD ∧ (s.countErrors p n).ports = s.ports ∧ (s.countErrors p n).outbox = s.outbox ∧
    (s.countErrors p n).slots = s.slots ∧ (s.countErrors p n).dies = s.dies ∧ (s.countErrors p n).feram = s.feram ∧
    (s.countErrors p n).xact = s.xact := by
  simp [State.countErrors]

/-- The low half of a word reads what was written to it, modulo its width. -/
theorem fld_setFld_half (w : Word) (v : Nat) : fld (setFld w 15 0 v) 15 0 = v % 65536 := by
  unfold fld setFld
  have hw := w.isLt
  simp only [BitVec.toNat_ofNat]
  omega

theorem fld_half_lt (w : Word) : fld w 15 0 < 65536 := Nat.mod_lt _ (by decide)

theorem State.addSat_rf_half (s : State) (a n : Nat) : (s.addSat a 15 0 n).rf a 15 0 = sat 65535 (s.rf a 15 0 + n) := by
  unfold State.addSat State.setRf State.rf
  rw [State.reg_setReg_self, fld_setFld_half]
  exact Nat.mod_eq_of_lt (by unfold sat; split <;> omega)

theorem State.countErrors_rf (s : State) (p n : Nat) : (s.countErrors p n).rf (linkCnt p) 15 0 = sat 65535 (s.rf (linkCnt p) 15 0 + n) := by
  unfold State.countErrors
  split
  · next h =>
    have hlt : s.rf (linkCnt p) 15 0 < 65536 := fld_half_lt _
    have hn : n = 0 := by simpa using h
    unfold sat
    split <;> omega
  · exact s.addSat_rf_half ..

/-! ## What an address is to the part (R325, R336, R337) -/

/-- t and s have the same ring registers, but for the counters of their links, and the same pairs. -/
structure SameRings (s t : State) : Prop where
  reg : ∀ a, a % 0x1000 ≠ 0x5C → a % 0x1000 ≠ 0x60 → t.reg a = s.reg a
  pairAB : t.pairAB = s.pairAB
  pairCD : t.pairCD = s.pairCD

/-- LINK_CNT of a port is one of two offsets of a page (R357). -/
theorem linkCnt_offset (p : Nat) : linkCnt p % 0x1000 = 0x5C ∨ linkCnt p % 0x1000 = 0x60 := by
  unfold linkCnt ringB
  omega

theorem State.addSat_linkCnt_sameRings (s : State) (p hi lo n : Nat) : SameRings s (s.addSat (linkCnt p) hi lo n) where
  reg a h h' := State.reg_setReg_ne _ _ (by rintro rfl; exact (linkCnt_offset p).elim h h')
  pairAB := by simp
  pairCD := by simp

theorem State.countErrors_sameRings (s : State) (p n : Nat) : SameRings s (s.countErrors p n) := by
  unfold State.countErrors
  split
  · exact ⟨fun _ _ _ => rfl, rfl, rfl⟩
  · exact s.addSat_linkCnt_sameRings ..

theorem SameRings.trans {s t u : State} (h : SameRings s t) (h' : SameRings t u) : SameRings s u :=
  ⟨fun a ha ha' => (h'.reg a ha ha').trans (h.reg a ha ha'), h'.pairAB.trans h.pairAB, h'.pairCD.trans h.pairCD⟩

theorem SameRings.of_eq {s t : State} (h : t.regs = s.regs ∧ t.pairAB = s.pairAB ∧ t.pairCD = s.pairCD) : SameRings s t :=
  ⟨fun a _ _ => State.reg_of_regs h.1 a, h.2.1, h.2.2⟩

section
variable {s t : State} (h : SameRings s t)
include h

theorem SameRings.pair (k : Nat) : t.pair k = s.pair k := State.pair_of_pairs h.pairAB h.pairCD k

theorem SameRings.pairCfg (hi lo : Nat) : t.rf (ringB 1 + 0x40) hi lo = s.rf (ringB 1 + 0x40) hi lo := by
  unfold State.rf
  rw [h.reg _ (by decide) (by decide)]

theorem SameRings.pairMode : t.pairMode 1 = s.pairMode 1 := h.pairCfg 1 0
theorem SameRings.childRing : t.childRing = s.childRing := h.pairCfg 22 16

theorem SameRings.sysValid : t.sysValid = s.sysValid := by
  unfold State.sysValid
  rw [h.pairMode, h.pairAB, h.pairCD]

theorem SameRings.isOwn (a : Nat) : t.isOwn a = s.isOwn a := by
  unfold State.isOwn State.sysAddr
  rw [h.sysValid, h.pairMode, h.childRing, h.pairAB, h.pairCD]

/-- DOWN_MASK has four words, for the rings of a 14-bit address. -/
theorem SameRings.isDown {ring : Nat} (hr : ring < 128) : t.isDown ring = s.isDown ring := by
  unfold State.isDown State.rf
  have hoff : (ringB 1 + 0x80 + 4 * (ring / 32)) % 0x1000 = 0x80 + 4 * (ring / 32) := by unfold ringB; omega
  rw [h.reg _ (by omega) (by omega)]

theorem SameRings.crosses (k : Nat) {ring : Nat} (hr : ring < 128) : t.crosses k ring = s.crosses k ring := by
  unfold State.crosses
  rw [h.pairMode, h.pair, h.pair, h.isDown hr]

theorem SameRings.inserted (k : Nat) {f : Frame} (hf : f.src < 16384) : t.inserted k f = s.inserted k f := by
  unfold State.inserted
  dsimp only
  rw [h.isOwn, h.pairMode, h.childRing, h.isDown (by omega : f.src / 128 < 128)]

end

end Machine
end Sys2Proof
end

section
/-! PROOFS. Normal frames and urgent frames that a port receives (O50). -/
namespace Sys2Proof.Machine

/-! ## The outgoing copy and the answer of the link (R322, R326, R327) -/

/-- The copy that a cut-through part has begun to send, where the header of the frame could be read. -/
def State.cutCopy (s : State) (p : Nat) : Option Frame → State
  | none => s
  | some f => s.cutBad p f

/-- The outgoing copy of a frame that fails leaves on a lane and changes nothing else. -/
theorem State.cutBad_eq (s : State) (p : Nat) (f : Frame) : ∃ l, s.cutBad p f = { s with outbox := s.outbox ++ l } := by
  have hgo (c : Bool) (o : Out) : ∃ l, (if c then s.emit o else s) = { s with outbox := s.outbox ++ l } := by
    cases c
    · exact ⟨[], by simp⟩
    · exact ⟨_, rfl⟩
  have hself : ∃ l, s = { s with outbox := s.outbox ++ l } := ⟨[], by simp⟩
  unfold State.cutBad
  extract_lets go
  split
  · exact hself
  · split
    · exact hgo _ _
    · split
      · split
        · exact hself
        · exact hgo _ _
      · exact hself

theorem State.cutCopy_eq (s : State) (p : Nat) (f : Option Frame) : ∃ l, s.cutCopy p f = { s with outbox := s.outbox ++ l } := by
  cases f with
  | none => exact ⟨[], by simp [State.cutCopy]⟩
  | some f => exact s.cutBad_eq p f

@[simp] theorem State.cutCopy_frame (s : State) (p : Nat) (f : Option Frame) :
    (s.cutCopy p f).now = s.now ∧ (s.cutCopy p f).regs = s.regs ∧ (s.cutCopy p f).ports = s.ports ∧ (s.cutCopy p f).slots = s.slots ∧
    (s.cutCopy p f).dies = s.dies ∧ (s.cutCopy p f).xact = s.xact := by
  obtain ⟨l, hl⟩ := s.cutCopy_eq p f
  simp [hl]

theorem State.cutCopy_laneKept (s : State) (p : Nat) (f : Option Frame) : LaneKept s (s.cutCopy p f) := by
  obtain ⟨l, hl⟩ := s.cutCopy_eq p f
  exact hl ▸ s.outbox_laneKept l

/-- A link word is an outgoing item. -/
@[simp] theorem State.linkWord_frame (s : State) (i : Nat) (w : LWord) :
    (s.linkWord i w).now = s.now ∧ (s.linkWord i w).regs = s.regs ∧ (s.linkWord i w).pairAB = s.pairAB ∧
    (s.linkWord i w).pairCD = s.pairCD ∧ (s.linkWord i w).slots = s.slots ∧ (s.linkWord i w).dies = s.dies ∧
    (s.linkWord i w).feram = s.feram ∧ (s.linkWord i w).xact = s.xact := by
  cases w <;> simp [State.linkWord]

/-- What is sent leaves at once where it clears the gap window, and is kept back where it does not (R334). -/
theorem State.sendItem_sent {s : State} {i n : Nat} (o : Out) (h : s.clearsWindow (i / 2) s.now n = true) :
    (s.now, o) ∈ (s.sendItem i n o).outbox := by
  simp [State.sendItem, h]

theorem State.sendItem_kept {s : State} {i n : Nat} (o : Out) (h : s.clearsWindow (i / 2) s.now n = false) (hi : i < s.ports.length) :
    o ∈ ((s.sendItem i n o).port i).kept := by
  simp [State.sendItem, h, State.modPort, hi]

/-! ## Frames that fail (R322, R327) -/

/-- The outcome of a command on the lanes of the part. -/
theorem done_on_lanes {s u : State} (hnow : u.now = s.now) :
    ∃ t, done s u = .next t ∧ LaneKept u t ∧ t.slots = u.slots ∧ t.dies = u.dies ∧ t.regs = u.regs ∧ t.xact = u.xact := by
  have h := done_next s u
  obtain ⟨hslots, hdies, hregs, -, -, -, hxact, -⟩ := done_fields h
  exact ⟨_, h, done_laneKept h hnow, hslots, hdies, hregs, hxact⟩

theorem State.cutShort_laneKept (s : State) (p n : Nat) (f : Option Frame) : LaneKept s ((s.countErrors p n).cutCopy p f) :=
  .trans (.of_eq (by simp)) (State.cutCopy_laneKept _ p f)

section
variable {p : Nat} {rx : Line} {s : State} (o : Option Routes) (hup : s.portUp p = true)
  (htime : ∀ f, rx.frame.f = some f → f.ftype ≠ .time)
include hup htime

theorem normalFrameReceive_failed (hfail : rx.frame.ok = false ∨ rx.frame.bad = true) :
    exec (.normalFrameReceive p rx o) s = done s (if rx.frame.bad then (s.countErrors p rx.frame.errors).cutCopy p rx.frame.f
      else ((s.countErrors p rx.frame.errors).cutCopy p rx.frame.f).linkWord p (.nak (s.port p).rxSeq)) := by
  change execNormalFrameReceive p rx o s = _
  unfold execNormalFrameReceive
  congr 1
  cases hf : rx.frame.f with
  | none => simp [hup, hf, State.countErrors, State.cutCopy]
  | some f =>
    cases hbad : rx.frame.bad with
    | true => simp [hup, hf, hbad, htime f hf, State.countErrors, State.cutCopy]
    | false =>
      have hok : rx.frame.ok = false := hfail.resolve_right (by simp [hbad])
      simp [hup, hf, hbad, hok, htime f hf, State.countErrors, State.cutCopy]

theorem normalFrameReceive_discards (hbad : rx.frame.bad = true) :
    ∃ t, exec (.normalFrameReceive p rx o) s = .next t ∧ (t.port p).rxSeq = (s.port p).rxSeq ∧ t.slots = s.slots ∧ t.dies = s.dies ∧
      t.xact = s.xact := by
  have hu := s.cutShort_laneKept p rx.frame.errors rx.frame.f
  obtain ⟨t, ht, hlanes, hslots, hdies, -, hxact⟩ := done_on_lanes hu.now
  rw [normalFrameReceive_failed o hup htime (.inr hbad), if_pos hbad]
  exact ⟨t, ht, (hu.trans hlanes).rxSeq p, by simp [hslots], by simp [hdies], by simp [hxact]⟩

theorem normalFrameReceive_naks (hok : rx.frame.ok = false) (hbad : rx.frame.bad = false) :
    ∃ t, exec (.normalFrameReceive p rx o) s = .next t ∧
      (if s.clearsWindow (p / 2) s.now 4 then (s.now, Out.nak p (s.port p).rxSeq) ∈ t.outbox
        else Out.nak p (s.port p).rxSeq ∈ (t.port p).kept) ∧
      (t.port p).rxSeq = (s.port p).rxSeq ∧ t.rf (linkCnt p) 15 0 = sat 65535 (s.rf (linkCnt p) 15 0 + rx.frame.errors) ∧
      t.slots = s.slots ∧ t.dies = s.dies ∧ t.xact = s.xact := by
  have hv := s.cutShort_laneKept p rx.frame.errors rx.frame.f
  let v := (s.countErrors p rx.frame.errors).cutCopy p rx.frame.f
  have hclears : v.clearsWindow (p / 2) v.now 4 = s.clearsWindow (p / 2) s.now 4 := by
    rw [State.clearsWindow_congr hv.now hv.mer (hv.window _), hv.now]
  have hlen : p < v.ports.length := by simpa [v] using State.port_lt_of_up hup
  have hu : LaneKept v (v.linkWord p (.nak (s.port p).rxSeq)) := v.linkWord_laneKept p _
  obtain ⟨t, ht, hlanes, hslots, hdies, hregs, hxact⟩ := done_on_lanes (hv.trans hu).now
  rw [normalFrameReceive_failed o hup htime (.inl hok), if_neg (Bool.eq_false_iff.mp hbad)]
  refine ⟨t, ht, ?_, ((hv.trans hu).trans hlanes).rxSeq p, ?_,
    by simp [hslots, v], by simp [hdies, v], by simp [hxact, v]⟩
  · split
    · next h =>
      rw [← hclears] at h
      exact hlanes.outbox.subset (hv.now ▸ State.sendItem_sent (.nak p (s.port p).rxSeq) h)
    · next h =>
      rw [← hclears, Bool.not_eq_true] at h
      refine hlanes.kept p _ ?_ (State.sendItem_kept (.nak p (s.port p).rxSeq) h hlen)
      rwa [State.clearsWindow_congr hu.now hu.mer (hu.window _), hu.now]
  · have hsame : t.regs = (s.countErrors p rx.frame.errors).regs := by simp [hregs, v]
    unfold State.rf
    rw [State.reg_of_regs hsame]
    exact s.countErrors_rf p _

end

/-! ## A frame in sequence (R322, R330, R347) -/

/-- The state once a frame in sequence is taken and acknowledged. -/
def State.accept (s : State) (p : Nat) (f : Frame) : State :=
  (s.modPort p (fun x => { x with rxSeq := (f.lseq + 1) % 256, rxRec := sat 128 (x.rxRec + 1) })).linkWord p (.ack f.lseq)

/-- The way of a frame that is taken: noted where it tells of a wrap, then along its leg. -/
def State.passOn (s : State) (p : Nat) (f : Frame) (o : Option Routes) : State :=
  let u := if f.wrap then s.noteWrap (p / 2) o else s
  if u.primaryLeg p then u.route1 (p / 2) { f with wrap := false }
  else match f.ftype with
    | .gap | .enumerate => u
    | _ => u.passBack p f

theorem normalFrameReceive_accepted {p : Nat} {rx : Line} {f : Frame} {s : State} (o : Option Routes) (hup : s.portUp p = true)
    (hf : rx.frame.f = some f) (htime : f.ftype ≠ .time) (hok : rx.frame.ok = true) (hbad : rx.frame.bad = false)
    (hseq : f.lseq = (s.port p).rxSeq) :
    exec (.normalFrameReceive p rx o) s = done s (((s.countErrors p rx.frame.errors).accept p f).passOn p f o) := by
  change execNormalFrameReceive p rx o s = _
  unfold execNormalFrameReceive
  dsimp only
  rw [if_neg (by simp [hup]), hf]
  dsimp only
  rw [if_neg (by simp [htime]), if_neg (by simp [hbad]), if_neg (by simp [hok]), if_neg (by simp [hseq])]
  rfl

@[simp] theorem State.accept_frame (s : State) (p : Nat) (f : Frame) :
    (s.accept p f).now = s.now ∧ (s.accept p f).regs = s.regs ∧ (s.accept p f).pairAB = s.pairAB ∧ (s.accept p f).pairCD = s.pairCD ∧
    (s.accept p f).slots = s.slots ∧ (s.accept p f).feram = s.feram ∧ (s.accept p f).xact = s.xact := by
  simp [State.accept]

theorem State.accept_acks {s : State} {p : Nat} (f : Frame) (h : s.clearsWindow (p / 2) s.now 4 = true) :
    (s.now, Out.ack p f.lseq) ∈ (s.accept p f).outbox :=
  State.sendItem_sent (s := s.modPort p (fun x => { x with rxSeq := (f.lseq + 1) % 256, rxRec := sat 128 (x.rxRec + 1) })) _ h

theorem State.accept_rxSeq {s : State} {p : Nat} (f : Frame) (hp : p < s.ports.length) :
    ((s.accept p f).port p).rxSeq = (f.lseq + 1) % 256 := by
  refine ((State.linkWord_laneKept _ p _).rxSeq p).trans ?_
  simp [State.modPort, hp]

theorem State.modPort_wrapped (s : State) (p q : Nat) {g : Port → Port} (hg : (g (s.port p)).wrapped = (s.port p).wrapped) :
    ((s.modPort p g).port q).wrapped = (s.port q).wrapped := by
  unfold State.modPort
  rw [State.port_setPort]
  split
  · next h => rw [hg, h.1]
  · rfl

theorem State.sendItem_wrapped (s : State) (p n : Nat) (o : Out) (q : Nat) : ((s.sendItem p n o).port q).wrapped = (s.port q).wrapped := by
  unfold State.sendItem
  split
  · rfl
  · exact s.modPort_wrapped p q rfl

theorem State.accept_primaryLeg (s : State) (p : Nat) (f : Frame) : (s.accept p f).primaryLeg p = s.primaryLeg p := by
  have hwrapped : ((s.accept p f).port (p - 1)).wrapped = (s.port (p - 1)).wrapped :=
    (State.sendItem_wrapped _ p 4 (.ack p f.lseq) _).trans (s.modPort_wrapped p (p - 1) rfl)
  unfold State.primaryLeg
  rw [hwrapped]

theorem State.passOn_laneKept (s : State) (p : Nat) (f : Frame) (o : Option Routes) : LaneKept s (s.passOn p f o) := by
  unfold State.passOn
  extract_lets u
  have hu : LaneKept s u := .ite (s.noteWrap_laneKept ..) (.refl s)
  refine hu.trans (.ite (u.route1_laneKept ..) ?_)
  split
  · exact .refl u
  · exact .refl u
  · exact u.passBack_laneKept ..

/-- A request that is for this part alone goes to its target queue. -/
theorem State.route1_request {s : State} {k : Nat} {f : Frame} (hreq : f.ftype = .read ∨ f.ftype = .write) (hb : f.bcast = false)
    (hown : s.isOwn f.dest = true) (hins : s.inserted k f = false) : s.route1 k f = s.request k f := by
  have hway : s.way k f = none := by simp [State.way, hins, hb, hown]
  rcases hreq with h | h <;> simp [State.route1, State.deliver, h, hway, hins]

/-- A queue with room takes the request of a pair that does not leave its ring. -/
theorem State.request_queues {s : State} {k : Nat} (f : Frame) (hroom : s.xact.tq.length < 64) (hstays : (s.pair k).leaving = false) :
    (s.request k f).xact.tq = s.xact.tq ++ [(s.now, f)] := by
  simp [State.request, hstays, Nat.not_le.mpr hroom, State.modXact]

theorem State.passOn_queues {s : State} {p : Nat} {f : Frame} (o : Option Routes) (hwrap : f.wrap = false)
    (hreq : f.ftype = .read ∨ f.ftype = .write) (hb : f.bcast = false) (hown : s.isOwn f.dest = true)
    (hins : s.inserted (p / 2) f = false) (hleg : s.primaryLeg p = true) (hroom : s.xact.tq.length < 64)
    (hstays : (s.pair (p / 2)).leaving = false) : (s.passOn p f o).xact.tq = s.xact.tq ++ [(s.now, f)] := by
  have hf : { f with wrap := false } = f := by rw [← hwrap]
  have hpass : s.passOn p f o = s.route1 (p / 2) f := by simp [State.passOn, hwrap, hleg, hf]
  rw [hpass, State.route1_request hreq hb hown hins]
  exact State.request_queues f hroom hstays

theorem normalFrameReceive_accepts {p : Nat} {rx : Line} (o : Option Routes) {f : Frame} {s : State} (hup : s.portUp p = true)
    (hf : rx.frame.f = some f) (htime : f.ftype ≠ .time) (hok : rx.frame.ok = true) (hbad : rx.frame.bad = false)
    (hseq : f.lseq = (s.port p).rxSeq) :
    ∃ t, exec (.normalFrameReceive p rx o) s = .next t ∧
      (s.clearsWindow (p / 2) s.now 4 = true → (s.now, Out.ack p f.lseq) ∈ t.outbox) ∧ (t.port p).rxSeq = (f.lseq + 1) % 256 ∧
      t.feram = s.feram ∧ (∀ n, (t.slot n).st = (s.slot n).st) ∧
      (f.wrap = false → f.ftype = .read ∨ f.ftype = .write → f.bcast = false → s.isOwn f.dest = true → s.inserted (p / 2) f = false →
        s.primaryLeg p = true → s.xact.tq.length < 64 → (s.pair (p / 2)).leaving = false →
        t.xact.tq = s.xact.tq ++ [(s.now, f)]) := by
  let c := s.countErrors p rx.frame.errors
  let u := c.accept p f
  have hc : LaneKept s c := .of_eq (by simp [c])
  have hrings : SameRings s u := (s.countErrors_sameRings p rx.frame.errors).trans (.of_eq (by simp [u, c]))
  have hpass : LaneKept u (u.passOn p f o) := u.passOn_laneKept p f o
  obtain ⟨t, ht, hlanes, -, -, -, hxact⟩ := done_on_lanes (s := s) (u := u.passOn p f o) (hpass.now.trans (by simp [u, c]))
  have hend : LaneKept u t := hpass.trans hlanes
  refine ⟨t, (normalFrameReceive_accepted o hup hf htime hok hbad hseq).trans ht, fun hclears => ?_, ?_, ?_, fun n => ?_, ?_⟩
  · have hclears' : c.clearsWindow (p / 2) c.now 4 = true := by
      rwa [State.clearsWindow_congr hc.now hc.mer (hc.window _), hc.now]
    exact hend.outbox.subset (hc.now ▸ State.accept_acks f hclears')
  · exact (hend.rxSeq p).trans (State.accept_rxSeq f (by simpa [c] using State.port_lt_of_up hup))
  · exact hend.feram.trans (by simp [u, c])
  · exact (hend.st n).trans (congrArg Slot.st (State.slot_of_slots (by simp [u, c]) n))
  · intro hwrap hreq hb hown hins hleg hroom hstays
    have hsame : u.xact = s.xact := by simp [u, c]
    have hleg' : u.primaryLeg p = true := by
      rw [State.accept_primaryLeg]
      unfold State.primaryLeg
      rwa [State.port_of_ports (by simp [c] : c.ports = s.ports)]
    rw [hxact, State.passOn_queues o hwrap hreq hb (by rwa [hrings.isOwn]) (by rwa [hrings.inserted _ (Line.frame_src_lt hf)]) hleg'
      (by rwa [hsame]) (by rwa [hrings.pair]), hsame]
    simp [u, c]

/-! ## Urgent frames (R186, R325) -/

/-- An urgent frame as it arrives, one that fails its check counted. -/
def State.urgentErrors (s : State) (p : Nat) (rx : Line) (ok : Bool) : State :=
  if ok then s else s.addSat (linkCnt p) 15 0 (Nat.max 1 (violations rx.chars))

@[simp] theorem State.urgentErrors_frame (s : State) (p : Nat) (rx : Line) (ok : Bool) :
    (s.urgentErrors p rx ok).now = s.now ∧ (s.urgentErrors p rx ok).ports = s.ports ∧ (s.urgentErrors p rx ok).slots = s.slots ∧
    (s.urgentErrors p rx ok).dies = s.dies := by
  simp [State.urgentErrors]

theorem State.urgentErrors_sameRings (s : State) (p : Nat) (rx : Line) (ok : Bool) : SameRings s (s.urgentErrors p rx ok) := by
  cases ok
  · exact s.addSat_linkCnt_sameRings ..
  · exact .of_eq ⟨rfl, rfl, rfl⟩

/-- What becomes of an urgent frame once its errors are counted. -/
def State.takeUrgent (s : State) (p : Nat) (m : Msg) (ok : Bool) : State :=
  if s.isOwn m.srcAddr then s
  else if s.isOwn m.tgtAddr then (if ok then s.recvTerr m else s)
  else if s.crosses (p / 2) (m.tgtAddr / 128) then
    if m.hops == 0 then s else s.urgentOn (1 - p / 2) true { m with hops := m.hops - 1 } !ok
  else s.urgentOn (p / 2) (p % 2 == 0) m !ok

/-- An urgent frame goes on in the primary direction of its pair, the weight of the link spent. -/
theorem State.urgentOn_up {s : State} {k : Nat} {m : Msg} (bad : Bool) (hops : m.hops ≠ 0) (hw : (s.port (2 * k + 1)).wrapped = false) :
    s.urgentOn k true m bad = s.emit (.urgent (2 * k + 1) { m with hops := m.hops - s.weight (2 * k + 1) } bad) := by
  simp [State.urgentOn, hops, hw]

/-- One for another part that comes by port A or C leaves by the pair's other port. -/
theorem State.takeUrgent_forwards {s : State} {p : Nat} {m : Msg} (ok : Bool) (hsrc : s.isOwn m.srcAddr = false)
    (hown : s.isOwn m.tgtAddr = false) (hcross : s.crosses (p / 2) (m.tgtAddr / 128) = false) (hops : m.hops ≠ 0) (heven : p % 2 = 0)
    (hw : (s.port (p + 1)).wrapped = false) :
    s.takeUrgent p m ok = s.emit (.urgent (p + 1) { m with hops := m.hops - s.weight (p + 1) } !ok) := by
  have hnext : 2 * (p / 2) + 1 = p + 1 := by omega
  have hup := State.urgentOn_up (s := s) (k := p / 2) (!ok) hops (by rwa [hnext])
  rw [hnext] at hup
  simpa [State.takeUrgent, hsrc, hown, hcross, heven] using hup

section
variable {p : Nat} {rx : Line} {m : Msg} {ok : Bool} {s : State} (hup : s.portUp p = true) (hm : rx.urgent = some (m, ok))
include hup hm

theorem urgentFrameReceive_eq : exec (.urgentFrameReceive p rx) s = done s ((s.urgentErrors p rx ok).takeUrgent p m ok) := by
  change execUrgentFrameReceive p rx s = _
  unfold execUrgentFrameReceive
  dsimp only
  rw [if_neg (by simp [hup]), hm]
  rfl

/-- An intact one of this part's own ends. -/
theorem urgentFrameReceive_own (hok : ok = true) (hsrc : s.isOwn m.srcAddr = true) : exec (.urgentFrameReceive p rx) s = done s s := by
  rw [urgentFrameReceive_eq hup hm]
  simp [State.takeUrgent, State.urgentErrors, hok, hsrc]

section
variable (hsrc : s.isOwn m.srcAddr = false)
include hsrc

/-- An intact one for this part is received as its kind. -/
theorem urgentFrameReceive_target (hown : s.isOwn m.tgtAddr = true) (hok : ok = true) :
    exec (.urgentFrameReceive p rx) s = exec (terrCmd m) s := by
  rw [urgentFrameReceive_eq hup hm, exec_terrCmd]
  simp [State.takeUrgent, State.urgentErrors, hok, hsrc, hown]

theorem urgentFrameReceive_failed (hown : s.isOwn m.tgtAddr = true) (hok : ok = false) :
    ∃ t, exec (.urgentFrameReceive p rx) s = .next t ∧ t.slots = s.slots ∧ t.dies = s.dies := by
  subst hok
  have hrings := s.urgentErrors_sameRings p rx false
  have hends : (s.urgentErrors p rx false).takeUrgent p m false = s.urgentErrors p rx false := by
    simp [State.takeUrgent, hrings.isOwn, hsrc, hown]
  obtain ⟨t, ht, -, hslots, hdies, -⟩ := done_on_lanes (s := s) (u := s.urgentErrors p rx false) (by simp)
  exact ⟨t, by rw [urgentFrameReceive_eq hup hm, hends, ht], by simp [hslots], by simp [hdies]⟩

theorem urgentFrameReceive_forwards (hown : s.isOwn m.tgtAddr = false) (hcross : s.crosses (p / 2) (m.tgtAddr / 128) = false)
    (hops : m.hops ≠ 0) (heven : p % 2 = 0) (hw : (s.port (p + 1)).wrapped = false) :
    ∃ t, exec (.urgentFrameReceive p rx) s = .next t ∧
      (s.now, Out.urgent (p + 1) { m with hops := m.hops - s.weight (p + 1) } (!ok)) ∈ t.outbox ∧ t.slots = s.slots ∧ t.dies = s.dies := by
  let v := s.urgentErrors p rx ok
  have hrings : SameRings s v := s.urgentErrors_sameRings p rx ok
  have hport : v.port (p + 1) = s.port (p + 1) := State.port_of_ports (by simp [v]) _
  have hweight : v.weight (p + 1) = s.weight (p + 1) := by unfold State.weight; rw [hport]
  have hring : m.tgtAddr / 128 < 128 := by
    have hlt := Line.urgent_tgtAddr_lt hm
    omega
  have htake := State.takeUrgent_forwards ok (by rwa [hrings.isOwn]) (by rwa [hrings.isOwn]) (by rwa [hrings.crosses _ hring]) hops heven
    (by rwa [hport])
  rw [hweight] at htake
  obtain ⟨t, ht, hlanes, hslots, hdies, -⟩ := done_on_lanes (s := s) (u := v.takeUrgent p m ok) (by simp [htake, v])
  rw [htake] at hlanes hslots hdies
  exact ⟨t, (urgentFrameReceive_eq hup hm).trans ht, hlanes.outbox.subset (by simp [v]), by simp [hslots, v], by simp [hdies, v]⟩

end

end

/-- Settles O50: a frame that fails by `normalFrameReceive_naks` and `normalFrameReceive_discards`, one in sequence by
`normalFrameReceive_accepts`; an urgent frame by whether it is for another part, for this part or its own. -/
theorem framesReceived : Obligations.FramesReceived := by
  refine ⟨fun p rx o s hup htime => ⟨fun hok hbad => normalFrameReceive_naks o hup htime hok hbad,
      fun hbad => normalFrameReceive_discards o hup htime hbad⟩,
    fun p rx o f s hup hf htime hok hbad hseq => normalFrameReceive_accepts o hup hf htime hok hbad hseq,
    fun p rx m ok s hup hm hsrc => ⟨fun hown hcross hops heven hw => urgentFrameReceive_forwards hup hm hsrc hown hcross hops heven hw,
      fun hown hok => urgentFrameReceive_target hup hm hsrc hown hok, fun hown hok => urgentFrameReceive_failed hup hm hsrc hown hok⟩,
    fun p rx m s hup hm hsrc => ?_⟩
  rw [urgentFrameReceive_own hup hm rfl hsrc]
  exact done_self s

end Sys2Proof.Machine
end

section
/-! PROOFS. The tables of a die: its loop contexts and its modulators. What it takes to keep their sizes (O7). -/
namespace Sys2Proof.Machine

/-- The sizes of a die's tables: its loop contexts (R273) and its modulators (R208). -/
def Die.tables (x : Die) : Nat × Nat := (x.eng.ctxs.length, x.belv.mods.length)

/-- The sizes of the tables of every die of a map. -/
def dieTables (m : List (Nat × Die)) (e : Nat) : Nat × Nat := (mget {} m e).tables

theorem State.dieTablesOk_iff {s : State} : s.dieTablesOk ↔ ∀ d, dieTables s.dies d = (18, 38) := by
  simp only [State.dieTablesOk, dieTables, Die.tables, Prod.mk.injEq]
  rfl

theorem State.dieTablesOk_of_eq {s t : State} (h : dieTables t.dies = dieTables s.dies) (hs : s.dieTablesOk) : t.dieTablesOk := by
  rw [State.dieTablesOk_iff] at hs ⊢
  rwa [h]

/-- The tables of t have the sizes that those of s have. As a relation of two states it lets the kernel compare the states before it
unfolds their dies. -/
def KeepsTables (s t : State) : Prop := dieTables t.dies = dieTables s.dies

@[simp] theorem keepsTables_iff {s t : State} : KeepsTables s t ↔ dieTables t.dies = dieTables s.dies := Iff.rfl

/-- A next state of the outcome keeps the sizes of the tables. -/
def StepKeepsTables (s : State) (o : Host.Outcome State Fault Refusal) : Prop := ∀ t, o = .next t → KeepsTables s t

theorem done_keepsTables {s u : State} (h : dieTables u.dies = dieTables s.dies) : StepKeepsTables s (done s u) := by
  rintro t ⟨⟩
  simpa using h

theorem done_dieTablesOk {s u t : State} (hu : u.dieTablesOk) (h : done s u = .next t) : t.dieTablesOk := by
  obtain ⟨⟩ := h
  exact State.dieTablesOk_of_eq (by simp) hu

/-! ## Choices and folds -/

@[simp] theorem dieTables_ite (c : Prop) [Decidable c] (a b : List (Nat × Die)) :
    dieTables (if c then a else b) = if c then dieTables a else dieTables b := apply_ite _ _ _ _

/-- A change of a die that keeps the sizes of its tables keeps those of every die. -/
theorem State.modDie_dieTables_of (s : State) (d : Nat) (g : Die → Die) (h : (g (s.die d)).tables = (s.die d).tables) :
    dieTables (s.modDie d g).dies = dieTables s.dies := by
  funext e
  simp only [dieTables, State.modDie, State.setDie_dies, mget_mset]
  split
  case isTrue he => rw [h, he]; rfl
  case isFalse => rfl

/-- The same, table by table. -/
@[simp] theorem State.modDie_dieTables (s : State) (d : Nat) (g : Die → Die)
    (hctxs : (g (s.die d)).eng.ctxs.length = (s.die d).eng.ctxs.length)
    (hmods : (g (s.die d)).belv.mods.length = (s.die d).belv.mods.length) : dieTables (s.modDie d g).dies = dieTables s.dies :=
  s.modDie_dieTables_of d g (by simp only [Die.tables, hctxs, hmods])

@[simp] theorem State.each_dieTables {α : Type} (s : State) (l : List α) (g : α → State → State)
    (h : ∀ x s, KeepsTables s (g x s)) : dieTables (s.each l g).dies = dieTables s.dies := by
  induction l generalizing s with
  | nil => rfl
  | cons x l ih => exact (ih (g x s)).trans (h x s)

@[simp] theorem foldl_dieTables {α : Type} (s : State) (l : List α) (g : State → α → State) (h : ∀ s x, KeepsTables s (g s x)) :
    dieTables (l.foldl g s).dies = dieTables s.dies := by
  induction l generalizing s with
  | nil => rfl
  | cons x l ih => exact (ih (g s x)).trans (h s x)

/-- A fold that carries a value beside the state. -/
theorem foldl_fst_dieTables {α β : Type} (a : State × β) (l : List α) (g : State × β → α → State × β)
    (h : ∀ a x, KeepsTables a.1 (g a x).1) : dieTables (l.foldl g a).1.dies = dieTables a.1.dies := by
  induction l generalizing a with
  | nil => rfl
  | cons x l ih => exact (ih (g a x)).trans (h a x)

/-- The invariant over a list of changes of which each keeps it. -/
theorem State.each_dieTablesOk {α : Type} {g : α → State → State} (hg : ∀ x s, s.dieTablesOk → (g x s).dieTablesOk) (l : List α)
    {s : State} (h : s.dieTablesOk) : (s.each l g).dieTablesOk := by
  induction l generalizing s with
  | nil => exact h
  | cons x l ih => exact ih (hg x s h)

theorem State.dieTables_withPkg (s : State) (p : Pkg) : dieTables { s with pkg := p }.dies = dieTables s.dies := rfl

end Sys2Proof.Machine
end

section
/-! PROOFS. What keeps the tables of a die: the records, the sending, the engine (O7). -/
namespace Sys2Proof.Machine

/-! ## Time (R23, R358) -/

@[simp] theorem State.setApart_dieTables (s : State) (d : Nat) : dieTables (s.setApart d).dies = dieTables s.dies := by
  simp [State.setApart]

/-! ## The event log (R174, R414 to R423) -/

@[simp] theorem State.logPut_dieTables (s : State) (d : Nat) (r : Rec) : dieTables (s.logPut d r).dies = dieTables s.dies := by
  simp [State.logPut]

@[simp] theorem State.logFlush_dieTables (s : State) (d : Nat) : dieTables (s.logFlush d).dies = dieTables s.dies := by
  unfold State.logFlush
  split <;> simp

@[simp] theorem State.logAdd_dieTables (s : State) (d : Nat) (r : Rec) : dieTables (s.logAdd d r).dies = dieTables s.dies := by
  unfold State.logAdd
  dsimp only
  split
  · split <;> simp
  · simp

@[simp] theorem State.log_dieTables (s : State) (d block inst code : Nat) (data : List Nat) :
    dieTables (s.log d block inst code data).dies = dieTables s.dies := by
  simp [State.log]

@[simp] theorem State.logLead_dieTables (s : State) (block inst code : Nat) (data : List Nat) :
    dieTables (s.logLead block inst code data).dies = dieTables s.dies := by
  simp [State.logLead]

@[simp] theorem State.logSlot_dieTables (s : State) (n code : Nat) (data : List Nat) :
    dieTables (s.logSlot n code data).dies = dieTables s.dies := by
  simp [State.logSlot]

/-! ## Nursery effects (R385, R393, R394, R399) -/

@[simp] theorem State.nursRec_dieTables (s : State) (code kind d inst sub failed spare : Nat) (v : Int) :
    dieTables (s.nursRec code kind d inst sub failed spare v).dies = dieTables s.dies := by
  simp [State.nursRec]

@[simp] theorem State.swap_dieTables (s : State) (kind d inst sub failed spare : Nat) (v : Int) :
    dieTables (s.swap kind d inst sub failed spare v).dies = dieTables s.dies := by
  simp [State.swap]

@[simp] theorem State.exhausted_dieTables (s : State) (kind d inst sub failed : Nat) :
    dieTables (s.exhausted kind d inst sub failed).dies = dieTables s.dies := by
  simp [State.exhausted]

@[simp] theorem State.nursReq_dieTables (s : State) (kind d inst sub : Nat) :
    dieTables (s.nursReq kind d inst sub).dies = dieTables s.dies := by
  simp [State.nursReq]

@[simp] theorem State.wearWarn_dieTables (s : State) (n which cnt : Nat) :
    dieTables (s.wearWarn n which cnt).dies = dieTables s.dies := by
  simp [State.wearWarn]

@[simp] theorem State.wearAdd_dieTables (s : State) (n which : Nat) : dieTables (s.wearAdd n which).dies = dieTables s.dies := by
  simp [State.wearAdd]

/-! ## FeRAM (R401): physical bytes, sparse, an unlisted byte reading 0 -/

@[simp] theorem State.logicalWrite_dieTables (s : State) (d o : Nat) (l : List Nat) :
    dieTables (s.logicalWrite d o l).dies = dieTables s.dies := by
  induction l generalizing s o with
  | nil => rfl
  | cons b r ih => exact ih ..

/-! ## Homes -/

@[simp] theorem State.modCtx_dieTables (s : State) (d n : Nat) (g : Ctx → Ctx) :
    dieTables (s.modCtx d n g).dies = dieTables s.dies := by
  simp [State.modCtx]

@[simp] theorem State.modTest_dieTables (s : State) (d : Nat) (g : TestGen → TestGen) :
    dieTables (s.modTest d g).dies = dieTables s.dies := by
  simp [State.modTest]

@[simp] theorem State.modCap_dieTables (s : State) (d : Nat) (g : Capture → Capture) :
    dieTables (s.modCap d g).dies = dieTables s.dies := by
  simp [State.modCap]

/-! ## Commits (R294, R295) -/

@[simp] theorem State.commitNow_dieTables (s : State) (d n : Nat) : dieTables (s.commitNow d n).dies = dieTables s.dies := by
  simp [State.commitNow]

@[simp] theorem State.commitReq_dieTables (s : State) (d n : Nat) : dieTables (s.commitReq d n).dies = dieTables s.dies := by
  simp [State.commitReq]

/-! ## The test generator's end and the capture's end (R302, R304) -/

@[simp] theorem State.testStop_dieTables (s : State) (d reason : Nat) : dieTables (s.testStop d reason).dies = dieTables s.dies := by
  simp [State.testStop]

@[simp] theorem State.capFinish_dieTables (s : State) (d : Nat) (part : Bool) :
    dieTables (s.capFinish d part).dies = dieTables s.dies := by
  simp [State.capFinish]

@[simp] theorem State.capTrigger_dieTables (s : State) (d idx ns stored : Nat) :
    dieTables (s.capTrigger d idx ns stored).dies = dieTables s.dies := by
  simp [State.capTrigger]

@[simp] theorem State.capLast_dieTables (s : State) (d : Nat) : dieTables (s.capLast d).dies = dieTables s.dies := by
  simp [State.capLast]

@[simp] theorem State.capEndAt_dieTables (s : State) (d : Nat) : dieTables (s.capEndAt d).dies = dieTables s.dies := by
  simp [State.capEndAt]

/-! ## Binding (R274, R282, R291) -/

@[simp] theorem State.bindCtx_dieTables (s : State) (slot : Nat) : dieTables (s.bindCtx slot).dies = dieTables s.dies := by
  simp [State.bindCtx]

@[simp] theorem State.spareMap_dieTables (s : State) (d n : Nat) : dieTables (s.spareMap d n).dies = dieTables s.dies := by
  unfold State.spareMap
  dsimp only
  split
  · rfl
  · split <;> simp

@[simp] theorem State.spareGo_dieTables (s : State) (d n : Nat) : dieTables (s.spareGo d n).dies = dieTables s.dies := by
  simp [State.spareGo]

@[simp] theorem State.ctxReport_dieTables (s : State) (d n : Nat) : dieTables (s.ctxReport d n).dies = dieTables s.dies := by
  simp [State.ctxReport]

@[simp] theorem State.unbindCtx_dieTables (s : State) (slot : Nat) (toOn : Bool) :
    dieTables (s.unbindCtx slot toOn).dies = dieTables s.dies := by
  simp [State.unbindCtx]

@[simp] theorem State.fallBack_dieTables (s : State) (d n cause : Nat) : dieTables (s.fallBack d n cause).dies = dieTables s.dies := by
  simp [State.fallBack]

@[simp] theorem State.ctxFail_dieTables (s : State) (d n sec word : Nat) :
    dieTables (s.ctxFail d n sec word).dies = dieTables s.dies := by
  simp [State.ctxFail]

@[simp] theorem State.editErrs_dieTables (s : State) (d n : Nat) (errs : List (Nat × Nat)) :
    dieTables (s.editErrs d n errs).dies = dieTables s.dies := by
  simp [State.editErrs]

/-! ## Capture (R303) -/

@[simp] theorem State.capStore_dieTables (s : State) (d : Nat) (ws : List Int) :
    dieTables (s.capStore d ws).dies = dieTables s.dies := by
  simp [State.capStore]

@[simp] theorem State.capPeriod_dieTables (s : State) (d n : Nat) (first inject lim : Bool) (sig : List Int) :
    dieTables (s.capPeriod d n first inject lim sig).dies = dieTables s.dies := by
  simp [State.capPeriod]

/-! ## One loop period of one context (R278 to R286) -/

@[simp] theorem State.ctxPeriod_dieTables (s : State) (d n used : Nat) :
    dieTables (s.ctxPeriod d n used).1.dies = dieTables s.dies := by
  simp [State.ctxPeriod]

/-! ## The commands of the engine -/

@[simp] theorem State.dacWrite_dieTables (s : State) (d n : Nat) : dieTables (s.dacWrite d n).dies = dieTables s.dies := by
  cases h : (s.ctx d n).out <;> simp [State.dacWrite, h]

@[simp] theorem State.ctxDue_dieTables (s : State) (d n used : Nat) (errs : List (Nat × Nat × Nat)) :
    dieTables (s.ctxDue d n used errs).1.dies = dieTables s.dies := by
  unfold State.ctxDue
  extract_lets pend mine mine' t
  split
  · split <;> simp
  · simp [t]

theorem execLoopPeriod_keepsTables (d : Nat) (errs : List (Nat × Nat × Nat)) (s : State) :
    StepKeepsTables s (execLoopPeriod d errs s) :=
  done_keepsTables (by simp [foldl_fst_dieTables _ _ _ (fun a n => State.ctxDue_dieTables a.1 d n a.2 errs)])

@[simp] theorem State.engStall_dieTables (s : State) (d off : Nat) : dieTables (s.engStall d off).dies = dieTables s.dies := by
  simp [State.engStall]

theorem execDacWrite_keepsTables (d n : Nat) (s : State) : StepKeepsTables s (execDacWrite d n s) :=
  done_keepsTables (by simp)

theorem execParityScan_keepsTables (d : Nat) (errs : List (Nat × Nat × Nat)) (s : State) :
    StepKeepsTables s (execParityScan d errs s) :=
  done_keepsTables (by simp)

@[simp] theorem State.ctlCommit_dieTables (s : State) (d n : Nat) : dieTables (s.ctlCommit d n).dies = dieTables s.dies := by
  simp [State.ctlCommit]

@[simp] theorem State.clrCnt_dieTables (s : State) (d n : Nat) : dieTables (s.clrCnt d n).dies = dieTables s.dies := by
  simp [State.clrCnt]

@[simp] theorem State.clrMax_dieTables (s : State) (d : Nat) : dieTables (s.clrMax d).dies = dieTables s.dies := by
  simp [State.clrMax]

@[simp] theorem State.testArm_dieTables (s : State) (d : Nat) : dieTables (s.testArm d).dies = dieTables s.dies := by
  simp [State.testArm]

@[simp] theorem State.capArm_dieTables (s : State) (d : Nat) : dieTables (s.capArm d).dies = dieTables s.dies := by
  simp [State.capArm]

@[simp] theorem State.capForce_dieTables (s : State) (d : Nat) : dieTables (s.capForce d).dies = dieTables s.dies := by
  simp [State.capForce]

@[simp] theorem State.capAbort_dieTables (s : State) (d : Nat) : dieTables (s.capAbort d).dies = dieTables s.dies := by
  simp [State.capAbort]

theorem execTestDelayEnd_keepsTables (d : Nat) (s : State) : StepKeepsTables s (execTestDelayEnd d s) :=
  done_keepsTables (by simp)

theorem execTestEnd_keepsTables (d : Nat) (s : State) : StepKeepsTables s (execTestEnd d s) :=
  done_keepsTables (by simp)

theorem execCapDone_keepsTables (d : Nat) (s : State) : StepKeepsTables s (execCapDone d s) :=
  done_keepsTables (by simp)

@[simp] theorem State.contReset_dieTables (s : State) (d : Nat) : dieTables (s.contReset d).dies = dieTables s.dies := by
  simp [State.contReset]

end Sys2Proof.Machine
end

section
/-! PROOFS. The commands of slots and terraces keep the tables of a die (O7). -/
namespace Sys2Proof.Machine

/-! ## Leaving HOLD -/

@[simp] theorem State.terrRec_dieTables (s : State) (n code addr slot type low cnt : Nat) :
    dieTables (s.terrRec n code addr slot type low cnt).dies = dieTables s.dies := by
  simp [State.terrRec]

@[simp] theorem State.standDown_dieTables (s : State) (n : Nat) : dieTables (s.standDown n).dies = dieTables s.dies := by
  simp [State.standDown]

/-! ## Entry into a state -/

@[simp] theorem State.leave_dieTables (s : State) (n : Nat) (st : SM) : dieTables (s.leave n st).dies = dieTables s.dies := by
  simp [State.leave]

@[simp] theorem State.gatesIdle_dieTables (s : State) (n : Nat) : dieTables (s.gatesIdle n).dies = dieTables s.dies := by
  simp [State.gatesIdle]

@[simp] theorem State.enter_dieTables (s : State) (n : Nat) (st : SM) (step : Nat) :
    dieTables (s.enter n st step).dies = dieTables s.dies := by
  simp [State.enter]

/-! ## Targets (R183, R199) -/

@[simp] theorem State.reachSlot_dieTables (s : State) (n : Nat) : dieTables (s.reachSlot n).dies = dieTables s.dies := by
  simp [State.reachSlot]

@[simp] theorem State.reachUpdate_dieTables (s : State) : dieTables (s.reachUpdate ).dies = dieTables s.dies := by
  simp [State.reachUpdate]

/-! ## RESTRAIN and CLEARED (R188, R189) -/

@[simp] theorem State.rawLow_dieTables (s : State) (n : Nat) : dieTables (s.rawLow n).dies = dieTables s.dies := by
  simp [State.rawLow]

/-! ## LOCKOUT, RELEASE and UPSTREAM_OPEN (R194 to R196) -/

@[simp] theorem State.lockoutSend_dieTables (s : State) (n : Nat) : dieTables (s.lockoutSend n).dies = dieTables s.dies := by
  simp [State.lockoutSend]

@[simp] theorem State.releaseSend_dieTables (s : State) (n : Nat) : dieTables (s.releaseSend n).dies = dieTables s.dies := by
  simp [State.releaseSend]

@[simp] theorem State.sendOpen_dieTables (s : State) (n : Nat) : dieTables (s.sendOpen n).dies = dieTables s.dies := by
  simp [State.sendOpen]

/-! ## Snapshots (R147, R148) -/

@[simp] theorem State.snapAssign_dieTables (s : State) (n : Nat) : dieTables (s.snapAssign n).dies = dieTables s.dies := by
  unfold State.snapAssign
  dsimp only
  split <;> simp

@[simp] theorem State.modSnap_dieTables (s : State) (n : Nat) (g : Snap → Snap) :
    dieTables (s.modSnap n g).dies = dieTables s.dies := by
  refine State.modDie_dieTables_of _ _ _ ?_
  split
  · split <;> rfl
  · rfl

/-! ## Pull-down start and settled cause (R126) -/

@[simp] theorem State.tripStart_dieTables (s : State) (n : Nat) (hard : Bool) (abort : Nat) :
    dieTables (s.tripStart n hard abort).dies = dieTables s.dies := by
  simp [State.tripStart]

@[simp] theorem State.tripSettle_dieTables (s : State) (n cause detail : Nat) :
    dieTables (s.tripSettle n cause detail).dies = dieTables s.dies := by
  simp [State.tripSettle]

@[simp] theorem State.trip_dieTables (s : State) (n : Nat) (hard : Bool) (cause detail abort : Nat) :
    dieTables (s.trip n hard cause detail abort).dies = dieTables s.dies := by
  simp [State.trip]

@[simp] theorem State.tripIf_dieTables (s : State) (n : Nat) (hard : Bool) (cause detail abort : Nat) :
    dieTables (s.tripIf n hard cause detail abort).dies = dieTables s.dies := by
  simp [State.tripIf]

@[simp] theorem State.cmpTrip_dieTables (s : State) (n : Nat) (inst : Bool) (detail : Nat) :
    dieTables (s.cmpTrip n inst detail).dies = dieTables s.dies := by
  unfold State.cmpTrip
  dsimp only
  split <;> simp

@[simp] theorem State.settleTrip_dieTables (s : State) (n : Nat) : dieTables (s.settleTrip n).dies = dieTables s.dies := by
  unfold State.settleTrip
  dsimp only
  split <;> simp

/-! ## The trip record (R150) -/

@[simp] theorem State.tripRecord_dieTables (s : State) (n next : Nat) : dieTables (s.tripRecord n next).dies = dieTables s.dies := by
  simp [State.tripRecord]

@[simp] theorem State.quietTrip_dieTables (s : State) (n cause detail abort : Nat) (snap : Bool) :
    dieTables (s.quietTrip n cause detail abort snap).dies = dieTables s.dies := by
  simp [State.quietTrip]

/-! ## The REMEMBER timer and the count (R137, R142) -/

@[simp] theorem State.countReset_dieTables (s : State) (n : Nat) : dieTables (s.countReset n).dies = dieTables s.dies := by
  simp [State.countReset]

@[simp] theorem State.remember_dieTables (s : State) (n : Nat) : dieTables (s.remember n).dies = dieTables s.dies := by
  simp [State.remember]

/-! ## LATCHED -/

@[simp] theorem State.latch_dieTables (s : State) (n : Nat) : dieTables (s.latch n).dies = dieTables s.dies := by simp [State.latch]

/-! ## LOCKOUT (R143) -/

@[simp] theorem State.lockoutEnter_dieTables (s : State) (n : Nat) : dieTables (s.lockoutEnter n).dies = dieTables s.dies := by
  simp [State.lockoutEnter]

/-! ## Disagreements and lone counts (R85, R387) -/

@[simp] theorem State.loneCount_dieTables (s : State) (n c : Nat) : dieTables (s.loneCount n c).dies = dieTables s.dies := by
  simp [State.loneCount]

/-! ## Driving gates up (R136, R481) -/

@[simp] theorem State.upTrip_dieTables (s : State) (n : Nat) : dieTables (s.upTrip n).dies = dieTables s.dies := by
  simp [State.upTrip]

@[simp] theorem State.rise_dieTables (s : State) (n : Nat) (go : State → State) (h : ∀ s, KeepsTables s (go s)) :
    dieTables (s.rise n go).dies = dieTables s.dies := by
  simp only [keepsTables_iff] at h
  simp [State.rise, h]

/-! ## Turning off (R99, R115, R139) -/

@[simp] theorem State.goOff_dieTables (s : State) (n : Nat) : dieTables (s.goOff n).dies = dieTables s.dies := by simp [State.goOff]

/-! ## Ranks (R100, R125) -/

@[simp] theorem State.ranked_dieTables (s : State) (n k : Nat) (c : Instr) (act : State → State) (h : ∀ s, KeepsTables s (act s)) :
    dieTables (s.ranked n k c act).dies = dieTables s.dies := by
  simp only [keepsTables_iff] at h
  simp [State.ranked, h]

@[simp] theorem State.softTrip_dieTables (s : State) (n rank cause detail abort : Nat) :
    dieTables (s.softTrip n rank cause detail abort).dies = dieTables s.dies := by
  simp [State.softTrip]

/-! ## The end of a CORE cycle (R128) -/

@[simp] theorem State.timedTrips_dieTables (s : State) : dieTables (s.timedTrips ).dies = dieTables s.dies := by
  simp [State.timedTrips]

@[simp] theorem State.lately_dieTables (s : State) (late : Late) (act : State → State) (h : ∀ s, KeepsTables s (act s)) :
    dieTables (s.lately late act).dies = dieTables s.dies := by
  simp only [keepsTables_iff] at h
  simp [State.lately, h]

@[simp] theorem State.pageWrite_dieTables (s : State) (ini : Ini) (a : Nat) (locked : Bool) (act : State → State)
    (h : ∀ s, KeepsTables s (act s)) :
    dieTables (s.pageWrite ini a locked act).dies = dieTables s.dies := by
  simp only [keepsTables_iff] at h
  simp [State.pageWrite, h]

@[simp] theorem State.write_dieTables (s : State) (ini : Ini) (a : Nat) (locked : Bool) (act : State → State)
    (h : ∀ s, KeepsTables s (act s)) :
    dieTables (s.write ini a locked act).dies = dieTables s.dies := by
  simp only [keepsTables_iff] at h
  simp [State.write, h]

@[simp] theorem State.readAt_dieTables (s : State) (ini : Ini) (a : Nat) (act : State → State) (h : ∀ s, KeepsTables s (act s)) :
    dieTables (s.readAt ini a act).dies = dieTables s.dies := by
  simp only [keepsTables_iff] at h
  simp [State.readAt, h]

@[simp] theorem State.pumpCheck_dieTables (s : State) (d : Nat) : dieTables (s.pumpCheck d).dies = dieTables s.dies := by
  simp [State.pumpCheck]

/-! ## Enable and disable (R75, R98, R99) -/

@[simp] theorem State.enableSlot_dieTables (s : State) (n : Nat) : dieTables (s.enableSlot n).dies = dieTables s.dies := by
  simp [State.enableSlot]

@[simp] theorem State.turnOff_dieTables (s : State) (n : Nat) : dieTables (s.turnOff n).dies = dieTables s.dies := by
  simp [State.turnOff]

theorem execSlotEnable_keepsTables (ini : Ini) (n : Nat) (s : State) : StepKeepsTables s (execSlotEnable ini n s) :=
  done_keepsTables (by simp)

@[simp] theorem State.disableSlot_dieTables (s : State) (n : Nat) : dieTables (s.disableSlot n).dies = dieTables s.dies := by
  simp [State.disableSlot]

theorem execSlotDisable_keepsTables (ini : Ini) (n : Nat) (s : State) : StepKeepsTables s (execSlotDisable ini n s) :=
  done_keepsTables (by simp)

/-! ## CMD (R115, R119, R137) -/

@[simp] theorem State.cmdStop_dieTables (s : State) (n : Nat) : dieTables (s.cmdStop n).dies = dieTables s.dies := by
  unfold State.cmdStop
  dsimp only
  split <;> simp

@[simp] theorem State.cmdStopNow_dieTables (s : State) (n : Nat) : dieTables (s.cmdStopNow n).dies = dieTables s.dies := by
  simp [State.cmdStopNow]

@[simp] theorem State.cmdGo_dieTables (s : State) (n : Nat) : dieTables (s.cmdGo n).dies = dieTables s.dies := by
  unfold State.cmdGo
  split <;> simp

@[simp] theorem State.cmdTrip_dieTables (s : State) (n : Nat) : dieTables (s.cmdTrip n).dies = dieTables s.dies := by
  unfold State.cmdTrip
  dsimp only
  split
  · simp
  · split <;> simp

@[simp] theorem State.coolOver_dieTables (s : State) (n : Nat) : dieTables (s.coolOver n).dies = dieTables s.dies := by
  simp [State.coolOver]

@[simp] theorem State.lockoutLeave_dieTables (s : State) (n : Nat) : dieTables (s.lockoutLeave n).dies = dieTables s.dies := by
  simp [State.lockoutLeave]

@[simp] theorem State.cmdClear_dieTables (s : State) (n : Nat) : dieTables (s.cmdClear n).dies = dieTables s.dies := by
  unfold State.cmdClear
  split <;> simp

@[simp] theorem State.cmdWrite_dieTables (s : State) (n : Nat) (v : Word) : dieTables (s.cmdWrite n v).dies = dieTables s.dies := by
  simp [State.cmdWrite]

theorem execStop_keepsTables (ini : Ini) (n : Nat) (s : State) : StepKeepsTables s (execStop ini n s) :=
  done_keepsTables (by simp)

theorem execStopNow_keepsTables (ini : Ini) (n : Nat) (s : State) : StepKeepsTables s (execStopNow ini n s) :=
  done_keepsTables (by simp)

theorem execGo_keepsTables (ini : Ini) (n : Nat) (s : State) : StepKeepsTables s (execGo ini n s) :=
  done_keepsTables (by simp)

theorem execTrip_keepsTables (ini : Ini) (n : Nat) (s : State) : StepKeepsTables s (execTrip ini n s) :=
  done_keepsTables (by simp)

theorem execClear_keepsTables (ini : Ini) (n : Nat) (s : State) : StepKeepsTables s (execClear ini n s) :=
  done_keepsTables (by simp)

theorem execResetCount_keepsTables (ini : Ini) (n : Nat) (s : State) : StepKeepsTables s (execResetCount ini n s) :=
  done_keepsTables (by simp)

theorem execEwarnLeadExpiry_keepsTables (n : Nat) (s : State) : StepKeepsTables s (execEwarnLeadExpiry n s) := by
  refine done_keepsTables ?_
  split <;> simp

/-! ## Presence (R101, R142) -/

@[simp] theorem State.cardIn_dieTables (s : State) (n : Nat) : dieTables (s.cardIn n).dies = dieTables s.dies := by
  simp [State.cardIn]

theorem execCardSeated_keepsTables (n : Nat) (edge : Bool) (s : State) : StepKeepsTables s (execCardSeated n edge s) :=
  done_keepsTables (by simp)

@[simp] theorem State.cardOut_dieTables (s : State) (n : Nat) : dieTables (s.cardOut n).dies = dieTables s.dies := by
  unfold State.cardOut
  dsimp only
  split <;> simp

theorem execCardRemoval_keepsTables (n : Nat) (edge : Bool) (s : State) : StepKeepsTables s (execCardRemoval n edge s) :=
  done_keepsTables (by simp)

/-! ## Gates (R96, R189) -/

@[simp] theorem State.warnsEnd_dieTables (s : State) (n : Nat) : dieTables (s.warnsEnd n).dies = dieTables s.dies := by
  simp [State.warnsEnd]

theorem execPulldownRelease_keepsTables (n : Nat) (gateB : Bool) (s : State) : StepKeepsTables s (execPulldownRelease n gateB s) :=
  done_keepsTables (by simp)

theorem execGateBelow1v_keepsTables (n : Nat) (gateB left10 : Bool) (s : State) :
    StepKeepsTables s (execGateBelow1v n gateB left10 s) :=
  done_keepsTables (by simp)

/-! ## The analog limit and its fault timer (R86, R87, R144) -/

theorem execLimitEnter_keepsTables (n : Nat) (s : State) : StepKeepsTables s (execLimitEnter n s) :=
  done_keepsTables (by simp)

theorem execLimitRelease_keepsTables (n : Nat) (s : State) : StepKeepsTables s (execLimitRelease n s) :=
  done_keepsTables (by simp)

theorem execFaultTimerReset_keepsTables (n : Nat) (s : State) : StepKeepsTables s (execFaultTimerReset n s) := by
  refine done_keepsTables ?_
  dsimp only
  split <;> simp

/-! ## Hold-through trips (R124, R437) -/

theorem execLimitTimerExpiry_keepsTables (n : Nat) (s : State) : StepKeepsTables s (execLimitTimerExpiry n s) :=
  done_keepsTables (by simp)

/-! ## Reverse current (R88) -/

theorem execReverseBlock_keepsTables (n : Nat) (s : State) : StepKeepsTables s (execReverseBlock n s) :=
  done_keepsTables (by simp)

theorem execReverseBlockClear_keepsTables (n : Nat) (s : State) : StepKeepsTables s (execReverseBlockClear n s) :=
  done_keepsTables (by simp)

/-! ## Retry timers (R139, R141, R142) -/

theorem execCooldownExpiry_keepsTables (n : Nat) (s : State) : StepKeepsTables s (execCooldownExpiry n s) := by
  refine done_keepsTables ?_
  dsimp only
  cases h : (s.slot n).retry.cool <;> simp

theorem execStableTimeExpiry_keepsTables (n : Nat) (s : State) : StepKeepsTables s (execStableTimeExpiry n s) := by
  refine done_keepsTables ?_
  split <;> simp

theorem execRememberExpiry_keepsTables (n : Nat) (s : State) : StepKeepsTables s (execRememberExpiry n s) := by
  refine done_keepsTables ?_
  split <;> simp

/-! ## Windows of the comparators (R85, R387) -/

@[simp] theorem State.loneClear_dieTables (s : State) (n : Nat) (inst : Bool) :
    dieTables (s.loneClear n inst).dies = dieTables s.dies := by
  simp [State.loneClear]

@[simp] theorem State.closeWin_dieTables (s : State) (n : Nat) (inst : Bool) :
    dieTables (s.closeWin n inst).dies = dieTables s.dies := by
  unfold State.closeWin
  split <;> simp

/-! ## Assertion of deglitched outputs (R126, R191) -/

@[simp] theorem State.cmpDecide_dieTables (s : State) (n : Nat) (inst : Bool) :
    dieTables (s.cmpDecide n inst).dies = dieTables s.dies := by
  unfold State.cmpDecide
  cases h : (s.slot n).terr.sub <;> simp [h]

@[simp] theorem State.cmpAssert_dieTables (s : State) (n : Nat) (inst : Bool) (copies : Nat) :
    dieTables (s.cmpAssert n inst copies).dies = dieTables s.dies := by
  cases h : (s.slot n).win inst <;> simp [State.cmpAssert, h]

theorem execFastTrip_keepsTables (n copies : Nat) (s : State) : StepKeepsTables s (execFastTrip n copies s) :=
  done_keepsTables (by simp)

theorem execInstantTrip_keepsTables (n copies : Nat) (s : State) : StepKeepsTables s (execInstantTrip n copies s) :=
  done_keepsTables (by simp)

theorem execTripCauseSettle_keepsTables (n : Nat) (s : State) : StepKeepsTables s (execTripCauseSettle n s) := by
  refine done_keepsTables (State.each_dieTables _ _ _ fun inst s => ?_)
  split <;> simp

/-! ## Raw outputs (R188, R189, R191) -/

theorem execRawOutputRise_keepsTables (n copy : Nat) (s : State) : StepKeepsTables s (execRawOutputRise n copy s) :=
  done_keepsTables (by simp)

theorem execRawOutputFall_keepsTables (n copy : Nat) (lone : Bool) (s : State) :
    StepKeepsTables s (execRawOutputFall n copy lone s) :=
  done_keepsTables (by simp)

/-! ## The stuck-current check and the dwell (R134, R138, R139) -/

theorem execStuckCurrentVerdict_keepsTables (n : Nat) (s : State) : StepKeepsTables s (execStuckCurrentVerdict n s) :=
  done_keepsTables (by simp)

@[simp] theorem State.dwellEnd_dieTables (s : State) (n : Nat) : dieTables (s.dwellEnd n).dies = dieTables s.dies := by
  simp [State.dwellEnd]

theorem execTripDwellEnd_keepsTables (n : Nat) (s : State) : StepKeepsTables s (execTripDwellEnd n s) :=
  done_keepsTables (by simp)

/-! ## Timed-overcurrent registers (R130, R153) -/

@[simp] theorem State.tocCfg_dieTables (s : State) (n : Nat) (v : Word) : dieTables (s.tocCfg n v).dies = dieTables s.dies := by
  simp [State.tocCfg]

@[simp] theorem State.tocPoint_dieTables (s : State) (n i : Nat) (v : Word) :
    dieTables (s.tocPoint n i v).dies = dieTables s.dies := by
  simp [State.tocPoint]

theorem execTocCfgWrite_keepsTables (ini : Ini) (n : Nat) (v : Word) (s : State) : StepKeepsTables s (execTocCfgWrite ini n v s) :=
  done_keepsTables (by simp)

theorem execTocPtWrite_keepsTables (ini : Ini) (n i : Nat) (v : Word) (s : State) :
    StepKeepsTables s (execTocPtWrite ini n i v s) :=
  done_keepsTables (by simp)

/-! ## Snapshots (R147) -/

theorem execSnapshotComplete_keepsTables (d buf : Nat) (s : State) : StepKeepsTables s (execSnapshotComplete d buf s) := by
  refine done_keepsTables ?_
  split <;> simp

/-! ## Receipt (R186, R187) -/

@[simp] theorem State.refuseMsg_dieTables (s : State) (m : Msg) (reason : Nat) :
    dieTables (s.refuseMsg m reason).dies = dieTables s.dies := by
  simp [State.refuseMsg]

@[simp] theorem State.clearedIn_dieTables (s : State) (m : Msg) : dieTables (s.clearedIn m).dies = dieTables s.dies := by
  simp [State.clearedIn]

@[simp] theorem State.lockoutIn_dieTables (s : State) (m : Msg) : dieTables (s.lockoutIn m).dies = dieTables s.dies := by
  simp [State.lockoutIn]

@[simp] theorem State.releaseIn_dieTables (s : State) (m : Msg) : dieTables (s.releaseIn m).dies = dieTables s.dies := by
  simp [State.releaseIn]

@[simp] theorem State.upstreamIn_dieTables (s : State) (m : Msg) : dieTables (s.upstreamIn m).dies = dieTables s.dies := by
  simp [State.upstreamIn]

@[simp] theorem State.recvTerr_dieTables (s : State) (m : Msg) : dieTables (s.recvTerr m).dies = dieTables s.dies := by
  unfold State.recvTerr
  cases m.kind <;> simp

theorem execRestrainReceive_keepsTables (m : Msg) (s : State) : StepKeepsTables s (execRestrainReceive m s) :=
  done_keepsTables (by simp)

theorem execClearedReceive_keepsTables (m : Msg) (s : State) : StepKeepsTables s (execClearedReceive m s) :=
  done_keepsTables (by simp)

theorem execLockoutReceive_keepsTables (m : Msg) (s : State) : StepKeepsTables s (execLockoutReceive m s) :=
  done_keepsTables (by simp)

theorem execReleaseReceive_keepsTables (m : Msg) (s : State) : StepKeepsTables s (execReleaseReceive m s) :=
  done_keepsTables (by simp)

theorem execUpstreamOpenReceive_keepsTables (m : Msg) (s : State) : StepKeepsTables s (execUpstreamOpenReceive m s) :=
  done_keepsTables (by simp)

/-! ## Repeated copies (R185) -/

@[simp] theorem State.sendDue_dieTables (s : State) (n : Nat) : dieTables (s.sendDue n).dies = dieTables s.dies := by
  simp [State.sendDue]

theorem execMessageCopyRepeat_keepsTables (n : Nat) (s : State) : StepKeepsTables s (execMessageCopyRepeat n s) :=
  done_keepsTables (by simp)

/-! ## Timers (R190, R191) -/

theorem execWaitExpiry_keepsTables (n : Nat) (s : State) : StepKeepsTables s (execWaitExpiry n s) :=
  done_keepsTables (by simp)

theorem execHoldExpiry_keepsTables (n : Nat) (s : State) : StepKeepsTables s (execHoldExpiry n s) :=
  done_keepsTables (by simp)

theorem execEntryStale_keepsTables (n a k : Nat) (s : State) : StepKeepsTables s (execEntryStale n a k s) := by
  refine done_keepsTables ?_
  dsimp only
  split <;> simp

/-! ## TERR.PAGE_CTRL (R202) -/

@[simp] theorem State.terrOff_dieTables (s : State) : dieTables (s.terrOff ).dies = dieTables s.dies := by simp [State.terrOff]

theorem execTerrDisable_keepsTables (ini : Ini) (s : State) : StepKeepsTables s (execTerrDisable ini s) :=
  done_keepsTables (by simp)

@[simp] theorem State.terrReset_dieTables (s : State) : dieTables (s.terrReset ).dies = dieTables s.dies := by
  simp [State.terrReset]

@[simp] theorem State.ctxCmd_dieTables (s : State) (d n : Nat) (v : Word) : dieTables (s.ctxCmd d n v).dies = dieTables s.dies := by
  simp [State.ctxCmd]

@[simp] theorem State.testCmd_dieTables (s : State) (d : Nat) (v : Word) : dieTables (s.testCmd d v).dies = dieTables s.dies := by
  simp [State.testCmd]

@[simp] theorem State.capCmd_dieTables (s : State) (d : Nat) (v : Word) : dieTables (s.capCmd d v).dies = dieTables s.dies := by
  simp [State.capCmd]

theorem execCommit_keepsTables (ini : Ini) (d n : Nat) (errs : List (Nat × Nat)) (s : State) :
    StepKeepsTables s (execCommit ini d n errs s) :=
  done_keepsTables (by simp)

theorem execClrCnt_keepsTables (ini : Ini) (d n : Nat) (s : State) : StepKeepsTables s (execClrCnt ini d n s) :=
  done_keepsTables (by simp)

theorem execClrMax_keepsTables (ini : Ini) (d : Nat) (s : State) : StepKeepsTables s (execClrMax ini d s) :=
  done_keepsTables (by simp)

theorem execTestArm_keepsTables (ini : Ini) (d : Nat) (s : State) : StepKeepsTables s (execTestArm ini d s) :=
  done_keepsTables (by simp)

theorem execTestStop_keepsTables (ini : Ini) (d : Nat) (s : State) : StepKeepsTables s (execTestStop ini d s) :=
  done_keepsTables (by simp)

theorem execCapArm_keepsTables (ini : Ini) (d : Nat) (s : State) : StepKeepsTables s (execCapArm ini d s) :=
  done_keepsTables (by simp)

theorem execCapForce_keepsTables (ini : Ini) (d : Nat) (s : State) : StepKeepsTables s (execCapForce ini d s) :=
  done_keepsTables (by simp)

theorem execCapAbort_keepsTables (ini : Ini) (d : Nat) (s : State) : StepKeepsTables s (execCapAbort ini d s) :=
  done_keepsTables (by simp)

/-! ## Verdicts and the role swap (R103 to R106) -/

@[simp] theorem State.verdict_dieTables (s : State) (n cause abort : Nat) (open_ : Bool) :
    dieTables (s.verdict n cause abort open_).dies = dieTables s.dies := by
  simp [State.verdict]

@[simp] theorem State.roleSwap_dieTables (s : State) (n : Nat) (approved : Bool) :
    dieTables (s.roleSwap n approved).dies = dieTables s.dies := by
  simp [State.roleSwap]

@[simp] theorem State.foundShortA_dieTables (s : State) (n : Nat) : dieTables (s.foundShortA n).dies = dieTables s.dies := by
  simp [State.foundShortA]

@[simp] theorem State.stepOnePass_dieTables (s : State) (n : Nat) : dieTables (s.stepOnePass n).dies = dieTables s.dies := by
  simp [State.stepOnePass]

theorem execPrecheck1Pass_keepsTables (n : Nat) (s : State) : StepKeepsTables s (execPrecheck1Pass n s) :=
  done_keepsTables (by simp)

theorem execShortVerdict_keepsTables (n : Nat) (s : State) : StepKeepsTables s (execShortVerdict n s) :=
  done_keepsTables (by simp)

theorem execPrecheck2Pass_keepsTables (n : Nat) (s : State) : StepKeepsTables s (execPrecheck2Pass n s) :=
  done_keepsTables (by simp)

theorem execPassElementAShort_keepsTables (n : Nat) (s : State) : StepKeepsTables s (execPassElementAShort n s) :=
  done_keepsTables (by simp)

theorem execSpareGateTimeout_keepsTables (n : Nat) (s : State) : StepKeepsTables s (execSpareGateTimeout n s) :=
  done_keepsTables (by simp)

theorem execSpareEnhDone_keepsTables (n : Nat) (s : State) : StepKeepsTables s (execSpareEnhDone n s) :=
  done_keepsTables (by simp)

/-! ## Charging (R108) -/

@[simp] theorem State.startCharging_dieTables (s : State) (n : Nat) : dieTables (s.startCharging n).dies = dieTables s.dies := by
  simp [State.startCharging]

theorem execChargingStart_keepsTables (n : Nat) (s : State) : StepKeepsTables s (execChargingStart n s) :=
  done_keepsTables (by simp)

/-! ## Learning and the forecast (R110) -/

theorem execLearningWindowEnd_keepsTables (n : Nat) (s : State) : StepKeepsTables s (execLearningWindowEnd n s) := by
  refine done_keepsTables ?_
  dsimp only
  split
  · rfl
  · split <;> simp

@[simp] theorem State.serveFit_dieTables (s : State) (n : Nat) : dieTables (s.serveFit n).dies = dieTables s.dies := by
  unfold State.serveFit
  dsimp only
  split
  · rfl
  · split <;> simp

/-! ## The ends of an insertion (R111, R112) -/

theorem execInsertionPause_keepsTables (n : Nat) (s : State) : StepKeepsTables s (execInsertionPause n s) :=
  done_keepsTables (by simp)

theorem execInsertTimeout_keepsTables (n : Nat) (s : State) : StepKeepsTables s (execInsertTimeout n s) :=
  done_keepsTables (by simp)

theorem execHandoverTimeout_keepsTables (n : Nat) (s : State) : StepKeepsTables s (execHandoverTimeout n s) :=
  done_keepsTables (by simp)

@[simp] theorem State.fbEnd_dieTables (s : State) (n which : Nat) : dieTables (s.fbEnd n which).dies = dieTables s.dies := by
  simp [State.fbEnd]

theorem execFbLost_keepsTables (n : Nat) (s : State) : StepKeepsTables s (execFbLost n s) :=
  done_keepsTables (by simp)

@[simp] theorem State.insertionOn_dieTables (s : State) (n : Nat) : dieTables (s.insertionOn n).dies = dieTables s.dies := by
  simp [State.insertionOn]

@[simp] theorem State.startHandover_dieTables (s : State) (n : Nat) : dieTables (s.startHandover n).dies = dieTables s.dies := by
  simp [State.startHandover]

theorem execInsertionDone_keepsTables (n : Nat) (s : State) : StepKeepsTables s (execInsertionDone n s) :=
  done_keepsTables (by simp)

/-! ## PG and EWARN_N (R113, R116, R144) -/

theorem execPgRelease_keepsTables (n : Nat) (s : State) : StepKeepsTables s (execPgRelease n s) := by
  refine done_keepsTables ?_
  dsimp only
  split <;> simp

theorem execEwarnBusEnd_keepsTables (d : Nat) (s : State) : StepKeepsTables s (execEwarnBusEnd d s) := by
  refine done_keepsTables ?_
  dsimp only
  split <;> simp

/-! ## Dissipation (R158) -/

@[simp] theorem State.addPower_dieTables (s : State) (n : Nat) (elemB : Bool) :
    dieTables (s.addPower n elemB).dies = dieTables s.dies := by
  simp [State.addPower]

/-! ## Parts of one slot's sample -/

@[simp] theorem State.takeSample_dieTables (s : State) (d : Nat) (r : SlotSamp) :
    dieTables (s.takeSample d r).dies = dieTables s.dies := by
  simp [State.takeSample]

@[simp] theorem State.recordWave_dieTables (s : State) (n : Nat) (p : Nat × Nat) :
    dieTables (s.recordWave n p).dies = dieTables s.dies := by
  simp [State.recordWave]

@[simp] theorem State.recordSample_dieTables (s : State) (n : Nat) : dieTables (s.recordSample n).dies = dieTables s.dies := by
  simp [State.recordSample]

@[simp] theorem State.recordBlank_dieTables (s : State) (n : Nat) : dieTables (s.recordBlank n).dies = dieTables s.dies := by
  simp [State.recordBlank]

@[simp] theorem State.stuckSample_dieTables (s : State) (n : Nat) : dieTables (s.stuckSample n).dies = dieTables s.dies := by
  simp [State.stuckSample]

@[simp] theorem State.computedTrip_dieTables (s : State) (n cause : Nat) :
    dieTables (s.computedTrip n cause).dies = dieTables s.dies := by
  simp [State.computedTrip]

@[simp] theorem State.protSample_dieTables (s : State) (n : Nat) : dieTables (s.protSample n).dies = dieTables s.dies := by
  simp [State.protSample]

@[simp] theorem State.pgSample_dieTables (s : State) (n : Nat) : dieTables (s.pgSample n).dies = dieTables s.dies := by
  simp [State.pgSample]

@[simp] theorem State.learnSample_dieTables (s : State) (n : Nat) : dieTables (s.learnSample n).dies = dieTables s.dies := by
  simp [State.learnSample]

@[simp] theorem State.superviseSample_dieTables (s : State) (n : Nat) : dieTables (s.superviseSample n).dies = dieTables s.dies := by
  simp [State.superviseSample]

@[simp] theorem State.completeSample_dieTables (s : State) (n : Nat) : dieTables (s.completeSample n).dies = dieTables s.dies := by
  simp [State.completeSample]

@[simp] theorem State.slotSample_dieTables (s : State) (d : Nat) (r : SlotSamp) :
    dieTables (s.slotSample d r).dies = dieTables s.dies := by
  simp [State.slotSample]

/-! ## The bus (R116, R209) -/

@[simp] theorem State.busSample_dieTables (s : State) (d : Nat) (x : Samp) : dieTables (s.busSample d x).dies = dieTables s.dies := by
  simp [State.busSample]

theorem execControlSample_keepsTables (r : DieSamp) (s : State) : StepKeepsTables s (execControlSample r s) :=
  done_keepsTables (by simp)

end Sys2Proof.Machine
end

section
/-! PROOFS. Conversion, calibration and the thermal model keep the tables of a die (O7). -/
namespace Sys2Proof.Machine

@[simp] theorem State.loadDeglitch_dieTables (s : State) (n v : Nat) : dieTables (s.loadDeglitch n v).dies = dieTables s.dies := by
  simp [State.loadDeglitch]

@[simp] theorem State.flushAll_dieTables (s : State) : dieTables (s.flushAll ).dies = dieTables s.dies := by simp [State.flushAll]

@[simp] theorem State.loadPreset_dieTables (s : State) (m : Nat) (skip : Nat → Bool) :
    dieTables (s.loadPreset m skip).dies = dieTables s.dies := by
  simp [State.loadPreset]

@[simp] theorem State.applyMode_dieTables (s : State) : dieTables (s.applyMode ).dies = dieTables s.dies := by
  generalize ht : s.applyMode = t
  unfold State.applyMode at ht
  split at ht
  · rw [ht]
  · dsimp only at ht
    rw [← ht, (State.thEdges_frame ..).2.2.2.2.1, State.each_dieTables _ _ _ (fun _ _ => State.pumpCheck_dieTables ..),
      State.logLead_dieTables, (State.evt_frame ..).2.2.2.2.2.1]
    exact (State.dieTables_withPkg (s.loadPreset _ _) _).trans (State.loadPreset_dieTables ..)

@[simp] theorem State.modeWrite_dieTables (s : State) (v : Word) : dieTables (s.modeWrite v).dies = dieTables s.dies := by
  simp [State.modeWrite]

theorem execModeRequest_keepsTables (ini : Ini) (v : Word) (s : State) : StepKeepsTables s (execModeRequest ini v s) :=
  done_keepsTables (by simp)

/-! ## Queues (R249, R250, R269) -/

@[simp] theorem State.pushQueue_dieTables (s : State) (d : Nat) (e : BitVec 64) :
    dieTables (s.pushQueue d e).dies = dieTables s.dies := by
  simp [State.pushQueue]

/-! ## The QUEUE port (R251 to R253) -/

@[simp] theorem State.takeSrc_dieTables (s : State) (k : Nat) (port : Bool) :
    dieTables (s.takeSrc k port).1.dies = dieTables s.dies := by
  unfold State.takeSrc
  dsimp only
  split <;> simp

@[simp] theorem State.captureEntry_dieTables (s : State) (ini : Ini) (a : Nat) (e : BitVec 64) (src : Word) :
    dieTables (s.captureEntry ini a e src).dies = dieTables s.dies := by
  simp [State.captureEntry]

@[simp] theorem State.queuePop_dieTables (s : State) (ini : Ini) : dieTables (s.queuePop ini).dies = dieTables s.dies := by
  unfold State.queuePop
  split <;> simp

@[simp] theorem State.queuePeek_dieTables (s : State) (ini : Ini) : dieTables (s.queuePeek ini).dies = dieTables s.dies := by
  unfold State.queuePeek
  split <;> simp

theorem execQueuePop_keepsTables (ini : Ini) (s : State) : StepKeepsTables s (execQueuePop ini s) :=
  done_keepsTables (by simp)

theorem execQueuePeek_keepsTables (ini : Ini) (s : State) : StepKeepsTables s (execQueuePeek ini s) :=
  done_keepsTables (by simp)

/-! ## Streams (R255, R256) -/

@[simp] theorem State.streamPull_dieTables (k : Nat) (s : State) : dieTables (State.streamPull k s).dies = dieTables s.dies := by
  induction k generalizing s with
  | zero => rfl
  | succ k ih =>
    unfold State.streamPull
    extract_lets dest
    split
    · rfl
    · split <;> simp [ih]

@[simp] theorem State.streamRun_dieTables (s : State) : dieTables (s.streamRun ).dies = dieTables s.dies := by
  simp [State.streamRun]

theorem execStreamFlushTimeout_keepsTables (s : State) : StepKeepsTables s (execStreamFlushTimeout s) :=
  done_keepsTables (by simp)

@[simp] theorem State.streamRx_dieTables (s : State) (src seq : Nat) (es : List (BitVec 64)) :
    dieTables (s.streamRx src seq es).dies = dieTables s.dies := by
  unfold State.streamRx
  dsimp only
  split
  · simp
  · rw [State.each_dieTables]
    · split <;> simp
    · simp

theorem execStreamReceive_keepsTables (src seq : Nat) (es : List (BitVec 64)) (s : State) :
    StepKeepsTables s (execStreamReceive src seq es s) :=
  done_keepsTables (by simp)

@[simp] theorem State.queueReset_dieTables (s : State) : dieTables (s.queueReset ).dies = dieTables s.dies := by
  simp [State.queueReset]

/-! ## Metering (R242 to R261) -/

@[simp] theorem State.flagRegs_dieTables (s : State) (d bit : Nat) (f : RFlags) :
    dieTables (s.flagRegs d bit f).dies = dieTables s.dies := by
  simp [State.flagRegs]

@[simp] theorem State.meterCh_dieTables (s : State) (d i : Nat) (volt : Bool) (x : Samp) (deliver : Bool) :
    dieTables (s.meterCh d i volt x deliver).dies = dieTables s.dies := by
  simp [State.meterCh]

@[simp] theorem State.meterPower_dieTables (s : State) (n : Nat) : dieTables (s.meterPower n).dies = dieTables s.dies := by
  simp [State.meterPower]

@[simp] theorem State.meterBus_dieTables (s : State) (d : Nat) (x : Samp) (deliver : Bool) :
    dieTables (s.meterBus d x deliver).dies = dieTables s.dies := by
  simp [State.meterBus]

@[simp] theorem State.dieResults_dieTables (s : State) (r : DieSamp) (deliver : Bool) :
    dieTables (s.dieResults r deliver).dies = dieTables s.dies := by
  simp [State.dieResults]

@[simp] theorem State.energyZero_dieTables (s : State) (n : Nat) : dieTables (s.energyZero n).dies = dieTables s.dies := by
  simp [State.energyZero]

theorem execEnergyClear_keepsTables (ini : Ini) (n : Nat) (s : State) : StepKeepsTables s (execEnergyClear ini n s) :=
  done_keepsTables (by simp)

@[simp] theorem State.modBelv_dieTables (s : State) (d : Nat) (g : Belv → Belv) (h : (g (s.die d).belv).mods.length =
    (s.die d).belv.mods.length) :
    dieTables (s.modBelv d g).dies = dieTables s.dies := by
  simp [State.modBelv, h]

@[simp] theorem State.modMod_dieTables (s : State) (d m : Nat) (g : Modl → Modl) :
    dieTables (s.modMod d m g).dies = dieTables s.dies := by
  simp [State.modMod]

/-! ## Swaps (R388) -/

@[simp] theorem State.startSwap_dieTables (s : State) (d m : Nat) : dieTables (s.startSwap d m).dies = dieTables s.dies := by
  unfold State.startSwap
  extract_lets idx b busy t
  split
  · simp
  · split
    · simp
    · split <;> simp [t]

@[simp] theorem State.takeOver_dieTables (s : State) (d idx m sp : Nat) (diff : Int) :
    dieTables (s.takeOver d idx m sp diff).dies = dieTables s.dies := by
  simp [State.takeOver]

@[simp] theorem State.endStep_dieTables (s : State) (d : Nat) : dieTables (s.endStep d).dies = dieTables s.dies := by
  unfold State.endStep
  split <;> simp

@[simp] theorem State.failSpare_dieTables (s : State) (d m : Nat) : dieTables (s.failSpare d m).dies = dieTables s.dies := by
  unfold State.failSpare
  extract_lets b t u
  have hu : dieTables u.dies = dieTables s.dies := by
    simp only [u]
    split <;> simp [t]
  split <;> simp [hu]

@[simp] theorem State.reportMod_dieTables (s : State) (d m : Nat) : dieTables (s.reportMod d m).dies = dieTables s.dies := by
  cases h : (s.die d).belv.roll <;> simp [State.reportMod, h]

theorem execModSwapParallelEnd_keepsTables (d : Nat) (ok : Bool) (diff : Int) (s : State) :
    StepKeepsTables s (execModSwapParallelEnd d ok diff s) := by
  refine done_keepsTables ?_
  split <;> simp

/-! ## Self-calibration (R263) -/

@[simp] theorem State.calibrate_dieTables (s : State) (d m : Nat) (zs fs : Int) :
    dieTables (s.calibrate d m zs fs).dies = dieTables s.dies := by
  simp [State.calibrate]

@[simp] theorem State.adoptAll_dieTables (s : State) (d : Nat) : dieTables (s.adoptAll d).dies = dieTables s.dies := by
  simp [State.adoptAll]

/-! ## Rolling calibration (R265, R266) -/

@[simp] theorem State.newRound_dieTables (s : State) (d : Nat) (once : Bool) :
    dieTables (s.newRound d once).dies = dieTables s.dies := by
  simp [State.newRound]

@[simp] theorem State.rollOnce_dieTables (s : State) (d : Nat) : dieTables (s.rollOnce d).dies = dieTables s.dies := by
  simp [State.rollOnce]

theorem execRollOnce_keepsTables (ini : Ini) (d : Nat) (s : State) : StepKeepsTables s (execRollOnce ini d s) :=
  done_keepsTables (by simp)

theorem execRollingStepStart_keepsTables (d : Nat) (s : State) : StepKeepsTables s (execRollingStepStart d s) := by
  refine done_keepsTables ?_
  extract_lets cont b t
  have ht : dieTables t.dies = dieTables s.dies := by simp [t]
  split
  · rfl
  · split
    · exact ht
    · split
      · exact ht
      · split
        · simp [ht]
        · split
          · simp [ht]
          · extract_lets idx r
            split
            · simp [ht]
            · split
              · simp [ht]
              · split <;> simp [ht]

theorem execRollingParallelEnd_keepsTables (d : Nat) (s : State) : StepKeepsTables s (execRollingParallelEnd d s) := by
  refine done_keepsTables ?_
  split <;> simp

theorem execSelfCalDone_keepsTables (d : Nat) (zs fs : Int) (s : State) : StepKeepsTables s (execSelfCalDone d zs fs s) := by
  refine done_keepsTables ?_
  split
  · rfl
  · dsimp only
    split
    · rfl
    · split <;> simp

@[simp] theorem State.handOver_dieTables (s : State) (d : Nat) (survey : Bool) :
    dieTables (s.handOver d survey).dies = dieTables s.dies := by
  unfold State.handOver
  extract_lets t
  have ht : dieTables t.dies = dieTables s.dies := by
    simp only [t]
    split <;> simp
  split <;> simp [ht]

@[simp] theorem State.nextSwap_dieTables (s : State) (d : Nat) : dieTables (s.nextSwap d).dies = dieTables s.dies := by
  unfold State.nextSwap
  dsimp only
  cases h : (s.die d).belv.swapQ <;> simp

/-! ## Full calibration (R264) -/

@[simp] theorem State.fullCal_dieTables (s : State) (d : Nat) : dieTables (s.fullCal d).dies = dieTables s.dies := by
  unfold State.fullCal
  dsimp only
  split
  · rfl
  · split
    · simp
    · rw [State.modBelv_dieTables _ _ _ rfl]
      split
      · split <;> simp
      · rfl

theorem execFullCalibration_keepsTables (ini : Ini) (d : Nat) (s : State) : StepKeepsTables s (execFullCalibration ini d s) :=
  done_keepsTables (by simp)

@[simp] theorem State.startMods_dieTables (s : State) (d : Nat) : dieTables (s.startMods d).dies = dieTables s.dies := by
  simp [State.startMods]

theorem execFullCalibrationDone_keepsTables (d : Nat) (pairs : List (Int × Int)) (s : State) :
    StepKeepsTables s (execFullCalibrationDone d pairs s) := by
  refine done_keepsTables ?_
  split <;> simp

/-! ## References (R389) -/

@[simp] theorem State.refCheck_dieTables (s : State) (d arbA arbB : Nat) :
    dieTables (s.refCheck d arbA arbB).dies = dieTables s.dies := by
  unfold State.refCheck
  extract_lets b p diff bad n t fin dA dB u sus
  have ht : dieTables t.dies = dieTables s.dies := by simp [t]
  have hu : dieTables u.dies = dieTables s.dies := by simp [u, ht]
  split
  · exact ht
  · cases sus <;> simp [hu]

@[simp] theorem State.refSwitch_dieTables (s : State) (d : Nat) : dieTables (s.refSwitch d).dies = dieTables s.dies := by
  simp [State.refSwitch]

/-! ## The open-wire test (R232 to R236) -/

@[simp] theorem State.openStart_dieTables (s : State) (d slots pins current : Nat) (auto : Bool) :
    dieTables (s.openStart d slots pins current auto).dies = dieTables s.dies := by
  simp [State.openStart]

@[simp] theorem State.openWrite_dieTables (s : State) (d : Nat) (v : Word) : dieTables (s.openWrite d v).dies = dieTables s.dies := by
  simp [State.openWrite]

theorem execOpenWireStart_keepsTables (ini : Ini) (d : Nat) (v : Word) (s : State) :
    StepKeepsTables s (execOpenWireStart ini d v s) :=
  done_keepsTables (by simp)

@[simp] theorem State.openVerdict_dieTables (s : State) (d : Nat) (r : OpenRun) (m : OpenVal) :
    dieTables (s.openVerdict d r m).dies = dieTables s.dies := by
  unfold State.openVerdict
  dsimp only
  split <;> simp

theorem execOpenWireDone_keepsTables (d : Nat) (s : State) : StepKeepsTables s (execOpenWireDone d s) := by
  refine done_keepsTables ?_
  split
  · rfl
  · split
    · rfl
    · dsimp only
      split <;> simp

@[simp] theorem State.openFrame_dieTables (s : State) (d : Nat) : dieTables (s.openFrame d).dies = dieTables s.dies := by
  cases h : (s.die d).belv.openRun <;> simp [State.openFrame, h]

/-! ## The frame-time table (R225, R240) -/

@[simp] theorem State.ftWrite_dieTables (s : State) (num src osr : Nat) (sel reph trim : Bool) :
    dieTables (s.ftWrite num src osr sel reph trim).dies = dieTables s.dies := by
  simp [State.ftWrite]

@[simp] theorem State.ftMark_dieTables (s : State) (g : Word → Word) : dieTables (s.ftMark g).dies = dieTables s.dies := by
  simp [State.ftMark]

/-! ## Boundaries (R214 to R217, R245) -/

@[simp] theorem State.dieBoundary_dieTables (s : State) (d : Nat) : dieTables (s.dieBoundary d).dies = dieTables s.dies := by
  simp [State.dieBoundary]

@[simp] theorem State.beginFrame_dieTables (s : State) (src base : Nat) (reph trim sel : Bool) :
    dieTables (s.beginFrame src base reph trim sel).dies = dieTables s.dies := by
  simp [State.beginFrame]

@[simp] theorem State.endFrame_dieTables (s : State) (rs : List DieSamp) : dieTables (s.endFrame rs).dies = dieTables s.dies := by
  simp [State.endFrame]

theorem execFrameBoundary_keepsTables (rs : List DieSamp) (s : State) : StepKeepsTables s (execFrameBoundary rs s) :=
  done_keepsTables (by simp)

/-! ## Triggers (R219 to R222) -/

theorem execTrigPulse_keepsTables (low : Bool) (width : Nat) (s : State) : StepKeepsTables s (execTrigPulse low width s) :=
  done_keepsTables (by simp)

@[simp] theorem State.swTrig_dieTables (s : State) : dieTables (s.swTrig ).dies = dieTables s.dies := by simp [State.swTrig]

theorem execSoftwareTrigger_keepsTables (ini : Ini) (s : State) : StepKeepsTables s (execSoftwareTrigger ini s) :=
  done_keepsTables (by simp)

@[simp] theorem State.takeLoad_dieTables (s : State) (src : TrigSrc) : dieTables (s.takeLoad src).dies = dieTables s.dies := by
  simp [State.takeLoad]

@[simp] theorem State.sameBoundary_dieTables (s : State) (src : TrigSrc) : dieTables (s.sameBoundary src).dies = dieTables s.dies := by
  unfold State.sameBoundary
  dsimp only
  split
  · simp
  · split
    · simp
    · split <;> simp

@[simp] theorem State.hardBoundary_dieTables (s : State) (src : TrigSrc) : dieTables (s.hardBoundary src).dies = dieTables s.dies := by
  simp [State.hardBoundary]

theorem execTriggerDelayEnd_keepsTables (src : TrigSrc) (s : State) : StepKeepsTables s (execTriggerDelayEnd src s) := by
  refine done_keepsTables ?_
  dsimp only
  split
  · rfl
  · cases src <;> simp

/-! ## TFET (R164, R165) -/

@[simp] theorem State.tfetResult_dieTables (s : State) (n code : Nat) (flagged : Bool) :
    dieTables (s.tfetResult n code flagged).dies = dieTables s.dies := by
  simp [State.tfetResult]

theorem execTfetStale_keepsTables (n : Nat) (s : State) : StepKeepsTables s (execTfetStale n s) :=
  done_keepsTables (by simp)

/-! ## The survey (R226 to R228) -/

@[simp] theorem State.survStep_dieTables (s : State) (d ch : Nat) : dieTables (s.survStep d ch).dies = dieTables s.dies := by
  simp [State.survStep]

@[simp] theorem State.survFeed_dieTables (s : State) (d ch code : Nat) (ovr isOpen : Bool) :
    dieTables (s.survFeed d ch code ovr isOpen).dies = dieTables s.dies := by
  simp [State.survFeed]

@[simp] theorem State.openStep_dieTables (s : State) (d ch : Nat) (c : Nat × Bool) (r : OpenRun) :
    dieTables (s.openStep d ch c r).dies = dieTables s.dies := by
  simp [State.openStep]

theorem execSurveyStepEnd_keepsTables (d : Nat) (x : Samp) (s : State) : StepKeepsTables s (execSurveyStepEnd d x s) := by
  refine done_keepsTables ?_
  dsimp only
  split
  · rfl
  · split
    · simp
    · split <;> simp

/-! ## The graticule (R166 to R169, R173) -/

@[simp] theorem State.gratDegraded_dieTables (s : State) (d : Nat) : dieTables (s.gratDegraded d).dies = dieTables s.dies := by
  simp [State.gratDegraded]

@[simp] theorem State.gratExclude_dieTables (s : State) (d i : Nat) : dieTables (s.gratExclude d i).dies = dieTables s.dies := by
  simp [State.gratExclude]

@[simp] theorem State.unblock_dieTables (s : State) (d : Nat) : dieTables (s.unblock d).dies = dieTables s.dies := by
  simp [State.unblock]

@[simp] theorem State.gratWindows_dieTables (s : State) (d : Nat) : dieTables (s.gratWindows d).dies = dieTables s.dies := by
  simp [State.gratWindows]

@[simp] theorem State.gratScan_dieTables (s : State) (d : Nat) : dieTables (s.gratScan d).dies = dieTables s.dies := by
  simp [State.gratScan]

theorem execSurveyScanEnd_keepsTables (d arbA arbB : Nat) (s : State) : StepKeepsTables s (execSurveyScanEnd d arbA arbB s) :=
  done_keepsTables (by simp)

@[simp] theorem State.readmit_dieTables (s : State) (d mask : Nat) : dieTables (s.readmit d mask).dies = dieTables s.dies := by
  simp [State.readmit]

theorem execGratReadmit_keepsTables (ini : Ini) (d mask : Nat) (s : State) : StepKeepsTables s (execGratReadmit ini d mask s) :=
  done_keepsTables (by simp)

/-! ## The thermal model (R159, R161, R163, R298) -/

@[simp] theorem State.elemUpdate_dieTables (s : State) (n : Nat) (elemB : Bool) :
    dieTables (s.elemUpdate n elemB).dies = dieTables s.dies := by
  simp [State.elemUpdate]

@[simp] theorem State.soaTrip_dieTables (s : State) (n : Nat) : dieTables (s.soaTrip n).dies = dieTables s.dies := by
  simp [State.soaTrip]

theorem execThermalModelUpdate_keepsTables (d : Nat) (s : State) : StepKeepsTables s (execThermalModelUpdate d s) :=
  done_keepsTables (by simp)

theorem execLaneRequestDone_keepsTables (d : Nat) (s : State) : StepKeepsTables s (execLaneRequestDone d s) := by
  refine done_keepsTables ?_
  split
  · rfl
  · split
    · rfl
    · dsimp only
      split <;> simp

end Sys2Proof.Machine
end

section
/-! PROOFS. Meridian time and the rings keep the tables of a die (O7). -/
namespace Sys2Proof.Machine

/-! ## States and records (R369, R383) -/

@[simp] theorem State.merRecAs_dieTables (s : State) (code st cause : Nat) (theta : Int) :
    dieTables (s.merRecAs code st cause theta).dies = dieTables s.dies := by
  simp [State.merRecAs]

@[simp] theorem State.merRec_dieTables (s : State) (code : Nat) (theta : Int) :
    dieTables (s.merRec code theta).dies = dieTables s.dies := by
  simp [State.merRec]

@[simp] theorem State.merEnter_dieTables (s : State) (st cause : Nat) (theta : Int) :
    dieTables (s.merEnter st cause theta).dies = dieTables s.dies := by
  simp [State.merEnter]

@[simp] theorem State.freeCheck_dieTables (s : State) : dieTables (s.freeCheck ).dies = dieTables s.dies := by
  simp [State.freeCheck]

@[simp] theorem State.rootCheck_dieTables (s : State) : dieTables (s.rootCheck ).dies = dieTables s.dies := by
  simp [State.rootCheck]

@[simp] theorem State.keeperChanged_dieTables (s : State) (k : Nat) : dieTables (s.keeperChanged k).dies = dieTables s.dies := by
  simp [State.keeperChanged]

/-! ## Timers (R375) -/

@[simp] theorem State.tmrWrite_dieTables (s : State) (n : Nat) (v : Word) : dieTables (s.tmrWrite n v).dies = dieTables s.dies := by
  simp [State.tmrWrite]

/-! ## Steps (R371) -/

@[simp] theorem State.merStep_dieTables (s : State) (theta : Int) : dieTables (s.merStep theta).dies = dieTables s.dies := by
  simp [State.merStep]

/-! ## Samples (R369) -/

@[simp] theorem State.merRefuse_dieTables (s : State) (theta : Int) (cause : Nat) :
    dieTables (s.merRefuse theta cause).dies = dieTables s.dies := by
  simp [State.merRefuse]

@[simp] theorem State.merSample_dieTables (s : State) (theta : Int) (pps labelled : Bool) :
    dieTables (s.merSample theta pps labelled).dies = dieTables s.dies := by
  simp [State.merSample]

@[simp] theorem State.sourceLost_dieTables (s : State) : dieTables (s.sourceLost ).dies = dieTables s.dies := by
  simp [State.sourceLost]

/-! ## Training (R368) -/

@[simp] theorem State.trainEnd_dieTables (s : State) (t : Train) : dieTables (s.trainEnd t).dies = dieTables s.dies := by
  simp [State.trainEnd]

@[simp] theorem State.trainCheck_dieTables (s : State) : dieTables (s.trainCheck ).dies = dieTables s.dies := by
  unfold State.trainCheck
  split <;> simp

@[simp] theorem State.trainStart_dieTables (s : State) : dieTables (s.trainStart ).dies = dieTables s.dies := by
  unfold State.trainStart
  split <;> simp

/-! ## PPS_IN (R363) -/

@[simp] theorem State.ppsEdge_dieTables (s : State) (c : Nat) : dieTables (s.ppsEdge c).dies = dieTables s.dies := by
  simp [State.ppsEdge]

theorem execPpsInEdge_keepsTables (falling : Bool) (c : Nat) (s : State) : StepKeepsTables s (execPpsInEdge falling c s) :=
  done_keepsTables (by simp)

theorem execPpsInLost_keepsTables (s : State) : StepKeepsTables s (execPpsInLost s) :=
  done_keepsTables (by simp)

theorem execTodCommit_keepsTables (ini : Ini) (v : Word) (s : State) : StepKeepsTables s (execTodCommit ini v s) :=
  done_keepsTables (by simp)

/-! ## The neighbour exchange (R364 to R366) -/

theorem execTimeProbeSend_keepsTables (p t1 : Nat) (s : State) : StepKeepsTables s (execTimeProbeSend p t1 s) :=
  done_keepsTables (by simp)

theorem execProbeReceive_keepsTables (p t1 t2 t3 steps state quality : Nat) (ok : Bool) (s : State) :
    StepKeepsTables s (execProbeReceive p t1 t2 t3 steps state quality ok s) :=
  done_keepsTables (by simp)

theorem execEchoReceive_keepsTables (p t1 t2 t3 t4 steps state quality : Nat) (ok : Bool) (routes : Routes) (s : State) :
    StepKeepsTables s (execEchoReceive p t1 t2 t3 t4 steps state quality ok routes s) :=
  done_keepsTables (by simp)

theorem execTappedProbe_keepsTables (p t1 t2 steps state quality : Nat) (ok : Bool) (s : State) :
    StepKeepsTables s (execTappedProbe p t1 t2 steps state quality ok s) :=
  done_keepsTables (by simp)

theorem execTimeSourceLost_keepsTables (s : State) : StepKeepsTables s (execTimeSourceLost s) :=
  done_keepsTables (by simp)

/-! ## Arm, disarm, reacquire, train (R368, R369, R371) -/

@[simp] theorem State.reacquire_dieTables (s : State) : dieTables (s.reacquire ).dies = dieTables s.dies := by
  simp [State.reacquire]

@[simp] theorem State.merCtrl_dieTables (s : State) (v : Word) : dieTables (s.merCtrl v).dies = dieTables s.dies := by
  simp [State.merCtrl]

theorem execArm_keepsTables (ini : Ini) (s : State) : StepKeepsTables s (execArm ini s) :=
  done_keepsTables (by simp)

theorem execDisarm_keepsTables (ini : Ini) (s : State) : StepKeepsTables s (execDisarm ini s) :=
  done_keepsTables (by simp)

theorem execReacquire_keepsTables (ini : Ini) (s : State) : StepKeepsTables s (execReacquire ini s) :=
  done_keepsTables (by simp)

theorem execTrain_keepsTables (ini : Ini) (s : State) : StepKeepsTables s (execTrain ini s) :=
  done_keepsTables (by simp)

/-! ## Timers and PPS_OUT (R375, R376) -/

theorem execTmrCfgWrite_keepsTables (ini : Ini) (n : Nat) (v : Word) (s : State) : StepKeepsTables s (execTmrCfgWrite ini n v s) :=
  done_keepsTables (by simp)

theorem execTimerFire_keepsTables (n : Nat) (s : State) : StepKeepsTables s (execTimerFire n s) :=
  done_keepsTables (by simp)

theorem execPpsOutPulse_keepsTables (s : State) : StepKeepsTables s (execPpsOutPulse s) :=
  done_keepsTables (by simp)

/-! ## Host probes (R377) -/

@[simp] theorem State.probeWrite_dieTables (s : State) (v : Word) (t1 : Nat) :
    dieTables (s.probeWrite v t1).dies = dieTables s.dies := by
  simp [State.probeWrite]

theorem execHostProbe_keepsTables (ini : Ini) (v : Word) (t1 : Nat) (s : State) : StepKeepsTables s (execHostProbe ini v t1 s) :=
  done_keepsTables (by simp)

theorem execHostProbeReceive_keepsTables (p t2 id src : Nat) (ok : Bool) (s : State) :
    StepKeepsTables s (execHostProbeReceive p t2 id src ok s) :=
  done_keepsTables (by simp)

@[simp] theorem State.txsPop_dieTables (s : State) (ini : Ini) : dieTables (s.txsPop ini).dies = dieTables s.dies := by
  unfold State.txsPop
  split <;> simp

theorem execTxsPop_keepsTables (ini : Ini) (s : State) : StepKeepsTables s (execTxsPop ini s) :=
  done_keepsTables (by simp)

/-! ## Reset and references (R28, R373) -/

@[simp] theorem State.merRefs_dieTables (s : State) (lost : Bool) : dieTables (s.merRefs lost).dies = dieTables s.dies := by
  simp [State.merRefs]

@[simp] theorem State.merReset_dieTables (s : State) : dieTables (s.merReset ).dies = dieTables s.dies := by simp [State.merReset]

@[simp] theorem State.merReturn_dieTables (s : State) : dieTables (s.merReturn ).dies = dieTables s.dies := by
  simp [State.merReturn]

@[simp] theorem State.ringRec_dieTables (s : State) (k code port addr b : Nat) :
    dieTables (s.ringRec k code port addr b).dies = dieTables s.dies := by
  simp [State.ringRec]

@[simp] theorem State.setRoutes_dieTables (s : State) (r : Routes) : dieTables (s.setRoutes r).dies = dieTables s.dies := by
  simp [State.setRoutes]

/-! ## The Wicket (R328, R339) -/

@[simp] theorem State.dropPair_dieTables (s : State) (k : Nat) (keep : Bool) :
    dieTables (s.dropPair k keep).dies = dieTables s.dies := by
  simp [State.dropPair]

/-! ## Link states (R328 to R331) -/

theorem execLinkAlign_keepsTables (p : Nat) (s : State) : StepKeepsTables s (execLinkAlign p s) :=
  done_keepsTables (by simp)

@[simp] theorem State.sendClaim_dieTables (s : State) (k pri uid : Nat) :
    dieTables (s.sendClaim k pri uid).dies = dieTables s.dies := by
  simp [State.sendClaim]

@[simp] theorem State.joinedNow_dieTables (s : State) (k : Nat) (bits : List Nat) :
    dieTables (s.joinedNow k bits).dies = dieTables s.dies := by
  simp [State.joinedNow]

@[simp] theorem State.redundantJoin_dieTables (s : State) : dieTables (s.redundantJoin ).dies = dieTables s.dies := by
  simp [State.redundantJoin]

@[simp] theorem State.nowJoined_dieTables (s : State) (k : Nat) : dieTables (s.nowJoined k).dies = dieTables s.dies := by
  simp [State.nowJoined]

theorem execLinkUp_keepsTables (p : Nat) (routes : Routes) (s : State) : StepKeepsTables s (execLinkUp p routes s) :=
  done_keepsTables (by simp)

theorem execLinkRelock_keepsTables (p : Nat) (routes : Routes) (s : State) : StepKeepsTables s (execLinkRelock p routes s) :=
  done_keepsTables (by simp)

@[simp] theorem State.linkFail_dieTables (s : State) (p cause : Nat) (routes : Routes) :
    dieTables (s.linkFail p cause routes).dies = dieTables s.dies := by
  simp [State.linkFail]

theorem execLinkFailed_keepsTables (p cause : Nat) (routes : Routes) (s : State) :
    StepKeepsTables s (execLinkFailed p cause routes s) :=
  done_keepsTables (by simp)

theorem execLinkRetry_keepsTables (p : Nat) (s : State) : StepKeepsTables s (execLinkRetry p s) :=
  done_keepsTables (by simp)

/-! ## Acknowledgement and replay (R326, R327, R331) -/

@[simp] theorem State.resend_dieTables (s : State) (p : Nat) (l : List Frame) : dieTables (s.resend p l).dies = dieTables s.dies := by
  simp [State.resend]

@[simp] theorem State.replay_dieTables (s : State) (p : Nat) (l : List Frame) : dieTables (s.replay p l).dies = dieTables s.dies := by
  simp [State.replay]

@[simp] theorem State.onWord_dieTables (s : State) (p : Nat) (rx : Line) (act : LWord → State) (h : ∀ w, KeepsTables s (act w)) :
    dieTables (s.onWord p rx act).dies = dieTables s.dies := by
  simp only [keepsTables_iff] at h
  cases hw : rx.word <;> simp [State.onWord, hw, h]

theorem execAckReceive_keepsTables (p : Nat) (rx : Line) (s : State) : StepKeepsTables s (execAckReceive p rx s) := by
  refine done_keepsTables (State.onWord_dieTables _ _ _ _ fun w => ?_)
  split
  · split <;> simp
  · rfl

theorem execNakReceive_keepsTables (p : Nat) (rx : Line) (s : State) : StepKeepsTables s (execNakReceive p rx s) := by
  refine done_keepsTables (State.onWord_dieTables _ _ _ _ fun w => ?_)
  split
  · split <;> simp
  · rfl

theorem execReplayTimeout_keepsTables (p : Nat) (s : State) : StepKeepsTables s (execReplayTimeout p s) :=
  done_keepsTables (by simp)

theorem execResyncReceive_keepsTables (p : Nat) (rx : Line) (s : State) : StepKeepsTables s (execResyncReceive p rx s) := by
  refine done_keepsTables (State.onWord_dieTables _ _ _ _ fun w => ?_)
  split <;> simp

/-! ## Transaction completions (R345, R347) -/

@[simp] theorem State.response_dieTables (s : State) (f : Frame) : dieTables (s.response f).dies = dieTables s.dies := by
  simp [State.response]

@[simp] theorem State.respond_dieTables (s : State) (f : Frame) (status : Nat) (payload : List Nat) :
    dieTables (s.respond f status payload).dies = dieTables s.dies := by
  simp [State.respond]

/-! ## Normal frames (R322, R336, R337) -/

@[simp] theorem State.strip_dieTables (s : State) (k : Nat) (f : Frame) : dieTables (s.strip k f).dies = dieTables s.dies := by
  unfold State.strip
  dsimp only
  split <;> simp

@[simp] theorem State.forward_dieTables (s : State) (k out units : Nat) (f : Frame) :
    dieTables (s.forward k out units f).dies = dieTables s.dies := by
  simp [State.forward]

@[simp] theorem State.passBack_dieTables (s : State) (p : Nat) (f : Frame) : dieTables (s.passBack p f).dies = dieTables s.dies := by
  simp [State.passBack]

@[simp] theorem State.noteWrap_dieTables (s : State) (k : Nat) (routes : Option Routes) :
    dieTables (s.noteWrap k routes).dies = dieTables s.dies := by
  cases routes <;> simp [State.noteWrap]

@[simp] theorem State.request_dieTables (s : State) (k : Nat) (f : Frame) : dieTables (s.request k f).dies = dieTables s.dies := by
  simp [State.request]

@[simp] theorem State.deliver_dieTables (s : State) (k : Nat) (f : Frame) : dieTables (s.deliver k f).dies = dieTables s.dies := by
  unfold State.deliver
  split <;> simp

@[simp] theorem State.route1_dieTables (s : State) (k : Nat) (f : Frame) : dieTables (s.route1 k f).dies = dieTables s.dies := by
  unfold State.route1
  dsimp only
  split
  · rfl
  · rfl
  · rfl
  · split
    · split <;> simp
    · split <;> simp

@[simp] theorem State.cutBad_dieTables (s : State) (p : Nat) (f : Frame) : dieTables (s.cutBad p f).dies = dieTables s.dies := by
  unfold State.cutBad
  dsimp only
  split
  · rfl
  · split
    · simp
    · split <;> simp

theorem execNormalFrameReceive_keepsTables (p : Nat) (rx : Line) (routes : Option Routes) (s : State) :
    StepKeepsTables s (execNormalFrameReceive p rx routes s) := by
  refine done_keepsTables ?_
  extract_lets x seq t
  have ht : dieTables t.dies = dieTables s.dies := by simp [t]
  split
  · rfl
  · split
    · simp [ht]
    · extract_lets u v
      have hv : dieTables v.dies = dieTables s.dies := by simp [v, u, ht]
      split
      · exact ht
      · split
        · simp [ht]
        · split
          · simp [ht]
          · split
            · split <;> simp [ht]
            · split
              · simp [hv]
              · split <;> simp [hv]

/-! ## Urgent frames (R186, R325, R331) -/

@[simp] theorem State.urgentOn_dieTables (s : State) (k : Nat) (up : Bool) (m : Msg) (bad : Bool) :
    dieTables (s.urgentOn k up m bad).dies = dieTables s.dies := by
  simp [State.urgentOn]

theorem execUrgentFrameReceive_keepsTables (p : Nat) (rx : Line) (s : State) : StepKeepsTables s (execUrgentFrameReceive p rx s) := by
  refine done_keepsTables ?_
  dsimp only
  split
  · rfl
  · split <;> simp

/-! ## Keeper election and enumeration (R332, R333) -/

@[simp] theorem State.elect_dieTables (s : State) (k : Nat) : dieTables (s.elect k).dies = dieTables s.dies := by simp [State.elect]

@[simp] theorem State.becomeKeeper_dieTables (s : State) (k : Nat) : dieTables (s.becomeKeeper k).dies = dieTables s.dies := by
  simp [State.becomeKeeper]

@[simp] theorem State.onLeg_dieTables (s : State) (p : Nat) (f : Frame) (act : State → State) (h : ∀ s, KeepsTables s (act s)) :
    dieTables (s.onLeg p f act).dies = dieTables s.dies := by
  simp only [keepsTables_iff] at h
  simp [State.onLeg, h]

@[simp] theorem State.stripped_dieTables (s : State) (k : Nat) : dieTables (s.stripped k).dies = dieTables s.dies := by
  simp [State.stripped]

theorem execClaimReceive_keepsTables (p pri uid src ttl : Nat) (s : State) :
    StepKeepsTables s (execClaimReceive p pri uid src ttl s) :=
  done_keepsTables (by simp)

@[simp] theorem State.assign_dieTables (s : State) (k : Nat) (r : JReq) : dieTables (s.assign k r).dies = dieTables s.dies := by
  simp [State.assign]

@[simp] theorem State.assignAll_dieTables (s : State) (k : Nat) : dieTables (s.assignAll k).dies = dieTables s.dies := by
  unfold State.assignAll
  extract_lets l t u free prev res rest
  have hu : dieTables u.dies = dieTables s.dies := by simp [u, t]
  have hres : dieTables res.1.dies = dieTables u.dies := foldl_fst_dieTables _ _ _ fun a r => by
    split <;> simp
  simp [hres, hu]

@[simp] theorem State.formCheck_dieTables (s : State) (k : Nat) : dieTables (s.formCheck k).dies = dieTables s.dies := by
  unfold State.formCheck
  split <;> simp

theorem execCountReceive_keepsTables (p pos ttl : Nat) (s : State) : StepKeepsTables s (execCountReceive p pos ttl s) :=
  done_keepsTables (by simp)

theorem execJoinReqReceive_keepsTables (p uid pos : Nat) (req : Option Nat) (pin : Bool) (ttl : Nat) (s : State) :
    StepKeepsTables s (execJoinReqReceive p uid pos req pin ttl s) :=
  done_keepsTables (by simp)

theorem execAssignReceive_keepsTables (p uid node ring : Nat) (refuse : Option Nat) (routes : Routes) (ttl : Nat) (s : State) :
    StepKeepsTables s (execAssignReceive p uid node ring refuse routes ttl s) := by
  refine done_keepsTables ?_
  dsimp only
  split
  · rfl
  · refine State.onLeg_dieTables _ _ _ _ fun s => ?_
    cases refuse <;> simp

/-! ## Transaction timeout floor (R346) -/

@[simp] theorem State.tmoRaise_dieTables (s : State) : dieTables (s.tmoRaise ).dies = dieTables s.dies := by simp [State.tmoRaise]

/-! ## The gap (R334, R335, R374) -/

@[simp] theorem State.takeMembers_dieTables (s : State) (k members : Nat) :
    dieTables (s.takeMembers k members).dies = dieTables s.dies := by
  simp [State.takeMembers]

theorem execGapSend_keepsTables (k : Nat) (s : State) : StepKeepsTables s (execGapSend k s) :=
  done_keepsTables (by simp)

theorem execGapReceive_keepsTables (p members collect window keeper ttl xseq : Nat) (s : State) :
    StepKeepsTables s (execGapReceive p members collect window keeper ttl xseq s) :=
  done_keepsTables (by simp)

theorem execGapWindowStart_keepsTables (k : Nat) (routes : Routes) (s : State) :
    StepKeepsTables s (execGapWindowStart k routes s) := by
  refine done_keepsTables ?_
  split <;> simp

theorem execGapLost_keepsTables (k : Nat) (s : State) : StepKeepsTables s (execGapLost k s) :=
  done_keepsTables (by simp)

/-! ## Joining and leaving (R341, R343) -/

@[simp] theorem State.joinStart_dieTables (s : State) (k : Nat) : dieTables (s.joinStart k).dies = dieTables s.dies := by
  simp [State.joinStart]

@[simp] theorem State.leaveStart_dieTables (s : State) (k : Nat) : dieTables (s.leaveStart k).dies = dieTables s.dies := by
  simp [State.leaveStart]

@[simp] theorem State.pairCtrl_dieTables (s : State) (k : Nat) (v : Word) : dieTables (s.pairCtrl k v).dies = dieTables s.dies := by
  simp [State.pairCtrl]

theorem execJoin_keepsTables (ini : Ini) (k : Nat) (s : State) : StepKeepsTables s (execJoin ini k s) :=
  done_keepsTables (by simp)

theorem execLeave_keepsTables (ini : Ini) (k : Nat) (s : State) : StepKeepsTables s (execLeave ini k s) :=
  done_keepsTables (by simp)

theorem execLeaveDrainDone_keepsTables (k : Nat) (s : State) : StepKeepsTables s (execLeaveDrainDone k s) :=
  done_keepsTables (by simp)

end Sys2Proof.Machine
end

section
/-! PROOFS. Hold, the Nursery, the FeRAM store, power and transactions keep the tables of a die (O7). -/
namespace Sys2Proof.Machine

@[simp] theorem State.dieReset_dieTables (s : State) (d : Nat) : dieTables (s.dieReset d).dies = dieTables s.dies := by
  simp [State.dieReset]

@[simp] theorem State.clearPages_dieTables (s : State) (d : Nat) : dieTables (s.clearPages d).dies = dieTables s.dies := by
  simp [State.clearPages]

@[simp] theorem State.dieHold_dieTables (s : State) (d : Nat) : dieTables (s.dieHold d).dies = dieTables s.dies := by
  simp [State.dieHold]

@[simp] theorem State.noLead_dieTables (s : State) : dieTables (s.noLead ).dies = dieTables s.dies := by simp [State.noLead]

/-! ## Row writes (R402, R403) -/

@[simp] theorem State.rowMove_dieTables (s : State) (d row : Nat) : dieTables (s.rowMove d row).dies = dieTables s.dies := by
  simp [State.rowMove]

@[simp] theorem State.rowWrite_dieTables (s : State) (d row fails : Nat) :
    dieTables (s.rowWrite d row fails).1.dies = dieTables s.dies := by
  unfold State.rowWrite
  extract_lets n t bad data u k v
  have ht : dieTables t.dies = dieTables s.dies := by simp [t]
  split
  · exact ht
  · split
    · simp [u, ht]
    · simp [v, ht]

@[simp] theorem State.rowsWrite_dieTables (s : State) (d o : Nat) (bytes : List Nat) :
    dieTables (s.rowsWrite d o bytes).1.dies = dieTables s.dies :=
  foldl_fst_dieTables _ _ _ fun a r => by simp

/-! ## The keep area (R393, R401, R419; log entry 31) -/

@[simp] theorem State.keepWrite_dieTables (s : State) (d o : Nat) (bytes : List Nat) :
    dieTables (s.keepWrite d o bytes).dies = dieTables s.dies := by
  simp [State.keepWrite]

/-! ## The mirror (R408) -/

@[simp] theorem State.repairCopy_dieTables (s : State) (c dst : Nat) : dieTables (s.repairCopy c dst).dies = dieTables s.dies := by
  simp [State.repairCopy]

@[simp] theorem State.mirrorRepair_dieTables (s : State) : dieTables (s.mirrorRepair ).dies = dieTables s.dies := by
  simp [State.mirrorRepair]

/-! ## Approval (R385) -/

@[simp] theorem State.approved_dieTables (s : State) (r : NReq) : dieTables (s.approved r).dies = dieTables s.dies := by
  unfold State.approved
  split <;> simp

@[simp] theorem State.declined_dieTables (s : State) (r : NReq) : dieTables (s.declined r).dies = dieTables s.dies := by
  unfold State.declined
  dsimp only
  split <;> simp

@[simp] theorem State.headCmd_dieTables (s : State) (v : Word) (g : State → NReq → State) (h : ∀ s r, KeepsTables s (g s r)) :
    dieTables (s.headCmd v g).dies = dieTables s.dies := by
  unfold State.headCmd
  split
  · simp
  · split
    · exact h ..
    · simp

/-! ## The other operations of CMD (R386 to R393) -/

@[simp] theorem State.roleBack_dieTables (s : State) (n : Nat) : dieTables (s.roleBack n).dies = dieTables s.dies := by
  simp [State.roleBack]

@[simp] theorem State.cmpBack_dieTables (s : State) (n c : Nat) : dieTables (s.cmpBack n c).dies = dieTables s.dies := by
  simp [State.cmpBack]

@[simp] theorem State.leadMove_dieTables (s : State) (d : Nat) : dieTables (s.leadMove d).dies = dieTables s.dies := by
  simp [State.leadMove]

@[simp] theorem State.failModl_dieTables (s : State) (d m : Nat) : dieTables (s.failModl d m).dies = dieTables s.dies := by
  simp [State.failModl]

@[simp] theorem State.wearBack_dieTables (s : State) (n sub : Nat) : dieTables (s.wearBack n sub).dies = dieTables s.dies := by
  unfold State.wearBack
  dsimp only
  split
  · simp
  · split <;> simp

@[simp] theorem State.nursCmd_dieTables (s : State) (v : Word) : dieTables (s.nursCmd v).dies = dieTables s.dies := by
  unfold State.nursCmd
  split <;> simp

@[simp] theorem State.nursOp_dieTables (s : State) (ini : Ini) (op : Nat) (v : Word) :
    dieTables (s.nursOp ini op v).dies = dieTables s.dies := by
  simp [State.nursOp]

theorem execApprove_keepsTables (ini : Ini) (v : Word) (s : State) : StepKeepsTables s (execApprove ini v s) :=
  done_keepsTables (by simp)

theorem execDecline_keepsTables (ini : Ini) (v : Word) (s : State) : StepKeepsTables s (execDecline ini v s) :=
  done_keepsTables (by simp)

theorem execRestoreRole_keepsTables (ini : Ini) (v : Word) (s : State) : StepKeepsTables s (execRestoreRole ini v s) :=
  done_keepsTables (by simp)

theorem execReadmitCmp_keepsTables (ini : Ini) (v : Word) (s : State) : StepKeepsTables s (execReadmitCmp ini v s) :=
  done_keepsTables (by simp)

theorem execMoveLead_keepsTables (ini : Ini) (v : Word) (s : State) : StepKeepsTables s (execMoveLead ini v s) :=
  done_keepsTables (by simp)

theorem execFailMod_keepsTables (ini : Ini) (v : Word) (s : State) : StepKeepsTables s (execFailMod ini v s) :=
  done_keepsTables (by simp)

theorem execResetWear_keepsTables (ini : Ini) (v : Word) (s : State) : StepKeepsTables s (execResetWear ini v s) :=
  done_keepsTables (by simp)

/-! ## The lead die (R392) -/

@[simp] theorem State.dieGone_dieTables (s : State) (d : Nat) : dieTables (s.dieGone d).dies = dieTables s.dies := by
  simp [State.dieGone]

@[simp] theorem State.dieLost_dieTables (s : State) (d : Nat) : dieTables (s.dieLost d).dies = dieTables s.dies := by
  simp [State.dieLost]

@[simp] theorem State.leadDrop_dieTables (s : State) : dieTables (s.leadDrop ).dies = dieTables s.dies := by simp [State.leadDrop]

/-! ## The switch of the reference (R26, R27, R389) -/

@[simp] theorem State.refTo_dieTables (s : State) (b : Bool) (cause : Nat) : dieTables (s.refTo b cause).dies = dieTables s.dies := by
  simp [State.refTo]

@[simp] theorem State.refFollow_dieTables (s : State) : dieTables (s.refFollow ).dies = dieTables s.dies := by
  simp [State.refFollow]

theorem execLeadHandoverDone_keepsTables (s : State) : StepKeepsTables s (execLeadHandoverDone s) := by
  refine done_keepsTables ?_
  dsimp only
  split <;> simp

/-! ## Charge pumps (R78, R390, R445) -/

theorem execPumpFailover_keepsTables (d : Nat) (s : State) : StepKeepsTables s (execPumpFailover d s) :=
  done_keepsTables (by simp)

theorem execPumpRestartDone_keepsTables (d : Nat) (s : State) : StepKeepsTables s (execPumpRestartDone d s) :=
  done_keepsTables (by simp)

theorem execSparePumpExercise_keepsTables (d : Nat) (fell : Bool) (s : State) :
    StepKeepsTables s (execSparePumpExercise d fell s) :=
  done_keepsTables (by simp)

/-! ## The wear counters in FeRAM (R393; log entry 31) -/

@[simp] theorem State.saveWear_dieTables (s : State) (d : Nat) : dieTables (s.saveWear d).dies = dieTables s.dies := by
  simp [State.saveWear]

/-- The restored wear counters list 38 modulators, whatever their number was. -/
theorem State.loadWear_dieTables (s : State) (d : Nat) (h : (s.die d).belv.mods.length = 38) :
    dieTables (s.loadWear d).dies = dieTables s.dies := by
  unfold State.loadWear
  extract_lets t
  have ht : t.dies = s.dies := by simp [t]
  rw [State.modBelv_dieTables, ht]
  rw [State.die_of_dies ht, h]
  simp

@[simp] theorem State.markWarned_dieTables (s : State) (n : Nat) : dieTables (s.markWarned n).dies = dieTables s.dies := by
  simp [State.markWarned]

theorem execWearSave_keepsTables (s : State) : StepKeepsTables s (execWearSave s) :=
  done_keepsTables (by simp)

/-! ## The log (R418 to R423) -/

@[simp] theorem State.recordWrite_dieTables (s : State) (d fails : Nat) (r : Rec) (rest : List Rec) :
    dieTables (s.recordWrite d fails r rest).dies = dieTables s.dies := by
  simp [State.recordWrite]

theorem execFeramRowWrite_keepsTables (d fails : Nat) (s : State) : StepKeepsTables s (execFeramRowWrite d fails s) := by
  refine done_keepsTables ?_
  split
  · rfl
  · split
    · simp
    · split <;> simp

theorem execCoalesceFlush_keepsTables (d : Nat) (s : State) : StepKeepsTables s (execCoalesceFlush d s) := by
  refine done_keepsTables ?_
  split <;> simp

@[simp] theorem State.recRead_dieTables (s : State) (ini : Ini) : dieTables (s.recRead ini).dies = dieTables s.dies := by
  simp [State.recRead]

theorem execLogRead_keepsTables (ini : Ini) (s : State) : StepKeepsTables s (execLogRead ini s) :=
  done_keepsTables (by simp)

@[simp] theorem State.logWipe_dieTables (s : State) (mask : Nat) : dieTables (s.logWipe mask).dies = dieTables s.dies := by
  simp [State.logWipe]

theorem execLogClear_keepsTables (ini : Ini) (mask : Nat) (s : State) : StepKeepsTables s (execLogClear ini mask s) :=
  done_keepsTables (by simp)

/-! ## Snapshots (R149, R424) -/

theorem execSnapshotSaved_keepsTables (d buf : Nat) (s : State) : StepKeepsTables s (execSnapshotSaved d buf s) := by
  refine done_keepsTables ?_
  split <;> simp

/-! ## CFG.CMD (R411 to R413, R426, R427) -/

@[simp] theorem State.saveEnd_dieTables (s : State) (op status records : Nat) :
    dieTables (s.saveEnd op status records).dies = dieTables s.dies := by
  simp [State.saveEnd]

@[simp] theorem State.cfgSave_dieTables (s : State) : dieTables (s.cfgSave ).dies = dieTables s.dies := by simp [State.cfgSave]

@[simp] theorem State.cfgOpen_dieTables (s : State) : dieTables (s.cfgOpen ).dies = dieTables s.dies := by simp [State.cfgOpen]

@[simp] theorem State.cfgCommit_dieTables (s : State) : dieTables (s.cfgCommit ).dies = dieTables s.dies := by
  simp [State.cfgCommit]

@[simp] theorem State.cfgAbort_dieTables (s : State) : dieTables (s.cfgAbort ).dies = dieTables s.dies := by simp [State.cfgAbort]

@[simp] theorem State.cfgCmd_dieTables (s : State) (v : Word) : dieTables (s.cfgCmd v).dies = dieTables s.dies := by
  simp [State.cfgCmd]

theorem execSave_keepsTables (ini : Ini) (s : State) : StepKeepsTables s (execSave ini s) :=
  done_keepsTables (by simp)

theorem execOpenStage_keepsTables (ini : Ini) (s : State) : StepKeepsTables s (execOpenStage ini s) :=
  done_keepsTables (by simp)

theorem execCommitStage_keepsTables (ini : Ini) (s : State) : StepKeepsTables s (execCommitStage ini s) :=
  done_keepsTables (by simp)

theorem execAbort_keepsTables (ini : Ini) (s : State) : StepKeepsTables s (execAbort ini s) :=
  done_keepsTables (by simp)

/-! ## The FERAM window (R404, R412) -/

@[simp] theorem State.windowWrite_dieTables (s : State) (a : Nat) (v : Word) :
    dieTables (s.windowWrite a v).dies = dieTables s.dies := by
  unfold State.windowWrite
  split <;> simp

@[simp] theorem State.winAccess_dieTables (s : State) (ini : Ini) (a : Nat) (act : State → State) (h : ∀ s, KeepsTables s (act s)) :
    dieTables (s.winAccess ini a act).dies = dieTables s.dies := by
  simp only [keepsTables_iff] at h
  simp [State.winAccess, h]

theorem execStageWindowWrite_keepsTables (ini : Ini) (a : Nat) (v : Word) (s : State) :
    StepKeepsTables s (execStageWindowWrite ini a v s) := by
  refine done_keepsTables ?_
  split <;> simp

/-! ## The end of a save (R411, R413) -/

@[simp] theorem State.copyBreak_dieTables (s : State) (d c : Nat) : dieTables (s.copyBreak d c).dies = dieTables s.dies := by
  simp [State.copyBreak]

@[simp] theorem State.saveCut_dieTables (s : State) : dieTables (s.saveCut ).dies = dieTables s.dies := by
  unfold State.saveCut
  split <;> simp

theorem execSaveDone_keepsTables (ok : Bool) (s : State) : StepKeepsTables s (execSaveDone ok s) := by
  refine done_keepsTables ?_
  split
  · rfl
  · extract_lets ds t w both
    have hw : dieTables w.1.dies = dieTables s.dies := foldl_fst_dieTables _ _ _ fun a d => by simp
    split
    · rfl
    · split
      · simp [t]
      · split <;> simp [hw]

/-! ## Supply loss (R430, R431) -/

theorem mget_default_or_mem {α : Type} (d : α) (m : List (Nat × α)) (k : Nat) : mget d m k = d ∨ ∃ e ∈ m, mget d m k = e.2 := by
  unfold mget
  split
  case h_1 e he => exact .inr ⟨e, List.mem_of_find?_eq_some he, rfl⟩
  case h_2 => exact .inl rfl

/-- Without supplies a die keeps its row map alone, beside the tables of a fresh die. -/
theorem State.powerOff_dieTablesOk (s : State) : s.powerOff.dieTablesOk := by
  intro d
  obtain h | ⟨e, he, h⟩ := mget_default_or_mem {} s.powerOff.dies d
  · rw [show s.powerOff.die d = {} from h]
    exact ⟨rfl, rfl⟩
  · obtain ⟨x, -, rfl⟩ := List.mem_map.mp (List.mem_of_mem_filter he)
    rw [show s.powerOff.die d = x.2.feramOnly from h]
    exact ⟨rfl, rfl⟩

theorem execSupplyLoss_dieTablesOk {s t : State} (hs : s.dieTablesOk) (h : execSupplyLoss s = .next t) : t.dieTablesOk := by
  refine done_dieTablesOk ?_ h
  split
  · exact hs
  · exact s.powerOff_dieTablesOk

theorem execPorDelayExpiry_keepsTables (s : State) : StepKeepsTables s (execPorDelayExpiry s) :=
  done_keepsTables (by simp)

/-! ## Warm reset (R434 to R437) -/

@[simp] theorem State.warmReset_dieTables (s : State) (cause : Nat) : dieTables (s.warmReset cause).dies = dieTables s.dies := by
  simp [State.warmReset]

theorem execResetNLow_keepsTables (s : State) : StepKeepsTables s (execResetNLow s) :=
  done_keepsTables (by simp)

theorem execResetNRise_keepsTables (s : State) : StepKeepsTables s (execResetNRise s) :=
  done_keepsTables (by simp)

@[simp] theorem State.resetCtrl_dieTables (s : State) (v : Word) : dieTables (s.resetCtrl v).dies = dieTables s.dies := by
  simp [State.resetCtrl]

theorem execSoftwareWarmReset_keepsTables (ini : Ini) (s : State) : StepKeepsTables s (execSoftwareWarmReset ini s) :=
  done_keepsTables (by simp)

/-! ## Die fault (R440, R441) -/

@[simp] theorem State.dieFault_dieTables (s : State) (d why : Nat) : dieTables (s.dieFault d why).dies = dieTables s.dies := by
  simp [State.dieFault]

theorem execWatchdogExpiry_keepsTables (d : Nat) (s : State) : StepKeepsTables s (execWatchdogExpiry d s) :=
  done_keepsTables (by simp)

theorem execTrellisSilence_keepsTables (d : Nat) (s : State) : StepKeepsTables s (execTrellisSilence d s) :=
  done_keepsTables (by simp)

/-! ## OFF_N (R136, R442) -/

@[simp] theorem State.offTrip_dieTables (s : State) (n : Nat) : dieTables (s.offTrip n).dies = dieTables s.dies := by
  simp [State.offTrip]

@[simp] theorem State.offAll_dieTables (s : State) : dieTables (s.offAll ).dies = dieTables s.dies := by simp [State.offAll]

theorem execOffNFall_keepsTables (s : State) : StepKeepsTables s (execOffNFall s) :=
  done_keepsTables (by simp)

theorem execOffNRise_keepsTables (s : State) : StepKeepsTables s (execOffNRise s) :=
  done_keepsTables (by simp)

/-! ## Thermal shutdown (R170, R171) -/

@[simp] theorem State.thermalStop_dieTables (s : State) (d sensors : Nat) :
    dieTables (s.thermalStop d sensors).dies = dieTables s.dies := by
  simp [State.thermalStop]

theorem execThermalShutdown_keepsTables (d sensors : Nat) (s : State) : StepKeepsTables s (execThermalShutdown d sensors s) :=
  done_keepsTables (by simp)

/-! ## Reference clocks (R26 to R28, R389, R452) -/

theorem execRefclkLoss_keepsTables (b : Bool) (s : State) : StepKeepsTables s (execRefclkLoss b s) :=
  done_keepsTables (by simp)

theorem execRefclkReturn_keepsTables (b : Bool) (s : State) : StepKeepsTables s (execRefclkReturn b s) :=
  done_keepsTables (by simp)

@[simp] theorem State.returnRefA_dieTables (s : State) : dieTables (s.returnRefA ).dies = dieTables s.dies := by
  simp [State.returnRefA]

theorem execReturnA_keepsTables (ini : Ini) (s : State) : StepKeepsTables s (execReturnA ini s) :=
  done_keepsTables (by simp)

/-! ## Issue (R344) -/

@[simp] theorem State.tagSend_dieTables (s : State) (t : Nat) : dieTables (s.tagSend t).dies = dieTables s.dies := by
  simp [State.tagSend]

@[simp] theorem State.issueWrite_dieTables (s : State) (v : Word) : dieTables (s.issueWrite v).dies = dieTables s.dies := by
  simp [State.issueWrite]

theorem execIssue_keepsTables (ini : Ini) (v : Word) (s : State) : StepKeepsTables s (execIssue ini v s) :=
  done_keepsTables (by simp)

/-! ## Completion (R345) -/

@[simp] theorem State.captureCpl_dieTables (s : State) (ini : Ini) (hi : Word) (data : List Word) :
    dieTables (s.captureCpl ini hi data).dies = dieTables s.dies := by
  simp [State.captureCpl]

@[simp] theorem State.cplPop_dieTables (s : State) (ini : Ini) : dieTables (s.cplPop ini).dies = dieTables s.dies := by
  unfold State.cplPop
  split <;> simp

theorem execCplPop_keepsTables (ini : Ini) (s : State) : StepKeepsTables s (execCplPop ini s) :=
  done_keepsTables (by simp)

/-! ## Timeout and re-send (R346, R347) -/

theorem execXactTimeout_keepsTables (t : Nat) (s : State) : StepKeepsTables s (execXactTimeout t s) :=
  done_keepsTables (by simp)

@[simp] theorem State.tmoWrite_dieTables (s : State) (v : Word) : dieTables (s.tmoWrite v).dies = dieTables s.dies := by
  simp [State.tmoWrite]

theorem execTmoCfgWrite_keepsTables (ini : Ini) (v : Word) (s : State) : StepKeepsTables s (execTmoCfgWrite ini v s) :=
  done_keepsTables (by simp)

theorem execBusyResend_keepsTables (t : Nat) (s : State) : StepKeepsTables s (execBusyResend t s) := by
  refine done_keepsTables ?_
  dsimp only
  split <;> simp

end Sys2Proof.Machine
end

section
/-! PROOFS. Register accesses, the host's frames and the returns keep the tables of a die (O7). -/
namespace Sys2Proof.Machine

/-! ## Fields (R14) -/

@[simp] theorem State.plainIf_dieTables (s : State) (p a : Nat) (r : Row) (v : Word) (check : Word → Bool) (act : State → State)
    (h : ∀ s, KeepsTables s (act s)) :
    dieTables (s.plainIf p a r v check act).dies = dieTables s.dies := by
  simp only [keepsTables_iff] at h
  simp [State.plainIf, h]

@[simp] theorem State.plain_dieTables (s : State) (p a : Nat) (r : Row) (v : Word) (act : State → State) (h : ∀ s, KeepsTables s
    (act s)) :
    dieTables (s.plain p a r v act).dies = dieTables s.dies := by
  simp only [keepsTables_iff] at h
  simp [State.plain, h]

/-! ## The page lock (R45) -/

@[simp] theorem State.lockWrite_dieTables (s : State) (ini : Ini) (l : Loc) (v : Word) (start : Nat) :
    dieTables (s.lockWrite ini l v start).dies = dieTables s.dies := by
  unfold State.lockWrite
  dsimp only
  split
  · rfl
  · split <;> simp

/-! ## PAGE_CTRL (R38, R39) -/

@[simp] theorem State.enableWrite_dieTables (s : State) (l : Loc) (on : Bool) :
    dieTables (s.enableWrite l on).dies = dieTables s.dies := by
  unfold State.enableWrite
  split <;> simp

@[simp] theorem State.softWrite_dieTables (s : State) (l : Loc) : dieTables (s.softWrite l).dies = dieTables s.dies := by
  unfold State.softWrite
  dsimp only
  split
  · simp
  · split <;> simp

@[simp] theorem State.relockWrite_dieTables (s : State) (l : Loc) : dieTables (s.relockWrite l).dies = dieTables s.dies := by
  simp [State.relockWrite]

@[simp] theorem State.ctrlWrite_dieTables (s : State) (l : Loc) (v : Word) : dieTables (s.ctrlWrite l v).dies = dieTables s.dies := by
  simp [State.ctrlWrite]

/-! ## EVT_STAT, EVT_FORCE and EVT_COUNT (R42 to R44) -/

@[simp] theorem State.evtClear_dieTables (s : State) (l : Loc) (mask hw : Word) :
    dieTables (s.evtClear l mask hw).dies = dieTables s.dies := by
  simp [State.evtClear]

@[simp] theorem State.evtForceWrite_dieTables (s : State) (l : Loc) (mask : Word) :
    dieTables (s.evtForceWrite l mask).dies = dieTables s.dies := by
  simp [State.evtForceWrite]

@[simp] theorem State.countWrite_dieTables (s : State) (l : Loc) (hw : Word) :
    dieTables (s.countWrite l hw).dies = dieTables s.dies := by
  simp [State.countWrite]

@[simp] theorem State.hdrWrite_dieTables (s : State) (l : Loc) (v : Word) : dieTables (s.hdrWrite l v).dies = dieTables s.dies := by
  unfold State.hdrWrite
  split <;> simp

/-! ## Registers with rules of their own -/

@[simp] theorem State.hwCfg_dieTables (s : State) (n : Nat) (v : Word) : dieTables (s.hwCfg n v).dies = dieTables s.dies := by
  simp [State.hwCfg]

@[simp] theorem State.thWrite_dieTables (s : State) (n a : Nat) (r : Row) (v : Word) (act : State → State)
    (h : ∀ s, KeepsTables s (act s)) :
    dieTables (s.thWrite n a r v act).dies = dieTables s.dies := by
  simp only [keepsTables_iff] at h
  simp [State.thWrite, h]

@[simp] theorem State.stagesSet_dieTables (s : State) (n : Nat) : dieTables (s.stagesSet n).dies = dieTables s.dies := by
  simp [State.stagesSet]

@[simp] theorem State.tauSet_dieTables (s : State) (n i : Nat) : dieTables (s.tauSet n i).dies = dieTables s.dies := by
  simp [State.tauSet]

@[simp] theorem State.writeSlot_dieTables (s : State) (n : Nat) (l : Loc) (r : Row) (v : Word) :
    dieTables (s.writeSlot n l r v).dies = dieTables s.dies := by
  unfold State.writeSlot
  dsimp only
  split
  · simp
  · split
    · simp
    · split <;> simp

@[simp] theorem State.takeWidth_dieTables (s : State) : dieTables (s.takeWidth ).dies = dieTables s.dies := by
  simp [State.takeWidth]

@[simp] theorem State.writeXact_dieTables (s : State) (l : Loc) (r : Row) (v : Word) :
    dieTables (s.writeXact l r v).dies = dieTables s.dies := by
  unfold State.writeXact
  split <;> simp

@[simp] theorem State.pairCfg_dieTables (s : State) (k : Nat) (r : Row) (v : Word) :
    dieTables (s.pairCfg k r v).dies = dieTables s.dies := by
  simp [State.pairCfg]

@[simp] theorem State.writeRing_dieTables (s : State) (k : Nat) (l : Loc) (r : Row) (v : Word) :
    dieTables (s.writeRing k l r v).dies = dieTables s.dies := by
  unfold State.writeRing
  split <;> simp

@[simp] theorem State.writeMer_dieTables (s : State) (l : Loc) (r : Row) (v : Word) (t1 : Nat) :
    dieTables (s.writeMer l r v t1).dies = dieTables s.dies := by
  unfold State.writeMer
  dsimp only
  split
  · simp
  · split <;> simp

@[simp] theorem State.rewarn_dieTables (s : State) : dieTables (s.rewarn ).dies = dieTables s.dies := by simp [State.rewarn]

@[simp] theorem State.writeNurs_dieTables (s : State) (l : Loc) (r : Row) (v : Word) :
    dieTables (s.writeNurs l r v).dies = dieTables s.dies := by
  unfold State.writeNurs
  split <;> simp

@[simp] theorem State.writeLog_dieTables (s : State) (l : Loc) (r : Row) (v : Word) :
    dieTables (s.writeLog l r v).dies = dieTables s.dies := by
  unfold State.writeLog
  split <;> simp

@[simp] theorem State.writeDie_dieTables (s : State) (d : Nat) (l : Loc) (r : Row) (v : Word) :
    dieTables (s.writeDie d l r v).dies = dieTables s.dies := by
  unfold State.writeDie
  split <;> simp

@[simp] theorem State.writeBelv_dieTables (s : State) (d : Nat) (l : Loc) (r : Row) (v : Word) :
    dieTables (s.writeBelv d l r v).dies = dieTables s.dies := by
  unfold State.writeBelv
  dsimp only
  split <;> simp

@[simp] theorem State.writeQueue_dieTables (s : State) (l : Loc) (r : Row) (v : Word) :
    dieTables (s.writeQueue l r v).dies = dieTables s.dies := by
  simp [State.writeQueue]

@[simp] theorem State.writeCont_dieTables (s : State) (d : Nat) (l : Loc) (r : Row) (v : Word) :
    dieTables (s.writeCont d l r v).dies = dieTables s.dies := by
  unfold State.writeCont
  dsimp only
  split
  · split <;> simp
  · split
    · simp
    · split <;> simp

@[simp] theorem State.regAct_dieTables (s : State) (l : Loc) (r : Row) (v : Word) (t1 : Nat) :
    dieTables (s.regAct l r v t1).dies = dieTables s.dies := by
  unfold State.regAct
  split
  · simp
  · split
    · rfl
    · split <;> simp

/-! ## Writes (R14, R33, R45 to R47) -/

@[simp] theorem State.regWrite_dieTables (s : State) (ini : Ini) (addr : Nat) (v : Word) (start t1 : Nat) :
    dieTables (s.regWrite ini addr v start t1).dies = dieTables s.dies := by
  unfold State.regWrite
  extract_lets a t
  have ht : dieTables t.dies = dieTables s.dies := by simp [t]
  split
  · rfl
  · split
    · simp
    · split
      · exact ht
      · split
        · exact ht
        · exact ht
        · simp [ht]
        · split
          · simp [ht]
          · split <;> simp [ht]

theorem execRegisterWrite_keepsTables (ini : Ini) (a : Nat) (v : Word) (late : Late) (s : State) :
    StepKeepsTables s (execRegisterWrite ini a v late s) :=
  done_keepsTables (by simp)

/-! ## Reads (R33, R49, R50) -/

@[simp] theorem State.rsWord_dieTables (s : State) (ini : Ini) (a p : Nat) : dieTables (s.rsWord ini a p).dies = dieTables s.dies := by
  simp [State.rsWord]

@[simp] theorem State.loWord_dieTables (s : State) (ini : Ini) (l : Loc) (cs : List Nat) :
    dieTables (s.loWord ini l cs).dies = dieTables s.dies := by
  simp [State.loWord]

@[simp] theorem State.rowRead_dieTables (s : State) (ini : Ini) (l : Loc) (r : Row) :
    dieTables (s.rowRead ini l r).dies = dieTables s.dies := by
  unfold State.rowRead
  split
  · simp
  · simp
  · split <;> simp
  · split
    · simp
    · split
      · simp
      · split <;> simp

@[simp] theorem State.regRead_dieTables (s : State) (ini : Ini) (addr : Nat) :
    dieTables (s.regRead ini addr).dies = dieTables s.dies := by
  refine State.readAt_dieTables _ _ _ _ fun s => ?_
  split
  · simp
  · split
    · simp
    · simp
    · simp
    · split <;> simp

theorem execShadowLoRead_keepsTables (ini : Ini) (a : Nat) (s : State) : StepKeepsTables s (execShadowLoRead ini a s) :=
  done_keepsTables (by simp)

theorem execRsRead_keepsTables (ini : Ini) (a : Nat) (s : State) : StepKeepsTables s (execRsRead ini a s) :=
  done_keepsTables (by simp)

/-! ## Values wider than 32 bits (R51): TOD_SEC of the MER page -/

theorem execWideLoWrite_keepsTables (ini : Ini) (a : Nat) (v : Word) (s : State) : StepKeepsTables s (execWideLoWrite ini a v s) :=
  done_keepsTables (by simp)

theorem execWideHiWrite_keepsTables (ini : Ini) (a : Nat) (v : Word) (s : State) : StepKeepsTables s (execWideHiWrite ini a v s) :=
  done_keepsTables (by simp)

/-! ## The page commands -/

@[simp] theorem State.onPage_dieTables (s : State) (ini : Ini) (p o : Nat) (act : Loc → State → State) (h : ∀ l s, KeepsTables s
    (act l s)) :
    dieTables (s.onPage ini p o act).dies = dieTables s.dies := by
  simp only [keepsTables_iff] at h
  unfold State.onPage
  split <;> simp [h]

theorem execPageLockWrite_keepsTables (ini : Ini) (p : Nat) (v : Word) (start : Nat) (s : State) :
    StepKeepsTables s (execPageLockWrite ini p v start s) := by
  refine done_keepsTables ?_
  split <;> simp

theorem execAutoRelock_keepsTables (p : Nat) (s : State) : StepKeepsTables s (execAutoRelock p s) :=
  done_keepsTables (by simp)

theorem execRelock_keepsTables (ini : Ini) (p : Nat) (s : State) : StepKeepsTables s (execRelock ini p s) :=
  done_keepsTables (by simp)

theorem execSoftReset_keepsTables (ini : Ini) (p : Nat) (s : State) : StepKeepsTables s (execSoftReset ini p s) :=
  done_keepsTables (by simp)

theorem execSoftResetDone_keepsTables (p : Nat) (s : State) : StepKeepsTables s (execSoftResetDone p s) :=
  done_keepsTables (by simp)

theorem execEvtStatClear_keepsTables (ini : Ini) (p : Nat) (mask hw : Word) (s : State) :
    StepKeepsTables s (execEvtStatClear ini p mask hw s) :=
  done_keepsTables (by simp)

theorem execEvtForce_keepsTables (ini : Ini) (p : Nat) (mask : Word) (s : State) : StepKeepsTables s (execEvtForce ini p mask s) :=
  done_keepsTables (by simp)

theorem execEvtCountWrite_keepsTables (ini : Ini) (p : Nat) (hw : Word) (s : State) :
    StepKeepsTables s (execEvtCountWrite ini p hw s) :=
  done_keepsTables (by simp)

/-! ## Requests of the ring (R347 to R349) -/

@[simp] theorem State.readWords_dieTables (s : State) (ini : Ini) (as : List Nat) :
    dieTables (s.readWords ini as).dies = dieTables s.dies := by
  simp [State.readWords]

@[simp] theorem State.serveRead_dieTables (s : State) (f : Frame) : dieTables (s.serveRead f).dies = dieTables s.dies := by
  simp [State.serveRead]

@[simp] theorem State.serveWrite_dieTables (s : State) (f : Frame) (start : Nat) :
    dieTables (s.serveWrite f start).dies = dieTables s.dies := by
  unfold State.serveWrite
  extract_lets ini answer ws r
  have ha (u : State) (st : Nat) : dieTables (answer u st).dies = dieTables u.dies := by
    simp only [answer]
    split <;> simp
  have hr : dieTables r.1.dies = dieTables s.dies := foldl_fst_dieTables _ _ _ fun m w => by simp
  split <;> simp [ha, hr]

@[simp] theorem State.serveHead_dieTables (s : State) : dieTables (s.serveHead ).dies = dieTables s.dies := by
  unfold State.serveHead
  split
  · rfl
  · extract_lets t id u
    split
    · simp [t]
    · split <;> simp [u, t]

theorem execRequestServe_keepsTables (late : Late) (s : State) : StepKeepsTables s (execRequestServe late s) :=
  done_keepsTables (by simp)

/-! ## QSPI frames (R459 to R461) -/

@[simp] theorem State.frameIn_dieTables (s : State) (mode3 : Bool) (act : State → State) (h : ∀ s, KeepsTables s (act s)) :
    dieTables (s.frameIn mode3 act).dies = dieTables s.dies := by
  simp only [keepsTables_iff] at h
  simp [State.frameIn, h]

@[simp] theorem State.frameWrite_dieTables (s : State) (addr : Nat) (ws : List Word) (start : Nat) :
    dieTables (s.frameWrite addr ws start).dies = dieTables s.dies := by
  simp [State.frameWrite]

@[simp] theorem State.frameRead_dieTables (s : State) (addr n : Nat) : dieTables (s.frameRead addr n).dies = dieTables s.dies := by
  simp [State.frameRead]

theorem execWrite_keepsTables (mode3 : Bool) (addr : Nat) (ws : List Word) (late : Late) (s : State) :
    StepKeepsTables s (execWrite mode3 addr ws late s) :=
  done_keepsTables (by simp)

theorem execRead_keepsTables (mode3 : Bool) (addr n : Nat) (late : Late) (s : State) :
    StepKeepsTables s (execRead mode3 addr n late s) :=
  done_keepsTables (by simp)

theorem execWidthReset_keepsTables (mode3 : Bool) (s : State) : StepKeepsTables s (execWidthReset mode3 s) :=
  done_keepsTables (by simp)

theorem execCmdErr_keepsTables (mode3 : Bool) (s : State) : StepKeepsTables s (execCmdErr mode3 s) :=
  done_keepsTables (by simp)

theorem execFrameErr_keepsTables (mode3 wr : Bool) (addr : Nat) (ws : List Word) (late : Late) (s : State) :
    StepKeepsTables s (execFrameErr mode3 wr addr ws late s) :=
  done_keepsTables (by simp)

/-! ## The test port (R465 to R467) -/

theorem execRegaccess_keepsTables (wr : Bool) (addr : Nat) (v : Word) (late : Late) (s : State) :
    StepKeepsTables s (execRegaccess wr addr v late s) :=
  done_keepsTables (by simp)

@[simp] theorem State.holdStart_dieTables (s : State) : dieTables (s.holdStart ).dies = dieTables s.dies := by
  simp [State.holdStart]

theorem execTestInstructionLoad_keepsTables (c : Nat) (s : State) : StepKeepsTables s (execTestInstructionLoad c s) :=
  done_keepsTables (by simp)

/-! ## Applying the records of an image (R409) -/

@[simp] theorem State.countApplied_dieTables (s : State) (n : Nat) : dieTables (s.countApplied n).dies = dieTables s.dies := by
  simp [State.countApplied]

@[simp] theorem State.countSkipped_dieTables (s : State) : dieTables (s.countSkipped ).dies = dieTables s.dies := by
  simp [State.countSkipped]

@[simp] theorem State.recCtrl_dieTables (s : State) (l : Loc) (v : Word) (warm : Bool) :
    dieTables (s.recCtrl l v warm).dies = dieTables s.dies := by
  unfold State.recCtrl
  dsimp only
  split <;> simp

@[simp] theorem State.recApply_dieTables (s : State) (a : Nat) (v : Word) (warm : Bool) :
    dieTables (s.recApply a v warm).1.dies = dieTables s.dies := by
  unfold State.recApply
  split
  · rfl
  · split
    · simp
    · split <;> simp

@[simp] theorem State.recLoad_dieTables (s : State) (warm : Bool) (r : ImgRec) :
    dieTables (s.recLoad warm r).dies = dieTables s.dies := by
  unfold State.recLoad
  split
  · simp
  · extract_lets go t
    have hgo : dieTables go.1.dies = dieTables s.dies := foldl_fst_dieTables _ _ _ fun m a => by simp
    simp [t, hgo]

@[simp] theorem State.levelsLoad_dieTables (s : State) (rs : List ImgRec) : dieTables (s.levelsLoad rs).dies = dieTables s.dies := by
  simp [State.levelsLoad]

@[simp] theorem State.banksLoad_dieTables (s : State) : dieTables (s.banksLoad ).dies = dieTables s.dies := by
  simp [State.banksLoad]

@[simp] theorem State.configLoad_dieTables (s : State) (warm : Bool) : dieTables (s.configLoad warm).dies = dieTables s.dies := by
  simp [State.configLoad]

@[simp] theorem State.loadRecord_dieTables (s : State) : dieTables (s.loadRecord ).dies = dieTables s.dies := by
  simp [State.loadRecord]

/-! ## What starts on entry to RUN -/

@[simp] theorem State.gratFirst_dieTables (s : State) (d : Nat) (t : Option (List Nat)) :
    dieTables (s.gratFirst d t).dies = dieTables s.dies := by
  cases t <;> simp [State.gratFirst]

@[simp] theorem State.survStart_dieTables (s : State) (d : Nat) : dieTables (s.survStart d).dies = dieTables s.dies := by
  simp [State.survStart]

@[simp] theorem State.framesStart_dieTables (s : State) : dieTables (s.framesStart ).dies = dieTables s.dies := by
  simp [State.framesStart]

@[simp] theorem State.autoJoin_dieTables (s : State) (ks : List Nat) : dieTables (s.autoJoin ks).dies = dieTables s.dies := by
  simp [State.autoJoin]

/-! ## BOOT (R432, R433) -/

theorem State.feramStart_dieTablesOk (s : State) (d : Nat) (h : s.dieTablesOk) : (s.feramStart d).dieTablesOk := by
  unfold State.feramStart
  extract_lets p old t
  have ht : t.dieTablesOk := State.dieTablesOk_of_eq (by simp [t]) h
  split
  · exact h
  · exact State.dieTablesOk_of_eq (t.loadWear_dieTables d (ht d).2) ht

@[simp] theorem State.slotsStart_dieTables (s : State) (strap : Bool) : dieTables (s.slotsStart strap).dies = dieTables s.dies := by
  simp [State.slotsStart]

theorem State.boot_dieTablesOk (s : State) (dies : Nat) (refA refB strap : Bool) (grat : List (List Nat)) (h : s.dieTablesOk) :
    (s.boot dies refA refB strap grat).dieTablesOk := by
  unfold State.boot
  extract_lets t u v ds w a b c e f g k
  have hv : v.dieTablesOk := State.dieTablesOk_of_eq (by simp [v, u, t]) h
  have hw : w.dieTablesOk := State.each_dieTablesOk (fun d s => s.feramStart_dieTablesOk d) ds hv
  clear_value w
  refine State.dieTablesOk_of_eq ?_ hw
  simp [k, g, f, e, c, b, a]

theorem execBootComplete_dieTablesOk {dies : Nat} {refA refB strap : Bool} {grat : List (List Nat)} {s t : State} (hs : s.dieTablesOk)
    (h : execBootComplete dies refA refB strap grat s = .next t) : t.dieTablesOk := by
  refine done_dieTablesOk ?_ h
  split
  · exact s.boot_dieTablesOk _ _ _ _ _ hs
  · exact hs

theorem execBootRetry_keepsTables (dies : Nat) (refA refB : Bool) (s : State) :
    StepKeepsTables s (execBootRetry dies refA refB s) :=
  done_keepsTables (by simp)

/-! ## Re-adoption (R438) -/

@[simp] theorem State.adoptSample_dieTables (s : State) (n : Nat) (a : AdoptIn) :
    dieTables (s.adoptSample n a).dies = dieTables s.dies := by
  simp [State.adoptSample]

@[simp] theorem State.adoptBus_dieTables (s : State) (d : Nat) (a : AdoptIn) : dieTables (s.adoptBus d a).dies = dieTables s.dies := by
  simp [State.adoptBus]

@[simp] theorem State.keptTripTime_dieTables (s : State) (n : Nat) : dieTables (s.keptTripTime n).dies = dieTables s.dies := by
  simp [State.keptTripTime]

@[simp] theorem State.adoptLatched_dieTables (s : State) (n : Nat) : dieTables (s.adoptLatched n).dies = dieTables s.dies := by
  simp [State.adoptLatched]

@[simp] theorem State.adoptOff_dieTables (s : State) (n : Nat) : dieTables (s.adoptOff n).dies = dieTables s.dies := by
  simp [State.adoptOff]

@[simp] theorem State.adoptUv_dieTables (s : State) (n : Nat) : dieTables (s.adoptUv n).dies = dieTables s.dies := by
  simp [State.adoptUv]

@[simp] theorem State.adoptRow_dieTables (s : State) (n : Nat) (a : Option AdoptIn) :
    dieTables (s.adoptRow n a).dies = dieTables s.dies := by
  unfold State.adoptRow
  dsimp only
  split
  · simp
  · split
    · simp
    · cases a <;> simp
    · rfl

@[simp] theorem State.readopt_dieTables (s : State) (n : Nat) (ad : List AdoptIn) :
    dieTables (s.readopt n ad).dies = dieTables s.dies := by
  unfold State.readopt
  dsimp only
  cases ad.find? (fun a => a.slot == n) <;> simp

@[simp] theorem State.adoptDie_dieTables (s : State) (d : Nat) (ad : List AdoptIn) :
    dieTables (s.adoptDie d ad).dies = dieTables s.dies := by
  unfold State.adoptDie
  cases ad.find? (fun a => dieOf a.slot == d) <;> simp

@[simp] theorem State.riseReload_dieTables (s : State) (d : Nat) : dieTables (s.riseReload d).dies = dieTables s.dies := by
  simp [State.riseReload]

@[simp] theorem State.ctxMaps_dieTables (s : State) (d : Nat) : dieTables (s.ctxMaps d).dies = dieTables s.dies := by
  simp [State.ctxMaps]

@[simp] theorem State.dieStart_dieTables (s : State) (d : Nat) : dieTables (s.dieStart d).dies = dieTables s.dies := by
  simp [State.dieStart]

@[simp] theorem State.scanPending_dieTables (s : State) (d : Nat) : dieTables (s.scanPending d).dies = dieTables s.dies := by
  simp [State.scanPending]

/-! ## The return from a warm reset (R436, R439) -/

@[simp] theorem State.regsReload_dieTables (s : State) : dieTables (s.regsReload ).dies = dieTables s.dies := by
  simp [State.regsReload]

@[simp] theorem State.requestsAgain_dieTables (s : State) (d : Nat) : dieTables (s.requestsAgain d).dies = dieTables s.dies := by
  simp [State.requestsAgain]

@[simp] theorem State.warmBack_dieTables (s : State) (grat : List (List Nat)) (ad : List AdoptIn) :
    dieTables (s.warmBack grat ad).dies = dieTables s.dies := by
  simp [State.warmBack]

theorem execWarmReturn_keepsTables (grat : List (List Nat)) (ad : List AdoptIn) (s : State) :
    StepKeepsTables s (execWarmReturn grat ad s) :=
  done_keepsTables (by simp)

/-! ## The return of a die (R172, R440, R441) -/

@[simp] theorem State.dieBack_dieTables (s : State) (d : Nat) : dieTables (s.dieBack d).dies = dieTables s.dies := by
  simp [State.dieBack]

@[simp] theorem State.leadBack_dieTables (s : State) (d : Nat) (led : Bool) (ad : List AdoptIn) :
    dieTables (s.leadBack d led ad).dies = dieTables s.dies := by
  simp [State.leadBack]

@[simp] theorem State.frameTableClear_dieTables (s : State) (d : Nat) : dieTables (s.frameTableClear d).dies = dieTables s.dies := by
  simp [State.frameTableClear]

@[simp] theorem State.rejoined_dieTables (s : State) (d : Nat) (ad : List AdoptIn) :
    dieTables (s.rejoined d ad).dies = dieTables s.dies := by
  simp [State.rejoined]

@[simp] theorem State.rejoinedWarm_dieTables (s : State) (d : Nat) : dieTables (s.rejoinedWarm d).dies = dieTables s.dies := by
  simp [State.rejoinedWarm]

theorem execDieRejoinAttempt_keepsTables (d : Nat) (ok : Bool) (ad : List AdoptIn) (s : State) :
    StepKeepsTables s (execDieRejoinAttempt d ok ad s) :=
  done_keepsTables (by simp)

@[simp] theorem State.thermSlots_dieTables (s : State) (d : Nat) : dieTables (s.thermSlots d).dies = dieTables s.dies := by
  simp [State.thermSlots]

@[simp] theorem State.thermBack_dieTables (s : State) (d : Nat) (grat : List Nat) :
    dieTables (s.thermBack d grat).dies = dieTables s.dies := by
  simp [State.thermBack]

theorem execThermalRestart_keepsTables (d : Nat) (grat : List Nat) (s : State) : StepKeepsTables s (execThermalRestart d grat s) :=
  done_keepsTables (by simp)

end Sys2Proof.Machine
end

section
/-! PROOFS. Every step keeps the tables of every die (O7). -/
namespace Sys2Proof.Machine

/-- The commands that make the dies anew: the loss of the supplies, and BOOT, which restores the wear counters (R393, R430). -/
def remakesDies : Instr → Bool
  | .supplyLoss | .bootComplete .. => true
  | _ => false

/-- Every other command keeps the sizes of the tables, whatever they are. -/
theorem exec_keepsTables (c : Instr) (s : State) (h : remakesDies c = false) : StepKeepsTables s (exec c s) := by
  cases c with
  | supplyLoss => cases h
  | bootComplete => cases h
  | porDelayExpiry => exact execPorDelayExpiry_keepsTables s
  | bootRetry dies refA refB => exact execBootRetry_keepsTables dies refA refB s
  | resetNLow => exact execResetNLow_keepsTables s
  | softwareWarmReset ini => exact execSoftwareWarmReset_keepsTables ini s
  | watchdogExpiry d => exact execWatchdogExpiry_keepsTables d s
  | warmReturn grat ad => exact execWarmReturn_keepsTables grat ad s
  | trellisSilence d => exact execTrellisSilence_keepsTables d s
  | dieRejoinAttempt d ok ad => exact execDieRejoinAttempt_keepsTables d ok ad s
  | offNFall => exact execOffNFall_keepsTables s
  | offNRise => exact execOffNRise_keepsTables s
  | thermalShutdown d sensors => exact execThermalShutdown_keepsTables d sensors s
  | thermalRestart d grat => exact execThermalRestart_keepsTables d grat s
  | refclkLoss b => exact execRefclkLoss_keepsTables b s
  | refclkReturn b => exact execRefclkReturn_keepsTables b s
  | returnA ini => exact execReturnA_keepsTables ini s
  | registerWrite ini addr v late => exact execRegisterWrite_keepsTables ini addr v late s
  | pageLockWrite ini page v start => exact execPageLockWrite_keepsTables ini page v start s
  | autoRelock page => exact execAutoRelock_keepsTables page s
  | relock ini page => exact execRelock_keepsTables ini page s
  | softReset ini page => exact execSoftReset_keepsTables ini page s
  | softResetDone page => exact execSoftResetDone_keepsTables page s
  | evtStatClear ini page mask hw => exact execEvtStatClear_keepsTables ini page mask hw s
  | evtForce ini page mask => exact execEvtForce_keepsTables ini page mask s
  | evtCountWrite ini page hw => exact execEvtCountWrite_keepsTables ini page hw s
  | shadowLoRead ini addr => exact execShadowLoRead_keepsTables ini addr s
  | rsRead ini addr => exact execRsRead_keepsTables ini addr s
  | wideLoWrite ini addr v => exact execWideLoWrite_keepsTables ini addr v s
  | wideHiWrite ini addr v => exact execWideHiWrite_keepsTables ini addr v s
  | pumpFailover d => exact execPumpFailover_keepsTables d s
  | pumpRestartDone d => exact execPumpRestartDone_keepsTables d s
  | sparePumpExercise d fell => exact execSparePumpExercise_keepsTables d fell s
  | rawOutputRise slot copy => exact execRawOutputRise_keepsTables slot copy s
  | rawOutputFall slot copy lone => exact execRawOutputFall_keepsTables slot copy lone s
  | fastTrip slot copies => exact execFastTrip_keepsTables slot copies s
  | instantTrip slot copies => exact execInstantTrip_keepsTables slot copies s
  | tripCauseSettle slot => exact execTripCauseSettle_keepsTables slot s
  | limitEnter slot => exact execLimitEnter_keepsTables slot s
  | faultTimerReset slot => exact execFaultTimerReset_keepsTables slot s
  | limitTimerExpiry slot => exact execLimitTimerExpiry_keepsTables slot s
  | reverseBlock slot => exact execReverseBlock_keepsTables slot s
  | reverseBlockClear slot => exact execReverseBlockClear_keepsTables slot s
  | pulldownRelease slot gateB => exact execPulldownRelease_keepsTables slot gateB s
  | slotEnable ini slot => exact execSlotEnable_keepsTables ini slot s
  | slotDisable ini slot => exact execSlotDisable_keepsTables ini slot s
  | stop ini slot => exact execStop_keepsTables ini slot s
  | stopNow ini slot => exact execStopNow_keepsTables ini slot s
  | go ini slot => exact execGo_keepsTables ini slot s
  | trip ini slot => exact execTrip_keepsTables ini slot s
  | clear ini slot => exact execClear_keepsTables ini slot s
  | resetCount ini slot => exact execResetCount_keepsTables ini slot s
  | ewarnLeadExpiry slot => exact execEwarnLeadExpiry_keepsTables slot s
  | cardSeated slot edge => exact execCardSeated_keepsTables slot edge s
  | cardRemoval slot edge => exact execCardRemoval_keepsTables slot edge s
  | precheck1Pass slot => exact execPrecheck1Pass_keepsTables slot s
  | shortVerdict slot => exact execShortVerdict_keepsTables slot s
  | precheck2Pass slot => exact execPrecheck2Pass_keepsTables slot s
  | passElementAShort slot => exact execPassElementAShort_keepsTables slot s
  | spareGateTimeout slot => exact execSpareGateTimeout_keepsTables slot s
  | spareEnhDone slot => exact execSpareEnhDone_keepsTables slot s
  | chargingStart slot => exact execChargingStart_keepsTables slot s
  | learningWindowEnd slot => exact execLearningWindowEnd_keepsTables slot s
  | insertionPause slot => exact execInsertionPause_keepsTables slot s
  | insertTimeout slot => exact execInsertTimeout_keepsTables slot s
  | handoverTimeout slot => exact execHandoverTimeout_keepsTables slot s
  | insertionDone slot => exact execInsertionDone_keepsTables slot s
  | pgRelease slot => exact execPgRelease_keepsTables slot s
  | ewarnBusEnd d => exact execEwarnBusEnd_keepsTables d s
  | controlSample r => exact execControlSample_keepsTables r s
  | tocCfgWrite ini slot v => exact execTocCfgWrite_keepsTables ini slot v s
  | tocPtWrite ini slot k v => exact execTocPtWrite_keepsTables ini slot k v s
  | stuckCurrentVerdict slot => exact execStuckCurrentVerdict_keepsTables slot s
  | tripDwellEnd slot => exact execTripDwellEnd_keepsTables slot s
  | cooldownExpiry slot => exact execCooldownExpiry_keepsTables slot s
  | stableTimeExpiry slot => exact execStableTimeExpiry_keepsTables slot s
  | rememberExpiry slot => exact execRememberExpiry_keepsTables slot s
  | snapshotComplete d buf => exact execSnapshotComplete_keepsTables d buf s
  | snapshotSaved d buf => exact execSnapshotSaved_keepsTables d buf s
  | thermalModelUpdate d => exact execThermalModelUpdate_keepsTables d s
  | tfetStale slot => exact execTfetStale_keepsTables slot s
  | gratReadmit ini d mask => exact execGratReadmit_keepsTables ini d mask s
  | surveyStepEnd d r => exact execSurveyStepEnd_keepsTables d r s
  | surveyScanEnd d arbA arbB => exact execSurveyScanEnd_keepsTables d arbA arbB s
  | restrainReceive m => exact execRestrainReceive_keepsTables m s
  | clearedReceive m => exact execClearedReceive_keepsTables m s
  | lockoutReceive m => exact execLockoutReceive_keepsTables m s
  | releaseReceive m => exact execReleaseReceive_keepsTables m s
  | upstreamOpenReceive m => exact execUpstreamOpenReceive_keepsTables m s
  | messageCopyRepeat slot => exact execMessageCopyRepeat_keepsTables slot s
  | waitExpiry slot => exact execWaitExpiry_keepsTables slot s
  | holdExpiry slot => exact execHoldExpiry_keepsTables slot s
  | entryStale slot srcAddr srcSlot => exact execEntryStale_keepsTables slot srcAddr srcSlot s
  | terrDisable ini => exact execTerrDisable_keepsTables ini s
  | frameBoundary rs => exact execFrameBoundary_keepsTables rs s
  | trigPulse low width => exact execTrigPulse_keepsTables low width s
  | softwareTrigger ini => exact execSoftwareTrigger_keepsTables ini s
  | triggerDelayEnd src => exact execTriggerDelayEnd_keepsTables src s
  | openWireStart ini d v => exact execOpenWireStart_keepsTables ini d v s
  | openWireDone d => exact execOpenWireDone_keepsTables d s
  | queuePop ini => exact execQueuePop_keepsTables ini s
  | queuePeek ini => exact execQueuePeek_keepsTables ini s
  | streamFlushTimeout => exact execStreamFlushTimeout_keepsTables s
  | streamReceive src seq entries => exact execStreamReceive_keepsTables src seq entries s
  | energyClear ini slot => exact execEnergyClear_keepsTables ini slot s
  | fullCalibration ini d => exact execFullCalibration_keepsTables ini d s
  | fullCalibrationDone d pairs => exact execFullCalibrationDone_keepsTables d pairs s
  | rollOnce ini d => exact execRollOnce_keepsTables ini d s
  | rollingStepStart d => exact execRollingStepStart_keepsTables d s
  | rollingParallelEnd d => exact execRollingParallelEnd_keepsTables d s
  | selfCalDone d zs fs => exact execSelfCalDone_keepsTables d zs fs s
  | loopPeriod d errs => exact execLoopPeriod_keepsTables d errs s
  | dacWrite d ctx => exact execDacWrite_keepsTables d ctx s
  | fbLost slot => exact execFbLost_keepsTables slot s
  | commit ini d ctx errs => exact execCommit_keepsTables ini d ctx errs s
  | clrCnt ini d ctx => exact execClrCnt_keepsTables ini d ctx s
  | clrMax ini d => exact execClrMax_keepsTables ini d s
  | parityScan d errs => exact execParityScan_keepsTables d errs s
  | laneRequestDone d => exact execLaneRequestDone_keepsTables d s
  | testArm ini d => exact execTestArm_keepsTables ini d s
  | testStop ini d => exact execTestStop_keepsTables ini d s
  | testDelayEnd d => exact execTestDelayEnd_keepsTables d s
  | testEnd d => exact execTestEnd_keepsTables d s
  | capArm ini d => exact execCapArm_keepsTables ini d s
  | capForce ini d => exact execCapForce_keepsTables ini d s
  | capAbort ini d => exact execCapAbort_keepsTables ini d s
  | capDone d => exact execCapDone_keepsTables d s
  | linkAlign p => exact execLinkAlign_keepsTables p s
  | linkUp p routes => exact execLinkUp_keepsTables p routes s
  | linkRelock p routes => exact execLinkRelock_keepsTables p routes s
  | linkFailed p cause routes => exact execLinkFailed_keepsTables p cause routes s
  | linkRetry p => exact execLinkRetry_keepsTables p s
  | normalFrameReceive p rx routes => exact execNormalFrameReceive_keepsTables p rx routes s
  | urgentFrameReceive p rx => exact execUrgentFrameReceive_keepsTables p rx s
  | ackReceive p rx => exact execAckReceive_keepsTables p rx s
  | nakReceive p rx => exact execNakReceive_keepsTables p rx s
  | resyncReceive p rx => exact execResyncReceive_keepsTables p rx s
  | replayTimeout p => exact execReplayTimeout_keepsTables p s
  | claimReceive p pri uid src ttl => exact execClaimReceive_keepsTables p pri uid src ttl s
  | countReceive p pos ttl => exact execCountReceive_keepsTables p pos ttl s
  | joinReqReceive p uid pos req pin ttl => exact execJoinReqReceive_keepsTables p uid pos req pin ttl s
  | assignReceive p uid node ring refuse routes ttl => exact execAssignReceive_keepsTables p uid node ring refuse routes ttl s
  | gapSend pair => exact execGapSend_keepsTables pair s
  | gapReceive p members collect window keeper ttl xseq => exact execGapReceive_keepsTables p members collect window keeper ttl xseq s
  | gapWindowStart pair routes => exact execGapWindowStart_keepsTables pair routes s
  | gapLost pair => exact execGapLost_keepsTables pair s
  | join ini pair => exact execJoin_keepsTables ini pair s
  | leave ini pair => exact execLeave_keepsTables ini pair s
  | leaveDrainDone pair => exact execLeaveDrainDone_keepsTables pair s
  | issue ini v => exact execIssue_keepsTables ini v s
  | cplPop ini => exact execCplPop_keepsTables ini s
  | xactTimeout tag => exact execXactTimeout_keepsTables tag s
  | tmoCfgWrite ini v => exact execTmoCfgWrite_keepsTables ini v s
  | requestServe late => exact execRequestServe_keepsTables late s
  | busyResend tag => exact execBusyResend_keepsTables tag s
  | ppsInEdge falling c => exact execPpsInEdge_keepsTables falling c s
  | ppsInLost => exact execPpsInLost_keepsTables s
  | todCommit ini v => exact execTodCommit_keepsTables ini v s
  | timeProbeSend p t1 => exact execTimeProbeSend_keepsTables p t1 s
  | probeReceive p t1 t2 t3 steps state quality ok => exact execProbeReceive_keepsTables p t1 t2 t3 steps state quality ok s
  | echoReceive p t1 t2 t3 t4 steps state quality ok routes =>
    exact execEchoReceive_keepsTables p t1 t2 t3 t4 steps state quality ok routes s
  | tappedProbe p t1 t2 steps state quality ok => exact execTappedProbe_keepsTables p t1 t2 steps state quality ok s
  | timeSourceLost => exact execTimeSourceLost_keepsTables s
  | arm ini => exact execArm_keepsTables ini s
  | disarm ini => exact execDisarm_keepsTables ini s
  | reacquire ini => exact execReacquire_keepsTables ini s
  | train ini => exact execTrain_keepsTables ini s
  | tmrCfgWrite ini n v => exact execTmrCfgWrite_keepsTables ini n v s
  | timerFire n => exact execTimerFire_keepsTables n s
  | ppsOutPulse => exact execPpsOutPulse_keepsTables s
  | hostProbe ini v t1 => exact execHostProbe_keepsTables ini v t1 s
  | hostProbeReceive p t2 id src ok => exact execHostProbeReceive_keepsTables p t2 id src ok s
  | txsPop ini => exact execTxsPop_keepsTables ini s
  | approve ini v => exact execApprove_keepsTables ini v s
  | decline ini v => exact execDecline_keepsTables ini v s
  | restoreRole ini v => exact execRestoreRole_keepsTables ini v s
  | readmitCmp ini v => exact execReadmitCmp_keepsTables ini v s
  | moveLead ini v => exact execMoveLead_keepsTables ini v s
  | failMod ini v => exact execFailMod_keepsTables ini v s
  | resetWear ini v => exact execResetWear_keepsTables ini v s
  | modSwapParallelEnd d ok diff => exact execModSwapParallelEnd_keepsTables d ok diff s
  | leadHandoverDone => exact execLeadHandoverDone_keepsTables s
  | wearSave => exact execWearSave_keepsTables s
  | save ini => exact execSave_keepsTables ini s
  | openStage ini => exact execOpenStage_keepsTables ini s
  | stageWindowWrite ini addr v => exact execStageWindowWrite_keepsTables ini addr v s
  | commitStage ini => exact execCommitStage_keepsTables ini s
  | abort ini => exact execAbort_keepsTables ini s
  | saveDone ok => exact execSaveDone_keepsTables ok s
  | feramRowWrite d fails => exact execFeramRowWrite_keepsTables d fails s
  | coalesceFlush d => exact execCoalesceFlush_keepsTables d s
  | logRead ini => exact execLogRead_keepsTables ini s
  | logClear ini mask => exact execLogClear_keepsTables ini mask s
  | modeRequest ini v => exact execModeRequest_keepsTables ini v s
  | write mode3 addr ws late => exact execWrite_keepsTables mode3 addr ws late s
  | read mode3 addr n late => exact execRead_keepsTables mode3 addr n late s
  | widthReset mode3 => exact execWidthReset_keepsTables mode3 s
  | cmdErr mode3 => exact execCmdErr_keepsTables mode3 s
  | frameErr mode3 wr addr ws late => exact execFrameErr_keepsTables mode3 wr addr ws late s
  | regaccess wr addr v late => exact execRegaccess_keepsTables wr addr v late s
  | testInstructionLoad code => exact execTestInstructionLoad_keepsTables code s
  | limitRelease slot => exact execLimitRelease_keepsTables slot s
  | gateBelow1v slot gateB left10 => exact execGateBelow1v_keepsTables slot gateB left10 s
  | resetNRise => exact execResetNRise_keepsTables s

theorem exec_dieTablesOk {c : Instr} {s t : State} (hs : s.dieTablesOk) (h : exec c s = .next t) : t.dieTablesOk := by
  by_cases hc : remakesDies c = false
  · exact State.dieTablesOk_of_eq (exec_keepsTables c s hc t h) hs
  · unfold remakesDies at hc
    split at hc
    · exact execSupplyLoss_dieTablesOk hs h
    · exact execBootComplete_dieTablesOk hs h
    · exact absurd rfl hc

/-- A CORE cycle of idling acts through the TIMED trips of the cycle and what the ports held back (R128, R334). -/
theorem State.cycleEnd_dieTables (s : State) : dieTables s.cycleEnd.dies = dieTables s.dies := by
  unfold State.cycleEnd
  extract_lets t u v
  have hu : dieTables u.dies = dieTables s.dies := by simp [u, t]
  simp [v, hu]

/-- Settles O7: a step runs a command on the state without it, or idles for one cycle; either keeps the tables. -/
theorem stepKeepsDieTables : Obligations.StepKeepsDieTables := by
  intro s t hs h
  unfold step at h
  split at h
  case h_1 c r _ => exact exec_dieTablesOk (s := { s with pending := r }) hs h
  case h_2 =>
    cases h
    exact State.dieTablesOk_of_eq s.cycleEnd_dieTables hs

end Sys2Proof.Machine
end

section
/-! PROOFS. What the operations of a frame leave as they were: the time, the frames, the FeRAM and, but for the meters, the slots. -/
namespace Sys2Proof.Machine

/-! ## The work mode -/

@[simp] theorem State.flushAll_frame (s : State) :
    s.flushAll.now = s.now ∧ s.flushAll.frames = s.frames ∧ s.flushAll.feram = s.feram ∧ s.flushAll.slots = s.slots := by
  simp [State.flushAll]

@[simp] theorem State.loadDeglitch_frame (s : State) (n v : Nat) :
    (s.loadDeglitch n v).now = s.now ∧ (s.loadDeglitch n v).frames = s.frames ∧ (s.loadDeglitch n v).feram = s.feram := by
  simp only [State.loadDeglitch]
  split
  · simp
  · simp

@[simp] theorem State.loadPreset_frame (s : State) (m : Nat) (skip : Nat → Bool) :
    (s.loadPreset m skip).now = s.now ∧ (s.loadPreset m skip).frames = s.frames ∧ (s.loadPreset m skip).feram = s.feram := by
  simp [State.loadPreset]

@[simp] theorem State.applyMode_frame (s : State) :
    s.applyMode.now = s.now ∧ s.applyMode.frames = s.frames ∧ s.applyMode.feram = s.feram := by
  unfold State.applyMode
  split
  · simp
  · simp

/-! ## The stream and the results -/

@[simp] theorem State.streamPull_frame (fuel : Nat) (s : State) :
    (s.streamPull fuel).now = s.now ∧ (s.streamPull fuel).frames = s.frames ∧ (s.streamPull fuel).feram = s.feram ∧
      (s.streamPull fuel).slots = s.slots := by
  induction fuel generalizing s with
  | zero => simp [State.streamPull]
  | succ fuel ih =>
    unfold State.streamPull
    extract_lets dest
    split
    · simp
    · split
      · simp
      · simp [ih]

@[simp] theorem State.streamRun_frame (s : State) :
    s.streamRun.now = s.now ∧ s.streamRun.frames = s.frames ∧ s.streamRun.feram = s.feram ∧ s.streamRun.slots = s.slots :=
  s.streamPull_frame s.qDies

@[simp] theorem State.flagRegs_frame (s : State) (d k : Nat) (f : RFlags) :
    (s.flagRegs d k f).now = s.now ∧ (s.flagRegs d k f).frames = s.frames ∧ (s.flagRegs d k f).feram = s.feram := by
  simp [State.flagRegs]

@[simp] theorem State.meterCh_frame (s : State) (d i : Nat) (volt : Bool) (x : Samp) (deliver : Bool) :
    (s.meterCh d i volt x deliver).now = s.now ∧ (s.meterCh d i volt x deliver).frames = s.frames ∧
      (s.meterCh d i volt x deliver).feram = s.feram := by
  simp [State.meterCh]

@[simp] theorem State.meterBus_frame (s : State) (d : Nat) (x : Samp) (deliver : Bool) :
    (s.meterBus d x deliver).now = s.now ∧ (s.meterBus d x deliver).frames = s.frames ∧ (s.meterBus d x deliver).feram = s.feram := by
  simp [State.meterBus]

@[simp] theorem State.meterPower_frame (s : State) (n : Nat) :
    (s.meterPower n).now = s.now ∧ (s.meterPower n).frames = s.frames ∧ (s.meterPower n).feram = s.feram := by
  simp [State.meterPower]

@[simp] theorem State.dieResults_frame (s : State) (r : DieSamp) (deliver : Bool) :
    (s.dieResults r deliver).now = s.now ∧ (s.dieResults r deliver).frames = s.frames ∧ (s.dieResults r deliver).feram = s.feram := by
  simp only [State.dieResults]
  split
  · simp
  · simp

/-! ## What a die takes up at a boundary -/

@[simp] theorem State.ftWrite_frame (s : State) (num src osr : Nat) (sel reph trim : Bool) :
    (s.ftWrite num src osr sel reph trim).now = s.now ∧ (s.ftWrite num src osr sel reph trim).frames = s.frames ∧
      (s.ftWrite num src osr sel reph trim).feram = s.feram ∧ (s.ftWrite num src osr sel reph trim).slots = s.slots := by
  simp [State.ftWrite]

@[simp] theorem State.ftMark_frame (s : State) (g : Word → Word) :
    (s.ftMark g).now = s.now ∧ (s.ftMark g).frames = s.frames ∧ (s.ftMark g).feram = s.feram ∧ (s.ftMark g).slots = s.slots ∧
      (s.ftMark g).dies = s.dies := by
  simp [State.ftMark]

@[simp] theorem State.adoptAll_frame (s : State) (d : Nat) :
    (s.adoptAll d).now = s.now ∧ (s.adoptAll d).frames = s.frames ∧ (s.adoptAll d).feram = s.feram ∧ (s.adoptAll d).slots = s.slots := by
  simp [State.adoptAll]

@[simp] theorem State.takeOver_frame (s : State) (d idx m sp : Nat) (diff : Int) :
    (s.takeOver d idx m sp diff).now = s.now ∧ (s.takeOver d idx m sp diff).frames = s.frames ∧
      (s.takeOver d idx m sp diff).feram = s.feram ∧ (s.takeOver d idx m sp diff).slots = s.slots := by
  simp [State.takeOver]

@[simp] theorem State.handOver_frame (s : State) (d : Nat) (survey : Bool) :
    (s.handOver d survey).now = s.now ∧ (s.handOver d survey).frames = s.frames ∧ (s.handOver d survey).feram = s.feram ∧
      (s.handOver d survey).slots = s.slots := by
  unfold State.handOver
  extract_lets t
  have ht : t.now = s.now ∧ t.frames = s.frames ∧ t.feram = s.feram ∧ t.slots = s.slots := by
    simp only [t]
    split
    · simp
    · simp
  split
  · simp [ht]
  · exact ht

@[simp] theorem State.refSwitch_frame (s : State) (d : Nat) :
    (s.refSwitch d).now = s.now ∧ (s.refSwitch d).frames = s.frames ∧ (s.refSwitch d).feram = s.feram ∧ (s.refSwitch d).slots = s.slots := by
  simp only [State.refSwitch]
  split
  · simp
  · simp

@[simp] theorem State.nextSwap_frame (s : State) (d : Nat) :
    (s.nextSwap d).now = s.now ∧ (s.nextSwap d).frames = s.frames ∧ (s.nextSwap d).feram = s.feram ∧ (s.nextSwap d).slots = s.slots := by
  simp only [State.nextSwap]
  split
  · simp
  · simp

@[simp] theorem State.openFrame_frame (s : State) (d : Nat) :
    (s.openFrame d).now = s.now ∧ (s.openFrame d).frames = s.frames ∧ (s.openFrame d).feram = s.feram ∧ (s.openFrame d).slots = s.slots := by
  simp only [State.openFrame]
  split
  · simp
  · simp

@[simp] theorem State.dieBoundary_frame (s : State) (d : Nat) :
    (s.dieBoundary d).now = s.now ∧ (s.dieBoundary d).frames = s.frames ∧ (s.dieBoundary d).feram = s.feram ∧
      (s.dieBoundary d).slots = s.slots := by
  simp [State.dieBoundary]

end Sys2Proof.Machine
end

section
/-! PROOFS. The survey and the open-wire test (O36). -/
namespace Sys2Proof.Machine

/-! ## What a record leaves of the Belvedere of a die -/

/-- The Belvedere of every die of a map. -/
def belvs (m : List (Nat × Die)) (e : Nat) : Belv := (mget {} m e).belv

theorem State.belv_of_belvs {s t : State} (h : belvs t.dies = belvs s.dies) (e : Nat) : (t.die e).belv = (s.die e).belv := congrFun h e

@[simp] theorem belvs_ite (c : Prop) [Decidable c] (a b : List (Nat × Die)) : belvs (if c then a else b) = if c then belvs a else belvs b :=
  apply_ite _ _ _ _

@[simp] theorem State.modDie_belvs (s : State) (d : Nat) (g : Die → Die) (h : (g (s.die d)).belv = (s.die d).belv) :
    belvs (s.modDie d g).dies = belvs s.dies := by
  funext e
  simp only [belvs, State.modDie, State.setDie_dies, mget_mset]
  split
  case isTrue he => rw [h, he]; rfl
  case isFalse => rfl

@[simp] theorem State.each_belvs {α : Type} (s : State) (l : List α) (g : α → State → State)
    (h : ∀ x s, belvs (g x s).dies = belvs s.dies) : belvs (s.each l g).dies = belvs s.dies := by
  induction l generalizing s with
  | nil => rfl
  | cons x l ih => exact (ih (g x s)).trans (h x s)

@[simp] theorem State.logPut_belvs (s : State) (d : Nat) (r : Rec) : belvs (s.logPut d r).dies = belvs s.dies := by
  simp [State.logPut]

@[simp] theorem State.logFlush_belvs (s : State) (d : Nat) : belvs (s.logFlush d).dies = belvs s.dies := by
  unfold State.logFlush
  split
  · rfl
  · simp

@[simp] theorem State.log_belvs (s : State) (d block inst code : Nat) (data : List Nat) :
    belvs (s.log d block inst code data).dies = belvs s.dies := by
  simp only [State.log, State.logAdd]
  split
  · split
    · simp
    · simp
  · simp

/-! ## A step of the survey (R226 to R228) -/

@[simp] theorem State.refCheck_frame (s : State) (d arbA arbB : Nat) :
    (s.refCheck d arbA arbB).now = s.now ∧ (s.refCheck d arbA arbB).frames = s.frames ∧ (s.refCheck d arbA arbB).feram = s.feram ∧
      (s.refCheck d arbA arbB).slots = s.slots := by
  unfold State.refCheck
  extract_lets b p diff bad n t fin dA dB u sus
  have ht : t.now = s.now ∧ t.frames = s.frames ∧ t.feram = s.feram ∧ t.slots = s.slots := by simp [t]
  have hu : u.now = s.now ∧ u.frames = s.frames ∧ u.feram = s.feram ∧ u.slots = s.slots := by simp [u, ht]
  clear_value t u sus
  split
  · exact ht
  · split
    · simpa using hu
    · simpa using hu

/-- The result of a thermistor writes its books in its slot. -/
theorem State.tfetResult_slot (s : State) (n code : Nat) (flagged : Bool) (m : Nat) :
    ∃ f, (s.tfetResult n code flagged).slot m = { s.slot m with tfet := f } := by
  unfold State.tfetResult
  extract_lets t u v
  obtain ⟨f, hf⟩ := State.thEdges_slot [n] m v
  refine ⟨f, hf.trans ?_⟩
  by_cases hm : m = n
  · subst hm
    simp only [v, State.slot_modSlot_self]
    rfl
  · rw [State.slot_modSlot_ne _ _ hm]
    rfl

@[simp] theorem State.tfetResult_frame (s : State) (n code : Nat) (flagged : Bool) :
    (s.tfetResult n code flagged).now = s.now ∧ (s.tfetResult n code flagged).frames = s.frames ∧
      (s.tfetResult n code flagged).feram = s.feram := by
  simp [State.tfetResult]

@[simp] theorem State.survFeed_frame (s : State) (d ch code : Nat) (ovr isOpen : Bool) :
    (s.survFeed d ch code ovr isOpen).now = s.now ∧ (s.survFeed d ch code ovr isOpen).frames = s.frames ∧
      (s.survFeed d ch code ovr isOpen).feram = s.feram := by
  simp [State.survFeed]

/-- What a survey channel feeds writes, of a slot, the books of its thermistor. -/
theorem State.survFeed_slot (s : State) (d ch code : Nat) (ovr isOpen : Bool) (m : Nat) :
    ∃ f, (s.survFeed d ch code ovr isOpen).slot m = { s.slot m with tfet := f } := by
  unfold State.survFeed
  split
  · exact s.tfetResult_slot _ _ _ m
  · refine ⟨(s.slot m).tfet, State.slot_of_slots ?_ m⟩
    simp

/-- The channel that the survey goes to stands in the die, with the time of its start. -/
theorem State.survStep_belv (s : State) (d ch : Nat) :
    ((s.survStep d ch).die d).belv.survCh = ch ∧ ((s.survStep d ch).die d).belv.survAt = s.now ∧
      ((s.survStep d ch).die d).belv.survEff = (s.die d).belv.survEff := by
  unfold State.survStep
  extract_lets a
  unfold State.modBelv
  rw [State.die_modDie_self]
  exact ⟨rfl, rfl, rfl⟩

/-- The outcome of a command that ends with a step of the survey. -/
theorem done_survStep {s u : State} (d ch : Nat) (hnow : u.now = s.now) (hferam : u.feram = s.feram) :
    ∃ t, done s (u.survStep d ch) = .next t ∧ (t.die d).belv.survCh = ch ∧ (t.die d).belv.survAt = s.now ∧
      (t.die d).belv.survEff = (u.die d).belv.survEff ∧ t.slots = u.slots ∧ t.feram = s.feram := by
  obtain ⟨hslots, hdies, -, hfer, -⟩ := done_fields (done_next s (u.survStep d ch))
  obtain ⟨hch, hat, heff⟩ := u.survStep_belv d ch
  have hd := State.die_of_dies hdies d
  refine ⟨_, done_next _ _, by rw [hd, hch], by rw [hd, hat, hnow], by rw [hd, heff], hslots.trans (by simp), hfer.trans (by simp [hferam])⟩

/-- A step that belongs to no thermistor test ends with the step to the next channel, from a state that differs from the one before in no
gate and in the state of no slot. -/
theorem execSurveyStepEnd_steps (d : Nat) (x : Samp) (s : State) (hruns : s.runs d = true) (hch : (s.die d).belv.survCh < 32)
    (hfull : (s.die d).belv.fullAt = none) (hat : (s.die d).belv.survAt + 51600 ≤ s.now) (hwait : s.boundaryWaits = false)
    (hopen : (s.die d).belv.openRun.filter (fun r => r.tStep != 0) = none) :
    ∃ u : State, exec (.surveyStepEnd d x) s = done s (u.survStep d (nextCh (s.die d).belv.survEff ((s.die d).belv.survCh + 1))) ∧
      u.now = s.now ∧ u.feram = s.feram ∧ ∀ n, ∃ f, u.slot n = { s.slot n with tfet := f } := by
  have hgo : ¬ (!s.runs d || decide (32 ≤ (s.die d).belv.survCh) || (s.die d).belv.fullAt.isSome ||
      !decide ((s.die d).belv.survAt + 51600 ≤ s.now)) = true := by
    simp [hruns, hch, hfull, hat]
  show ∃ u : State, execSurveyStepEnd d x s = _ ∧ _
  unfold execSurveyStepEnd
  extract_lets b ch c isOpen f s1 s2 s3
  have h2 : s2.now = s.now ∧ s2.feram = s.feram ∧ s2.slots = s.slots := by simp [s2, s1]
  obtain ⟨hnow, hferam, hslots⟩ := h2
  have h3 : s3.now = s.now ∧ s3.feram = s.feram := by simp [s3, hnow, hferam]
  refine ⟨s3, ?_, h3.1, h3.2, fun n => ?_⟩
  · rw [if_neg hgo, hwait, if_neg Bool.false_ne_true, hopen]
  · obtain ⟨tf, htf⟩ := s2.survFeed_slot d ch c.1 c.2 isOpen n
    rw [State.slot_of_slots hslots n] at htf
    exact ⟨tf, (State.slot_of_slots (by simp [s3]) n).trans htf⟩

/-- The end of a scan ends with the step to the first channel of the next one. -/
theorem execSurveyScanEnd_steps (d a b : Nat) (s : State) (hruns : s.runs d = true) (hch : (s.die d).belv.survCh = 32) :
    ∃ (u : State) (m : Nat), exec (.surveyScanEnd d a b) s = done s (u.survStep d (nextCh m 0)) ∧ (u.die d).belv.survEff = m ∧
      u.now = s.now ∧ u.feram = s.feram ∧ u.slots = s.slots := by
  have hgo : ¬ (!s.runs d || (s.die d).belv.survCh != 32) = true := by simp [hruns, hch]
  show ∃ (u : State) (m : Nat), execSurveyScanEnd d a b s = _ ∧ _
  unfold execSurveyScanEnd
  extract_lets s1 s2 m
  refine ⟨s2.modBelv d (fun x => { x with survEff := m }), m, ?_, ?_, ?_⟩
  · rw [if_neg hgo]
  · rw [State.modBelv, State.die_modDie_self]
  · simp [s2, s1]

/-! ## The start and the end of an open-wire test (R232 to R236) -/

/-- CURRENT of OPEN_CTRL reads what a write of the three fields put there. -/
theorem fld_openCtrl (v : Word) (h : fld v 5 4 ≤ 2) : fld (mkWord [(16, fld v 31 16), (4, fld v 5 4), (0, fld v 2 0)]) 5 4 = fld v 5 4 := by
  have hlow : fld v 2 0 < 8 := Nat.mod_lt _ (by decide)
  have hhigh : fld v 31 16 < 65536 := Nat.mod_lt _ (by decide)
  generalize fld v 5 4 = c at *
  generalize fld v 2 0 = l at *
  generalize fld v 31 16 = g at *
  simp only [mkWord, fld, List.foldl_cons, List.foldl_nil, BitVec.toNat_ofNat]
  omega

/-- The test that a start puts on a die begins now, before its first test frame. -/
theorem State.openStart_run (s : State) (d slots pins current : Nat) (auto : Bool) :
    ∃ r, ((s.openStart d slots pins current auto).die d).belv.openRun = some r ∧ r.auto = auto ∧ r.frame = 0 ∧ r.at_ = s.now ∧
      r.current = current ∧ ((s.openStart d slots pins current auto).die d).belv.openReq = (s.die d).belv.openReq := by
  unfold State.openStart
  extract_lets pick skip r
  have hd := (s.modBelv d (fun b => { b with openRun := some r })).setReg_dies (belvB d + 0x138) (BitVec.ofNat 32 r.skip)
  rw [State.die_of_dies hd, State.modBelv, State.die_modDie_self]
  exact ⟨r, rfl, rfl, rfl, rfl, rfl, rfl⟩

/-- START on a die without a test starts one, with the current of the same write. -/
theorem State.openWrite_starts (s : State) (d : Nat) (v : Word) (hrun : (s.die d).belv.openRun = none) (hstart : bit v 8 = true)
    (hcur : fld v 5 4 ≤ 2) :
    ∃ w : State, s.openWrite d v = w.openStart d (fld v 31 16) (fld v 2 0) (fld v 5 4) false ∧ w.now = s.now ∧ w.feram = s.feram ∧
      w.slots = s.slots := by
  let w := s.setReg (belvB d + 0x130) (mkWord [(16, fld v 31 16), (4, fld v 5 4), (0, fld v 2 0)])
  have hread : w.rf (belvB d + 0x130) 5 4 = fld v 5 4 := by
    rw [State.rf, State.reg_setReg_self, fld_openCtrl v hcur]
  refine ⟨w, ?_, rfl, rfl, rfl⟩
  rw [← hread]
  simp [State.openWrite, hrun, hstart, hcur, w]

/-- START while a requested test runs is rejected. -/
theorem State.openWrite_rejects (s : State) (d : Nat) (v : Word) {r : OpenRun} (hrun : (s.die d).belv.openRun = some r)
    (hreq : r.auto = false) (hstart : bit v 8 = true) : s.openWrite d v = s.reject (pageNo (belvB d)) := by
  simp [State.openWrite, hrun, hstart, hreq]

/-- A verdict writes registers, events and the log: no test, no time and no FeRAM. -/
@[simp] theorem State.openVerdict_frame (s : State) (d : Nat) (r : OpenRun) (m : OpenVal) :
    (s.openVerdict d r m).now = s.now ∧ (s.openVerdict d r m).feram = s.feram ∧ belvs (s.openVerdict d r m).dies = belvs s.dies := by
  unfold State.openVerdict
  extract_lets i pin c th reg b
  split
  · simp
  · split
    · simp
    · extract_lets diff mag size isOpen t
      split
      · simp [t]
      · simp [t]

theorem State.thEdges_keeps_bit (s : State) (l : List Nat) {p b : Nat} (h : s.evtBit p b = true) : (s.thEdges l).evtBit p b = true := by
  refine State.each_keeps_bit p b _ (fun n u hu => ?_) l s h
  extract_lets v a x bits u'
  have hu' : u'.evtBit p b = true := hu
  split
  · exact hu'
  · exact State.evtBit_evts_kept _ _ _ hu'

/-- The state in which a test of a die has ended, before the request that waits begins. -/
def State.openOver (s : State) (d : Nat) (r : OpenRun) : State :=
  ((s.each r.src (fun m s => s.openVerdict d r m)).modBelv d (fun b => { b with openRun := none, openReq := none })).evtBelv d [5]

theorem State.openOver_frame (s : State) (d : Nat) (r : OpenRun) : (s.openOver d r).now = s.now ∧ (s.openOver d r).feram = s.feram := by
  simp [State.openOver]

theorem State.openOver_belv (s : State) (d : Nat) (r : OpenRun) :
    ((s.openOver d r).die d).belv.openRun = none ∧ ((s.openOver d r).die d).belv.openReq = none := by
  have hd (u : State) : (u.evtBelv d [5]).die d = u.die d := State.die_of_dies (by simp) d
  unfold State.openOver
  rw [hd, State.modBelv, State.die_modDie_self]
  exact ⟨rfl, rfl⟩

theorem State.openOver_evt (s : State) (d : Nat) (r : OpenRun) : (s.openOver d r).evtBit (pageNo (belvB d)) 5 = true :=
  State.evtBit_evt _ _ 5 (by decide)

/-- A test that has ended leaves the die to the request that waits for it. -/
theorem execOpenWireDone_ends (d : Nat) (r : OpenRun) (s : State) (hrun : (s.die d).belv.openRun = some r) (hruns : s.runs d = true)
    (hend : s.openEnded d r = true) :
    exec (.openWireDone d) s = done s ((match (s.die d).belv.openReq with
      | some q => (s.openOver d r).openStart d q.sense q.vout q.current false
      | none => s.openOver d r).thEdges (slotsOf d)) := by
  have hreq : ((s.each r.src (fun m s => s.openVerdict d r m)).die d).belv.openReq = (s.die d).belv.openReq := by
    rw [State.belv_of_belvs (t := s.each r.src _) (s := s) (by simp)]
  show execOpenWireDone d s = _
  unfold execOpenWireDone
  rw [hrun]
  dsimp only
  rw [hreq, if_neg (by simp [hruns, hend])]
  rfl

/-- The outcome of the edges of the thermistors that end a command. -/
theorem done_thEdges {s u : State} (d : Nat) (l : List Nat) {p b : Nat} (hferam : u.feram = s.feram) (hb : u.evtBit p b = true) :
    ∃ t, done s (u.thEdges l) = .next t ∧ t.die d = u.die d ∧ t.evtBit p b = true ∧ t.feram = s.feram := by
  obtain ⟨-, hdies, -, hfer, -⟩ := done_fields (done_next s (u.thEdges l))
  exact ⟨_, done_next _ _, State.die_of_dies (hdies.trans (by simp)) d, done_keeps_bit (done_next _ _) p b (u.thEdges_keeps_bit l hb),
    hfer.trans (by simp [hferam])⟩

/-- Settles O36: a step and a scan end in `State.survStep` (`done_survStep`), a write of START in `State.openStart` or in a reject, and a test
that ends leaves the die to the request that waits. That a step which meets the end of a frame is put off is the model's choice (log entry 12). -/
theorem surveyAndOpenWire : Obligations.SurveyAndOpenWire := by
  unfold Obligations.SurveyAndOpenWire
  refine ⟨fun d x s hruns hch hfull hat => ⟨fun hwait hrun => ?_, fun hwait => ?_⟩, fun d a b s hruns hch => ?_,
    fun ini d v s htake => ⟨fun hrun hstart hcur => ?_, fun r hrun hreq hstart => ?_⟩,
    fun d r s hrun hruns hend => ⟨fun hreq => ?_, fun q hreq => ?_⟩⟩
  case refine_1 =>
    have hopen : (s.die d).belv.openRun.filter (fun r => r.tStep != 0) = none := by
      cases h : (s.die d).belv.openRun with
      | none => rfl
      | some r => simp [Option.filter, hrun r h]
    obtain ⟨u, hexec, hnow, hferam, hslot⟩ := execSurveyStepEnd_steps d x s hruns hch hfull hat hwait hopen
    obtain ⟨t, ht, hsurv, hstart, -, hslots, hfer⟩ := done_survStep d _ hnow hferam
    refine ⟨t, hexec.trans ht, hsurv, hstart, hfer, fun n => ?_⟩
    obtain ⟨f, hf⟩ := hslot n
    rw [GatesKept, State.slot_of_slots hslots n, hf]
    exact ⟨rfl, rfl, rfl⟩
  case refine_2 =>
    have hexec : exec (.surveyStepEnd d x) s = done s (s.putOff (.surveyStepEnd d x)) := by
      show execSurveyStepEnd d x s = _
      simp [execSurveyStepEnd, hruns, Nat.not_le.2 hch, hfull, hat, hwait]
    rw [hexec]
    exact done_quiet s _ (by simp) (by simp) (by simp)
  case refine_3 =>
    obtain ⟨u, m, hexec, heff, hnow, hferam, hslots⟩ := execSurveyScanEnd_steps d a b s hruns hch
    obtain ⟨t, ht, hsurv, hstart, hefft, htslots, hfer⟩ := done_survStep d _ hnow hferam
    exact ⟨t, hexec.trans ht, by rw [hsurv, hefft, heff], hstart, htslots.trans hslots, hfer⟩
  case refine_4 =>
    obtain ⟨pg, hw⟩ := s.write_taken ini (belvB d + 0x130) false (fun s => s.openWrite d v) htake (.inl rfl)
    obtain ⟨w, hopen, hnow, hferam, hslots⟩ := State.openWrite_starts { s with pages := pg } d v hrun hstart hcur
    obtain ⟨r, hr, hauto, hframe, hat, hcurrent, -⟩ := w.openStart_run d (fld v 31 16) (fld v 2 0) (fld v 5 4) false
    obtain ⟨tslots, tdies, -, tferam, -⟩ := done_fields (done_next s (w.openStart d (fld v 31 16) (fld v 2 0) (fld v 5 4) false))
    refine ⟨_, r, (congrArg (done s) (hw.trans hopen)).trans (done_next _ _), ?_, hauto, hframe, hat.trans hnow, hcurrent, ?_, ?_⟩
    · rw [State.die_of_dies tdies, hr]
    · exact tslots.trans ((w.openStart_frame ..).2.2.2.2.1.trans hslots)
    · exact tferam.trans (by simpa using hferam)
  case refine_5 =>
    obtain ⟨pg, hw⟩ := s.write_taken ini (belvB d + 0x130) false (fun s => s.openWrite d v) htake (.inl rfl)
    have hrej := State.openWrite_rejects { s with pages := pg } d v hrun hreq hstart
    have hexec : exec (.openWireStart ini d v) s = done s ({ s with pages := pg }.reject (pageNo (belvB d))) := congrArg (done s) (hw.trans hrej)
    rw [hexec]
    exact done_reject s pg _
  case refine_6 =>
    obtain ⟨t, ht, hdie, hbit, hferam⟩ := done_thEdges d (slotsOf d) (s.openOver_frame d r).2 (s.openOver_evt d r)
    refine ⟨t, ?_, by rw [hdie, (s.openOver_belv d r).1], hbit, hferam⟩
    rw [execOpenWireDone_ends d r s hrun hruns hend, hreq, ht]
  case refine_7 =>
    let u := s.openOver d r
    let w := u.openStart d q.sense q.vout q.current false
    obtain ⟨r', hr, -, -, hat, hcurrent, hreq'⟩ := u.openStart_run d q.sense q.vout q.current false
    have hferam : w.feram = s.feram := by simp [w, u, s.openOver_frame]
    have hevt : w.evtBit (pageNo (belvB d)) 5 = true := (State.evtBit_of_pages (by simp [w, u]) _ _).trans (s.openOver_evt d r)
    obtain ⟨t, ht, hdie, hbit, hfer⟩ := done_thEdges d (slotsOf d) hferam hevt
    refine ⟨t, r', ?_, by rw [hdie, hr], hcurrent, hat.trans (s.openOver_frame d r).1, ?_, hbit, hfer⟩
    · rw [execOpenWireDone_ends d r s hrun hruns hend, hreq, ← ht]
    · rw [hdie, hreq', (s.openOver_belv d r).2]

end Sys2Proof.Machine
end

section
/-! PROOFS. Frame boundaries, triggers and the ends of their delays (O40). -/
namespace Sys2Proof.Machine

/-! ## The end of a frame and the begin of the next (R216, R217) -/

/-- The results of a frame write, of the frames, what is left of the settling. -/
theorem State.endFrame_frames (s : State) (rs : List DieSamp) : ∃ k, (s.endFrame rs).frames = { s.frames with settle := k } := by
  unfold State.endFrame
  extract_lets f deliver s1 fr s2 s3
  split
  · exact ⟨_, rfl⟩
  · refine ⟨s.frames.settle - 1, ?_⟩
    simp [s3, s2, fr, s1, f]

@[simp] theorem State.endFrame_frame (s : State) (rs : List DieSamp) :
    (s.endFrame rs).now = s.now ∧ (s.endFrame rs).feram = s.feram := by
  simp [State.endFrame]

/-- What a frame that begins writes of the frames: it starts now with the next number, or the loaded one, and the boundary after it comes
a period of its own later. The delays of the triggers run on. -/
structure Begun (base now : Nat) (f g : Frames) : Prop where
  started : g.started = true
  startAt : g.startAt = now
  num : g.num = if f.started then f.load.getD ((f.num + 1) % 256) else f.load.getD f.num
  nextAt : g.nextAt = base + 2560 * 2 ^ g.osr
  load : g.load = none
  pend : ∀ src, trigPend g src = trigPend f src

theorem State.beginFrame_frames (s : State) (src base : Nat) (reph trim sel : Bool) :
    Begun base s.now s.frames (s.beginFrame src base reph trim sel).frames := by
  unfold State.beginFrame
  extract_lets s1 fc f osr idle num picked source s2 s3 s4
  have h : (s4.each (s4.presentDies.filter s4.runs) (fun d s => s.dieBoundary d)).frames = s2.frames := by
    simp [s4, s3]
  have hnow : s1.now = s.now := by simp [s1]
  have hframes : s1.frames = s.frames := by simp [s1]
  rw [h]
  refine ⟨rfl, hnow, ?_, rfl, rfl, ?_⟩
  · rw [← hframes]
  · rw [← hframes]
    rintro (_ | _ | _) <;> rfl

@[simp] theorem State.beginFrame_frame (s : State) (src base : Nat) (reph trim sel : Bool) :
    (s.beginFrame src base reph trim sel).now = s.now ∧ (s.beginFrame src base reph trim sel).feram = s.feram := by
  simp [State.beginFrame]

/-- A boundary ends the frame and begins the next. -/
theorem execFrameBoundary_begins (rs : List DieSamp) (s : State) (hin : s.inRun = true) (hrun : s.frames.run = true)
    (hdue : s.frames.nextAt ≤ s.now) :
    exec (.frameBoundary rs) s =
      done s ((s.endFrame rs).beginFrame (if s.frames.started then s.frames.bSrc else 4) s.frames.nextAt false s.frames.bTrim (s.frames.bSrc != 0)) := by
  show execFrameBoundary rs s = _
  unfold execFrameBoundary
  dsimp only
  rw [if_neg (by simp [hin, hrun, hdue])]

/-! ## Triggers (R219, R220) -/

/-- A source without a delay that runs starts its own. -/
theorem State.trigger_starts (s : State) :
    (s.frames.pendTrig = none → (s.trigger .trig).frames = { s.frames with pendTrig := some (s.now + s.rf (trigB + 12) 15 0) }) ∧
    (s.frames.pendSw = none → (s.trigger .software).frames = { s.frames with pendSw := some (s.now + s.rf (trigB + 16) 15 0) }) := by
  have hreg (a : Nat) (h : a ≠ trigB + 0x20) : s.accepted.reg a = s.reg a := State.reg_addWrap_ne s _ _ _ h
  constructor
  · intro h
    simp [State.trigger, h, State.rf, hreg (trigB + 12) (by omega)]
  · intro h
    simp [State.trigger, h, State.rf, hreg (trigB + 16) (by omega)]

/-- A source whose delay runs makes an event. -/
theorem State.trigger_pending (s : State) (src : TrigSrc) (h : trigPend s.frames src ≠ none) : s.trigger src = s.evtBelv s.pkg.lead [3] := by
  have hsome : (trigPend s.frames src).isSome = true := Option.isSome_iff_ne_none.2 h
  cases src <;> exact if_pos hsome

/-- The new state of a command that keeps the time: of the frames, the slots, the dies, the FeRAM and the events, the outcome has what it has. -/
theorem done_frames {s u : State} :
    ∃ t, done s u = .next t ∧ t.frames = u.frames ∧ t.slots = u.slots ∧ t.dies = u.dies ∧ t.feram = u.feram ∧
      ∀ p b, u.evtBit p b = true → t.evtBit p b = true := by
  obtain ⟨hslots, hdies, -, hferam, hframes, -⟩ := done_fields (done_next s u)
  exact ⟨_, done_next _ _, hframes, hslots, hdies, hferam, fun p b => done_keeps_bit (done_next _ _) p b⟩

/-- The state in which the width of a pulse on TRIG is taken down. -/
def State.pulseSeen (s : State) (width : Nat) : State := s.setReg (trigB + 0x24) (BitVec.ofNat 32 (sat 65535 width))

theorem State.rf_pulseSeen (s : State) (width : Nat) {a : Nat} (hi lo : Nat) (h : a ≠ trigB + 0x24) :
    (s.pulseSeen width).rf a hi lo = s.rf a hi lo := by
  rw [State.rf, State.rf, State.pulseSeen, State.reg_setReg_ne _ _ h]

/-- A pulse of the polarity asked for, of an enabled source, triggers where its width lies within the limits, and else is counted. -/
theorem execTrigPulse_seen (width : Nat) (s : State) (hlead : s.leadIn = true) (hen : bit s.trigCfg 1 = true) :
    exec (.trigPulse (bit s.trigCfg 4) width) s = done s (
      if width ≤ 65535 ∧ s.rf (trigB + 0x14) 15 0 ≤ width ∧ width ≤ s.rf (trigB + 0x14) 31 16 then (s.pulseSeen width).trigger .trig
      else ((s.pulseSeen width).addWrap (trigB + 0x20) 15 0 1).evtBelv s.pkg.lead [4]) := by
  have hcfg : bit (s.pulseSeen width).trigCfg 1 = true := by
    rw [State.trigCfg, State.pulseSeen, State.reg_setReg_ne _ _ (by omega)]
    exact hen
  rw [← s.rf_pulseSeen width (a := trigB + 0x14) 15 0 (by omega), ← s.rf_pulseSeen width (a := trigB + 0x14) 31 16 (by omega)]
  show execTrigPulse (bit s.trigCfg 4) width s = _
  unfold execTrigPulse
  extract_lets s1 pw
  rw [if_neg (by simp [hlead]), if_neg (by simp [s1, ← State.pulseSeen.eq_1, hcfg])]
  simp only [Bool.and_eq_true, decide_eq_true_eq, and_assoc]
  rfl

/-! ## The ends of the delays (R221, R222) -/

/-- The frames once the delay of a source has run out. -/
def Frames.delayOver (f : Frames) : TrigSrc → Frames
  | .meridian => { f with pendMer := none }
  | .trig => { f with pendTrig := none }
  | .software => { f with pendSw := none }

theorem Frames.delayOver_pend (f : Frames) (src : TrigSrc) : trigPend (f.delayOver src) src = none := by cases src <;> rfl

/-- The end of the delay of a hardware source, where the other's does not end with it, makes its boundary. -/
theorem execTriggerDelayEnd_hard (src : TrigSrc) (a : Nat) (s : State) (hsrc : src ≠ .software) (hpend : trigPend s.frames src = some a)
    (hone : s.frames.pendMer ≠ s.frames.pendTrig) (hin : s.inRun = true) (hrun : s.frames.run = true) (hdue : a ≤ s.now)
    (hstart : s.frames.started = true) :
    exec (.triggerDelayEnd src) s = done s (State.hardBoundary { s with frames := s.frames.delayOver src } src) := by
  have hgo : ¬ (!s.inRun || !s.frames.run || !decide (a ≤ s.now)) = true := by simp [hin, hrun, hdue]
  have hboth : (s.frames.pendMer == some a && s.frames.pendTrig == some a) = false := by
    by_contra h
    simp only [Bool.not_eq_false, Bool.and_eq_true, beq_iff_eq] at h
    exact hone (h.1.trans h.2.symm)
  show execTriggerDelayEnd src s = _
  unfold execTriggerDelayEnd
  cases src with
  | software => exact absurd rfl hsrc
  | meridian =>
    dsimp only
    rw [show s.frames.pendMer = some a from hpend] at hboth ⊢
    dsimp only
    rw [if_neg hgo, hboth, if_pos hstart]
    rfl
  | trig =>
    dsimp only
    rw [show s.frames.pendTrig = some a from hpend] at hboth ⊢
    dsimp only
    rw [if_neg hgo, hboth, if_pos hstart]
    rfl

/-- The number that a boundary loads is all it takes up of the frames. -/
theorem State.takeLoad_frames (s : State) (src : TrigSrc) : ∃ l, (s.takeLoad src).frames = { s.frames with load := l } := by
  unfold State.takeLoad
  split
  · exact ⟨_, rfl⟩
  · exact ⟨_, rfl⟩

@[simp] theorem State.takeLoad_frame (s : State) (src : TrigSrc) :
    (s.takeLoad src).now = s.now ∧ (s.takeLoad src).feram = s.feram ∧ (s.takeLoad src).slots = s.slots ∧ (s.takeLoad src).dies = s.dies := by
  simp [State.takeLoad]

/-- w is s with a hardware boundary taken now: of the frames, the number that it loads may change; the slots, the dies and the FeRAM stand. -/
structure BoundaryTaken (s w : State) : Prop where
  frames : ∃ l, w.frames = { s.frames with bAt := some s.now, load := l }
  now : w.now = s.now
  feram : w.feram = s.feram
  slots : w.slots = s.slots
  dies : w.dies = s.dies

theorem State.takeLoad_taken (s : State) (src : TrigSrc) :
    BoundaryTaken s (State.takeLoad { s with frames := { s.frames with bAt := some s.now } } src) := by
  let u : State := { s with frames := { s.frames with bAt := some s.now } }
  obtain ⟨hnow, hferam, hslots, hdies⟩ := u.takeLoad_frame src
  exact ⟨u.takeLoad_frames src, hnow, hferam, hslots, hdies⟩

/-- u is s with the next boundary moved to a time: the running frame, the delay of the source, the slots and the dies stand. -/
structure Trimmed (s u : State) (src : TrigSrc) (next : Nat) : Prop where
  startAt : u.frames.startAt = s.frames.startAt
  pend : trigPend u.frames src = trigPend s.frames src
  nextAt : u.frames.nextAt = next
  slots : u.slots = s.slots
  dies : u.dies = s.dies

/-- A boundary that stands up to ten cycles ahead comes now. -/
theorem State.hardBoundary_ahead (s : State) (src : TrigSrc) (hat : s.frames.bAt ≠ some s.now) (hle : s.now ≤ s.frames.nextAt)
    (hnear : s.frames.nextAt ≤ s.now + 10) :
    Trimmed s (s.hardBoundary src) src s.now ∧ (s.hardBoundary src).frames.bTrim = true := by
  unfold State.hardBoundary
  rw [if_neg (by simpa using hat)]
  extract_lets code f w past ahead gap lastTrim m mf u
  obtain ⟨⟨l, hl⟩, hnow, hferam, hslots, hdies⟩ : BoundaryTaken s w := s.takeLoad_taken src
  clear_value w
  rw [if_pos (by simp [past, hl, hnow, hle, hnear])]
  refine ⟨⟨?_, ?_, ?_, ?_, ?_⟩, ?_⟩
  · simp [lastTrim, u, mf, m, hl]
  · cases src <;> simp [lastTrim, u, mf, m, hl, trigPend]
  · simp [lastTrim, u, mf, m, hnow]
  · simp [lastTrim, u, mf, m, hslots]
  · simp [lastTrim, u, mf, m, hdies]
  · simp [lastTrim, u, mf, m]

/-- Up to ten cycles after a boundary, the next one comes a period from now. -/
theorem State.hardBoundary_past (s : State) (src : TrigSrc) (hat : s.frames.bAt ≠ some s.now) (hnear : s.now ≤ s.frames.startAt + 10)
    (hfar : s.now + 10 < s.frames.nextAt) : Trimmed s (s.hardBoundary src) src (s.now + s.period) := by
  unfold State.hardBoundary
  rw [if_neg (by simpa using hat)]
  extract_lets code f w past ahead gap lastTrim m mf u m' mf' u'
  obtain ⟨⟨l, hl⟩, hnow, hferam, hslots, hdies⟩ : BoundaryTaken s w := s.takeLoad_taken src
  clear_value w
  rw [if_neg (by simp [past, hl, hnow, hfar]), if_pos (by simp [ahead, past, hl, hnow]; omega)]
  refine ⟨?_, ?_, ?_, ?_, ?_⟩
  · simp [lastTrim, u', mf', m', hl]
  · cases src <;> simp [lastTrim, u', mf', m', hl, trigPend]
  · simp [lastTrim, u', mf', m', hnow, State.period, hl]
  · simp [lastTrim, u', mf', m', hslots]
  · simp [lastTrim, u', mf', m', hdies]

/-- Further from both boundaries, a frame begins now. -/
theorem State.hardBoundary_rephases (s : State) (src : TrigSrc) (hat : s.frames.bAt ≠ some s.now) (hpast : s.frames.startAt + 10 < s.now)
    (hfar : s.now + 10 < s.frames.nextAt) :
    ∃ (u : State) (code : Nat), s.hardBoundary src = u.beginFrame code s.now true false true ∧ u.now = s.now ∧ u.feram = s.feram ∧
      trigPend u.frames src = trigPend s.frames src := by
  unfold State.hardBoundary
  rw [if_neg (by simpa using hat)]
  extract_lets code f w past ahead gap lastTrim m mf u m' mf' u' m'' v
  obtain ⟨⟨l, hl⟩, hnow, hferam, hslots, hdies⟩ : BoundaryTaken s w := s.takeLoad_taken src
  clear_value w
  have hv : v.now = s.now := by simp [v, m'', hnow]
  refine ⟨v, code, ?_, hv, by simp [v, m'', hferam], ?_⟩
  · rw [if_neg (by simp [past, hl, hnow, hfar]), if_neg (by simp [ahead, past, hl, hnow]; omega), hv]
  · have hvf : v.frames = w.frames := by simp [v, m'']
    rw [hvf, hl]
    cases src <;> rfl

/-! ## The statement -/

/-- A boundary begins the next frame (R216, R217). -/
theorem frameBoundary_begun (rs : List DieSamp) (s : State) (hin : s.inRun = true) (hrun : s.frames.run = true)
    (hdue : s.frames.nextAt ≤ s.now) :
    ∃ t, exec (.frameBoundary rs) s = .next t ∧ Begun s.frames.nextAt s.now s.frames t.frames ∧ t.feram = s.feram := by
  obtain ⟨k, hk⟩ := s.endFrame_frames rs
  obtain ⟨hnow, -⟩ := s.endFrame_frame rs
  have hbegun := (s.endFrame rs).beginFrame_frames (if s.frames.started then s.frames.bSrc else 4) s.frames.nextAt false s.frames.bTrim
    (s.frames.bSrc != 0)
  rw [hnow, hk] at hbegun
  obtain ⟨t, ht, hframes, -, -, hfer, -⟩ := done_frames (s := s)
  refine ⟨t, (execFrameBoundary_begins rs s hin hrun hdue).trans ht, ?_, hfer.trans (by simp)⟩
  rw [hframes]
  exact { hbegun with pend := fun src => (hbegun.pend src).trans (by cases src <;> rfl) }

/-- A pulse on TRIG starts the delay of its source, or is counted (R219, R220). -/
theorem trigPulse_acts (width : Nat) (s : State) (hlead : s.leadIn = true) (hen : bit s.trigCfg 1 = true) :
    (width ≤ 65535 → s.rf (trigB + 0x14) 15 0 ≤ width → width ≤ s.rf (trigB + 0x14) 31 16 →
      (s.frames.pendTrig = none →
        ∃ t, exec (.trigPulse (bit s.trigCfg 4) width) s = .next t ∧
          t.frames = { s.frames with pendTrig := some (s.now + s.rf (trigB + 12) 15 0) } ∧ t.slots = s.slots ∧ t.dies = s.dies) ∧
      (s.frames.pendTrig ≠ none →
        ∃ t, exec (.trigPulse (bit s.trigCfg 4) width) s = .next t ∧ t.frames = s.frames ∧ t.evtBit (pageNo (belvB s.pkg.lead)) 3 = true ∧
          t.slots = s.slots ∧ t.dies = s.dies)) ∧
    (width < s.rf (trigB + 0x14) 15 0 ∨ s.rf (trigB + 0x14) 31 16 < width →
      ∃ t, exec (.trigPulse (bit s.trigCfg 4) width) s = .next t ∧ t.frames = s.frames ∧ t.evtBit (pageNo (belvB s.pkg.lead)) 4 = true ∧
        t.slots = s.slots ∧ t.dies = s.dies) := by
  rw [execTrigPulse_seen width s hlead hen]
  refine ⟨fun hmax hlo hhi => ⟨fun hpend => ?_, fun hpend => ?_⟩, fun hout => ?_⟩
  · rw [if_pos ⟨hmax, hlo, hhi⟩]
    obtain ⟨t, ht, hframes, hslots, hdies, -⟩ := done_frames (s := s) (u := (s.pulseSeen width).trigger .trig)
    refine ⟨t, ht, ?_, hslots.trans (by simp [State.pulseSeen]), hdies.trans (by simp [State.pulseSeen])⟩
    rw [hframes, (s.pulseSeen width).trigger_starts.1 hpend, s.rf_pulseSeen width 15 0 (by omega)]
    rfl
  · rw [if_pos ⟨hmax, hlo, hhi⟩, (s.pulseSeen width).trigger_pending .trig hpend]
    obtain ⟨t, ht, hframes, hslots, hdies, -, hbit⟩ := done_frames (s := s) (u := (s.pulseSeen width).evtBelv (s.pulseSeen width).pkg.lead [3])
    exact ⟨t, ht, hframes.trans (by simp [State.pulseSeen]), hbit _ _ (State.evtBit_evt _ _ 3 (by decide)),
      hslots.trans (by simp [State.pulseSeen]), hdies.trans (by simp [State.pulseSeen])⟩
  · rw [if_neg (by omega)]
    obtain ⟨t, ht, hframes, hslots, hdies, -, hbit⟩ := done_frames (s := s)
      (u := ((s.pulseSeen width).addWrap (trigB + 0x20) 15 0 1).evtBelv s.pkg.lead [4])
    exact ⟨t, ht, hframes.trans (by simp [State.pulseSeen]), hbit _ _ (State.evtBit_evt _ _ 4 (by decide)),
      hslots.trans (by simp [State.pulseSeen]), hdies.trans (by simp [State.pulseSeen])⟩

/-- SW_TRIG starts the delay of its source, or makes an event; a disabled source is ignored (R219). -/
theorem softwareTrigger_acts (ini : Ini) (s : State) (htake : s.takes ini (belvB s.pkg.lead + 0x58) = true) :
    (bit s.trigCfg 2 = true → s.frames.pendSw = none →
      ∃ t, exec (.softwareTrigger ini) s = .next t ∧ t.frames = { s.frames with pendSw := some (s.now + s.rf (trigB + 16) 15 0) } ∧
        t.slots = s.slots ∧ t.dies = s.dies) ∧
    (bit s.trigCfg 2 = true → s.frames.pendSw ≠ none →
      ∃ t, exec (.softwareTrigger ini) s = .next t ∧ Quiet s t ∧ t.evtBit (pageNo (belvB s.pkg.lead)) 3 = true) ∧
    (bit s.trigCfg 2 = false → ∃ t, exec (.softwareTrigger ini) s = .next t ∧ Quiet s t) := by
  obtain ⟨pg, hw⟩ := s.write_taken ini (belvB s.pkg.lead + 0x58) false State.swTrig htake (.inl rfl)
  let u : State := { s with pages := pg }
  have hexec : exec (.softwareTrigger ini) s = done s (if bit s.trigCfg 2 then u.trigger .software else u) := congrArg (done s) hw
  rw [hexec]
  refine ⟨fun hen hpend => ?_, fun hen hpend => ?_, fun hen => ?_⟩
  · rw [hen, if_pos rfl]
    obtain ⟨t, ht, hframes, hslots, hdies, -⟩ := done_frames (s := s) (u := u.trigger .software)
    exact ⟨t, ht, hframes.trans (u.trigger_starts.2 hpend), hslots.trans (by simp [u]), hdies.trans (by simp [u])⟩
  · rw [hen, if_pos rfl, u.trigger_pending .software hpend]
    obtain ⟨t, ht, hq⟩ := done_quiet s (u.evtBelv u.pkg.lead [3]) (by simp [u]) (by simp [u]) (by simp [u])
    exact ⟨t, ht, Quiet.of_pages hq, done_keeps_bit ht _ _ (State.evtBit_evt _ _ 3 (by decide))⟩
  · rw [hen, if_neg Bool.false_ne_true]
    exact done_pages s ⟨pg, rfl⟩

/-- Settles O40: a boundary by `Begun`, a trigger by `State.trigger_starts` and `State.trigger_pending`, and the end of a hardware source's
delay by the distance to the boundaries on both sides of it (`State.hardBoundary_ahead`, `_past`, `_rephases`). -/
theorem framesAndTriggers : Obligations.FramesAndTriggers := by
  unfold Obligations.FramesAndTriggers
  refine ⟨fun rs s hin hrun hdue => ?_, fun low width s hlead hlow => ?_, fun ini s htake => softwareTrigger_acts ini s htake,
    fun a s hpend hin hrun hdue => ?_, fun src a s hsrc hpend hone hin hrun hdue hstart hat => ?_⟩
  · obtain ⟨t, ht, hb, hferam⟩ := frameBoundary_begun rs s hin hrun hdue
    exact ⟨t, ht, hb.started, hb.startAt, hb.num, hb.nextAt, hb.load, hferam⟩
  · subst hlow
    exact ⟨fun hen => (trigPulse_acts width s hlead hen).1, fun hen => (trigPulse_acts width s hlead hen).2⟩
  · have hexec : exec (.triggerDelayEnd .software) s =
        done s { s with frames := { s.frames with pendSw := none, selNext := true, snapNext := true } } := by
      show execTriggerDelayEnd .software s = _
      unfold execTriggerDelayEnd
      dsimp only
      rw [hpend]
      exact congrArg (done s) (if_neg (by simp [hin, hrun, hdue]))
    rw [hexec]
    exact done_quiet s _ rfl rfl rfl
  · let v : State := { s with frames := s.frames.delayOver src }
    rw [execTriggerDelayEnd_hard src a s hsrc hpend hone hin hrun hdue hstart]
    have hover : trigPend v.frames src = none := s.frames.delayOver_pend src
    obtain ⟨hbAt, hstartAt, hnextAt, hperiod⟩ : v.frames.bAt = s.frames.bAt ∧ v.frames.startAt = s.frames.startAt ∧
        v.frames.nextAt = s.frames.nextAt ∧ v.period = s.period := by cases src <;> exact ⟨rfl, rfl, rfl, rfl⟩
    obtain ⟨t, ht, hframes, hslots, hdies, hferam, -⟩ := done_frames (s := s) (u := v.hardBoundary src)
    refine ⟨fun hpast hfar => ?_, fun hle hnear => ?_, fun hnear hfar => ?_⟩
    · obtain ⟨u, code, hu, hunow, huferam, hupend⟩ := v.hardBoundary_rephases src (hbAt ▸ hat) (hstartAt ▸ hpast) (hnextAt ▸ hfar)
      have hb := u.beginFrame_frames code v.now true false true
      rw [← hu, ← hframes] at hb
      exact ⟨t, ht, hb.startAt.trans hunow, (hb.pend src).trans (hupend.trans hover), hb.nextAt,
        hferam.trans (hu ▸ (u.beginFrame_frame code v.now true false true).2.trans huferam)⟩
    · obtain ⟨hT, htrim⟩ := v.hardBoundary_ahead src (hbAt ▸ hat) (hnextAt ▸ hle) (hnextAt ▸ hnear)
      exact ⟨t, ht, by rw [hframes, hT.startAt, hstartAt], by rw [hframes, hT.pend, hover], by rw [hframes, hT.nextAt],
        by rw [hframes, htrim], hslots.trans hT.slots, hdies.trans hT.dies⟩
    · have hT := v.hardBoundary_past src (hbAt ▸ hat) (hstartAt ▸ hnear) (hnextAt ▸ hfar)
      exact ⟨t, ht, by rw [hframes, hT.startAt, hstartAt], by rw [hframes, hT.pend, hover], by rw [hframes, hT.nextAt, hperiod],
        hslots.trans hT.slots, hdies.trans hT.dies⟩

end Sys2Proof.Machine
end

section
/-! PROOFS. The QUEUE port: what a pop and a peek answer, and what a peek leaves for the next pop (O42). -/
namespace Sys2Proof.Machine

/-! ## What a settled state serves (R33, R392) -/

/-- Whether the register space is served is no matter of what settling writes. -/
theorem Quiet.serving {s t : State} (h : Quiet s t) : t.serving = s.serving := by
  have hpresent (d : Nat) : t.present d = s.present d := by
    simp only [State.present, State.fitted, State.die_of_dies h.dies, h.ident]
  unfold State.serving State.inRun
  rw [hpresent, h.pkg]
  rfl

/-- No access of a page that the lead die serves is refused (R18, R33). -/
theorem State.refusal_lead (s : State) {a : Nat} {l : Loc} (hl : locate a = some l) (hd : l.die = none) : s.refusal a = 0 := by
  simp [State.refusal, hl, hd]

theorem State.refusal_queuePop (s : State) : s.refusal (queueB + 0x40) = 0 := s.refusal_lead rfl rfl

/-! ## The words of an entry in a shadow (R49, R252, R253) -/

/-- An initiator's shadow has a word for each address. -/
theorem shKey_inj (ini : Ini) {a b : Nat} (h : a ≠ b) : shKey ini a ≠ shKey ini b := by
  cases ini with
  | qspi => exact h
  | ring n => exact fun hk => h (Nat.add_left_cancel hk)

/-- The words that an entry and its origin leave in the group whose LO lies at a. -/
structure EntryRead (ini : Ini) (a : Nat) (e : BitVec 64) (src : Word) (t : State) : Prop where
  lo : t.rsp = [BitVec.ofNat 32 e.toNat]
  hi : mget 0 t.shadow (shKey ini (a + 4)) = BitVec.ofNat 32 (e.toNat / 2 ^ 32)
  origin : mget 0 t.shadow (shKey ini (a + 8)) = src

theorem State.captureEntry_read (s : State) (ini : Ini) (a : Nat) (e : BitVec 64) (src : Word) :
    EntryRead ini a e src (s.captureEntry ini a e src) where
  lo := rfl
  hi := by
    show mget 0 (mset 0 (mset 0 _ (shKey ini (a + 4)) _) (shKey ini (a + 8)) _) _ = _
    rw [mget_mset_ne _ _ _ (shKey_inj ini (by omega)), mget_mset_self]
  origin := mget_mset_self ..

theorem EntryRead.of_quiet {ini : Ini} {a : Nat} {e : BitVec 64} {src : Word} {u t : State} (h : EntryRead ini a e src u) (hq : Quiet u t) :
    EntryRead ini a e src t where
  lo := hq.rsp.trans h.lo
  hi := by rw [hq.shadow, h.hi]
  origin := by rw [hq.shadow, h.origin]

@[simp] theorem State.captureEntry_frame (s : State) (ini : Ini) (a : Nat) (e : BitVec 64) (src : Word) :
    (s.captureEntry ini a e src).pending = s.pending ∧ (s.captureEntry ini a e src).now = s.now ∧
      (s.captureEntry ini a e src).ident = s.ident ∧ (s.captureEntry ini a e src).dies = s.dies ∧
      (s.captureEntry ini a e src).slots = s.slots ∧ (s.captureEntry ini a e src).regs = s.regs ∧
      (s.captureEntry ini a e src).qport = s.qport ∧ (s.captureEntry ini a e src).pkg = s.pkg ∧
      (s.captureEntry ini a e src).xact = s.xact := by
  simp [State.captureEntry]

/-- A capture touches no event. -/
theorem State.capture_evt (s : State) (ini : Ini) (a : Nat) (v : Word) (p : Nat) : ((s.capture ini a v).page p).evt = (s.page p).evt := by
  unfold State.capture
  by_cases hp : p = pageAt a
  · rw [hp, State.page_modPage_self]
    rfl
  · rw [State.page_modPage_ne _ _ hp]
    rfl

theorem State.captureEntry_evt (s : State) (ini : Ini) (a : Nat) (e : BitVec 64) (src : Word) (p : Nat) :
    ((s.captureEntry ini a e src).page p).evt = (s.page p).evt :=
  (State.capture_evt _ ini (a + 8) src p).trans (s.capture_evt ini (a + 4) _ p)

/-! ## The source whose turn it is (R251) -/

/-- Whether a source may be taken from, by the port or by the stream. -/
def State.srcOk (s : State) (port : Bool) (k : Nat) : Bool :=
  s.srcFull k && (k == 8 || !port || !s.streamOn) && (port || k != 8)

/-- The source whose turn it is may be taken from. -/
theorem State.nextSrc_ok {s : State} {port : Bool} {k : Nat} (h : s.nextSrc port = some k) : s.srcOk port k = true := by
  have hturn {j : Nat} (h : (if s.srcOk port s.qport.turn && decide (s.qport.taken < s.rf (queueB + 0x60) 5 0) then some s.qport.turn
      else ((List.range 9).map (fun i => (s.qport.turn + 1 + i) % 9)).find? (s.srcOk port)) = some j) : s.srcOk port j = true := by
    split at h
    next hgo =>
      obtain rfl : s.qport.turn = j := Option.some.inj h
      exact (Bool.and_eq_true_iff.mp hgo).1
    next => exact List.find?_some h
  unfold State.nextSrc at h
  dsimp only at h
  split at h
  · split at h
    next hgo =>
      obtain rfl := Option.some.inj h
      exact (Bool.and_eq_true_iff.mp hgo).2
    next => exact hturn h
  · exact hturn h

/-- A peek binds the next pop to the source that it showed, as long as that source may be taken from. -/
theorem State.nextSrc_of_commit {s : State} {k : Nat} (hc : s.qport.commit = some k) (hk : s.srcOk true k = true) :
    s.nextSrc true = some k := by
  unfold State.nextSrc
  dsimp only
  rw [hc]
  exact if_pos hk

theorem State.srcOk_congr {s t : State} (hq : ∃ c, t.qport = { s.qport with commit := c }) (hd : t.dies = s.dies) (hi : t.ident = s.ident)
    (hr : t.regs = s.regs) (port : Bool) (k : Nat) : t.srcOk port k = s.srcOk port k := by
  obtain ⟨c, hq⟩ := hq
  simp only [State.srcOk, State.srcFull, State.streamOn, State.present, State.fitted, State.rf, State.die_of_dies hd, State.reg_of_regs hr,
    hq, hi]

/-! ## The head entry of a source (R251, R252, R256) -/

/-- The head entry of a source and its origin word. -/
def State.head (s : State) (k : Nat) : BitVec 64 × Word :=
  if k = 8 then ((s.qport.rxq.headD (0, 0)).1, mkWord [(0, (s.qport.rxq.headD (0, 0)).2), (31, 1)])
  else (((s.die k).belv.queue.headD (0, 0)).1, 0)

theorem State.head_congr {s t : State} (hq : t.qport.rxq = s.qport.rxq) (hd : t.dies = s.dies) (k : Nat) : t.head k = s.head k := by
  simp only [State.head, hq, State.die_of_dies hd]

theorem State.head_rx (s : State) : s.head 8 = ((s.qport.rxq.headD (0, 0)).1, mkWord [(0, (s.qport.rxq.headD (0, 0)).2), (31, 1)]) := rfl

theorem State.head_die (s : State) {k : Nat} (hk : k ≠ 8) : s.head k = (((s.die k).belv.queue.headD (0, 0)).1, 0) := if_neg hk

/-- What is taken of a source is its head. -/
theorem State.takeSrc_head (s : State) (k : Nat) (port : Bool) : ((s.takeSrc k port).2.1, (s.takeSrc k port).2.2.1) = s.head k := by
  unfold State.takeSrc State.head
  by_cases hk : k = 8
  · simp [hk]
  · simp [hk]

/-- The receive queue loses the entry that is taken of it. -/
theorem State.takeSrc_rx (s : State) (port : Bool) :
    (s.takeSrc 8 port).1.qport.rxq = s.qport.rxq.tail ∧ (s.takeSrc 8 port).1.dies = s.dies := ⟨rfl, rfl⟩

/-- A die queue loses the entry that is taken of it, and no other queue does. -/
theorem State.takeSrc_die (s : State) {k : Nat} (hk : k ≠ 8) (port : Bool) :
    ((s.takeSrc k port).1.die k).belv.queue = (s.die k).belv.queue.tail ∧ (∀ e, e ≠ k → (s.takeSrc k port).1.die e = s.die e) ∧
      (s.takeSrc k port).1.qport.rxq = s.qport.rxq := by
  unfold State.takeSrc
  extract_lets q last n q'
  rw [if_neg (by simpa using hk)]
  refine ⟨?_, fun e he => ?_, rfl⟩
  · rw [State.die_modDie_self]
  · rw [State.die_modDie_ne _ _ he]
    rfl

/-! ## A pop and a peek (R252, R253) -/

theorem State.queuePop_of_src {s : State} {k : Nat} (ini : Ini) (h : s.nextSrc true = some k) :
    s.queuePop ini = (s.takeSrc k true).1.captureEntry ini (queueB + 0x40) (s.head k).1 (s.head k).2 := by
  rw [← s.takeSrc_head k true]
  simp [State.queuePop, h]

theorem State.queuePeek_of_src {s : State} {k : Nat} (ini : Ini) (h : s.nextSrc true = some k) :
    s.queuePeek ini =
      State.captureEntry { s with qport := { s.qport with commit := some k } } ini (queueB + 0x50) (s.head k).1 (s.head k).2 := by
  rw [← s.takeSrc_head k true]
  simp [State.queuePeek, h]

theorem State.queuePeek_empty {s : State} (ini : Ini) (h : s.nextSrc true = none) :
    s.queuePeek ini = s.captureEntry ini (queueB + 0x50) 0 0 := by
  simp [State.queuePeek, h]

/-- A pop that is served before its CORE cycle ends is a read of QUEUE_LO. -/
theorem execQueuePop_served {s : State} (ini : Ini) (hturn : ini = .qspi ∨ s.qspiPops = false) (hs : s.serving = true) :
    exec (.queuePop ini) s = done s (s.queuePop ini) := by
  have hgo : ¬ (ini != .qspi && s.qspiPops) = true := by
    rcases hturn with rfl | h
    · simp
    · simp [h]
  show execQueuePop ini s = _
  unfold execQueuePop
  rw [if_neg hgo, s.readAt_served ini _ hs s.refusal_queuePop]

/-- A pop of a source answers its head entry. -/
theorem queuePop_takes {s : State} {k : Nat} (ini : Ini) (hturn : ini = .qspi ∨ s.qspiPops = false) (hs : s.serving = true)
    (hk : s.nextSrc true = some k) :
    ∃ t, exec (.queuePop ini) s = .next t ∧ EntryRead ini (queueB + 0x40) (s.head k).1 (s.head k).2 t ∧
      t.dies = (s.takeSrc k true).1.dies ∧ t.qport = (s.takeSrc k true).1.qport ∧ t.slots = s.slots ∧ t.regs = s.regs := by
  obtain ⟨t, ht, hq⟩ := done_quiet s (s.queuePop ini) (by simp [State.queuePop_of_src ini hk]) (by simp [State.queuePop_of_src ini hk])
    (by simp [State.queuePop_of_src ini hk])
  rw [← execQueuePop_served ini hturn hs] at ht
  rw [State.queuePop_of_src ini hk] at hq
  exact ⟨t, ht, (State.captureEntry_read ..).of_quiet hq, hq.dies.trans (by simp), hq.qport.trans (by simp), hq.slots.trans (by simp),
    hq.regs.trans (by simp)⟩

/-- A peek that is served does no more than note its source and answer. -/
theorem execQueuePeek_served {s : State} (ini : Ini) (hs : s.serving = true) (hr : s.refusal (queueB + 0x50) = 0) :
    exec (.queuePeek ini) s = done s (s.queuePeek ini) :=
  congrArg (done s) (s.readAt_served ini _ hs hr)

/-- A peek answers the head entry of the source whose turn it is, and binds the next pop to that source. -/
theorem queuePeek_shows {s : State} {k : Nat} (ini : Ini) (hs : s.serving = true) (hr : s.refusal (queueB + 0x50) = 0)
    (hk : s.nextSrc true = some k) :
    ∃ t, exec (.queuePeek ini) s = .next t ∧ EntryRead ini (queueB + 0x50) (s.head k).1 (s.head k).2 t ∧
      Quiet (State.captureEntry { s with qport := { s.qport with commit := some k } } ini (queueB + 0x50) (s.head k).1 (s.head k).2) t := by
  rw [execQueuePeek_served ini hs hr, State.queuePeek_of_src ini hk]
  obtain ⟨t, ht, hq⟩ := done_quiet s
    (State.captureEntry { s with qport := { s.qport with commit := some k } } ini (queueB + 0x50) (s.head k).1 (s.head k).2)
    (by simp) (by simp) (by simp)
  exact ⟨t, ht, (State.captureEntry_read ..).of_quiet hq, hq⟩

/-- After a peek the register space is served as before, and the turn is at the source that it showed, whose head is the same. -/
theorem Quiet.peeked {s t : State} {ini : Ini} {k : Nat} {e : BitVec 64} {src : Word} (hk : s.nextSrc true = some k)
    (hq : Quiet (State.captureEntry { s with qport := { s.qport with commit := some k } } ini (queueB + 0x50) e src) t) :
    t.serving = s.serving ∧ t.qspiPops = s.qspiPops ∧ t.nextSrc true = some k ∧ t.head k = s.head k := by
  have hqport : t.qport = { s.qport with commit := some k } := hq.qport.trans (by simp)
  have hdies : t.dies = s.dies := hq.dies.trans (by simp)
  have hserving : t.serving = s.serving := by
    rw [hq.serving]
    simp only [State.serving, State.inRun, State.present, State.fitted, State.die, State.captureEntry_frame]
  have hpops : t.qspiPops = s.qspiPops := by
    unfold State.qspiPops
    rw [hq.pending]
    simp
  have hok : t.srcOk true k = s.srcOk true k :=
    State.srcOk_congr ⟨_, hqport⟩ hdies (hq.ident.trans (by simp)) (hq.regs.trans (by simp)) true k
  exact ⟨hserving, hpops, State.nextSrc_of_commit (by rw [hqport]) (hok.trans (State.nextSrc_ok hk)),
    State.head_congr (by rw [hqport]) hdies k⟩

/-- The QUEUE page takes no event of settling. -/
theorem not_settlePage_queue : ¬ SettlePage (pageNo queueB) := fun h => absurd h.range (by decide)

/-- Settles O42: a peek answers `State.head` and writes only the port's commitment, and by `Quiet.peeked` the next pop answers the same
head. -/
theorem queuePeekLeavesTheHead : Obligations.QueuePeekLeavesTheHead := by
  refine ⟨fun ini k s hs hr hk => ?_, fun ini s hs hr hk => ?_, fun ini j k s hturn hs hr hk => ?_⟩
  · obtain ⟨t, ht, hread, hq⟩ := queuePeek_shows ini hs hr hk
    refine ⟨t, ht, hq.dies.trans (by simp), hq.slots.trans (by simp), hq.regs.trans (by simp), hq.qport.trans (by simp), fun hk8 => ?_,
      fun hk8 => ?_⟩
    · rw [s.head_die hk8] at hread
      exact ⟨hread.lo, hread.hi, hread.origin⟩
    · rw [hk8, s.head_rx] at hread
      exact ⟨hread.lo, hread.hi, hread.origin⟩
  · rw [execQueuePeek_served ini hs hr, State.queuePeek_empty ini hk]
    obtain ⟨t, ht, hq⟩ := done_quiet s (s.captureEntry ini (queueB + 0x50) 0 0) (by simp) (by simp) (by simp)
    have hread := (s.captureEntry_read ini (queueB + 0x50) 0 0).of_quiet hq
    exact ⟨t, ht, hread.lo, hread.hi, hread.origin, hq.dies.trans (by simp), hq.qport.trans (by simp), hq.slots.trans (by simp),
      hq.regs.trans (by simp), (done_events ht not_settlePage_queue).1.trans (s.captureEntry_evt ini _ 0 0 _)⟩
  · obtain ⟨t, ht, hread, hq⟩ := queuePeek_shows ini hs hr hk
    obtain ⟨hserving, hpops, hnext, hhead⟩ := hq.peeked hk
    obtain ⟨u, hu, hpop, -⟩ := queuePop_takes j (hturn.imp_right hpops.trans) (hserving.trans hs) hnext
    rw [hhead] at hpop
    exact ⟨t, u, ht, hu, hpop.lo.trans hread.lo.symm, hpop.hi.trans hread.hi.symm, hpop.origin.trans hread.origin.symm⟩

end Sys2Proof.Machine
end

section
/-! PROOFS. The QUEUE port and the streams (O41). -/
namespace Sys2Proof.Machine

/-! ## An empty port (R252) -/

theorem State.queuePop_empty {s : State} (ini : Ini) (h : s.nextSrc true = none) :
    s.queuePop ini = ((s.evt (pageNo queueB) [0]).addSat (queueB + 0x68) 15 0 1).captureEntry ini (queueB + 0x40) 0 0 := by
  simp [State.queuePop, h]

/-- A pop of an empty port answers 0 with its event. -/
theorem queuePop_finds_nothing {s : State} (ini : Ini) (hturn : ini = .qspi ∨ s.qspiPops = false) (hs : s.serving = true)
    (hk : s.nextSrc true = none) :
    ∃ t, exec (.queuePop ini) s = .next t ∧ t.rsp = [0] ∧ t.evtBit (pageNo queueB) 0 = true ∧ t.dies = s.dies ∧ t.slots = s.slots := by
  rw [execQueuePop_served ini hturn hs, State.queuePop_empty ini hk]
  obtain ⟨t, ht, -, hslots, hdies, -, hevt⟩ :=
    done_frames (s := s) (u := ((s.evt (pageNo queueB) [0]).addSat (queueB + 0x68) 15 0 1).captureEntry ini (queueB + 0x40) 0 0)
  obtain ⟨-, -, -, -, -, -, -, -, -, -, -, -, -, -, -, -, hrsp, -⟩ := done_fields ht
  refine ⟨t, ht, hrsp, hevt _ 0 ?_, hdies.trans (by simp), hslots.trans (by simp)⟩
  unfold State.evtBit
  rw [State.captureEntry_evt]
  exact (State.evtBit_of_pages (by simp) _ 0).trans (s.evtBit_evt (pageNo queueB) 0 (by decide))

/-! ## A stream that is sent (R255) -/

/-- A stream takes nothing of empty die queues. -/
theorem State.streamRun_of_empty {s : State} (h : s.qDies = 0) : s.streamRun = s := by
  unfold State.streamRun
  rw [h]
  rfl

/-- Sending the assembled frame leaves none in assembly, counts SEQ on and shows the number that the frame carried. -/
theorem State.streamSend_sends {s : State} (h : s.qport.asm ≠ []) :
    s.streamSend.qport = { s.qport with asm := [], seq := (s.qport.seq + 1) % 65536 } ∧
      s.streamSend.rf (queueB + 0x74) 15 0 = s.qport.seq % 65536 := by
  unfold State.streamSend
  extract_lets q f u v
  rw [if_neg (by simpa [q] using h)]
  have hregs : (v.sendFrame f).1.regs = v.regs := by simp
  refine ⟨by simp [v, u, q], ?_⟩
  rw [State.rf, State.reg_of_regs hregs]
  simp only [v, State.setRf, State.reg_setReg_self, fld_setFld_half]
  rfl

/-- FLUSH past the oldest entry of a frame in assembly, whose destination can be reached, sends it. -/
theorem execStreamFlushTimeout_sends {s : State} (hs : s.serving = true) (hempty : s.qDies = 0) (hasm : s.qport.asm ≠ [])
    (hreach : s.reaches s.qport.asmDest = true) (hdue : s.qport.asmAt + s.rf (queueB + 0x70) 7 0 * US ≤ s.now) :
    exec .streamFlushTimeout s = done s s.streamSend := by
  show execStreamFlushTimeout s = _
  unfold execStreamFlushTimeout
  dsimp only
  rw [if_pos hs, State.streamRun_of_empty hempty, if_pos (by simp [hs, hasm, hreach, hdue])]

/-! ## A stream that is received (R256) -/

/-- What the port notes of a STREAM frame's sender and number. -/
def State.noteSender (s : State) (src seq : Nat) : State :=
  match s.qport.senders.find? (fun e => e.1 == src) with
  | some e =>
    let u := { s with qport := { s.qport with senders := s.qport.senders.map (fun e => if e.1 == src then (src, seq) else e) } }
    if (seq + 65536 - e.2 - 1) % 65536 == 0 then u
    else (u.addSat (queueB + 0x7C) 15 0 ((seq + 65536 - e.2 - 1) % 65536)).evt (pageNo queueB) [3]
  | none =>
    if s.qport.senders.length < 64 then { s with qport := { s.qport with senders := s.qport.senders ++ [(src, seq)] } }
    else s.setRf (queueB + 0x78) 31 31 1

theorem State.noteSender_frame (s : State) (src seq : Nat) :
    (s.noteSender src seq).qport.rxq = s.qport.rxq ∧ (s.noteSender src seq).slots = s.slots ∧ (s.noteSender src seq).dies = s.dies := by
  unfold State.noteSender
  dsimp only
  split
  · split
    · exact ⟨rfl, rfl, rfl⟩
    · simp
  · split
    · exact ⟨rfl, rfl, rfl⟩
    · simp

/-- One entry of a STREAM frame: it joins the receive queue, or is dropped where that is full. -/
def State.rxEntry (s : State) (src : Nat) (e : BitVec 64) : State :=
  if 4096 ≤ s.qport.rxq.length then (s.addSat (queueB + 0x78) 15 0 1).evt (pageNo queueB) [2]
  else State.wmark { s with qport := { s.qport with rxq := s.qport.rxq ++ [(e, src)] } } s.qTotal

theorem State.streamRx_on {s : State} (src seq : Nat) (es : List (BitVec 64)) (h : s.rf (queueB + 0x60) 31 31 = 1) :
    s.streamRx src seq es = (s.noteSender src seq).each es (fun e s => s.rxEntry src e) :=
  if_neg (by simp [h])

theorem State.streamRx_off {s : State} (src seq : Nat) (es : List (BitVec 64)) (h : s.rf (queueB + 0x60) 31 31 ≠ 1) :
    s.streamRx src seq es = s.addSat (queueB + 0x78) 30 16 1 :=
  if_pos (by simp [h])

@[simp] theorem State.rxEntry_frame (s : State) (src : Nat) (e : BitVec 64) :
    (s.rxEntry src e).slots = s.slots ∧ (s.rxEntry src e).dies = s.dies := by
  unfold State.rxEntry
  split
  · simp
  · simp

theorem State.rxEntry_joins {s : State} (src : Nat) (e : BitVec 64) (h : s.qport.rxq.length < 4096) :
    (s.rxEntry src e).qport.rxq = s.qport.rxq ++ [(e, src)] := by
  simp [State.rxEntry, Nat.not_le.mpr h]

theorem State.rxEntry_drops {s : State} (src : Nat) (e : BitVec 64) (h : 4096 ≤ s.qport.rxq.length) :
    (s.rxEntry src e).qport = s.qport ∧ (s.rxEntry src e).evtBit (pageNo queueB) 2 = true := by
  rw [State.rxEntry, if_pos h]
  exact ⟨by simp, State.evtBit_evt _ _ 2 (by decide)⟩

/-- The entries of a frame for which the receive queue has room join it in order. -/
theorem State.rxEntries_join (src : Nat) (es : List (BitVec 64)) (s : State) (h : s.qport.rxq.length + es.length ≤ 4096) :
    (s.each es (fun e s => s.rxEntry src e)).qport.rxq = s.qport.rxq ++ es.map (fun e => (e, src)) := by
  induction es generalizing s with
  | nil => simp [State.each]
  | cons e es ih =>
    rw [List.length_cons] at h
    have hjoin := s.rxEntry_joins src e (by omega)
    have hroom : (s.rxEntry src e).qport.rxq.length + es.length ≤ 4096 := by
      rw [hjoin, List.length_append, List.length_singleton]
      omega
    exact (ih (s.rxEntry src e) hroom).trans (by simp [hjoin])

/-- A full receive queue drops every entry of a frame; the event of one stays for the next. -/
theorem State.rxEntries_drop (src : Nat) (es : List (BitVec 64)) (s : State) (h : 4096 ≤ s.qport.rxq.length) :
    (s.each es (fun e s => s.rxEntry src e)).qport = s.qport ∧
      (es ≠ [] ∨ s.evtBit (pageNo queueB) 2 = true → (s.each es (fun e s => s.rxEntry src e)).evtBit (pageNo queueB) 2 = true) := by
  induction es generalizing s with
  | nil => exact ⟨rfl, fun h => h.resolve_left (· rfl)⟩
  | cons e es ih =>
    obtain ⟨hport, hevt⟩ := s.rxEntry_drops src e h
    obtain ⟨hports, hevts⟩ := ih (s.rxEntry src e) (by rw [hport]; exact h)
    exact ⟨hports.trans hport, fun _ => hevts (.inr hevt)⟩

/-- Settles O41: a pop by `queuePop_takes` and what `takeSrc` leaves of the queues; a flush by `State.streamSend_sends`; a received frame
entry by entry (`State.rxEntries_join`, `State.rxEntries_drop`). That a ring's pop waits for the next CORE cycle is the model's choice
(log entry 12). -/
theorem queuePortAndStreams : Obligations.QueuePortAndStreams := by
  refine ⟨fun ini k s hturn hs _ hk => ⟨fun hk8 => ?_, fun hk8 => ?_⟩, fun ini s hini hpops => ?_,
    fun ini s hturn hs _ hk => queuePop_finds_nothing ini hturn hs hk, fun s hs hempty hasm hreach hdue => ?_,
    fun src seq es s hs => ⟨fun hon hroom => ?_, fun hon hfull hne => ?_, fun hoff => ?_⟩⟩
  · obtain ⟨t, ht, hread, hdies, hport, hslots, hregs⟩ := queuePop_takes ini hturn hs hk
    obtain ⟨hqueue, hother, hrxq⟩ := s.takeSrc_die hk8 true
    rw [s.head_die hk8] at hread
    exact ⟨t, ht, hread.lo, hread.hi, (congrArg (·.belv.queue) (State.die_of_dies hdies k)).trans hqueue,
      fun e he => (State.die_of_dies hdies e).trans (hother e he), hslots, hregs, (congrArg QPort.rxq hport).trans hrxq⟩
  · subst hk8
    obtain ⟨t, ht, hread, hdies, hport, hslots, hregs⟩ := queuePop_takes ini hturn hs hk
    obtain ⟨hrxq, hsame⟩ := s.takeSrc_rx true
    rw [s.head_rx] at hread
    exact ⟨t, ht, hread.lo, hread.hi, hread.origin, (congrArg QPort.rxq hport).trans hrxq, hdies.trans hsame, hslots, hregs⟩
  · have hexec : exec (.queuePop ini) s = done s (s.putOff (.queuePop ini)) := congrArg (done s) (if_pos (by simp [hini, hpops]))
    rw [hexec]
    exact done_quiet s _ (by simp) (by simp) (by simp)
  · rw [execStreamFlushTimeout_sends hs hempty hasm hreach hdue]
    obtain ⟨hport, hseq⟩ := State.streamSend_sends hasm
    obtain ⟨t, ht, hq⟩ := done_quiet s s.streamSend (by simp) (by simp) (by simp)
    exact ⟨t, ht, hq.qport.trans hport, (congrArg (fld · 15 0) (State.reg_of_regs hq.regs _)).trans hseq, hq.slots.trans (by simp),
      hq.dies.trans (by simp)⟩
  all_goals
    have hexec : exec (.streamReceive src seq es) s = done s (s.streamRx src seq es) := congrArg (done s) (if_pos hs)
  · obtain ⟨hrxq, hslots, hdies⟩ := s.noteSender_frame src seq
    rw [hexec, State.streamRx_on src seq es hon]
    obtain ⟨tslots, tdies, -, -, -, -, -, -, -, tport, -⟩ := done_fields (done_next s ((s.noteSender src seq).each es (fun e s => s.rxEntry src e)))
    have hjoin := State.rxEntries_join src es (s.noteSender src seq) (hrxq ▸ hroom)
    exact ⟨_, done_next _ _, (congrArg QPort.rxq tport).trans (hjoin.trans (by rw [hrxq])), tslots.trans (by simp [hslots]),
      tdies.trans (by simp [hdies])⟩
  · obtain ⟨hrxq, hslots, hdies⟩ := s.noteSender_frame src seq
    rw [hexec, State.streamRx_on src seq es hon]
    have h := done_next s ((s.noteSender src seq).each es (fun e s => s.rxEntry src e))
    obtain ⟨tslots, tdies, -, -, -, -, -, -, -, tport, -⟩ := done_fields h
    obtain ⟨hport, hevt⟩ := State.rxEntries_drop src es (s.noteSender src seq) (hrxq ▸ hfull)
    exact ⟨_, h, (congrArg QPort.rxq (tport.trans hport)).trans hrxq, done_keeps_bit h _ 2 (hevt (.inl hne)), tslots.trans (by simp [hslots]),
      tdies.trans (by simp [hdies])⟩
  · rw [hexec, State.streamRx_off src seq es hoff]
    obtain ⟨tslots, tdies, -, -, -, -, -, -, -, tport, -⟩ := done_fields (done_next s (s.addSat (queueB + 0x78) 30 16 1))
    exact ⟨_, done_next _ _, tport.trans (by simp), tslots.trans (by simp), tdies.trans (by simp)⟩

end Sys2Proof.Machine
end

section
/-! PROOFS. What a measured pair of a modulator brings with it, and the start and the end of a calibration (O43). -/
namespace Sys2Proof.Machine

/-! ## What the reports of a modulator leave (R265, R388) -/

/-- What a report of a modulator, and the end of its step, leave: the slots, the FeRAM, the pairs that wait for a frame boundary, and every
event that is set. -/
structure PairsKept (s t : State) : Prop where
  slots : t.slots = s.slots
  feram : t.feram = s.feram
  adopt : ∀ d, (t.die d).belv.adopt = (s.die d).belv.adopt
  evt : ∀ p b, s.evtBit p b = true → t.evtBit p b = true

theorem PairsKept.refl (s : State) : PairsKept s s := ⟨rfl, rfl, fun _ => rfl, fun _ _ h => h⟩

theorem PairsKept.trans {s t u : State} (h : PairsKept s t) (h' : PairsKept t u) : PairsKept s u :=
  ⟨h'.slots.trans h.slots, h'.feram.trans h.feram, fun d => (h'.adopt d).trans (h.adopt d), fun p b hb => h'.evt p b (h.evt p b hb)⟩

theorem PairsKept.ite {s t u : State} {c : Prop} [Decidable c] (ht : PairsKept s t) (hu : PairsKept s u) :
    PairsKept s (if c then t else u) := by
  split
  · exact ht
  · exact hu

variable {s t : State}

/-- A change of a die's conversion that does not touch the waiting pairs. -/
theorem PairsKept.modBelv (h : PairsKept s t) (d : Nat) {g : Belv → Belv} (hg : (g (t.die d).belv).adopt = (t.die d).belv.adopt) :
    PairsKept s (t.modBelv d g) := by
  refine h.trans ⟨by simp, by simp, fun e => ?_, fun p b hb =>
    (State.evtBit_of_pages (t := t.modBelv d g) (by simp) p b).trans hb⟩
  by_cases he : e = d
  · rw [he, State.modBelv, State.die_modDie_self]
    exact hg
  · rw [State.modBelv, State.die_modDie_ne _ _ he]

theorem PairsKept.modMod (h : PairsKept s t) (d m : Nat) (g : Modl → Modl) : PairsKept s (t.modMod d m g) := h.modBelv d rfl

theorem PairsKept.evtBelv (h : PairsKept s t) (d : Nat) (bits : List Nat) : PairsKept s (t.evtBelv d bits) :=
  h.trans ⟨by simp, by simp, fun e => congrArg (·.belv.adopt) (State.die_of_dies (by simp) e), fun _ _ => t.evtBit_evts_kept _ bits⟩

theorem PairsKept.gazRebuild (h : PairsKept s t) : PairsKept s t.gazRebuild :=
  h.trans ⟨by simp, by simp, fun e => congrArg (·.belv.adopt) (State.die_of_dies (by simp) e),
    fun _ _ hb => State.evtBit_evts_kept _ _ [1] hb⟩

/-- A record of the Nursery with its event. -/
theorem PairsKept.record (h : PairsKept s t) (code kind d inst sub failed spare : Nat) (v : Int) (bit : Nat) :
    PairsKept s ((t.nursRec code kind d inst sub failed spare v).evt (pageNo nursB) [bit]) := by
  refine h.trans ⟨by simp [State.nursRec], by simp [State.nursRec], fun e => congrArg Belv.adopt (State.belv_of_belvs ?_ e),
    fun _ _ hb => State.evtBit_evts_kept _ _ _ (t.logLead_keeps_bit _ _ _ _ hb)⟩
  simp [State.nursRec, State.logLead]

theorem PairsKept.swap (h : PairsKept s t) (kind d inst sub failed spare : Nat) (v : Int) :
    PairsKept s (t.swap kind d inst sub failed spare v) := by
  have hcount : PairsKept s (t.addSat (nursB + 0x60) 15 0 1) :=
    h.trans ⟨by simp, by simp, fun e => congrArg (·.belv.adopt) (State.die_of_dies (by simp) e), fun _ _ hb => hb⟩
  exact (hcount.record ..).gazRebuild

theorem PairsKept.exhausted (h : PairsKept s t) (kind d inst sub failed : Nat) : PairsKept s (t.exhausted kind d inst sub failed) :=
  h.record ..

theorem PairsKept.nursReq (h : PairsKept s t) (kind d inst sub : Nat) : PairsKept s (t.nursReq kind d inst sub) := by
  unfold State.nursReq
  extract_lets r
  refine .ite h (.ite ?_ ?_)
  · exact h.trans ⟨by simp, by simp, fun e => congrArg (·.belv.adopt) (State.die_of_dies (by simp) e), fun _ _ => t.evtBit_evts_kept _ _⟩
  · refine h.trans ⟨by simp [State.nursRec], by simp [State.nursRec], fun e => congrArg Belv.adopt (State.belv_of_belvs ?_ e),
      fun _ _ hb => State.logLead_keeps_bit _ _ _ _ _ (State.evtBit_evts_kept _ _ _ hb)⟩
    simp [State.nursRec, State.logLead]

theorem PairsKept.startSwap (h : PairsKept s t) (d m : Nat) : PairsKept s (t.startSwap d m) := by
  unfold State.startSwap
  extract_lets idx b busy u
  have hu : PairsKept s u := (h.modMod d m _).evtBelv d [17]
  refine .ite (h.modBelv d rfl) (.ite hu.gazRebuild ?_)
  split
  · exact (hu.exhausted ..).gazRebuild
  · exact (h.modMod d _ _).modBelv d rfl

theorem PairsKept.takeOver (h : PairsKept s t) (d idx m sp : Nat) (diff : Int) : PairsKept s (t.takeOver d idx m sp diff) := by
  unfold State.takeOver
  exact ((((h.modBelv d rfl).modMod d m _).modMod d sp _).evtBelv d [16, 17]).swap ..

theorem PairsKept.endStep (h : PairsKept s t) (d : Nat) : PairsKept s (t.endStep d) := by
  unfold State.endStep
  split
  · exact h
  · exact .ite (h.modBelv d rfl) ((h.modBelv d rfl).evtBelv d [11])

theorem PairsKept.failSpare (h : PairsKept s t) (d m : Nat) : PairsKept s (t.failSpare d m) := by
  unfold State.failSpare
  extract_lets b u v
  have hu : PairsKept s u := ((h.modMod d m _).evtBelv d [17]).gazRebuild
  have hv : PairsKept s v := by
    simp only [v]
    split
    · exact .ite ((hu.modBelv d rfl).startSwap d _) hu
    · exact hu
  split
  · exact .ite (hv.endStep d) hv
  · exact hv

/-- A modulator that meets the failure criterion: whatever is done about it, the pairs that wait stand. -/
theorem PairsKept.reportMod (h : PairsKept s t) (d m : Nat) : PairsKept s (t.reportMod d m) := by
  unfold State.reportMod
  extract_lets idx st k u
  have hu : PairsKept s u := h.trans ⟨rfl, rfl, fun _ => rfl, fun _ _ hb => hb⟩
  refine .ite h (.ite ?_ (.ite (h.nursReq ..) (h.startSwap d m)))
  split
  · refine .ite (.ite (h.nursReq ..) ?_) (.ite (.ite (h.nursReq ..) (h.startSwap d m)) (h.failSpare d m))
    exact (hu.takeOver ..).endStep d
  · exact h.failSpare d m

end Sys2Proof.Machine
end

section
/-! PROOFS. Self-calibration, and the start and the end of full and of rolling calibration (O43). -/
namespace Sys2Proof.Machine

/-! ## A measured pair (R263) -/

/-- Whether a measured pair lies within the limits of R263, in 1/256 code. -/
def pairOk (zs fs : Int) : Prop := zs.natAbs ≤ 65536 * 256 ∧ (fs - zs - 6291456 * 256).natAbs ≤ 125829 * 256

theorem not_pairOk {zs fs : Int} (h : 65536 * 256 < zs.natAbs ∨ 125829 * 256 < (fs - zs - 6291456 * 256).natAbs) : ¬ pairOk zs fs := by
  unfold pairOk
  omega

/-- A pair within its limits joins those that wait for a frame boundary. -/
theorem State.calibrate_within (s : State) (d m : Nat) {zs fs : Int} (h : pairOk zs fs) :
    (m, zs, fs) ∈ ((s.calibrate d m zs fs).die d).belv.adopt ∧ (s.calibrate d m zs fs).slots = s.slots ∧
      (s.calibrate d m zs fs).feram = s.feram := by
  unfold State.calibrate
  extract_lets x ok ppm drift far u
  have hok : ok = true := by simpa [ok, pairOk] using h
  have hu : (m, zs, fs) ∈ (u.die d).belv.adopt ∧ u.slots = s.slots ∧ u.feram = s.feram := by
    simp only [u]
    rw [if_pos hok]
    refine ⟨?_, by simp, by simp⟩
    rw [State.modBelv, State.die_modDie_self]
    exact List.mem_append_right _ (List.mem_singleton_self _)
  have hkept : PairsKept u (if 2 ≤ ((u.die d).belv.modl m).fails then u.reportMod d m else u) :=
    .ite ((PairsKept.refl u).reportMod d m) (.refl u)
  exact ⟨hkept.adopt d ▸ hu.1, hkept.slots.trans hu.2.1, hkept.feram.trans hu.2.2⟩

/-- A pair outside its limits is dropped with its event. -/
theorem State.calibrate_outside (s : State) (d m : Nat) {zs fs : Int} (h : ¬ pairOk zs fs) :
    PairsKept s (s.calibrate d m zs fs) ∧ (s.calibrate d m zs fs).evtBit (pageNo (belvB d)) 8 = true := by
  unfold State.calibrate
  extract_lets x ok ppm drift far u
  have hok : ¬ ok = true := by simpa [ok, pairOk] using h
  have hu : PairsKept s u ∧ u.evtBit (pageNo (belvB d)) 8 = true := by
    simp only [u]
    rw [if_neg hok]
    exact ⟨((PairsKept.refl s).modMod d m _).evtBelv d [8], State.evtBit_evt _ _ 8 (by decide)⟩
  have hkept : PairsKept u (if 2 ≤ ((u.die d).belv.modl m).fails then u.reportMod d m else u) :=
    .ite ((PairsKept.refl u).reportMod d m) (.refl u)
  exact ⟨hu.1.trans hkept, hkept.evt _ _ hu.2⟩

@[simp] theorem State.calibrate_feram (s : State) (d m : Nat) (zs fs : Int) : (s.calibrate d m zs fs).feram = s.feram := by
  by_cases h : pairOk zs fs
  · exact (s.calibrate_within d m h).2.2
  · exact (s.calibrate_outside d m h).1.feram

/-- The end of the two phases takes the pair; what the rolling step does next leaves the pairs that wait. -/
theorem execSelfCalDone_calibrates {d : Nat} (zs fs : Int) {r : Roll} {s : State} (hroll : (s.die d).belv.roll = some r)
    (hruns : s.runs d = true) (hphase : r.phase = 2) (hdue : r.at_ + 80 * MS ≤ s.now) :
    ∃ u, exec (.selfCalDone d zs fs) s = done s u ∧ PairsKept (s.calibrate d r.mod zs fs) u := by
  refine ⟨_, rfl, ?_⟩
  rw [hroll]
  dsimp only
  rw [if_neg (by simp [hruns, hphase, hdue])]
  split
  · exact .refl _
  · exact .ite (.refl _) (.ite ((PairsKept.refl _).endStep d) ((PairsKept.refl _).modBelv d rfl))

/-! ## Full calibration (R264) -/

/-- The states of a slot in which its die may be calibrated in full: it is not live. -/
def SM.still (x : SM) : Prop := x = .off ∨ x = .empty ∨ x = .cooldown ∨ x = .latched ∨ x = .lockout

theorem SM.still_iff (x : SM) : x.still ↔ (x == .off || x == .empty || x == .cooldown || x == .latched || x == .lockout) = true := by
  simp [SM.still, or_assoc]

/-- With no slot of the die live, a full calibration begins now, and a rolling round ends. -/
theorem State.fullCal_starts {s : State} {d : Nat} (hfull : (s.die d).belv.fullAt = none)
    (hstill : ∀ n ∈ slotsOf d, (s.slot n).st.still) :
    ((s.fullCal d).die d).belv.fullAt = some s.now ∧ ((s.fullCal d).die d).belv.roll = none ∧ (s.fullCal d).slots = s.slots ∧
      (s.fullCal d).regs = s.regs := by
  have hlive : ¬ (slotsOf d).any (fun n => let x := (s.slot n).st
      !(x == .off || x == .empty || x == .cooldown || x == .latched || x == .lockout)) = true := by
    rw [List.any_eq_true]
    rintro ⟨n, hn, hx⟩
    exact absurd ((SM.still_iff _).mp (hstill n hn)) (by simpa using hx)
  unfold State.fullCal
  rw [if_neg (by simp [hfull]), if_neg hlive]
  extract_lets u
  have hu : u.slots = s.slots ∧ u.regs = s.regs ∧ u.now = s.now := by
    simp only [u]
    split
    · split
      · simp
      · simp
    · simp
  obtain ⟨hslots, hregs, hnow⟩ := hu
  rw [State.modBelv, State.die_modDie_self, hnow]
  exact ⟨rfl, rfl, hslots, hregs⟩

/-- With a slot of the die live it is rejected. -/
theorem State.fullCal_rejects {s : State} {d n : Nat} (hfull : (s.die d).belv.fullAt = none) (hn : n ∈ slotsOf d)
    (hlive : ¬ (s.slot n).st.still) : s.fullCal d = s.reject (pageNo (belvB d)) := by
  unfold State.fullCal
  rw [if_neg (by simp [hfull]), if_pos]
  rw [List.any_eq_true]
  exact ⟨n, hn, by simpa using mt (SM.still_iff _).mpr hlive⟩

/-- A write of the calibration's CMD that is taken acts on the state whose page noted the write. -/
theorem execFullCalibration_taken {ini : Ini} {d : Nat} {s : State} (h : s.takes ini (belvB d + 0x444) = true) :
    ∃ pg, exec (.fullCalibration ini d) s = done s (State.fullCal { s with pages := pg } d) := by
  obtain ⟨pg, hw⟩ := s.write_taken ini (belvB d + 0x444) false (fun s => s.fullCal d) h (.inl rfl)
  exact ⟨pg, congrArg (done s) hw⟩

/-- The modulators that start again leave the time of a full calibration. -/
theorem State.startMods_fullAt (s : State) (d : Nat) : ((s.startMods d).die d).belv.fullAt = (s.die d).belv.fullAt := by
  unfold State.startMods
  extract_lets u v w
  have hdies : w.dies = u.dies := by simp [w, v]
  rw [State.die_of_dies (s := u) (by simp [hdies]) d]
  simp only [u, State.modBelv, State.die_modDie_self]

/-- After 106 ms a full calibration is ended, with its event. -/
theorem fullCalibrationDone_ends {d a : Nat} (pairs : List (Int × Int)) {s : State} (hfull : (s.die d).belv.fullAt = some a)
    (hruns : s.runs d = true) (hdue : a + 106 * MS ≤ s.now) :
    ∃ t, exec (.fullCalibrationDone d pairs) s = .next t ∧ (t.die d).belv.fullAt = none ∧ t.evtBit (pageNo (belvB d)) 11 = true ∧
      t.feram = s.feram := by
  show ∃ t, execFullCalibrationDone d pairs s = .next t ∧ _
  unfold execFullCalibrationDone
  rw [hfull]
  dsimp only
  rw [if_neg (by simp [hruns, hdue])]
  generalize hv : s.each _ _ = v
  have hvf : v.feram = s.feram := by
    rw [← hv]
    exact State.each_feram _ _ _ (fun _ _ => State.calibrate_feram ..)
  let ended := v.modBelv d (fun b => { b with fullAt := none })
  let w := ended.evtBelv d [11]
  obtain ⟨t, ht, -, -, hdies, hferam, hevt⟩ := done_frames (s := s) (u := w.startMods d)
  refine ⟨t, ht, ?_, hevt _ 11 ?_, hferam.trans (by simp [w, ended, hvf])⟩
  · rw [State.die_of_dies hdies, State.startMods_fullAt, State.die_of_dies (s := ended) (t := w) (by simp [w]) d]
    simp only [ended, State.modBelv, State.die_modDie_self]
  · exact (State.evtBit_of_pages (s := w) (by simp) _ 11).trans (State.evtBit_evt ended _ 11 (by decide))

/-! ## Rolling calibration (R265, R266) -/

/-- A round on request, where none runs. -/
theorem rollOnce_begins {ini : Ini} {d : Nat} {s : State} (h : s.takes ini (belvB d + 0x444) = true) (hroll : (s.die d).belv.roll = none) :
    ∃ t, exec (.rollOnce ini d) s = .next t ∧ (t.die d).belv.roll = some { once := true, left := s.rollOrder d } ∧ t.slots = s.slots ∧
      t.regs = s.regs := by
  obtain ⟨pg, hw⟩ := s.write_taken ini (belvB d + 0x444) false (fun s => s.rollOnce d) h (.inl rfl)
  let v : State := { s with pages := pg }
  have hround : v.rollOnce d = v.newRound d true := if_neg (by rw [show (v.die d).belv.roll = none from hroll]; simp)
  have hx : exec (.rollOnce ini d) s = done s (v.newRound d true) := congrArg (done s) (hw.trans hround)
  obtain ⟨hslots, hdies, hregs, -⟩ := done_fields (done_next s (v.newRound d true))
  refine ⟨_, hx.trans (done_next _ _), ?_, hslots.trans (by simp [v]), hregs.trans (by simp [v])⟩
  rw [State.die_of_dies hdies, State.newRound, State.modBelv, State.die_modDie_self]
  rfl

/-- A request while a round runs has no effect. -/
theorem rollOnce_ignored {ini : Ini} {d : Nat} {s : State} (h : s.takes ini (belvB d + 0x444) = true) (hroll : (s.die d).belv.roll ≠ none) :
    ∃ t, exec (.rollOnce ini d) s = .next t ∧ Quiet s t := by
  obtain ⟨pg, hw⟩ := s.write_taken ini (belvB d + 0x444) false (fun s => s.rollOnce d) h (.inl rfl)
  exact done_pages s ⟨pg, hw.trans (if_pos (Option.isSome_iff_ne_none.mpr hroll))⟩

section
variable {d m : Nat} {rest : List Nat} {r : Roll} {s : State} (hruns : s.runs d = true) (hswap : (s.die d).belv.swap = none)
  (hqueue : (s.die d).belv.swapQ = []) (hfull : (s.die d).belv.fullAt = none) (hroll : (s.die d).belv.roll = some r) (hphase : r.phase = 0)
  (hgoes : r.once = true ∨ s.rf (belvB d + 0x440) 1 1 = 1) (hleft : r.left = m :: rest)
include hruns hswap hqueue hfull hphase hgoes

/-- The step goes to the next modulator of the round: neither a swap nor a full calibration holds it, and the round goes on. -/
theorem rollingStep_goes :
    ¬ (!s.runs d || (s.die d).belv.swap.isSome || !(s.die d).belv.swapQ.isEmpty || (s.die d).belv.fullAt.isSome) = true ∧
      ¬ (r.phase != 0) = true ∧ ¬ (!r.once && !(s.rf (belvB d + 0x440) 1 1 == 1)) = true := by
  refine ⟨by simp [hruns, hswap, hqueue, hfull], by simp [hphase], ?_⟩
  rcases hgoes with hgo | hgo
  · simp [hgo]
  · simp [hgo]

include hroll hleft

/-- The step on a spare: it is measured at once. -/
theorem execRollingStepStart_spare (hst : s.modState d m = 0) :
    exec (.rollingStepStart d) s =
      done s (s.modBelv d (fun b => { b with roll := some { r with left := rest, mod := m, idx := 34, spare := none, phase := 2, at_ := s.now } })) := by
  obtain ⟨hfree, hbetween, hgo⟩ := rollingStep_goes hruns hswap hqueue hfull hphase hgoes
  show execRollingStepStart d s = _
  unfold execRollingStepStart
  extract_lets cont b u
  have hu : u = s := if_neg (by simp [b, hroll])
  rw [if_neg hfree, hu, hroll]
  dsimp only
  rw [if_neg hbetween, if_neg hgo, hleft]
  dsimp only
  rw [if_pos (by simp [hst])]

/-- The step on a modulator in service: a free spare runs in parallel with it first. -/
theorem execRollingStepStart_serving {sp : Nat} (hst : s.modState d m = 1) (hspare : s.freeSpare d (s.modIdx d m) = some sp) :
    exec (.rollingStepStart d) s =
      done s ((s.modMod d sp (fun x => { x with state := 2 })).modBelv d (fun b =>
        { b with roll := some { r with left := rest, mod := m, idx := s.modIdx d m, spare := some sp, phase := 1, at_ := s.now } })) := by
  obtain ⟨hfree, hbetween, hgo⟩ := rollingStep_goes hruns hswap hqueue hfull hphase hgoes
  show execRollingStepStart d s = _
  unfold execRollingStepStart
  extract_lets cont b u
  have hu : u = s := if_neg (by simp [b, hroll])
  rw [if_neg hfree, hu, hroll]
  dsimp only
  rw [if_neg hbetween, if_neg hgo, hleft]
  dsimp only
  rw [if_neg (by simp [hst]), if_neg (by simp [hst]), hspare]

end

/-- The end of a parallel run asks for the hand-over at the next boundary. -/
theorem execRollingParallelEnd_hands {d : Nat} {r : Roll} {s : State} (hroll : (s.die d).belv.roll = some r) (hruns : s.runs d = true)
    (hhand : r.handing = false)
    (hdue : (r.phase = 1 ∧ r.at_ + 10 * MS ≤ s.now) ∨ (r.phase = 4 ∧ r.at_ + Nat.max (2 * MS) (5 * s.period) ≤ s.now)) :
    exec (.rollingParallelEnd d) s = done s (s.modBelv d (fun b => { b with roll := some { r with handing := true } })) := by
  show execRollingParallelEnd d s = _
  unfold execRollingParallelEnd
  rw [hroll]
  dsimp only
  obtain ⟨hphase, hat⟩ | ⟨hphase, hat⟩ := hdue
  · rw [if_pos (by simp [hruns, hphase, hhand, hat])]
  · rw [if_pos (by simp only [hruns, hphase, hhand]; simpa using hat)]

end Sys2Proof.Machine
end

section
/-! PROOFS. The pairs that come into force at a frame boundary, and full and rolling calibration (O43). -/
namespace Sys2Proof.Machine

/-! ## What of a die a boundary needs to adopt its pairs (R245) -/

/-- What of a die tells whether and how it adopts at a frame boundary: that it serves, the pairs in force and those that wait, the swap
that runs and those that wait, and the switch of its reference. -/
structure Adoption where
  mode : DieMode
  present : Bool
  pairs : Nat → Int × Int
  adopt : List (Nat × Int × Int)
  swap : Option SwapRun
  swapQ : List Nat
  refSwap : Bool

/-- The pair in force of a modulator. -/
def Belv.pair (b : Belv) (m : Nat) : Int × Int := ((b.modl m).zs, (b.modl m).fs)

def Die.adoption (x : Die) : Adoption := ⟨x.mode, x.present, x.belv.pair, x.belv.adopt, x.belv.swap, x.belv.swapQ, x.pow.refSwap⟩

/-- The same of a die of a map. -/
def adoptionAt (m : List (Nat × Die)) (d : Nat) : Adoption := (mget {} m d).adoption

@[simp] theorem adoptionAt_ite (c : Prop) [Decidable c] (a b : List (Nat × Die)) (d : Nat) :
    adoptionAt (if c then a else b) d = if c then adoptionAt a d else adoptionAt b d := by split <;> rfl

/-- A change of a die that leaves this of it, or of another die. -/
theorem State.modDie_adoptionAt_of (s : State) (e d : Nat) (g : Die → Die) (h : e = d → (g (s.die d)).adoption = (s.die d).adoption) :
    adoptionAt (s.modDie e g).dies d = adoptionAt s.dies d := by
  simp only [adoptionAt, State.modDie, State.setDie_dies, mget_mset]
  split
  case isTrue he => subst he; exact h rfl
  case isFalse => rfl

/-- Pairs are read from the modulators. -/
theorem Belv.pair_of_mods {a b : Belv} (h : a.mods = b.mods) : a.pair = b.pair := by
  funext m
  simp only [Belv.pair, Belv.modl, h]

/-- The same, field by field. -/
@[simp] theorem State.modDie_adoptionAt (s : State) (e d : Nat) (g : Die → Die) (hmode : e = d → (g (s.die d)).mode = (s.die d).mode)
    (hpresent : e = d → (g (s.die d)).present = (s.die d).present) (hmods : e = d → (g (s.die d)).belv.mods = (s.die d).belv.mods)
    (hadopt : e = d → (g (s.die d)).belv.adopt = (s.die d).belv.adopt) (hswap : e = d → (g (s.die d)).belv.swap = (s.die d).belv.swap)
    (hqueue : e = d → (g (s.die d)).belv.swapQ = (s.die d).belv.swapQ) (href : e = d → (g (s.die d)).pow.refSwap = (s.die d).pow.refSwap) :
    adoptionAt (s.modDie e g).dies d = adoptionAt s.dies d :=
  s.modDie_adoptionAt_of e d g fun he => by
    simp only [Die.adoption, hmode he, hpresent he, Belv.pair_of_mods (hmods he), hadopt he, hswap he, hqueue he, href he]

@[simp] theorem State.each_adoptionAt {α : Type} (s : State) (l : List α) (g : α → State → State) (d : Nat)
    (h : ∀ x s, adoptionAt (g x s).dies d = adoptionAt s.dies d) : adoptionAt (s.each l g).dies d = adoptionAt s.dies d := by
  induction l generalizing s with
  | nil => rfl
  | cons x l ih => exact (ih (g x s)).trans (h x s)

theorem State.adoptionAt_withPkg (s : State) (p : Pkg) (d : Nat) : adoptionAt { s with pkg := p }.dies d = adoptionAt s.dies d := rfl

/-! ## Records, the mode, the stream (R255, R414, R446) -/

@[simp] theorem State.logPut_adoptionAt (s : State) (e : Nat) (r : Rec) (d : Nat) :
    adoptionAt (s.logPut e r).dies d = adoptionAt s.dies d := by
  simp [State.logPut]

@[simp] theorem State.logFlush_adoptionAt (s : State) (e d : Nat) : adoptionAt (s.logFlush e).dies d = adoptionAt s.dies d := by
  unfold State.logFlush
  split
  · rfl
  · simp

@[simp] theorem State.logLead_adoptionAt (s : State) (block inst code : Nat) (data : List Nat) (d : Nat) :
    adoptionAt (s.logLead block inst code data).dies d = adoptionAt s.dies d := by
  simp only [State.logLead, State.log, State.logAdd]
  split
  · split
    · simp
    · simp
  · simp

@[simp] theorem State.pumpCheck_adoptionAt (s : State) (e d : Nat) : adoptionAt (s.pumpCheck e).dies d = adoptionAt s.dies d := by
  simp [State.pumpCheck]

@[simp] theorem State.loadDeglitch_adoptionAt (s : State) (n v d : Nat) : adoptionAt (s.loadDeglitch n v).dies d = adoptionAt s.dies d := by
  simp [State.loadDeglitch]

@[simp] theorem State.loadPreset_adoptionAt (s : State) (m : Nat) (skip : Nat → Bool) (d : Nat) :
    adoptionAt (s.loadPreset m skip).dies d = adoptionAt s.dies d := by
  simp [State.loadPreset, State.flushAll]

@[simp] theorem State.applyMode_adoptionAt (s : State) (d : Nat) : adoptionAt s.applyMode.dies d = adoptionAt s.dies d := by
  generalize ht : s.applyMode = t
  unfold State.applyMode at ht
  split at ht
  · rw [ht]
  · dsimp only at ht
    rw [← ht, (State.thEdges_frame ..).2.2.2.2.1, State.each_adoptionAt _ _ _ _ (fun _ _ => State.pumpCheck_adoptionAt ..),
      State.logLead_adoptionAt, (State.evt_frame ..).2.2.2.2.2.1]
    exact (State.adoptionAt_withPkg (s.loadPreset _ _) _ d).trans (s.loadPreset_adoptionAt ..)

@[simp] theorem State.takeSrc_adoptionAt (s : State) (k : Nat) (port : Bool) (d : Nat) :
    adoptionAt (s.takeSrc k port).1.dies d = adoptionAt s.dies d := by
  unfold State.takeSrc
  dsimp only
  split
  · rfl
  · exact State.modDie_adoptionAt _ _ _ _ (fun _ => rfl) (fun _ => rfl) (fun _ => rfl) (fun _ => rfl) (fun _ => rfl) (fun _ => rfl) (fun _ => rfl)

@[simp] theorem State.streamPull_adoptionAt (fuel : Nat) (s : State) (d : Nat) :
    adoptionAt (s.streamPull fuel).dies d = adoptionAt s.dies d := by
  induction fuel generalizing s with
  | zero => rfl
  | succ fuel ih =>
    unfold State.streamPull
    extract_lets dest
    split
    · rfl
    · split
      · rfl
      · simp [ih]

/-! ## The results of a frame (R249, R250) -/

@[simp] theorem State.pushQueue_adoptionAt (s : State) (e : Nat) (x : BitVec 64) (d : Nat) :
    adoptionAt (s.pushQueue e x).dies d = adoptionAt s.dies d := by
  unfold State.pushQueue
  dsimp only
  split
  · simp
  · simp

@[simp] theorem State.meterCh_adoptionAt (s : State) (e i : Nat) (volt : Bool) (x : Samp) (deliver : Bool) (d : Nat) :
    adoptionAt (s.meterCh e i volt x deliver).dies d = adoptionAt s.dies d := by
  simp [State.meterCh, State.flagRegs]

@[simp] theorem State.meterPower_adoptionAt (s : State) (n d : Nat) : adoptionAt (s.meterPower n).dies d = adoptionAt s.dies d := by
  simp [State.meterPower]

@[simp] theorem State.meterBus_adoptionAt (s : State) (e : Nat) (x : Samp) (deliver : Bool) (d : Nat) :
    adoptionAt (s.meterBus e x deliver).dies d = adoptionAt s.dies d := by
  simp [State.meterBus, State.flagRegs]

@[simp] theorem State.dieResults_adoptionAt (s : State) (r : DieSamp) (deliver : Bool) (d : Nat) :
    adoptionAt (s.dieResults r deliver).dies d = adoptionAt s.dies d := by
  simp [State.dieResults]

@[simp] theorem State.endFrame_adoptionAt (s : State) (rs : List DieSamp) (d : Nat) :
    adoptionAt (s.endFrame rs).dies d = adoptionAt s.dies d := by
  simp [State.endFrame, State.streamRun]

@[simp] theorem State.streamPull_phase (fuel : Nat) (s : State) : (s.streamPull fuel).ident = s.ident ∧ (s.streamPull fuel).pkg = s.pkg := by
  induction fuel generalizing s with
  | zero => exact ⟨rfl, rfl⟩
  | succ fuel ih =>
    unfold State.streamPull
    extract_lets dest
    split
    · exact ⟨rfl, rfl⟩
    · split
      · exact ⟨rfl, rfl⟩
      · simp [ih]

@[simp] theorem State.dieResults_phase (s : State) (r : DieSamp) (deliver : Bool) :
    (s.dieResults r deliver).ident = s.ident ∧ (s.dieResults r deliver).pkg = s.pkg := by
  simp [State.dieResults, State.meterCh, State.meterPower, State.meterBus, State.flagRegs]

/-! ## What else a die takes up (R265, R388, R389) -/

/-- A change of a modulator that leaves its pair leaves every pair of the die. -/
theorem Belv.pair_set (b : Belv) (m : Nat) {g : Modl → Modl} (hg : ∀ x, (g x).zs = x.zs ∧ (g x).fs = x.fs) :
    Belv.pair { b with mods := b.mods.set m (g (b.modl m)) } = b.pair := by
  funext k
  by_cases hk : m = k ∧ m < b.mods.length
  · obtain ⟨rfl, hlt⟩ := hk
    simp [Belv.pair, Belv.modl, hlt, hg]
  · have hget : (b.mods.set m (g (b.modl m))).getD k {} = b.mods.getD k {} := by
      by_cases hm : m = k
      · rw [List.set_eq_of_length_le (Nat.not_lt.mp fun hlt => hk ⟨hm, hlt⟩)]
      · simp [List.getD, List.getElem?_set_ne hm]
    simp only [Belv.pair, Belv.modl] at hget ⊢
    rw [hget]

@[simp] theorem State.modMod_adoptionAt (s : State) (e m : Nat) (g : Modl → Modl) (d : Nat) (hg : ∀ x, (g x).zs = x.zs ∧ (g x).fs = x.fs) :
    adoptionAt (s.modMod e m g).dies d = adoptionAt s.dies d :=
  s.modDie_adoptionAt_of e d _ fun _ => by
    show Adoption.mk _ _ (Belv.pair { (s.die d).belv with mods := (s.die d).belv.mods.set m (g ((s.die d).belv.modl m)) }) _ _ _ _ = _
    rw [Belv.pair_set _ m hg]
    rfl

/-- A change of a die's conversion beside its pairs and its swaps, or of another die. -/
@[simp] theorem State.modBelv_adoptionAt (s : State) (e : Nat) (g : Belv → Belv) (d : Nat)
    (hmods : e = d → (g (s.die d).belv).mods = (s.die d).belv.mods) (hadopt : e = d → (g (s.die d).belv).adopt = (s.die d).belv.adopt)
    (hswap : e = d → (g (s.die d).belv).swap = (s.die d).belv.swap) (hqueue : e = d → (g (s.die d).belv).swapQ = (s.die d).belv.swapQ) :
    adoptionAt (s.modBelv e g).dies d = adoptionAt s.dies d :=
  State.modDie_adoptionAt _ _ _ _ (fun _ => rfl) (fun _ => rfl) hmods hadopt hswap hqueue (fun _ => rfl)

@[simp] theorem State.swap_adoptionAt (s : State) (kind e inst sub failed spare : Nat) (v : Int) (d : Nat) :
    adoptionAt (s.swap kind e inst sub failed spare v).dies d = adoptionAt s.dies d := by
  simp [State.swap, State.nursRec]

@[simp] theorem State.takeOver_adoptionAt (s : State) (e idx m sp : Nat) (diff : Int) (d : Nat) :
    adoptionAt (s.takeOver e idx m sp diff).dies d = adoptionAt s.dies d := by
  simp [State.takeOver]

@[simp] theorem State.endStep_adoptionAt (s : State) (e d : Nat) : adoptionAt (s.endStep e).dies d = adoptionAt s.dies d := by
  unfold State.endStep
  split
  · rfl
  · simp

/-- A swap that begins on another die. -/
theorem State.startSwap_adoptionAt (s : State) {e d : Nat} (m : Nat) (h : e ≠ d) :
    adoptionAt (s.startSwap e m).dies d = adoptionAt s.dies d := by
  unfold State.startSwap
  extract_lets idx b busy u
  split
  · simp [h]
  · split
    · simp
    · split
      · simp [u, State.exhausted, State.nursRec]
      · simp [h]

/-- The hand-overs of a die without a swap, or of another die. -/
theorem State.handOver_adoptionAt (s : State) (e : Nat) (survey : Bool) (d : Nat) (h : e = d → (s.die d).belv.swap = none) :
    adoptionAt (s.handOver e survey).dies d = adoptionAt s.dies d := by
  unfold State.handOver
  extract_lets t
  have ht : adoptionAt t.dies d = adoptionAt s.dies d := by
    simp only [t]
    split
    next r hswap =>
      have hne : e ≠ d := by
        rintro rfl
        simp [h rfl] at hswap
      simp [hne]
    next => rfl
  split
  · simp [ht]
  · exact ht

/-- The reference of a die that does not switch, or of another die. -/
theorem State.refSwitch_adoptionAt (s : State) (e d : Nat) (h : e = d → (s.die d).pow.refSwap = false) :
    adoptionAt (s.refSwitch e).dies d = adoptionAt s.dies d := by
  unfold State.refSwitch
  extract_lets p old new ro rn u
  split
  · rfl
  next hgo =>
    have hne : e ≠ d := by
      rintro rfl
      exact hgo (by simp [p, h rfl])
    simp [State.rollOnce, State.newRound, u, hne]

/-- A die in which no swap waits, or another die. -/
theorem State.nextSwap_adoptionAt (s : State) (e d : Nat) (h : e = d → (s.die d).belv.swapQ = []) :
    adoptionAt (s.nextSwap e).dies d = adoptionAt s.dies d := by
  unfold State.nextSwap
  extract_lets b busy
  split
  next m r hqueue =>
    have hne : e ≠ d := by
      rintro rfl
      simp [b, h rfl] at hqueue
    simp [State.startSwap_adoptionAt _ m hne, hne]
  next => rfl

@[simp] theorem State.openFrame_adoptionAt (s : State) (e d : Nat) : adoptionAt (s.openFrame e).dies d = adoptionAt s.dies d := by
  unfold State.openFrame
  extract_lets b u
  have hu : adoptionAt u.dies d = adoptionAt s.dies d := by
    simp only [u]
    split
    · simp
    · rfl
  simp [hu, State.openStart]

/-! ## The boundary of one die (R245) -/

/-- The pairs of another die stand. -/
theorem State.adoptAll_adoptionAt (s : State) {e d : Nat} (h : e ≠ d) : adoptionAt (s.adoptAll e).dies d = adoptionAt s.dies d := by
  simp [State.adoptAll, State.modMod, h]

/-- The one pair that waits comes into force. -/
theorem State.adoptAll_adopts {s : State} {d m : Nat} {zs fs : Int} (hadopt : (s.die d).belv.adopt = [(m, zs, fs)])
    (hm : m < (s.die d).belv.mods.length) :
    ((s.adoptAll d).die d).belv.pair m = (zs, fs) ∧ ((s.adoptAll d).die d).belv.adopt = [] ∧
      ((s.adoptAll d).die d).belv.swap = (s.die d).belv.swap ∧ ((s.adoptAll d).die d).belv.swapQ = (s.die d).belv.swapQ ∧
      ((s.adoptAll d).die d).pow = (s.die d).pow := by
  unfold State.adoptAll
  rw [if_neg (by simp [hadopt]), hadopt]
  simp [State.each, State.modMod, State.modBelv, Belv.pair, Belv.modl, hm]

/-- The boundary of another die. -/
theorem State.dieBoundary_adoptionAt (s : State) {e d : Nat} (h : e ≠ d) : adoptionAt (s.dieBoundary e).dies d = adoptionAt s.dies d := by
  unfold State.dieBoundary
  extract_lets u v
  have hv : adoptionAt v.dies d = adoptionAt s.dies d := by simp [v, h]
  rw [State.openFrame_adoptionAt, State.nextSwap_adoptionAt _ _ _ (absurd · h), State.refSwitch_adoptionAt _ _ _ (absurd · h),
    State.handOver_adoptionAt _ _ _ _ (absurd · h), State.adoptAll_adoptionAt _ h, hv]

/-- What a die with a waiting pair and no swap or switch holds before its boundary. -/
structure Awaits (d m : Nat) (zs fs : Int) (s : State) : Prop where
  adopt : (s.die d).belv.adopt = [(m, zs, fs)]
  mods : m < (s.die d).belv.mods.length
  swap : (s.die d).belv.swap = none
  swapQ : (s.die d).belv.swapQ = []
  refSwap : (s.die d).pow.refSwap = false

/-- The pair is in force, and none waits. -/
def Adopted (d m : Nat) (zs fs : Int) (s : State) : Prop := (s.die d).belv.pair m = (zs, fs) ∧ (s.die d).belv.adopt = []

theorem Adopted.of_adoptionAt {d m : Nat} {zs fs : Int} {s t : State} (ha : adoptionAt t.dies d = adoptionAt s.dies d)
    (h : Adopted d m zs fs s) : Adopted d m zs fs t :=
  ⟨(congrFun (congrArg Adoption.pairs ha) m).trans h.1, (congrArg Adoption.adopt ha).trans h.2⟩

theorem Awaits.of_adoptionAt {d m : Nat} {zs fs : Int} {s t : State} (ha : adoptionAt t.dies d = adoptionAt s.dies d)
    (hl : dieTables t.dies = dieTables s.dies) (h : Awaits d m zs fs s) : Awaits d m zs fs t where
  adopt := (congrArg Adoption.adopt ha).trans h.adopt
  mods := lt_of_lt_of_eq h.mods (congrArg Prod.snd (congrFun hl d)).symm
  swap := (congrArg Adoption.swap ha).trans h.swap
  swapQ := (congrArg Adoption.swapQ ha).trans h.swapQ
  refSwap := (congrArg Adoption.refSwap ha).trans h.refSwap

theorem swapQ_of_adoptionAt {d : Nat} {s t : State} (ha : adoptionAt t.dies d = adoptionAt s.dies d) :
    (t.die d).belv.swapQ = (s.die d).belv.swapQ := congrArg Adoption.swapQ ha

theorem refSwap_of_adoptionAt {d : Nat} {s t : State} (ha : adoptionAt t.dies d = adoptionAt s.dies d) :
    (t.die d).pow.refSwap = (s.die d).pow.refSwap := congrArg Adoption.refSwap ha

/-- Its boundary brings the pair into force. -/
theorem Awaits.dieBoundary {d m : Nat} {zs fs : Int} {s : State} (h : Awaits d m zs fs s) : Adopted d m zs fs (s.dieBoundary d) := by
  unfold State.dieBoundary
  extract_lets u v
  have hv : v.die d = { s.die d with
      belv := { (s.die d).belv with userNow := u }, eng := { (s.die d).eng with cfgNow := s.reg (contB d + 0x40) } } := s.die_modDie_self ..
  obtain ⟨hpair, hnone, hswap, hqueue, hpow⟩ := State.adoptAll_adopts (s := v) (d := d) (m := m) (zs := zs) (fs := fs)
    (by rw [hv]; exact h.adopt) (by rw [hv]; exact h.mods)
  have hhand := State.handOver_adoptionAt (v.adoptAll d) d false d fun _ => by rw [hswap, hv]; exact h.swap
  have href := State.refSwitch_adoptionAt ((v.adoptAll d).handOver d false) d d fun _ => by
    rw [refSwap_of_adoptionAt hhand, hpow, hv]
    exact h.refSwap
  have hnext := State.nextSwap_adoptionAt (((v.adoptAll d).handOver d false).refSwitch d) d d fun _ => by
    rw [swapQ_of_adoptionAt (href.trans hhand), hqueue, hv]
    exact h.swapQ
  exact .of_adoptionAt ((State.openFrame_adoptionAt ..).trans (hnext.trans (href.trans hhand))) ⟨hpair, hnone⟩

/-! ## The boundary of the package (R216, R245) -/

/-- The boundaries of other dies. -/
theorem State.each_dieBoundary_adoptionAt (s : State) {l : List Nat} {d : Nat} (hd : d ∉ l) :
    adoptionAt (s.each l (fun d s => s.dieBoundary d)).dies d = adoptionAt s.dies d := by
  induction l generalizing s with
  | nil => rfl
  | cons e l ih =>
    obtain ⟨hne, hd⟩ := not_or.mp (mt List.mem_cons.mpr hd)
    exact (ih (s.dieBoundary e) hd).trans (s.dieBoundary_adoptionAt (Ne.symm hne))

/-- The boundaries of the dies, each once, bring the pair into force. -/
theorem Awaits.each_dieBoundary {d m : Nat} {zs fs : Int} {l : List Nat} (hd : d ∈ l) (hone : l.Nodup) {s : State}
    (h : Awaits d m zs fs s) : Adopted d m zs fs (s.each l (fun d s => s.dieBoundary d)) := by
  induction l generalizing s with
  | nil => cases hd
  | cons e l ih =>
    obtain ⟨hnotin, hone⟩ := List.nodup_cons.mp hone
    by_cases he : e = d
    · subst he
      exact .of_adoptionAt ((s.dieBoundary e).each_dieBoundary_adoptionAt hnotin) h.dieBoundary
    · exact ih ((List.mem_cons.mp hd).resolve_left (Ne.symm he)) hone
        (h.of_adoptionAt (s.dieBoundary_adoptionAt he) (s.dieBoundary_dieTables e))

/-- A change of the mode touches neither the factory's data nor the power state. -/
theorem State.applyMode_phase (s : State) : s.applyMode.ident = s.ident ∧ s.applyMode.pkg.phase = s.pkg.phase := by
  unfold State.applyMode
  split
  · exact ⟨rfl, rfl⟩
  · simp [State.loadPreset, State.flushAll, State.loadDeglitch]

/-- A frame that begins ends with the boundaries of the dies that serve. -/
theorem State.beginFrame_boundaries (s : State) (src base : Nat) (reph trim sel : Bool) (d : Nat) :
    ∃ v : State, s.beginFrame src base reph trim sel = v.each (v.presentDies.filter v.runs) (fun d s => s.dieBoundary d) ∧
      v.ident = s.ident ∧ v.pkg.phase = s.pkg.phase ∧ adoptionAt v.dies d = adoptionAt s.dies d ∧ dieTables v.dies = dieTables s.dies := by
  unfold State.beginFrame
  extract_lets s1 fc f osr idle num picked source s2 s3 s4
  have h4 : s4.ident = s1.ident ∧ s4.pkg = s1.pkg ∧ s4.dies = s1.dies := by simp [s4, s3, s2, State.ftWrite]
  obtain ⟨hident, hpkg, hdies⟩ := h4
  exact ⟨s4, rfl, hident.trans s.applyMode_phase.1, by rw [hpkg, s.applyMode_phase.2], by rw [hdies]; exact s.applyMode_adoptionAt d,
    by rw [hdies]; exact s.applyMode_dieTables⟩

/-- The end of a frame touches neither the factory's data nor the package. -/
theorem State.endFrame_phase (s : State) (rs : List DieSamp) : (s.endFrame rs).ident = s.ident ∧ (s.endFrame rs).pkg = s.pkg := by
  simp [State.endFrame, State.streamRun]

/-- The boundary of a running sequence brings the waiting pair of a die that serves into force. -/
theorem frameBoundary_adopts {d m : Nat} {zs fs : Int} (rs : List DieSamp) {s : State} (hin : s.inRun = true) (hrun : s.frames.run = true)
    (hdue : s.frames.nextAt ≤ s.now) (hd : d ∈ s.presentDies) (hruns : s.runs d = true) (h : Awaits d m zs fs s) :
    ∃ t, exec (.frameBoundary rs) s = .next t ∧ Adopted d m zs fs t := by
  rw [execFrameBoundary_begins rs s hin hrun hdue]
  obtain ⟨v, hbegin, hident, hphase, ha, hl⟩ := (s.endFrame rs).beginFrame_boundaries (if s.frames.started then s.frames.bSrc else 4)
    s.frames.nextAt false s.frames.bTrim (s.frames.bSrc != 0) d
  obtain ⟨hident', hpkg'⟩ := s.endFrame_phase rs
  have hadoption : adoptionAt v.dies d = adoptionAt s.dies d := ha.trans (s.endFrame_adoptionAt rs d)
  have hmode : (v.die d).mode = (s.die d).mode := congrArg Adoption.mode hadoption
  have hpresent : v.present d = s.present d := by
    simp only [State.present, State.fitted, hident, hident', show (v.die d).present = (s.die d).present from congrArg Adoption.present hadoption]
  have hserves : v.runs d = s.runs d := by
    simp only [State.runs, hpresent, hmode, hphase, hpkg']
  have hmem : d ∈ v.presentDies.filter v.runs := by
    obtain ⟨hrange, hpres⟩ := List.mem_filter.mp hd
    exact List.mem_filter.mpr ⟨List.mem_filter.mpr ⟨hrange, hpresent.trans hpres⟩, hserves.trans hruns⟩
  have hnodup : (v.presentDies.filter v.runs).Nodup := (List.nodup_range.filter _).filter _
  have hdone := (h.of_adoptionAt hadoption (hl.trans (s.endFrame_dieTables rs))).each_dieBoundary hmem hnodup
  rw [← hbegin] at hdone
  obtain ⟨t, ht, hdies, -⟩ := done_dies_slots s _
  exact ⟨t, ht, .of_adoptionAt (by rw [hdies]) hdone⟩

/-- Settles O43. A full calibration by `State.fullCal_starts`, the steps of a round by what each `exec` makes of its state, a measured pair by
`State.calibrate_within` and `State.calibrate_outside`, its adoption by `frameBoundary_adopts`. That a full calibration ends a rolling round is
the model's choice (log entry 24). -/
theorem calibration : Obligations.Calibration := by
  refine ⟨fun ini d s htake hfull => ⟨fun hstill => ?_, fun n hn hlive => ?_⟩, fun d a pairs s => fullCalibrationDone_ends pairs,
    fun ini d s htake => ⟨rollOnce_begins htake, rollOnce_ignored htake⟩,
    fun d m rest r s hruns hswap hqueue hfull hroll hphase hgoes hleft => ⟨fun hst => ?_, fun sp hst hspare => ?_⟩,
    fun d r s hroll hruns hhand hdue => ?_, fun d zs fs r s hroll hruns hphase hdue => ⟨fun hzs hfs => ?_, fun hbad => ?_⟩,
    fun d m zs fs rs s hin hrun hdue hd hruns hadopt hm hswap hqueue href => ?_⟩
  · obtain ⟨pg, hx⟩ := execFullCalibration_taken htake
    obtain ⟨hat, hroll, hslots, hregs⟩ := State.fullCal_starts (s := { s with pages := pg }) hfull hstill
    obtain ⟨tslots, tdies, tregs, -⟩ := done_fields (done_next s (State.fullCal { s with pages := pg } d))
    exact ⟨_, hx.trans (done_next _ _), by rw [State.die_of_dies tdies, hat], by rw [State.die_of_dies tdies, hroll], tslots.trans hslots,
      tregs.trans hregs⟩
  · obtain ⟨pg, hx⟩ := execFullCalibration_taken htake
    have hnot : ¬ (s.slot n).st.still := by
      rcases hlive with h | h | h | h | h
      all_goals simp [SM.still, h]
    rw [State.fullCal_rejects (s := { s with pages := pg }) hfull hn hnot] at hx
    rw [hx]
    exact done_reject s pg _
  · rw [execRollingStepStart_spare hruns hswap hqueue hfull hroll hphase hgoes hleft hst]
    exact done_quiet s _ (by simp) (by simp) (by simp)
  · rw [execRollingStepStart_serving hruns hswap hqueue hfull hroll hphase hgoes hleft hst hspare]
    exact done_quiet s _ (by simp) (by simp) (by simp)
  · rw [execRollingParallelEnd_hands hroll hruns hhand hdue]
    exact done_quiet s _ (by simp) (by simp) (by simp)
  · obtain ⟨u, hx, hkept⟩ := execSelfCalDone_calibrates zs fs hroll hruns hphase hdue
    obtain ⟨hmem, hslots, hferam⟩ := s.calibrate_within d r.mod ⟨hzs, hfs⟩
    obtain ⟨t, ht, -, tslots, tdies, tferam, -⟩ := done_frames (s := s) (u := u)
    exact ⟨t, hx.trans ht, by rw [State.die_of_dies tdies, hkept.adopt]; exact hmem, tslots.trans (hkept.slots.trans hslots),
      tferam.trans (hkept.feram.trans hferam)⟩
  · obtain ⟨u, hx, hkept⟩ := execSelfCalDone_calibrates zs fs hroll hruns hphase hdue
    obtain ⟨hdrop, hevt⟩ := s.calibrate_outside d r.mod (not_pairOk hbad)
    have hall := hdrop.trans hkept
    obtain ⟨t, ht, -, tslots, tdies, tferam, tevt⟩ := done_frames (s := s) (u := u)
    exact ⟨t, hx.trans ht, by rw [State.die_of_dies tdies, hall.adopt], tevt _ 8 (hkept.evt _ 8 hevt), tslots.trans hall.slots,
      tferam.trans hall.feram⟩
  · obtain ⟨t, ht, hpair, hnone⟩ := frameBoundary_adopts rs hin hrun hdue hd hruns ⟨hadopt, hm, hswap, hqueue, href⟩
    exact ⟨t, ht, congrArg Prod.fst hpair, congrArg Prod.snd hpair, hnone⟩

end Sys2Proof.Machine
end

section
/-! PROOFS. The tags of the XACT page: issue, completion, timeout and re-send (O53). -/
namespace Sys2Proof.Machine

/-! ## Tags (R344) -/

theorem State.tag_of_tags {s t : State} (h : t.xact.tags = s.xact.tags) (j : Nat) : t.tag j = s.tag j := by
  unfold State.tag
  rw [h]

/-- A number beyond the table reads as a free tag. -/
theorem State.tag_of_ge {s : State} {j : Nat} (h : s.xact.tags.length ≤ j) : s.tag j = {} := by
  unfold State.tag
  rw [List.getD_eq_default _ _ h]

/-- A tag in use lies in the table. -/
theorem State.tag_lt {s : State} {j : Nat} (h : (s.tag j).st ≠ 0) : j < s.xact.tags.length := by
  by_contra hge
  exact h (congrArg Tag.st (State.tag_of_ge (Nat.not_lt.mp hge)))

theorem State.modTag_self {s : State} {k : Nat} (g : Tag → Tag) (h : k < s.xact.tags.length) : (s.modTag k g).tag k = g (s.tag k) := by
  simp [State.tag, State.modTag, State.modXact, h]

theorem State.modTag_ne (s : State) {k j : Nat} (g : Tag → Tag) (h : j ≠ k) : (s.modTag k g).tag j = s.tag j := by
  simp [State.tag, State.modTag, State.modXact, List.getElem?_set_ne h.symm]

/-- A tag that is taken back reads free, even one that the table does not hold. -/
theorem State.modTag_free (s : State) (k : Nat) : ((s.modTag k (fun g => { g with st := 0 })).tag k).st = 0 := by
  by_cases h : k < s.xact.tags.length
  · rw [State.modTag_self _ h]
  · have hlen : (s.modTag k (fun g => { g with st := 0 })).xact.tags.length ≤ k := by simpa [State.modTag, State.modXact] using h
    rw [State.tag_of_ge hlen]

/-- What a completion does: the tag waits for its pop, and the queue gains the completion. -/
theorem State.complete_cpl (s : State) (k status : Nat) (data : List Word) :
    ∃ c, (s.complete k status data).xact.cpl = s.xact.cpl ++ [c] ∧ c.tag = k ∧ c.status = status :=
  ⟨_, by simp [State.complete, State.modXact, State.modTag]; rfl, rfl, rfl⟩

theorem State.complete_tag (s : State) (k status : Nat) (data : List Word) (j : Nat) :
    (s.complete k status data).tag j = (s.modTag k (fun g => { g with st := 2, busyAt := none })).tag j :=
  State.tag_of_tags (by simp [State.complete, State.modXact]) j

/-! ## A request on its way (R344, R347) -/

/-- What is left as it was when a request is sent: the slots and the dies, ISSUE_RESULT and the address latch, and of every tag its epoch and
its retries; a tag in use stays in use. -/
structure TagsSent (s t : State) : Prop where
  slots : t.slots = s.slots
  dies : t.dies = s.dies
  result : t.reg (xactB + 0x4C) = s.reg (xactB + 0x4C)
  addrSet : t.xact.addrSet = s.xact.addrSet
  epoch : ∀ j, (t.tag j).epoch = (s.tag j).epoch
  retries : ∀ j, (t.tag j).retries = (s.tag j).retries
  used : ∀ j, (s.tag j).st ≠ 0 → (t.tag j).st ≠ 0

section
variable {s t u : State}

theorem TagsSent.of_tags (hs : t.slots = s.slots) (hd : t.dies = s.dies) (hr : t.reg (xactB + 0x4C) = s.reg (xactB + 0x4C))
    (ha : t.xact.addrSet = s.xact.addrSet) (ht : t.xact.tags = s.xact.tags) : TagsSent s t where
  slots := hs
  dies := hd
  result := hr
  addrSet := ha
  epoch j := by rw [State.tag_of_tags ht]
  retries j := by rw [State.tag_of_tags ht]
  used j h := by rwa [State.tag_of_tags ht]

theorem TagsSent.trans (h : TagsSent s t) (h' : TagsSent t u) : TagsSent s u where
  slots := h'.slots.trans h.slots
  dies := h'.dies.trans h.dies
  result := h'.result.trans h.result
  addrSet := h'.addrSet.trans h.addrSet
  epoch j := (h'.epoch j).trans (h.epoch j)
  retries j := (h'.retries j).trans (h.retries j)
  used j hu := h'.used j (h.used j hu)

/-- A tag may change its state and the time of its BUSY answer. -/
theorem State.modTag_sent (s : State) (k : Nat) {g : Tag → Tag} (he : ∀ x, (g x).epoch = x.epoch) (hr : ∀ x, (g x).retries = x.retries)
    (hu : ∀ x, x.st ≠ 0 → (g x).st ≠ 0) : TagsSent s (s.modTag k g) := by
  have htag (j : Nat) : (s.modTag k g).tag j = s.tag j ∨ (s.modTag k g).tag j = g (s.tag j) := by
    by_cases hj : j = k
    · subst hj
      by_cases hlt : j < s.xact.tags.length
      · exact .inr (State.modTag_self g hlt)
      · have hge := Nat.not_lt.mp hlt
        refine .inl ?_
        rw [State.tag_of_ge hge, State.tag_of_ge (by simpa [State.modTag, State.modXact] using hge)]
    · exact .inl (s.modTag_ne g hj)
  refine ⟨rfl, rfl, rfl, rfl, fun j => ?_, fun j => ?_, fun j h => ?_⟩
  · rcases htag j with h' | h' <;> rw [h']
    exact he _
  · rcases htag j with h' | h' <;> rw [h']
    exact hr _
  · rcases htag j with h' | h' <;> rw [h']
    exacts [h, hu _ h]

theorem State.complete_sent (s : State) (k status : Nat) (data : List Word) : TagsSent s (s.complete k status data) := by
  refine TagsSent.trans (t := s.modTag k (fun g => { g with st := 2, busyAt := none })) ?_ (.of_tags ?_ ?_ ?_ ?_ ?_)
  · exact s.modTag_sent k (fun _ => rfl) (fun _ => rfl) (fun _ _ => by simp)
  · simp
  · simp
  · exact State.reg_of_regs (by simp) _
  · simp [State.complete, State.modXact, State.modTag]
  · simp [State.complete, State.modXact]

/-- A counter of the XACT page is not ISSUE_RESULT. -/
theorem State.addSat_sent (s : State) {a : Nat} (hi lo n : Nat) (h : xactB + 0x4C ≠ a) : TagsSent s (s.addSat a hi lo n) :=
  .of_tags (by simp) (by simp) (s.reg_setReg_ne _ h) (by simp) (by simp)

theorem State.xactEvt_sent (s : State) (b : Nat) : TagsSent s (s.xactEvt b) :=
  .of_tags (by simp) (by simp) (State.reg_of_regs (by simp) _) (by simp) (by simp)

theorem State.sendFrame_sent (s : State) (f : Frame) : TagsSent s (s.sendFrame f).1 :=
  .of_tags (by simp) (by simp) (State.reg_of_regs (by simp) _) (by simp) (by simp)

theorem State.sendPair_sent (s : State) (k : Nat) (f : Frame) : TagsSent s (s.sendPair k f) :=
  .of_tags (by simp) (by simp) (State.reg_of_regs (by simp) _) (by simp) (by simp)

theorem State.response_sent (s : State) (f : Frame) : TagsSent s (s.response f) := by
  unfold State.response
  extract_lets g
  split
  · exact (s.addSat_sent _ _ _ (by decide)).trans (State.xactEvt_sent _ _)
  · split
    · exact (s.addSat_sent _ _ _ (by decide)).trans (State.modTag_sent _ _ (fun _ => rfl) (fun _ => rfl) (fun _ h => h))
    · exact s.complete_sent _ _ _

theorem State.respond_sent (s : State) (f : Frame) (status : Nat) (payload : List Nat) : TagsSent s (s.respond f status payload) := by
  unfold State.respond
  split
  · exact s.response_sent _
  · exact s.sendFrame_sent _

/-- The request of a tag leaves, is served by the part itself, or completes; the tag stays in use. -/
theorem State.tagSend_sent (s : State) (k : Nat) : TagsSent s (s.tagSend k) := by
  unfold State.tagSend
  extract_lets g f r
  split
  · exact s.complete_sent _ _ _
  · split
    · split
      · exact ((s.addSat_sent _ _ _ (by decide)).trans (State.xactEvt_sent _ _)).trans (State.respond_sent _ _ _ _)
      · exact .of_tags rfl rfl rfl rfl rfl
    · split
      · split
        · exact s.sendPair_sent _ _
        · split
          · exact s.sendPair_sent _ _
          · exact s.complete_sent _ _ _
      · split
        · exact s.sendFrame_sent f
        · exact s.complete_sent _ _ _

end

/-! ## Issue (R344) -/

/-- A write of ISSUE is refused for its operation, for its range, or without an address. -/
theorem State.issueWrite_refused {s : State} {v : Word}
    (h : fld v 31 30 = 0 ∨ fld v 31 30 = 3 ∨ badRange (s.rf (xactB + 0x44) 23 0 / 4 * 4) (fld v 22 16) = true ∨ s.xact.addrSet = false) :
    s.issueWrite v = s.reject (pageNo xactB) := by
  unfold State.issueWrite
  dsimp only
  refine if_pos ?_
  rcases h with h | h | h | h <;> simp [h]

/-- What a READ that is issued may not break: its operation, its range, and an address that has been written; it has no broadcast form. -/
structure ReadIssue (s : State) (v : Word) : Prop where
  op : fld v 31 30 = 1
  single : s.rf (xactB + 0x40) 31 31 = 0
  range : badRange (s.rf (xactB + 0x44) 23 0 / 4 * 4) (fld v 22 16) = false
  addr : s.xact.addrSet = true

/-- The tag of a READ as it is issued. -/
def State.readTag (s : State) (v : Word) (g : Tag) : Tag :=
  { g with
    st := 1, epoch := (g.epoch + 1) % 4, wr := false, bcast := false, dest := s.rf (xactB + 0x40) 13 0
    addr := s.rf (xactB + 0x44) 23 0 / 4 * 4, words := fld v 22 16, user := fld v 7 0, data := [], sentAt := s.now, busyAt := none
    retries := 0, lost := false }

/-- The state in which a READ is sent under a tag: the tag is taken, shown in ISSUE_RESULT, and the address is used up. -/
def State.issued (s : State) (v : Word) (k : Nat) : State :=
  ((State.modTag { s with free := s.free + 1 } k (s.readTag v)).modXact (fun x => { x with addrSet := false })).setReg (xactB + 0x4C)
    (mkWord [(0, k), (31, 1)])

/-- The state in which a READ is sent differs in its tags from the one before in the tag that is taken. -/
theorem State.issued_xact (s : State) (v : Word) (k : Nat) :
    (s.issued v k).xact = { s.xact with tags := s.xact.tags.set k (s.readTag v (s.tag k)), addrSet := false } := by
  simp [State.issued, State.modTag, State.modXact, State.tag]

theorem State.issued_frame (s : State) (v : Word) (k : Nat) : (s.issued v k).slots = s.slots ∧ (s.issued v k).dies = s.dies := by
  simp [State.issued]

theorem State.issued_tag {s : State} (v : Word) {k : Nat} (h : k < s.xact.tags.length) : (s.issued v k).tag k = s.readTag v (s.tag k) := by
  simp [State.tag, State.issued_xact, h]

theorem State.mem_freeTags {s : State} {k : Nat} : k ∈ s.freeTags ↔ k < 64 ∧ (s.tag k).st = 0 := by
  simp [State.freeTags]

theorem State.issueWrite_read {s : State} {v : Word} (h : ReadIssue s v) (hfree : s.freeTags ≠ []) :
    ∃ k ∈ s.freeTags, s.issueWrite v = (s.issued v k).tagSend k := by
  have hlt : Config.freeWord s.free % s.freeTags.length < s.freeTags.length := Nat.mod_lt _ (List.length_pos_of_ne_nil hfree)
  refine ⟨s.freeTags.getD (Config.freeWord s.free % s.freeTags.length) 0, ?_, ?_⟩
  · rw [List.getD_eq_getElem _ _ hlt]
    exact List.getElem_mem hlt
  · simp [State.issueWrite, h.op, h.single, h.range, h.addr, hfree, State.issued]
    rfl

theorem State.issueWrite_noTag {s : State} {v : Word} (h : ReadIssue s v) (hfree : s.freeTags = []) :
    s.issueWrite v = (s.setReg (xactB + 0x4C) 0).xactEvt 1 := by
  simp [State.issueWrite, h.op, h.single, h.range, h.addr, hfree]

/-- A write of ISSUE that the page takes acts on the state whose page noted the write. -/
theorem execIssue_taken {ini : Ini} (v : Word) {s : State} (h : s.takes ini (xactB + 0x48) = true) :
    ∃ pg, exec (.issue ini v) s = done s (State.issueWrite { s with pages := pg } v) := by
  obtain ⟨pg, hw⟩ := s.write_taken ini (xactB + 0x48) false (·.issueWrite v) h (.inl rfl)
  exact ⟨pg, congrArg (done s) hw⟩

theorem issue_takes {ini : Ini} {v : Word} {s : State} (ht : s.takes ini (xactB + 0x48) = true) (h : ReadIssue s v)
    (hlen : s.xact.tags.length = 64) (hfree : s.freeTags ≠ []) :
    ∃ t k, exec (.issue ini v) s = .next t ∧ (s.tag k).st = 0 ∧ (t.tag k).st ≠ 0 ∧ (t.tag k).epoch = ((s.tag k).epoch + 1) % 4 ∧
      t.reg (xactB + 0x4C) = mkWord [(0, k), (31, 1)] ∧ t.xact.addrSet = false ∧ t.slots = s.slots ∧ t.dies = s.dies := by
  obtain ⟨pg, hx⟩ := execIssue_taken v ht
  obtain ⟨k, hk, hw⟩ := State.issueWrite_read (s := { s with pages := pg }) ⟨h.op, h.single, h.range, h.addr⟩ hfree
  obtain ⟨hk64, hkfree⟩ := State.mem_freeTags.mp hk
  rw [hw] at hx
  have htag := State.issued_tag (s := { s with pages := pg }) v (hlen ▸ hk64 : k < s.xact.tags.length)
  have hsent := (State.issued { s with pages := pg } v k).tagSend_sent k
  obtain ⟨hslots, hdies, hregs, -, -, -, hxact, -⟩ := done_fields (done_next s ((State.issued { s with pages := pg } v k).tagSend k))
  have htags := State.tag_of_tags (congrArg Xact.tags hxact) k
  refine ⟨_, k, hx.trans (done_next _ _), hkfree, ?_, ?_, ?_, ?_,
    hslots.trans (hsent.slots.trans (State.issued_frame ..).1), hdies.trans (hsent.dies.trans (State.issued_frame ..).2)⟩
  · rw [htags]
    exact hsent.used k (by rw [htag]; exact Nat.one_ne_zero)
  · rw [htags, hsent.epoch k, htag]
    rfl
  · rw [State.reg_of_regs hregs, hsent.result]
    exact State.reg_setReg_self ..
  · rw [hxact, hsent.addrSet, State.issued_xact]

theorem issue_finds_no_tag {ini : Ini} {v : Word} {s : State} (ht : s.takes ini (xactB + 0x48) = true) (h : ReadIssue s v)
    (hfree : s.freeTags = []) :
    ∃ t, exec (.issue ini v) s = .next t ∧ Quiet (s.setReg (xactB + 0x4C) 0) t ∧ t.evtBit (pageNo xactB) 1 = true := by
  obtain ⟨pg, hx⟩ := execIssue_taken v ht
  rw [State.issueWrite_noTag (s := { s with pages := pg }) ⟨h.op, h.single, h.range, h.addr⟩ hfree] at hx
  obtain ⟨t, hd, hq⟩ := done_quiet s ((State.setReg { s with pages := pg } (xactB + 0x4C) 0).xactEvt 1) (by simp) (by simp) (by simp)
  exact ⟨t, hx.trans hd, Quiet.of_pages hq, done_keeps_bit hd _ 1 (State.evtBit_evt _ (pageNo xactB) 1 (by decide))⟩

theorem issue_is_refused {ini : Ini} {v : Word} {s : State} (ht : s.takes ini (xactB + 0x48) = true)
    (h : fld v 31 30 = 0 ∨ fld v 31 30 = 3 ∨ badRange (s.rf (xactB + 0x44) 23 0 / 4 * 4) (fld v 22 16) = true ∨ s.xact.addrSet = false) :
    ∃ t, exec (.issue ini v) s = .next t ∧ Quiet s t ∧ t.evtBit (pageNo xactB) 31 = true := by
  obtain ⟨pg, hx⟩ := execIssue_taken v ht
  rw [State.issueWrite_refused (s := { s with pages := pg }) h] at hx
  obtain ⟨t, hd, hq⟩ := done_reject s pg (pageNo xactB)
  exact ⟨t, hx.trans hd, hq⟩

/-! ## Completion (R345) -/

@[simp] theorem State.captureCpl_frame (s : State) (ini : Ini) (hi : Word) (data : List Word) :
    (s.captureCpl ini hi data).slots = s.slots ∧ (s.captureCpl ini hi data).dies = s.dies ∧ (s.captureCpl ini hi data).regs = s.regs ∧
      (s.captureCpl ini hi data).xact = s.xact := by
  simp [State.captureCpl]

theorem execCplPop_served {s : State} (ini : Ini) (hs : s.serving = true) (hr : s.refusal (xactB + 0x60) = 0) :
    exec (.cplPop ini) s = done s (s.cplPop ini) :=
  congrArg (done s) (s.readAt_served ini _ hs hr)

/-- The state in which the head completion has left the queue and its tag is free. -/
def State.cplFreed (s : State) (c : Cpl) (r : List Cpl) : State :=
  (s.modXact (fun x => { x with cpl := r })).modTag c.tag (fun g => { g with st := 0 })

@[simp] theorem State.cplFreed_frame (s : State) (c : Cpl) (r : List Cpl) :
    (s.cplFreed c r).slots = s.slots ∧ (s.cplFreed c r).dies = s.dies ∧ (s.cplFreed c r).regs = s.regs ∧ (s.cplFreed c r).xact.cpl = r ∧
      (s.cplFreed c r).xact.tq = s.xact.tq ∧ (s.cplFreed c r).xact.recent = s.xact.recent := by
  simp [State.cplFreed, State.modTag, State.modXact]

theorem State.cplPop_cons {s : State} (ini : Ini) {c : Cpl} {r : List Cpl} (h : s.xact.cpl = c :: r) :
    s.cplPop ini = ((s.cplFreed c r).captureCpl ini (mkWord [(0, c.dest), (24, sat 255 c.retries)]) c.data).answer c.lo := by
  simp [State.cplPop, h, State.cplFreed]

theorem State.cplPop_nil {s : State} (ini : Ini) (h : s.xact.cpl = []) :
    s.cplPop ini = ((s.captureCpl ini 0 []).xactEvt 4).answer 0 := by
  simp [State.cplPop, h]

/-- The completion at the head of the queue is answered, and its tag is free. -/
theorem cplPop_takes {s : State} (ini : Ini) (hs : s.serving = true) (hr : s.refusal (xactB + 0x60) = 0) {c : Cpl} {r : List Cpl}
    (h : s.xact.cpl = c :: r) :
    ∃ t, exec (.cplPop ini) s = .next t ∧ t.xact.cpl = r ∧ (t.tag c.tag).st = 0 ∧ t.rsp = [c.lo] ∧ t.slots = s.slots ∧ t.dies = s.dies ∧
      t.regs = s.regs := by
  have hpop := State.cplPop_cons ini h
  obtain ⟨hslots, hdies, hregs, -, -, -, hxact, -, -, -, -, -, -, -, -, -, hrsp, -⟩ := done_fields (done_next s (s.cplPop ini))
  have hkeep : (s.cplPop ini).xact = (s.cplFreed c r).xact := by simp [hpop]
  refine ⟨_, (execCplPop_served ini hs hr).trans (done_next _ _), ?_, ?_, hrsp.trans (congrArg State.rsp hpop), hslots.trans (by simp [hpop]),
    hdies.trans (by simp [hpop]), hregs.trans (by simp [hpop])⟩
  · rw [hxact, hkeep]
    simp
  · rw [State.tag_of_tags (congrArg Xact.tags (hxact.trans hkeep))]
    exact State.modTag_free ..

/-- An empty completion queue answers 0 with its event. -/
theorem cplPop_finds_nothing {s : State} (ini : Ini) (hs : s.serving = true) (hr : s.refusal (xactB + 0x60) = 0) (h : s.xact.cpl = []) :
    ∃ t, exec (.cplPop ini) s = .next t ∧ t.rsp = [0] ∧ t.evtBit (pageNo xactB) 4 = true ∧ t.xact = s.xact ∧ t.slots = s.slots ∧
      t.dies = s.dies ∧ t.regs = s.regs := by
  have hpop := State.cplPop_nil ini h
  obtain ⟨hslots, hdies, hregs, -, -, -, hxact, -, -, -, -, -, -, -, -, -, hrsp, -⟩ := done_fields (done_next s (s.cplPop ini))
  have hbit : (s.cplPop ini).evtBit (pageNo xactB) 4 = true := by
    rw [hpop, State.evtBit_of_pages (State.answer_pages ..)]
    exact State.evtBit_evt (s.captureCpl ini 0 []) (pageNo xactB) 4 (by decide)
  refine ⟨_, (execCplPop_served ini hs hr).trans (done_next _ _), ?_, done_keeps_bit (done_next _ _) _ 4 hbit, ?_, ?_, ?_, ?_⟩
  · exact hrsp.trans (congrArg State.rsp hpop)
  · exact hxact.trans (by simp [hpop])
  · exact hslots.trans (by simp [hpop])
  · exact hdies.trans (by simp [hpop])
  · exact hregs.trans (by simp [hpop])

/-! ## Timeout and re-send (R346, R347) -/

/-- A request without a response within TIMEOUT completes, and is counted. -/
theorem xactTimeout_completes {k : Nat} {s : State} (hs : s.serving = true) (hst : (s.tag k).st = 1)
    (hdue : (s.tag k).sentAt + s.rf (xactB + 0x54) 19 0 * US ≤ s.now) :
    ∃ t c, exec (.xactTimeout k) s = .next t ∧ t.xact.cpl = s.xact.cpl ++ [c] ∧ c.tag = k ∧ c.status = 6 ∧ (t.tag k).st = 2 ∧
      t.rf (xactB + 0x68) 15 0 = sat 65535 (s.rf (xactB + 0x68) 15 0 + 1) ∧ t.slots = s.slots ∧ t.dies = s.dies := by
  have hx : exec (.xactTimeout k) s = done s (((s.complete k 6 []).addSat (xactB + 0x68) 15 0 1).xactEvt 2) := by
    show execXactTimeout k s = _
    simp [execXactTimeout, hs, hst, hdue]
  obtain ⟨c, hcpl, htag, hstatus⟩ := s.complete_cpl k 6 []
  obtain ⟨hslots, hdies, hregs, -, -, -, hxact, -⟩ := done_fields (done_next s (((s.complete k 6 []).addSat (xactB + 0x68) 15 0 1).xactEvt 2))
  have hkeep : (((s.complete k 6 []).addSat (xactB + 0x68) 15 0 1).xactEvt 2).xact = (s.complete k 6 []).xact := by simp
  have hlt : k < s.xact.tags.length := State.tag_lt (by simp [hst])
  refine ⟨_, c, hx.trans (done_next _ _), ?_, htag, hstatus, ?_, ?_, hslots.trans (by simp), hdies.trans (by simp)⟩
  · rw [hxact, hkeep, hcpl]
  · rw [State.tag_of_tags (congrArg Xact.tags (hxact.trans hkeep)), s.complete_tag, State.modTag_self _ hlt]
  · have hcount : (((s.complete k 6 []).addSat (xactB + 0x68) 15 0 1).xactEvt 2).rf (xactB + 0x68) 15 0 =
        ((s.complete k 6 []).addSat (xactB + 0x68) 15 0 1).rf (xactB + 0x68) 15 0 :=
      congrArg (fld · 15 0) (State.reg_of_regs (by simp) _)
    have hreg : (s.complete k 6 []).reg (xactB + 0x68) = s.reg (xactB + 0x68) := State.reg_of_regs (by simp) _
    calc _ = (((s.complete k 6 []).addSat (xactB + 0x68) 15 0 1).xactEvt 2).rf (xactB + 0x68) 15 0 :=
          congrArg (fld · 15 0) (State.reg_of_regs hregs _)
      _ = sat 65535 ((s.complete k 6 []).rf (xactB + 0x68) 15 0 + 1) := by rw [hcount, State.addSat_rf_half]
      _ = _ := by rw [State.rf, hreg]; rfl

/-- A request that was answered BUSY is sent again, which counts as a retry. -/
theorem busyResend_sends {k a : Nat} {s : State} (hs : s.serving = true) (hst : (s.tag k).st = 1) (hbusy : (s.tag k).busyAt = some a)
    (hdue : a + 5 * US ≤ s.now) :
    ∃ t, exec (.busyResend k) s = .next t ∧ (t.tag k).retries = (s.tag k).retries + 1 ∧ t.slots = s.slots ∧ t.dies = s.dies := by
  have hx : exec (.busyResend k) s =
      done s ((s.modTag k (fun g => { g with busyAt := none, retries := g.retries + 1 })).tagSend k) := by
    show execBusyResend k s = _
    simp [execBusyResend, hs, hst, hbusy, hdue]
  have hsent := (s.modTag k (fun g => { g with busyAt := none, retries := g.retries + 1 })).tagSend_sent k
  have hlt : k < s.xact.tags.length := State.tag_lt (by simp [hst])
  obtain ⟨hslots, hdies, -, -, -, -, hxact, -⟩ :=
    done_fields (done_next s ((s.modTag k (fun g => { g with busyAt := none, retries := g.retries + 1 })).tagSend k))
  refine ⟨_, hx.trans (done_next _ _), ?_, hslots.trans hsent.slots, hdies.trans hsent.dies⟩
  rw [State.tag_of_tags (congrArg Xact.tags hxact), hsent.retries k, State.modTag_self _ hlt]

/-- A write of TMO_CFG with a TIMEOUT in range is taken from the floor up. -/
theorem State.tmoWrite_sets {s : State} {v : Word} (hlo : 10 ≤ fld v 19 0) (hhi : fld v 19 0 ≤ 1000000)
    (hfloor : s.tmoFloor (fld v 31 24) ≤ fld v 19 0) :
    s.tmoWrite v = s.setReg (xactB + 0x54) (mkWord [(0, fld v 19 0), (24, fld v 31 24)]) := by
  simp [State.tmoWrite, hlo, hhi, Nat.not_lt.mpr hfloor]

/-- Below the floor it is rejected. -/
theorem State.tmoWrite_rejects {s : State} {v : Word} (hlo : 10 ≤ fld v 19 0) (hhi : fld v 19 0 ≤ 1000000)
    (hfloor : fld v 19 0 < s.tmoFloor (fld v 31 24)) : s.tmoWrite v = s.reject (pageNo xactB) := by
  simp [State.tmoWrite, hlo, hhi, hfloor]

/-- A write of TMO_CFG that the page takes acts on the state whose page noted the write. -/
theorem execTmoCfgWrite_taken {ini : Ini} (v : Word) {s : State} (h : s.takes ini (xactB + 0x54) = true) :
    ∃ pg, exec (.tmoCfgWrite ini v) s = done s (State.tmoWrite { s with pages := pg } v) := by
  obtain ⟨pg, hw⟩ := s.write_taken ini (xactB + 0x54) false (·.tmoWrite v) h (.inl rfl)
  exact ⟨pg, congrArg (done s) hw⟩

theorem tmoCfgWrite_sets {ini : Ini} {v : Word} {s : State} (h : s.takes ini (xactB + 0x54) = true) (hlo : 10 ≤ fld v 19 0)
    (hhi : fld v 19 0 ≤ 1000000) (hfloor : s.tmoFloor (fld v 31 24) ≤ fld v 19 0) :
    ∃ t, exec (.tmoCfgWrite ini v) s = .next t ∧ Quiet (s.setReg (xactB + 0x54) (mkWord [(0, fld v 19 0), (24, fld v 31 24)])) t := by
  obtain ⟨pg, hx⟩ := execTmoCfgWrite_taken v h
  rw [State.tmoWrite_sets (s := { s with pages := pg }) hlo hhi hfloor] at hx
  obtain ⟨t, hd, hq⟩ := done_quiet s (State.setReg { s with pages := pg } (xactB + 0x54) (mkWord [(0, fld v 19 0), (24, fld v 31 24)]))
    (by simp) (by simp) (by simp)
  exact ⟨t, hx.trans hd, Quiet.of_pages hq⟩

theorem tmoCfgWrite_is_refused {ini : Ini} {v : Word} {s : State} (h : s.takes ini (xactB + 0x54) = true) (hlo : 10 ≤ fld v 19 0)
    (hhi : fld v 19 0 ≤ 1000000) (hfloor : fld v 19 0 < s.tmoFloor (fld v 31 24)) :
    ∃ t, exec (.tmoCfgWrite ini v) s = .next t ∧ Quiet s t ∧ t.evtBit (pageNo xactB) 31 = true := by
  obtain ⟨pg, hx⟩ := execTmoCfgWrite_taken v h
  rw [State.tmoWrite_rejects (s := { s with pages := pg }) hlo hhi hfloor] at hx
  obtain ⟨t, hd, hq⟩ := done_reject s pg (pageNo xactB)
  exact ⟨t, hx.trans hd, hq⟩

end Sys2Proof.Machine
end

section
/-! PROOFS. Requests of the ring that are served, discarded or filtered, and the XACT page as a whole (O53). -/
namespace Sys2Proof.Machine

/-! ## What an answer keeps (R345, R347) -/

/-- An answer keeps the slots, the dies, what is read, and the requests that wait or were served. -/
theorem State.response_keeps (s : State) (f : Frame) :
    (s.response f).slots = s.slots ∧ (s.response f).dies = s.dies ∧ (s.response f).rsp = s.rsp ∧ (s.response f).xact.tq = s.xact.tq ∧
      (s.response f).xact.recent = s.xact.recent := by
  unfold State.response
  extract_lets g
  split
  · simp
  · split
    · simp [State.modTag, State.modXact]
    · simp [State.complete, State.modTag, State.modXact]

@[simp] theorem State.respond_keeps (s : State) (f : Frame) (status : Nat) (payload : List Nat) :
    (s.respond f status payload).slots = s.slots ∧ (s.respond f status payload).dies = s.dies ∧
      (s.respond f status payload).rsp = s.rsp ∧ (s.respond f status payload).xact.tq = s.xact.tq ∧
      (s.respond f status payload).xact.recent = s.xact.recent := by
  unfold State.respond
  split
  · exact s.response_keeps _
  · simp

theorem State.xactEvt_keeps_bit (s : State) (k : Nat) {p b : Nat} (h : s.evtBit p b = true) : (s.xactEvt k).evtBit p b = true :=
  s.evtBit_evts_kept _ _ h

/-- An answer clears no event. -/
theorem State.respond_keeps_bit (s : State) (f : Frame) (status : Nat) (payload : List Nat) {p b : Nat} (h : s.evtBit p b = true) :
    (s.respond f status payload).evtBit p b = true := by
  have hof {u : State} (hu : u.pages = s.pages) : u.evtBit p b = true := (State.evtBit_of_pages hu p b).trans h
  unfold State.respond
  split
  · unfold State.response
    extract_lets g
    split
    · exact State.xactEvt_keeps_bit _ _ (hof (by simp))
    · split
      · exact hof (by simp)
      · exact State.xactEvt_keeps_bit _ _ (hof (by simp))
  · exact hof (by simp)

/-! ## What a register read keeps (R49, R252, R345, R377) -/

/-- A register read moves no slot and touches no request. -/
structure ReadKept (s t : State) : Prop where
  slots : t.slots = s.slots
  tq : t.xact.tq = s.xact.tq
  recent : t.xact.recent = s.xact.recent

section
variable {s t u : State}

theorem ReadKept.of_eq (hs : t.slots = s.slots) (hx : t.xact = s.xact) : ReadKept s t := ⟨hs, by rw [hx], by rw [hx]⟩

theorem ReadKept.trans (h : ReadKept s t) (h' : ReadKept t u) : ReadKept s u :=
  ⟨h'.slots.trans h.slots, h'.tq.trans h.tq, h'.recent.trans h.recent⟩

end

theorem State.engStall_readKept (s : State) (d off : Nat) : ReadKept s (s.engStall d off) :=
  .of_eq (by simp [State.engStall]) (by simp [State.engStall])

theorem State.queuePop_readKept (s : State) (ini : Ini) : ReadKept s (s.queuePop ini) := by
  unfold State.queuePop
  split
  · exact .of_eq (by simp) (by simp)
  · exact .of_eq (by simp) (by simp)

theorem State.queuePeek_readKept (s : State) (ini : Ini) : ReadKept s (s.queuePeek ini) := by
  unfold State.queuePeek
  split
  · exact .of_eq (by simp) (by simp)
  · exact .of_eq (by simp) (by simp)

theorem State.cplPop_readKept (s : State) (ini : Ini) : ReadKept s (s.cplPop ini) := by
  cases h : s.xact.cpl with
  | nil => exact .of_eq (by simp [State.cplPop_nil ini h]) (by simp [State.cplPop_nil ini h])
  | cons c r =>
    rw [State.cplPop_cons ini h]
    exact ⟨by simp, by simp, by simp⟩

theorem State.txsPop_readKept (s : State) (ini : Ini) : ReadKept s (s.txsPop ini) := by
  unfold State.txsPop
  split
  · exact .of_eq (by simp) (by simp)
  · exact .of_eq (by simp) (by simp)

theorem State.recRead_readKept (s : State) (ini : Ini) : ReadKept s (s.recRead ini) :=
  .of_eq (by simp [State.recRead]) (by simp [State.recRead])

theorem State.rsWord_readKept (s : State) (ini : Ini) (a p : Nat) : ReadKept s (s.rsWord ini a p) :=
  .of_eq (by simp [State.rsWord]) (by simp [State.rsWord])

theorem State.loWord_readKept (s : State) (ini : Ini) (l : Loc) (cs : List Nat) : ReadKept s (s.loWord ini l cs) :=
  .of_eq (by simp [State.loWord]) (by simp [State.loWord])

theorem State.answer_readKept (s : State) (v : Word) : ReadKept s (s.answer v) := .of_eq rfl rfl

theorem State.rowRead_readKept (s : State) (ini : Ini) (l : Loc) (r : Row) : ReadKept s (s.rowRead ini l r) := by
  unfold State.rowRead
  split
  · exact s.answer_readKept 0
  · exact s.rsWord_readKept ..
  · split
    · exact s.queuePop_readKept ini
    · exact s.cplPop_readKept ini
    · exact s.txsPop_readKept ini
  · split
    · exact s.queuePeek_readKept ini
    · split
      · exact s.recRead_readKept ini
      · split
        · exact s.answer_readKept _
        · exact s.loWord_readKept ..

theorem State.readAt_readKept (s : State) (ini : Ini) (a : Nat) {act : State → State} (h : ReadKept s (act s)) :
    ReadKept s (s.readAt ini a act) := by
  unfold State.readAt
  split
  · exact .of_eq rfl rfl
  · split
    · exact .of_eq rfl rfl
    · split
      · exact .of_eq (by simp) (by simp)
      · exact h

theorem State.regRead_readKept (s : State) (ini : Ini) (a : Nat) : ReadKept s (s.regRead ini a) := by
  unfold State.regRead
  refine s.readAt_readKept ini _ ?_
  split
  · exact s.answer_readKept 0
  · split
    · exact s.answer_readKept _
    · exact s.answer_readKept _
    · exact s.answer_readKept _
    · split
      · exact s.answer_readKept 0
      · split
        · exact (s.engStall_readKept ..).trans (State.rowRead_readKept ..)
        · exact s.rowRead_readKept ..

theorem State.readWords_readKept (s : State) (ini : Ini) (as : List Nat) : ReadKept s (s.readWords ini as) := by
  have hstep (s : State) (a : Nat) : ReadKept s { (s.regRead ini a).settle with rsp := s.rsp ++ (s.regRead ini a).settle.rsp } :=
    (s.regRead_readKept ini a).trans (.of_eq (State.settle_frame _).2.2.2.1 (by simp))
  have hall (as : List Nat) : ∀ s : State, ReadKept s (as.foldl (fun s a =>
      { (s.regRead ini a).settle with rsp := s.rsp ++ (s.regRead ini a).settle.rsp }) s) := by
    induction as with
    | nil => exact fun _ => .of_eq rfl rfl
    | cons a as ih => exact fun s => (hstep s a).trans (ih _)
  exact ReadKept.trans (t := { s with rsp := [] }) (.of_eq rfl rfl) (hall as _)

/-- A READ of the ring moves no slot, touches no other request, and leaves the words that were answered to the host. -/
theorem State.serveRead_keeps (s : State) (f : Frame) : ReadKept s (s.serveRead f) ∧ (s.serveRead f).rsp = s.rsp := by
  unfold State.serveRead
  extract_lets ini as status kept t data
  split
  · exact ⟨⟨by simp, by simp, by simp⟩, by simp⟩
  · have ht : ReadKept s t := s.readWords_readKept ini as
    exact ⟨ht.trans ⟨by simp, by simp, by simp⟩, by simp [kept]⟩

/-- A WRITE that the filter refuses is counted with its source, and answered unless it is a broadcast (R349). -/
theorem State.serveWrite_filtered {s : State} {f : Frame} (start : Nat) (hown : s.isOwn f.src = false) (hfilter : s.filtered f.src = true) :
    (s.serveWrite f start).slots = s.slots ∧ (s.serveWrite f start).dies = s.dies ∧ (s.serveWrite f start).xact.tq = s.xact.tq ∧
      (s.serveWrite f start).evtBit (pageNo xactB) 5 = true := by
  have hbit (u : State) : (u.xactEvt 5).evtBit (pageNo xactB) 5 = true := u.evtBit_evt (pageNo xactB) 5 (by decide)
  unfold State.serveWrite
  extract_lets ini answer ws r
  rw [if_pos (by simp [hown, hfilter])]
  simp only [answer]
  split
  · exact ⟨by simp, by simp, by simp, hbit _⟩
  · exact ⟨by simp, by simp, by simp, State.respond_keeps_bit _ _ _ _ (hbit _)⟩

/-! ## The request at the head of the target queue (R331, R347) -/

/-- What a request is remembered by. -/
def requestId (f : Frame) : Nat × Nat × Nat := (f.src, f.tag, f.epoch)

/-- The state in which the head request has left the target queue. -/
def State.headTaken (s : State) (rest : List (Nat × Frame)) : State := s.modXact (fun x => { x with tq := rest })

/-- The state in which it has left the queue and is remembered. -/
def State.headKept (s : State) (f : Frame) (rest : List (Nat × Frame)) : State :=
  (s.headTaken rest).modXact (fun x => { x with recent := (requestId f :: x.recent).take 256 })

theorem State.headKept_remembers (s : State) (f : Frame) (rest : List (Nat × Frame)) : requestId f ∈ (s.headKept f rest).xact.recent := by
  simp [State.headKept, State.modXact]

section
variable {s : State} {k : Nat} {f : Frame} {rest : List (Nat × Frame)} (h : s.xact.tq = (k, f) :: rest)
include h

theorem State.serveHead_repeat (hrep : s.xact.recent.contains (requestId f) = true) :
    s.serveHead = (s.headTaken rest).addSat (xactB + 0x70) 31 16 1 := by
  unfold State.serveHead
  rw [h]
  exact if_pos hrep

theorem State.serveHead_read (hnew : s.xact.recent.contains (requestId f) = false) (hread : f.ftype = .read) :
    s.serveHead = (s.headKept f rest).serveRead f := by
  unfold State.serveHead
  rw [h]
  refine (if_neg (Bool.eq_false_iff.mp hnew)).trans ?_
  rw [hread]
  rfl

theorem State.serveHead_write (hnew : s.xact.recent.contains (requestId f) = false) (hwrite : f.ftype = .write) :
    s.serveHead = (s.headKept f rest).serveWrite f k := by
  unfold State.serveHead
  rw [h]
  refine (if_neg (Bool.eq_false_iff.mp hnew)).trans ?_
  rw [hwrite]
  rfl

end

/-- The state in which a request is served: with the Trellis responses that do not come in time. -/
def State.serveLate (s : State) (late : Late) : State := s.modPkg (fun p => { p with late := late })

/-- REQUEST_SERVE, unless the QSPI host goes first, serves the head request. -/
theorem requestServe_serves {s : State} (late : Late) (hs : s.serving = true) (hturn : s.ringPops = false ∨ s.qspiPops = false) :
    ∃ t, exec (.requestServe late) s = .next t ∧ t.xact = (s.serveLate late).serveHead.xact ∧
      t.slots = (s.serveLate late).serveHead.slots ∧ t.dies = (s.serveLate late).serveHead.dies ∧ t.rsp = (s.serveLate late).serveHead.rsp ∧
      ∀ p b, (s.serveLate late).serveHead.evtBit p b = true → t.evtBit p b = true := by
  have hgo : ¬ (s.ringPops && s.qspiPops) = true := by
    rcases hturn with h | h <;> simp [h]
  have hx : exec (.requestServe late) s = done s (s.lately late (·.serveHead)) := by
    show execRequestServe late s = _
    unfold execRequestServe
    rw [hs, if_neg (by simp), if_neg hgo]
  obtain ⟨hslots, hdies, -, -, -, -, hxact, -, -, -, -, -, -, -, -, -, hrsp, -⟩ := done_fields (done_next s (s.lately late (·.serveHead)))
  exact ⟨_, hx.trans (done_next _ _), hxact, hslots, hdies, hrsp, fun p b hb => done_keeps_bit (done_next _ _) p b hb⟩

section
variable {s : State} {k : Nat} {f : Frame} {rest : List (Nat × Frame)} (late : Late) (hs : s.serving = true)
  (htq : s.xact.tq = (k, f) :: rest) (hturn : s.ringPops = false ∨ s.qspiPops = false)
include hs htq hturn

/-- A repeat of a request is taken off the queue and discarded. -/
theorem requestServe_discards (hrep : s.xact.recent.contains (requestId f) = true) :
    ∃ t, exec (.requestServe late) s = .next t ∧ t.xact.tq = rest ∧ t.xact.recent = s.xact.recent ∧ t.slots = s.slots ∧
      t.dies = s.dies := by
  obtain ⟨t, ht, hxact, hslots, hdies, -⟩ := requestServe_serves late hs hturn
  rw [State.serveHead_repeat (s := s.serveLate late) htq hrep] at hxact hslots hdies
  exact ⟨t, ht, congrArg Xact.tq hxact, (congrArg Xact.recent hxact).trans rfl, hslots, hdies⟩

/-- A READ is taken off the queue, served and remembered. -/
theorem requestServe_reads (hnew : s.xact.recent.contains (requestId f) = false) (hread : f.ftype = .read) :
    ∃ t, exec (.requestServe late) s = .next t ∧ t.xact.tq = rest ∧ requestId f ∈ t.xact.recent ∧ t.slots = s.slots ∧ t.rsp = s.rsp := by
  obtain ⟨t, ht, hxact, hslots, -, hrsp, -⟩ := requestServe_serves late hs hturn
  rw [State.serveHead_read (s := s.serveLate late) htq hnew hread] at hxact hslots hrsp
  obtain ⟨hkept, hans⟩ := ((s.serveLate late).headKept f rest).serveRead_keeps f
  refine ⟨t, ht, (congrArg Xact.tq hxact).trans hkept.tq, ?_, hslots.trans hkept.slots, hrsp.trans hans⟩
  rw [hxact, hkept.recent]
  exact State.headKept_remembers ..

/-- A WRITE that the filter refuses is taken off the queue and changes no slot and no die. -/
theorem requestServe_filters (hnew : s.xact.recent.contains (requestId f) = false) (hwrite : f.ftype = .write)
    (hown : s.isOwn f.src = false) (hfilter : s.filtered f.src = true) :
    ∃ t, exec (.requestServe late) s = .next t ∧ t.xact.tq = rest ∧ t.evtBit (pageNo xactB) 5 = true ∧ t.slots = s.slots ∧
      t.dies = s.dies := by
  obtain ⟨t, ht, hxact, hslots, hdies, -, hevt⟩ := requestServe_serves late hs hturn
  rw [State.serveHead_write (s := s.serveLate late) htq hnew hwrite] at hxact hslots hdies hevt
  obtain ⟨hslots', hdies', htq', hbit⟩ :=
    State.serveWrite_filtered (s := (s.serveLate late).headKept f rest) (f := f) k hown hfilter
  exact ⟨t, ht, (congrArg Xact.tq hxact).trans htq', hevt _ 5 hbit, hslots.trans hslots', hdies.trans hdies'⟩

end

/-- A request that reads QUEUE_LO waits for the CORE cycle after the one in which the QSPI host reads it. -/
theorem requestServe_waits {s : State} (late : Late) (hs : s.serving = true) (hring : s.ringPops = true) (hqspi : s.qspiPops = true) :
    ∃ t, exec (.requestServe late) s = .next t ∧ Quiet (s.putOff (.requestServe late)) t := by
  have hx : exec (.requestServe late) s = done s (s.putOff (.requestServe late)) := by
    show execRequestServe late s = _
    simp [execRequestServe, hs, hring, hqspi]
  obtain ⟨t, hd, hq⟩ := done_quiet s (s.putOff (.requestServe late)) (by simp) (by simp) (by simp)
  exact ⟨t, hx.trans hd, hq⟩

/-- Settles O53: an ISSUE, a pop, a timeout and a re-send move tags as `State.modTag` and `State.tagSend_sent` say, and a request is served by
`State.serveHead`. That a refused ISSUE keeps the latched address is the model's choice of log entry 34, and that REQUEST_SERVE is put off to the
next CORE cycle that of log entry 12. -/
theorem transactionsAndRequests : Obligations.TransactionsAndRequests := by
  refine ⟨fun ini v s ht => ⟨fun hop hsingle hrange haddr hlen => ?_, issue_is_refused ht⟩,
    fun ini s hs hr => ⟨fun c r => cplPop_takes ini hs hr, cplPop_finds_nothing ini hs hr⟩, fun k s => xactTimeout_completes,
    fun k a s => busyResend_sends, fun ini v s ht hlo hhi => ⟨tmoCfgWrite_sets ht hlo hhi, tmoCfgWrite_is_refused ht hlo hhi⟩,
    fun k f rest late s hs htq => ⟨fun hturn => ⟨requestServe_discards late hs htq hturn, fun hnew => ?_⟩, requestServe_waits late hs⟩⟩
  · have hissue : ReadIssue s v := ⟨hop, hsingle, hrange, haddr⟩
    exact ⟨issue_takes ht hissue hlen, issue_finds_no_tag ht hissue⟩
  · exact ⟨requestServe_reads late hs htq hturn hnew, requestServe_filters late hs htq hturn hnew⟩

end Sys2Proof.Machine
end

section
/-! PROOFS. The state after reset meets the four invariants (O4). -/
namespace Sys2Proof.Machine

/-- Die 0 holds the record of the defaulted configuration after reset; every other die is as it is made. -/
theorem State.reset_die (d : Nat) : State.reset.die d = if d = 0 then { log := { queue := [resetRecord], seq := 1 } } else {} := by
  simp [State.die, State.reset, mget_cons, eq_comm]

/-- Settles O4: after reset the memories are empty, and every table stands as its structure makes it. The canonical form of the
memories is the model's own. -/
theorem resetMeetsTheInvariants : Obligations.ResetMeetsTheInvariants := by
  refine ⟨⟨rfl, rfl, rfl, rfl⟩, ⟨rfl, rfl, rfl⟩, fun d => ?_, Nat.zero_le _, List.nodup_nil⟩
  rw [State.reset_die]
  split
  · exact ⟨rfl, rfl⟩
  · exact ⟨rfl, rfl⟩

end Sys2Proof.Machine
end

section
/-! PROOFS. What a command of the Contour engine's registers answers, and the test generator and the capture (O47). -/
namespace Sys2Proof.Machine

/-! ## Writes that are taken -/

/-- The outcome of a write that is taken, whose effect makes v beside the page that noted the write. -/
theorem done_written {s v : State} {ini : Ini} {a : Nat} {locked : Bool} (act : State → State)
    (hw : ∃ pg, s.write ini a locked act = act { s with pages := pg })
    (hact : ∀ pg, act { s with pages := pg } = { v with pages := pg }) (hpending : v.pending = s.pending := by simp)
    (hnow : v.now = s.now := by simp) (hident : v.ident = s.ident := by simp) : ∃ t, done s (s.write ini a locked act) = .next t ∧ Quiet v t := by
  obtain ⟨pg, hw⟩ := hw
  rw [hw, hact]
  obtain ⟨t, ht, hq⟩ := done_quiet s { v with pages := pg } hpending hnow hident
  exact ⟨t, ht, hq.of_pages⟩

/-- The outcome of a command that makes v and sets an event. -/
theorem done_evt {s v : State} (p b : Nat) (hb : b < 32) (hpending : v.pending = s.pending := by simp)
    (hnow : v.now = s.now := by simp) (hident : v.ident = s.ident := by simp) :
    ∃ t, done s (v.evt p [b]) = .next t ∧ Quiet v t ∧ t.evtBit p b = true := by
  obtain ⟨t, ht, hq⟩ := done_quiet s (v.evt p [b]) (by simpa) (by simpa) (by simpa)
  exact ⟨t, ht, Quiet.of_pages hq, done_keeps_bit ht p b (v.evtBit_evt p b hb)⟩

/-- The outcome of a write that is taken, whose effect makes v and sets an event. -/
theorem done_written_evt {s v : State} {ini : Ini} {a : Nat} {locked : Bool} {p b : Nat} (act : State → State)
    (hw : ∃ pg, s.write ini a locked act = act { s with pages := pg })
    (hact : ∀ pg, act { s with pages := pg } = State.evt { v with pages := pg } p [b]) (hb : b < 32)
    (hpending : v.pending = s.pending := by simp) (hnow : v.now = s.now := by simp) (hident : v.ident = s.ident := by simp) :
    ∃ t, done s (s.write ini a locked act) = .next t ∧ Quiet v t ∧ t.evtBit p b = true := by
  obtain ⟨pg, hw⟩ := hw
  rw [hw, hact]
  obtain ⟨t, ht, hq, hbit⟩ := done_evt (s := s) (v := { v with pages := pg }) p b hb hpending hnow hident
  exact ⟨t, ht, hq.of_pages, hbit⟩

/-- A write of a register without a lock is taken where it is served and not refused (R46). -/
theorem State.write_takenFree (s : State) (ini : Ini) (a : Nat) (act : State → State) (h : s.takes ini a = true) :
    ∃ pg, s.write ini a false act = act { s with pages := pg } :=
  s.write_taken ini a false act h (.inl rfl)

/-! ## The test generator and the capture of a die -/

@[simp] theorem State.test_modTest (s : State) (d : Nat) (g : TestGen → TestGen) :
    ((s.modTest d g).die d).eng.test = g (s.die d).eng.test := by
  simp [State.modTest]

@[simp] theorem State.cap_modCap (s : State) (d : Nat) (g : Capture → Capture) :
    ((s.modCap d g).die d).eng.cap = g (s.die d).eng.cap := by
  simp [State.modCap]

theorem Quiet.test {s t : State} (h : Quiet s t) (d : Nat) : (t.die d).eng.test = (s.die d).eng.test := by
  rw [State.die_of_dies h.dies]

theorem Quiet.cap {s t : State} (h : Quiet s t) (d : Nat) : (t.die d).eng.cap = (s.die d).eng.cap := by
  rw [State.die_of_dies h.dies]

/-! ## The test generator (R302) -/

/-- The generator once it is armed: it runs at once where it need not wait for a binding. -/
def State.testArmed (s : State) (d : Nat) : TestGen :=
  let n := s.rf (contB d + 0x600) 12 8
  let now := s.rf (contB d + 0x600) 25 24 == 0 && (s.ctx d n).bound && !(s.ctx d n).fallback
  let dly := s.rf (contB d + 0x61C) 15 0
  { armed := !now, running := now, delay := dly, inj := now && dly == 0, firstInj := true, lfsr := 2 ^ s.rf (contB d + 0x600) 19 16 - 1 }

theorem State.testArm_idle {s : State} {d : Nat} (ha : (s.die d).eng.test.armed = false) (hr : (s.die d).eng.test.running = false) :
    s.testArm d = s.modTest d (fun _ => s.testArmed d) := by
  simp [State.testArm, State.testArmed, ha, hr]

theorem State.testArm_busy {s : State} {d : Nat} (h : (s.die d).eng.test.armed = true ∨ (s.die d).eng.test.running = true) :
    s.testArm d = s.reject (pageNo (contB d)) := by
  simp [State.testArm, h]

theorem State.testStop_idle {s : State} {d : Nat} (reason : Nat) (hr : (s.die d).eng.test.running = false)
    (ha : (s.die d).eng.test.armed = false) : s.testStop d reason = s := by
  simp [State.testStop, hr, ha]

/-- The generator that is ended for a reason. -/
def TestGen.ended (t : TestGen) (reason : Nat) : TestGen :=
  { t with armed := false, running := false, inj := false, end_ := reason, out := 0 }

theorem State.testStop_busy {s : State} {d reason : Nat}
    (h : (s.die d).eng.test.running = true ∨ (s.die d).eng.test.armed = true ∧ reason = 2) :
    s.testStop d reason = (s.modTest d (·.ended reason)).evt (pageNo (contB d)) [10] := by
  simp only [State.testStop, Bool.or_eq_true, Bool.and_eq_true, beq_iff_eq, h, if_true]
  rfl

section
variable {ini : Ini} {d : Nat} {s : State}

theorem testArm_arms (ht : s.takesLocked ini (contB d + 0x608) = true) (ha : (s.die d).eng.test.armed = false)
    (hr : (s.die d).eng.test.running = false) :
    ∃ t, exec (.testArm ini d) s = .next t ∧ (t.die d).eng.test.armed = !(t.die d).eng.test.running ∧ t.slots = s.slots ∧ t.regs = s.regs := by
  obtain ⟨t, hx, hq⟩ := done_written (v := s.modTest d (fun _ => s.testArmed d)) (·.testArm d) (s.write_takenLocked ini _ _ ht)
    (fun pg => State.testArm_idle (s := { s with pages := pg }) ha hr)
  refine ⟨t, hx, ?_, hq.slots.trans (by simp), hq.regs.trans (by simp)⟩
  rw [hq.test, State.test_modTest]
  rfl

theorem testArm_refused (ht : s.takesLocked ini (contB d + 0x608) = true)
    (h : (s.die d).eng.test.armed = true ∨ (s.die d).eng.test.running = true) :
    ∃ t, exec (.testArm ini d) s = .next t ∧ Quiet s t ∧ t.evtBit (pageNo (contB d)) 31 = true :=
  done_written_evt (·.testArm d) (s.write_takenLocked ini _ _ ht) (fun pg => State.testArm_busy (s := { s with pages := pg }) h) (by decide)

theorem testStop_stops (ht : s.takes ini (contB d + 0x608) = true)
    (h : (s.die d).eng.test.running = true ∨ (s.die d).eng.test.armed = true) :
    ∃ t, exec (.testStop ini d) s = .next t ∧ (t.die d).eng.test.running = false ∧ (t.die d).eng.test.armed = false ∧
      (t.die d).eng.test.end_ = 2 ∧ t.evtBit (pageNo (contB d)) 10 = true ∧ t.slots = s.slots ∧ t.regs = s.regs := by
  obtain ⟨t, hx, hq, hb⟩ := done_written_evt (v := s.modTest d (·.ended 2)) (·.testStop d 2) (s.write_takenFree ini _ _ ht)
    (fun pg => State.testStop_busy (s := { s with pages := pg }) (h.imp_right fun ha => ⟨ha, rfl⟩)) (by decide)
  have htest := (hq.test d).trans (s.test_modTest d _)
  exact ⟨t, hx, congrArg TestGen.running htest, congrArg TestGen.armed htest, congrArg TestGen.end_ htest, hb, hq.slots.trans (by simp),
    hq.regs.trans (by simp)⟩

theorem testStop_finds_nothing (ht : s.takes ini (contB d + 0x608) = true) (hr : (s.die d).eng.test.running = false)
    (ha : (s.die d).eng.test.armed = false) : ∃ t, exec (.testStop ini d) s = .next t ∧ Quiet s t :=
  done_written (·.testStop d 2) (s.write_takenFree ini _ _ ht) (fun pg => State.testStop_idle (s := { s with pages := pg }) 2 hr ha)

theorem testDelayEnd_injects (hruns : s.runs d = true) (hr : (s.die d).eng.test.running = true) (hi : (s.die d).eng.test.inj = false)
    (hd : (s.die d).eng.test.delay = 0) :
    ∃ t, exec (.testDelayEnd d) s = .next t ∧ Quiet (s.modTest d (fun t => { t with inj := true })) t := by
  have hx : exec (.testDelayEnd d) s = done s (s.modTest d (fun t => { t with inj := true })) := by
    show execTestDelayEnd d s = _
    simp [execTestDelayEnd, hruns, hr, hi, hd]
  rw [hx]
  exact done_quiet s _ (by simp) (by simp) (by simp)

theorem testEnd_completes (hruns : s.runs d = true) (hr : (s.die d).eng.test.running = true) (ho : (s.die d).eng.test.seqOver = true) :
    ∃ t, exec (.testEnd d) s = .next t ∧ (t.die d).eng.test.running = false ∧ (t.die d).eng.test.end_ = 1 ∧
      t.evtBit (pageNo (contB d)) 10 = true ∧ t.slots = s.slots ∧ t.regs = s.regs := by
  have hx : exec (.testEnd d) s = done s ((s.modTest d (·.ended 1)).evt (pageNo (contB d)) [10]) := by
    show execTestEnd d s = _
    simp [execTestEnd, hruns, hr, ho, State.testStop_busy (.inl hr)]
  obtain ⟨t, ht, hq, hb⟩ := done_evt (s := s) (v := s.modTest d (·.ended 1)) (pageNo (contB d)) 10 (by decide)
  have htest := (hq.test d).trans (s.test_modTest d _)
  exact ⟨t, hx.trans ht, congrArg TestGen.running htest, congrArg TestGen.end_ htest, hb, hq.slots.trans (by simp),
    hq.regs.trans (by simp)⟩

end

/-! ## The capture (R304) -/

theorem State.capArm_idle {s : State} {d : Nat} (h1 : (s.die d).eng.cap.state ≠ 1) (h2 : (s.die d).eng.cap.state ≠ 2) :
    s.capArm d = s.modCap d (fun _ => { state := 1 }) := by
  simp [State.capArm, h1, h2]

theorem State.capArm_busy {s : State} {d : Nat} (h : (s.die d).eng.cap.state = 1 ∨ (s.die d).eng.cap.state = 2) :
    s.capArm d = s.reject (pageNo (contB d)) := by
  simp [State.capArm, h]

theorem State.capForce_armed {s : State} {d : Nat} (h : (s.die d).eng.cap.state = 1) :
    s.capForce d = s.modCap d (fun c => { c with force := true }) := by
  simp [State.capForce, h]

theorem State.capForce_idle {s : State} {d : Nat} (h : (s.die d).eng.cap.state ≠ 1) : s.capForce d = s := by
  simp [State.capForce, h]

/-- The capture once it is done with w words of memory: its oldest valid word and the number of its words. -/
def Capture.finished (c : Capture) (w : Nat) (part : Bool) : Capture :=
  { c with state := 3, partial_ := part, len := Nat.min c.count w, first := if c.count ≤ w then 0 else c.idx }

theorem State.capFinish_eq (s : State) (d : Nat) (part : Bool) :
    s.capFinish d part = (s.modCap d (·.finished (s.capW d) part)).evt (pageNo (contB d)) [9] := rfl

section
variable {ini : Ini} {d : Nat} {s : State} (ht : s.takes ini (contB d + 0x68C) = true)
include ht

theorem capArm_arms (h1 : (s.die d).eng.cap.state ≠ 1) (h2 : (s.die d).eng.cap.state ≠ 2) :
    ∃ t, exec (.capArm ini d) s = .next t ∧ Quiet (s.modCap d (fun _ => { state := 1 })) t :=
  done_written (·.capArm d) (s.write_takenFree ini _ _ ht) (fun pg => State.capArm_idle (s := { s with pages := pg }) h1 h2)

theorem capArm_refused (h : (s.die d).eng.cap.state = 1 ∨ (s.die d).eng.cap.state = 2) :
    ∃ t, exec (.capArm ini d) s = .next t ∧ Quiet s t ∧ t.evtBit (pageNo (contB d)) 31 = true :=
  done_written_evt (·.capArm d) (s.write_takenFree ini _ _ ht) (fun pg => State.capArm_busy (s := { s with pages := pg }) h) (by decide)

theorem capForce_forces (h : (s.die d).eng.cap.state = 1) :
    ∃ t, exec (.capForce ini d) s = .next t ∧ Quiet (s.modCap d (fun c => { c with force := true })) t :=
  done_written (·.capForce d) (s.write_takenFree ini _ _ ht) (fun pg => State.capForce_armed (s := { s with pages := pg }) h)

theorem capForce_finds_nothing (h : (s.die d).eng.cap.state ≠ 1) : ∃ t, exec (.capForce ini d) s = .next t ∧ Quiet s t :=
  done_written (·.capForce d) (s.write_takenFree ini _ _ ht) (fun pg => State.capForce_idle (s := { s with pages := pg }) h)

theorem capAbort_aborts : ∃ t, exec (.capAbort ini d) s = .next t ∧ Quiet (s.modCap d (fun _ => {})) t :=
  done_written (·.capAbort d) (s.write_takenFree ini _ _ ht) (fun _ => rfl)

end

theorem capDone_ends {d : Nat} {s : State} (hruns : s.runs d = true) (h2 : (s.die d).eng.cap.state = 2)
    (hl : (s.die d).eng.cap.left = 0) :
    ∃ t, exec (.capDone d) s = .next t ∧ (t.die d).eng.cap.state = 3 ∧ (t.die d).eng.cap.partial_ = false ∧
      t.evtBit (pageNo (contB d)) 9 = true ∧ t.slots = s.slots ∧ t.regs = s.regs := by
  have hx : exec (.capDone d) s = done s (s.capFinish d false) := by
    show execCapDone d s = _
    simp [execCapDone, hruns, h2, hl]
  rw [hx, State.capFinish_eq]
  obtain ⟨t, ht, hq, hb⟩ := done_evt (s := s) (v := s.modCap d (·.finished (s.capW d) false)) (pageNo (contB d)) 9 (by decide)
  have hcap := (hq.cap d).trans (s.cap_modCap d _)
  exact ⟨t, ht, congrArg Capture.state hcap, congrArg Capture.partial_ hcap, hb, hq.slots.trans (by simp), hq.regs.trans (by simp)⟩

/-- Settles O47: what is armed or runs refuses ARM by `State.testArm_busy` and `State.capArm_busy`; an end of the generator is
`TestGen.ended`, and that of the capture `State.capFinish`. -/
theorem testGeneratorAndCapture : Obligations.TestGeneratorAndCapture :=
  ⟨fun _ _ _ ht => ⟨testArm_arms ht, testArm_refused ht⟩, fun _ _ _ ht => ⟨testStop_stops ht, testStop_finds_nothing ht⟩,
    fun _ _ => testDelayEnd_injects, fun _ _ => testEnd_completes,
    fun _ _ _ ht => ⟨capArm_arms ht, capArm_refused ht, capForce_forces ht, capForce_finds_nothing ht, capAbort_aborts ht⟩,
    fun _ _ => capDone_ends⟩

end Sys2Proof.Machine
end

section
/-! PROOFS. A COMMIT of a loop context, and the counters and maxima that software clears (O45, O46). -/
namespace Sys2Proof

/-- A field of a word reads what was set in it, modulo its width. -/
theorem fld_setFld (w : Word) {hi lo : Nat} (v : Nat) (hw : hi < 32) (hl : lo ≤ hi) :
    fld (setFld w hi lo v) hi lo = v % 2 ^ (hi + 1 - lo) := by
  have hdvd : 2 ^ lo * 2 ^ (hi + 1 - lo) ∣ 2 ^ 32 := by
    rw [← pow_add]
    exact pow_dvd_pow 2 (by omega)
  have hp : 0 < 2 ^ lo := Nat.two_pow_pos lo
  have hm : 0 < 2 ^ (hi + 1 - lo) := Nat.two_pow_pos _
  unfold fld setFld
  rw [BitVec.toNat_ofNat, ← Nat.mod_mul_right_div_self, Nat.mod_mod_of_dvd _ hdvd, Nat.mod_mul_right_div_self]
  generalize w.toNat = x, 2 ^ lo = p, 2 ^ (hi + 1 - lo) = m at *
  have hx : x - x / p % m * p + v % m * p = p * (m * (x / p / m) + v % m) + x % p := by
    have hdiv := Nat.div_add_mod x p
    have hquo := Nat.div_add_mod (x / p) m
    have hle : x / p % m * p ≤ x := (Nat.mul_le_mul_right p (Nat.mod_le _ m)).trans (Nat.div_mul_le_self x p)
    zify [hle] at hdiv hquo ⊢
    linear_combination -(p : Int) * hquo - hdiv
  rw [hx, Nat.mul_add_div hp, Nat.div_eq_of_lt (Nat.mod_lt x hp), Nat.add_zero, Nat.mul_add_mod, Nat.mod_mod]

namespace Machine

/-! ## Folds that write registers -/

theorem State.each_keeps {α : Type} {P : State → Prop} {g : α → State → State} {l : List α}
    (hP : ∀ y ∈ l, ∀ u, P u → P (g y u)) {s : State} (hs : P s) : P (s.each l g) := by
  induction l generalizing s with
  | nil => exact hs
  | cons y l ih => exact ih (fun z hz => hP z (List.mem_cons_of_mem y hz)) (hP y List.mem_cons_self s hs)

/-- A fold of changes makes P hold where one of them does and none of them ends it, in the states that Q holds of. -/
theorem State.each_establishes {α : Type} {P Q : State → Prop} {g : α → State → State} {l : List α} {x : α} (hx : x ∈ l)
    (hset : ∀ u, Q u → P (g x u)) (hkeep : ∀ y ∈ l, ∀ u, Q u → P u → P (g y u)) (hQ : ∀ y ∈ l, ∀ u, Q u → Q (g y u)) {s : State}
    (hs : Q s) : P (s.each l g) := by
  induction l generalizing s with
  | nil => exact absurd hx List.not_mem_nil
  | cons y l ih =>
    have hkeep' (z : α) (hz : z ∈ l) := hkeep z (List.mem_cons_of_mem y hz)
    have hQ' (z : α) (hz : z ∈ l) := hQ z (List.mem_cons_of_mem y hz)
    rcases List.mem_cons.mp hx with rfl | hxl
    · exact (State.each_keeps (P := fun u => Q u ∧ P u) (fun z hz u hu => ⟨hQ' z hz u hu.1, hkeep' z hz u hu.1 hu.2⟩)
        ⟨hQ x hx s hs, hset s hs⟩).2
    · exact ih hxl hkeep' hQ' (hQ y List.mem_cons_self s hs)

@[simp] theorem State.rf_setRf_self (s : State) (a : Nat) {hi lo : Nat} (v : Nat) (hw : hi < 32) (hl : lo ≤ hi) :
    (s.setRf a hi lo v).rf a hi lo = v % 2 ^ (hi + 1 - lo) := by
  unfold State.rf State.setRf
  rw [State.reg_setReg_self, fld_setFld _ _ hw hl]

theorem State.reg_setRf_ne (s : State) {a b : Nat} (hi lo v : Nat) (h : b ≠ a) : (s.setRf a hi lo v).reg b = s.reg b := s.reg_setReg_ne _ h

theorem State.rf_of_reg {s t : State} {a : Nat} (h : t.reg a = s.reg a) (hi lo : Nat) : t.rf a hi lo = s.rf a hi lo := by
  unfold State.rf
  rw [h]

/-! ## CLR_CNT and CLR_MAX (R279, R310) -/

theorem State.clrCnt_cleared (s : State) (d n : Nat) :
    (s.clrCnt d n).reg (ctxB d n + 0x24) = 0 ∧ (s.clrCnt d n).rf (ctxB d n + 0x20) 28 16 = 0 := by
  unfold State.clrCnt
  refine ⟨?_, State.rf_setRf_self _ _ _ (by decide) (by decide)⟩
  rw [State.reg_setRf_ne _ _ _ _ (by omega), State.reg_setReg_self]

/-- CLR_MAX clears the words one after another. -/
theorem State.clrMax_eq (s : State) (d : Nat) :
    s.clrMax d = (s.setRf (contB d + 0x48) 26 16 0).each (List.range 18) (fun n s => s.setRf (ctxB d n + 0x20) 28 16 0) := rfl

/-- Changes that write no page act alike beside every set of pages. -/
theorem State.each_paged {α : Type} {g : α → State → State} {pg : List (Nat × Page)}
    (hg : ∀ x u, g x { u with pages := pg } = { g x u with pages := pg }) (l : List α) (s : State) :
    State.each { s with pages := pg } l g = { s.each l g with pages := pg } := by
  induction l generalizing s with
  | nil => rfl
  | cons x l ih => exact (congrArg (State.each · l g) (hg x s)).trans (ih (g x s))

theorem State.clrMax_paged (s : State) (d : Nat) (pg : List (Nat × Page)) :
    State.clrMax { s with pages := pg } d = { s.clrMax d with pages := pg } :=
  State.each_paged (fun _ _ => rfl) (List.range 18) (s.setRf (contB d + 0x48) 26 16 0)

theorem State.clrMax_cycStat (s : State) (d : Nat) : (s.clrMax d).rf (contB d + 0x48) 26 16 = 0 := by
  have hne (n : Nat) : contB d + 0x48 ≠ ctxB d n + 0x20 := by
    unfold ctxB
    omega
  have hreg : (s.clrMax d).reg (contB d + 0x48) = (s.setRf (contB d + 0x48) 26 16 0).reg (contB d + 0x48) := by
    rw [State.clrMax_eq]
    exact State.each_reg (fun n u => u.reg_setRf_ne 28 16 0 (hne n)) _ _
  exact (State.rf_of_reg hreg 26 16).trans (s.rf_setRf_self _ 0 (by decide) (by decide))

theorem State.clrMax_ctxReady (s : State) (d : Nat) {n : Nat} (hn : n < 18) : (s.clrMax d).rf (ctxB d n + 0x20) 28 16 = 0 := by
  have hset (u : State) : (u.setRf (ctxB d n + 0x20) 28 16 0).rf (ctxB d n + 0x20) 28 16 = 0 := u.rf_setRf_self _ 0 (by decide) (by decide)
  rw [State.clrMax_eq]
  refine State.each_establishes (x := n) (P := fun u => u.rf (ctxB d n + 0x20) 28 16 = 0) (Q := fun _ => True)
    (List.mem_range.mpr hn) (fun u _ => ?_) (fun m _ u _ hu => ?_) (fun _ _ _ h => h) trivial
  · exact hset u
  by_cases hm : m = n
  · rw [hm]
    exact hset u
  · have hne : ctxB d n + 0x20 ≠ ctxB d m + 0x20 := by
      unfold ctxB
      omega
    exact (State.rf_of_reg (u.reg_setRf_ne 28 16 0 hne) 28 16).trans hu

section
variable {ini : Ini} {d : Nat} {s : State}

theorem clrCnt_clears {n : Nat} (ht : s.takesLocked ini (ctxB d n + 0x18) = true) :
    ∃ t, exec (.clrCnt ini d n) s = .next t ∧ t.reg (ctxB d n + 0x24) = 0 ∧ t.rf (ctxB d n + 0x20) 28 16 = 0 ∧ t.slots = s.slots ∧
      t.dies = s.dies := by
  obtain ⟨t, hx, hq⟩ := done_written (v := s.clrCnt d n) (·.clrCnt d n) (s.write_takenLocked ini _ _ ht) (fun _ => rfl)
    (by simp [State.clrCnt]) (by simp [State.clrCnt]) (by simp [State.clrCnt])
  obtain ⟨hcnt, hmax⟩ := s.clrCnt_cleared d n
  exact ⟨t, hx, (State.reg_of_regs hq.regs _).trans hcnt, (State.rf_of_reg (State.reg_of_regs hq.regs _) _ _).trans hmax,
    hq.slots.trans (by simp [State.clrCnt]), hq.dies.trans (by simp [State.clrCnt])⟩

theorem clrMax_clears (ht : s.takes ini (contB d + 0x4C) = true) :
    ∃ t, exec (.clrMax ini d) s = .next t ∧ t.rf (contB d + 0x48) 26 16 = 0 ∧ (∀ n < 18, t.rf (ctxB d n + 0x20) 28 16 = 0) ∧
      t.slots = s.slots ∧ t.dies = s.dies := by
  obtain ⟨t, hx, hq⟩ := done_written (v := s.clrMax d) (·.clrMax d) (s.write_takenFree ini _ _ ht) (s.clrMax_paged d)
    (by simp [State.clrMax]) (by simp [State.clrMax]) (by simp [State.clrMax])
  have hrf (a hi lo : Nat) : t.rf a hi lo = (s.clrMax d).rf a hi lo := State.rf_of_reg (State.reg_of_regs hq.regs a) hi lo
  exact ⟨t, hx, (hrf _ _ _).trans (s.clrMax_cycStat d), fun n hn => (hrf _ _ _).trans (s.clrMax_ctxReady d hn),
    hq.slots.trans (by simp [State.clrMax]), hq.dies.trans (by simp [State.clrMax])⟩

end

/-! ## What a COMMIT checks (R295) -/

/-- A filtered list of rising numbers holds one at most where no two of its numbers differ. -/
theorem length_filter_range_le_one (n : Nat) (p : Nat → Bool) :
    ((List.range n).filter p).length ≤ 1 ↔ ∀ k < n, p k = true → ∀ j < k, p j = false := by
  rw [← List.toFinset_card_of_nodup (List.nodup_range.filter p), Finset.card_le_one]
  simp only [List.mem_toFinset, List.mem_filter, List.mem_range]
  constructor
  · intro h k hk hpk j hj
    by_contra hpj
    have := h j ⟨by omega, by simpa using hpj⟩ k ⟨hk, hpk⟩
    omega
  · rintro h a ⟨ha, hpa⟩ b ⟨hb, hpb⟩
    rcases Nat.lt_trichotomy a b with hab | hab | hab
    · simp [h b hb hpb a hab] at hpa
    · exact hab
    · simp [h a ha hpa b hab] at hpb

/-- A COMMIT passes its check where every INTEGRATOR section that is computed has a1 = -1 and a2 = 0 and is the first. -/
theorem State.commitOk_iff {s : State} {d n : Nat} :
    s.commitOk d n = true ↔ ∀ k < s.rf (ctxB d n) 7 4, bit (s.reg (editA d n k 20)) 0 = true →
      s.reg (editA d n k 12) = 0xF0000000 ∧ s.reg (editA d n k 16) = 0 ∧ ∀ j < k, bit (s.reg (editA d n j 20)) 0 = false := by
  simp only [State.commitOk, Bool.and_eq_true, decide_eq_true_eq, length_filter_range_le_one, List.all_eq_true, List.mem_filter,
    List.mem_range, isInteg, beq_iff_eq, and_imp]
  exact ⟨fun h k hk hb => ⟨(h.2 k hk hb).1, (h.2 k hk hb).2, h.1 k hk hb⟩,
    fun h => ⟨fun k hk hb => (h k hk hb).2.2, fun k hk hb => ⟨(h k hk hb).1, (h k hk hb).2.1⟩⟩⟩

/-! ## The copy of the banks (R294) -/

/-- The words of the edit bank lie below those of the active bank (R311). -/
theorem editA_ne_activeA {o o' : Nat} (d n k k' : Nat) (hk : k < 8) (ho : o ≤ 20) :
    editA d n k o ≠ activeA d n k' o' := by
  unfold editA activeA
  omega

theorem activeA_inj {d n k k' o o' : Nat} (ho : o ≤ 20) (ho' : o' ≤ 20) (h : activeA d n k o = activeA d n k' o') : k = k' ∧ o = o' := by
  unfold activeA at h
  omega

/-- Register a reads v. -/
def State.Reads (a : Nat) (v : Word) (u : State) : Prop := u.reg a = v

/-- The copy of a word of a bank, in the state as it is. -/
def State.copyWord (u : State) (d n k o : Nat) : State := u.setReg (activeA d n k o) (u.reg (editA d n k o))

/-- The copy of a section of a bank. -/
def State.copySection (u : State) (d n k : Nat) : State := u.each secWords (fun o u => u.copyWord d n k o)

theorem State.copyBank_eq (s : State) (d n : Nat) : s.copyBank d n = s.each (List.range 8) (fun k u => u.copySection d n k) := rfl

section
variable {d n k o : Nat} {v : Word} (hk : k < 8) (ho : o ∈ secWords)

include hk ho in
theorem State.copyWord_edit (k' o' : Nat) (u : State) (hedit : u.Reads (editA d n k o) v) : (u.copyWord d n k' o').Reads (editA d n k o) v :=
  (u.reg_setReg_ne _ (editA_ne_activeA d n k k' hk (secWords_le ho))).trans hedit

include ho in
theorem State.copyWord_active (k' : Nat) {o' : Nat} (ho' : o' ∈ secWords) (u : State) (hedit : u.Reads (editA d n k o) v)
    (hactive : u.Reads (activeA d n k o) v) : (u.copyWord d n k' o').Reads (activeA d n k o) v := by
  by_cases h : activeA d n k o = activeA d n k' o'
  · obtain ⟨rfl, rfl⟩ := activeA_inj (secWords_le ho) (secWords_le ho') h
    exact (u.reg_setReg_self _ _).trans hedit
  · exact (u.reg_setReg_ne _ h).trans hactive

include hk ho

theorem State.copySection_edit (k' : Nat) (u : State) (hedit : u.Reads (editA d n k o) v) : (u.copySection d n k').Reads (editA d n k o) v :=
  State.each_keeps (P := State.Reads (editA d n k o) v) (fun o' _ u => State.copyWord_edit hk ho k' o' u) hedit

/-- The copy of a word's own section writes it, whatever stood there. -/
theorem State.copySection_copies (u : State) (hedit : u.Reads (editA d n k o) v) : (u.copySection d n k).Reads (activeA d n k o) v :=
  State.each_establishes (P := State.Reads (activeA d n k o) v) (Q := State.Reads (editA d n k o) v)
    (g := fun o u => u.copyWord d n k o) ho (fun u hu => (u.reg_setReg_self _ _).trans hu) (fun _ ho' u => State.copyWord_active ho k ho' u)
    (fun o' _ u => State.copyWord_edit hk ho k o' u) hedit

theorem State.copySection_active (k' : Nat) (u : State) (hedit : u.Reads (editA d n k o) v) (hactive : u.Reads (activeA d n k o) v) :
    (u.copySection d n k').Reads (activeA d n k o) v :=
  (State.each_keeps (P := fun u => State.Reads (editA d n k o) v u ∧ State.Reads (activeA d n k o) v u)
    (fun o' ho' u hu => ⟨State.copyWord_edit hk ho k' o' u hu.1, State.copyWord_active ho k' ho' u hu.1 hu.2⟩) ⟨hedit, hactive⟩).2

/-- The commit of a bank copies each word of the edit bank. -/
theorem State.copyBank_active (s : State) : (s.copyBank d n).reg (activeA d n k o) = s.reg (editA d n k o) :=
  State.each_establishes (P := State.Reads (activeA d n k o) (s.reg (editA d n k o)))
    (Q := State.Reads (editA d n k o) (s.reg (editA d n k o))) (g := fun k u => u.copySection d n k) (List.mem_range.mpr hk)
    (fun u => State.copySection_copies hk ho u) (fun k' _ u => State.copySection_active hk ho k' u)
    (fun k' _ u => State.copySection_edit hk ho k' u) rfl

end

/-! ## COMMIT (R294, R295) -/

/-- The registers after a commit are those after the copy of the banks. -/
theorem State.commitNow_regs (s : State) (d n : Nat) : (s.commitNow d n).regs = (s.copyBank d n).regs := by
  simp [State.commitNow, State.evtCont]

/-- The page of the engine is no page of a die. -/
theorem contPage_ne_die (d : Nat) : pageNo (contB d) ≠ pageNo (dieB d) := by
  unfold pageNo contB dieB
  omega

/-- A record of a die sets no event on its engine's page. -/
theorem State.log_contPage (s : State) (d block inst code : Nat) (data : List Nat) :
    (s.log d block inst code data).page (pageNo (contB d)) = s.page (pageNo (contB d)) := s.logAdd_page _ (contPage_ne_die d)

/-- The context whose active bank was replaced: its banks have the parity errors of its edit bank. -/
def Ctx.committed (c : Ctx) : Ctx :=
  let e := c.bad.filter (fun o => decide (0x100 ≤ o))
  { c with commitPend := false, bad := e ++ e.map (· - 0x100) }

/-- A commit copies the bank, sets COMMIT_DONE and writes a record. -/
theorem State.commitNow_eq (s : State) (d n : Nat) :
    ∃ data, s.commitNow d n = (((s.copyBank d n).modCtx d n (·.committed)).evt (pageNo (contB d)) [7]).log d 14 n 0x0302 data := ⟨_, rfl⟩

/-- A commit sets COMMIT_DONE on the engine's page and no other event. -/
theorem State.commitNow_evtBit (s : State) (d n : Nat) {b : Nat} (hb : b < 32) :
    (s.commitNow d n).evtBit (pageNo (contB d)) b = (s.evtBit (pageNo (contB d)) b || decide (7 = b)) := by
  obtain ⟨data, h⟩ := s.commitNow_eq d n
  rw [h]
  unfold State.evtBit
  rw [State.log_contPage, State.evt_bit _ _ _ _ hb, State.page_of_pages (s := s) (by simp), nbit_testBit,
    show maskOf [7].dedup = 2 ^ 7 from rfl, Nat.testBit_two_pow]

/-- A write of a locked register on a page that the initiator unlocked sets the time of the last write only, beside its effect. -/
theorem State.write_unlocked (s : State) (ini : Ini) (a : Nat) (act : State → State) (ht : s.takesLocked ini a = true) :
    s.write ini a true act = act (s.modPage (lockPage a) (fun g => { g with lastWr := s.now })) := by
  obtain ⟨htakes, hunlocked⟩ : s.takes ini a = true ∧ s.unlockedFor ini (lockPage a) = true := by
    simpa [State.takesLocked] using ht
  obtain ⟨hs, hx, h0⟩ := State.takes_iff.mp htakes
  have hp : (((locate a).map (·.base)).getD 0) / 4096 = lockPage a := rfl
  have hlock : (s.page (lockPage a)).lock = 2 := by
    simp only [State.unlockedFor, Bool.and_eq_true, beq_iff_eq] at hunlocked
    exact hunlocked.1
  simp [State.write, State.pageWrite, State.modPage, hs, hx, h0, hp, hlock, hunlocked]

/-- The time of the last write of a page is no event. -/
theorem State.evtBit_lastWr (s : State) (q t p b : Nat) : (s.modPage q (fun g => { g with lastWr := t })).evtBit p b = s.evtBit p b := by
  unfold State.evtBit
  by_cases h : p = q
  · rw [h, State.page_modPage_self]
  · rw [State.page_modPage_ne s _ h]

theorem contPage_not_settlePage (d : Nat) : ¬ SettlePage (pageNo (contB d)) := by
  intro h
  have hr := h.range
  unfold pageNo contB at hr
  omega

theorem State.commitReq_rejected {s : State} {d n : Nat} (h : s.commitOk d n = false) : s.commitReq d n = s.reject (pageNo (contB d)) := by
  simp [State.commitReq, h]

theorem State.commitReq_bound {s : State} {d n : Nat} (h : s.commitOk d n = true) (hb : (s.ctx d n).bound = true) :
    s.commitReq d n = s.modCtx d n (fun c => { c with commitPend := true }) := by
  simp [State.commitReq, h, hb]

theorem State.commitReq_unbound {s : State} {d n : Nat} (h : s.commitOk d n = true) (hb : (s.ctx d n).bound = false) :
    s.commitReq d n = s.commitNow d n := by
  simp [State.commitReq, h, hb]

/-- COMMIT of an edit bank without parity errors is a write of COMMIT. -/
theorem exec_commit (ini : Ini) (d n : Nat) (s : State) :
    exec (.commit ini d n) s = done s (s.write ini (ctxB d n + 0x18) true (·.commitReq d n)) := by
  show execCommit ini d n [] s = _
  simp only [execCommit, State.editErrs, State.ctlCommit, List.filter_nil, State.each, List.foldl_nil, ite_self]

section
variable {ini : Ini} {d n : Nat} {s : State} (ht : s.takesLocked ini (ctxB d n + 0x18) = true)
include ht

theorem commit_refused (hbad : s.commitOk d n = false) :
    ∃ t, exec (.commit ini d n) s = .next t ∧ Quiet s t ∧ t.evtBit (pageNo (contB d)) 31 = true :=
  exec_commit ini d n s ▸ done_written_evt (·.commitReq d n) (s.write_takenLocked ini _ _ ht)
    (fun pg => State.commitReq_rejected (s := { s with pages := pg }) hbad) (by decide)

theorem commit_waits (hok : s.commitOk d n = true) (hb : (s.ctx d n).bound = true) :
    ∃ t, exec (.commit ini d n) s = .next t ∧ Quiet (s.modCtx d n (fun c => { c with commitPend := true })) t :=
  exec_commit ini d n s ▸ done_written (·.commitReq d n) (s.write_takenLocked ini _ _ ht)
    (fun pg => State.commitReq_bound (s := { s with pages := pg }) hok hb)

theorem commit_replaces (hok : s.commitOk d n = true) (hb : (s.ctx d n).bound = false) :
    ∃ t, exec (.commit ini d n) s = .next t ∧ t.evtBit (pageNo (contB d)) 7 = true ∧ t.slots = s.slots ∧
      ∀ k < 8, ∀ o ∈ secWords, t.reg (activeA d n k o) = s.reg (editA d n k o) := by
  obtain ⟨pg, hw⟩ := s.write_takenLocked ini _ (·.commitReq d n) ht
  let u : State := { s with pages := pg }
  have hu : s.write ini (ctxB d n + 0x18) true (·.commitReq d n) = u.commitNow d n := hw.trans (u.commitReq_unbound hok hb)
  have hd := done_next s (u.commitNow d n)
  obtain ⟨hslots, -, hregs, -⟩ := done_fields hd
  refine ⟨_, ((exec_commit ini d n s).trans (congrArg (done s) hu)).trans hd, done_keeps_bit hd _ 7 ?_, hslots.trans (by simp [u]),
    fun k hk o ho => ?_⟩
  · exact (u.commitNow_evtBit d n (by decide)).trans (Bool.or_true _)
  · rw [State.reg_of_regs (hregs.trans (u.commitNow_regs d n)), State.copyBank_active hk ho]
    rfl

theorem commit_not_refused (hok : s.commitOk d n = true) :
    ∃ t, exec (.commit ini d n) s = .next t ∧ t.evtBit (pageNo (contB d)) 31 = s.evtBit (pageNo (contB d)) 31 := by
  let u := s.modPage (lockPage (ctxB d n + 0x18)) (fun g => { g with lastWr := s.now })
  have hd := done_next s (u.commitReq d n)
  have hbit : (u.commitReq d n).evtBit (pageNo (contB d)) 31 = s.evtBit (pageNo (contB d)) 31 := by
    refine Eq.trans ?_ (s.evtBit_lastWr (lockPage (ctxB d n + 0x18)) s.now _ 31)
    cases hb : (u.ctx d n).bound with
    | true => exact State.evtBit_of_pages (by simp [State.commitReq_bound (s := u) hok hb, u]) _ _
    | false =>
      rw [State.commitReq_unbound (s := u) hok hb, State.commitNow_evtBit _ _ _ (by decide)]
      exact Bool.or_false _
  refine ⟨_, ((exec_commit ini d n s).trans (congrArg (done s) (s.write_unlocked ini _ _ ht))).trans hd, ?_⟩
  exact (congrArg (bit · 31) (done_events hd (contPage_not_settlePage d)).1).trans hbit

end

/-- Settles O45: a commit copies the bank by `State.copyBank_active` or waits; CLR_CNT and CLR_MAX are `State.clrCnt` and
`State.clrMax`. -/
theorem commitAndCounters : Obligations.CommitAndCounters :=
  ⟨fun _ _ _ _ _ _ ht => commit_replaces ht, fun _ _ _ _ ht => commit_waits ht, fun _ _ _ _ => clrCnt_clears, fun _ _ _ => clrMax_clears⟩

/-- Settles O46: `State.commitOk_iff` says which banks pass the check. -/
theorem commitChecksIntegrators : Obligations.CommitChecksIntegrators := by
  refine ⟨fun ini d n k s ht hk hbit hbad => commit_refused ht (Bool.eq_false_iff.mpr fun hok => ?_),
    fun ini d n j k s ht hjk hk hj hbit => commit_refused ht (Bool.eq_false_iff.mpr fun hok => ?_),
    fun ini d n s ht hall => commit_not_refused ht (State.commitOk_iff.mpr hall)⟩
  · obtain ⟨ha1, ha2, -⟩ := State.commitOk_iff.mp hok k hk hbit
    exact hbad.elim (absurd ha1) (absurd ha2)
  · obtain ⟨-, -, hfirst⟩ := State.commitOk_iff.mp hok k hk hbit
    exact absurd hj (Bool.eq_false_iff.mp (hfirst j hjk))

end Machine
end Sys2Proof
end

section
/-! PROOFS. What trips, commits and the mapping of spares leave of the engines: the requests of the lanes, and which contexts have failed (O44). -/
namespace Sys2Proof.Machine

/-- What of a die's engine stands through trips, commits and the mapping of spares: the requests in the lane (R298), and which
contexts have failed (R297). -/
def Die.engineStand (x : Die) : List LaneReq × List Bool := (x.eng.lane, x.eng.ctxs.map (·.failed))

/-- The same of every die of a map. -/
def engineStands (m : List (Nat × Die)) (e : Nat) : List LaneReq × List Bool := (mget {} m e).engineStand

theorem State.lane_of_engineStands {s t : State} (h : engineStands t.dies = engineStands s.dies) (e : Nat) :
    (t.die e).eng.lane = (s.die e).eng.lane := congrArg Prod.fst (congrFun h e)

theorem State.failed_of_engineStands {s t : State} (h : engineStands t.dies = engineStands s.dies) (d n : Nat) :
    (t.ctx d n).failed = (s.ctx d n).failed := by
  have hmap : (t.die d).eng.ctxs.map (·.failed) = (s.die d).eng.ctxs.map (·.failed) := congrArg Prod.snd (congrFun h d)
  exact (List.getD_map ..).symm.trans ((congrArg (·.getD n ({} : Ctx).failed) hmap).trans (List.getD_map ..))

/-! ## Choices and folds -/

@[simp] theorem engineStands_ite (c : Prop) [Decidable c] (a b : List (Nat × Die)) :
    engineStands (if c then a else b) = if c then engineStands a else engineStands b := apply_ite _ _ _ _

/-- A change of a die that leaves what stands of its engine. -/
theorem State.modDie_engineStands_of (s : State) (d : Nat) (g : Die → Die) (h : (g (s.die d)).engineStand = (s.die d).engineStand) :
    engineStands (s.modDie d g).dies = engineStands s.dies := by
  funext e
  simp only [engineStands, State.modDie, State.setDie_dies, mget_mset]
  split
  case isTrue he => rw [h, he]; rfl
  case isFalse => rfl

/-- The same, field by field. -/
@[simp] theorem State.modDie_engineStands (s : State) (d : Nat) (g : Die → Die) (hlane : (g (s.die d)).eng.lane = (s.die d).eng.lane)
    (hctxs : (g (s.die d)).eng.ctxs = (s.die d).eng.ctxs) : engineStands (s.modDie d g).dies = engineStands s.dies :=
  s.modDie_engineStands_of d g (by simp only [Die.engineStand, hlane, hctxs])

@[simp] theorem State.each_engineStands {α : Type} (s : State) (l : List α) (g : α → State → State)
    (h : ∀ x s, engineStands (g x s).dies = engineStands s.dies) : engineStands (s.each l g).dies = engineStands s.dies := by
  induction l generalizing s with
  | nil => rfl
  | cons x l ih => exact (ih (g x s)).trans (h x s)

/-! ## Records (R174, R399, R414 to R423) -/

/-- What writes of the dies their logs only leaves what stands of the engines. -/
theorem LogOnly.engineStands {s t : State} (h : LogOnly s t) : engineStands t.dies = engineStands s.dies := by
  funext e
  obtain ⟨l, hl⟩ := h e
  show (t.die e).engineStand = _
  rw [hl]
  rfl

@[simp] theorem State.log_engineStands (s : State) (d block inst code : Nat) (data : List Nat) :
    engineStands (s.log d block inst code data).dies = engineStands s.dies := ((LogOnly.refl s).logAdd d _).engineStands

@[simp] theorem State.logSlot_engineStands (s : State) (n code : Nat) (data : List Nat) :
    engineStands (s.logSlot n code data).dies = engineStands s.dies := s.log_engineStands ..

@[simp] theorem State.nursRec_engineStands (s : State) (code kind d inst sub failed spare : Nat) (v : Int) :
    engineStands (s.nursRec code kind d inst sub failed spare v).dies = engineStands s.dies :=
  ((LogOnly.refl s).nursRec code kind d inst sub failed spare v).engineStands

@[simp] theorem State.swap_engineStands (s : State) (kind d inst sub failed spare : Nat) (v : Int) :
    engineStands (s.swap kind d inst sub failed spare v).dies = engineStands s.dies :=
  ((LogOnly.refl s).swap kind d inst sub failed spare v).engineStands

@[simp] theorem State.exhausted_engineStands (s : State) (kind d inst sub failed : Nat) :
    engineStands (s.exhausted kind d inst sub failed).dies = engineStands s.dies :=
  ((LogOnly.refl s).exhausted kind d inst sub failed).engineStands

@[simp] theorem State.wearAdd_engineStands (s : State) (n which : Nat) : engineStands (s.wearAdd n which).dies = engineStands s.dies :=
  ((LogOnly.refl s).wearAdd n which).engineStands

@[simp] theorem State.standDown_engineStands (s : State) (n : Nat) : engineStands (s.standDown n).dies = engineStands s.dies :=
  ((LogOnly.refl s).standDown n).engineStands

@[simp] theorem State.nursReq_engineStands (s : State) (kind d inst sub : Nat) :
    engineStands (s.nursReq kind d inst sub).dies = engineStands s.dies := by
  simp [State.nursReq]

/-! ## The engine (R274, R294, R302, R304, R391) -/

/-- A change of a context that leaves whether it has failed. -/
@[simp] theorem State.modCtx_engineStands (s : State) (d n : Nat) (g : Ctx → Ctx) (h : ∀ c, (g c).failed = c.failed) :
    engineStands (s.modCtx d n g).dies = engineStands s.dies := by
  refine s.modDie_engineStands_of d _ (Prod.ext rfl ?_)
  show ((s.die d).eng.ctxs.set n (g ((s.die d).eng.ctxs.getD n {}))).map (·.failed) = (s.die d).eng.ctxs.map (·.failed)
  refine List.ext_getElem (by simp) fun i hi hi' => ?_
  have hlen : i < (s.die d).eng.ctxs.length := by simpa using hi'
  by_cases hin : n = i
  · simp [hin, h, hlen]
  · simp [hin]

@[simp] theorem State.modTest_engineStands (s : State) (d : Nat) (g : TestGen → TestGen) :
    engineStands (s.modTest d g).dies = engineStands s.dies := by
  simp [State.modTest]

@[simp] theorem State.modCap_engineStands (s : State) (d : Nat) (g : Capture → Capture) :
    engineStands (s.modCap d g).dies = engineStands s.dies := by
  simp [State.modCap]

@[simp] theorem State.commitNow_engineStands (s : State) (d n : Nat) : engineStands (s.commitNow d n).dies = engineStands s.dies := by
  simp [State.commitNow]

@[simp] theorem State.commitReq_engineStands (s : State) (d n : Nat) : engineStands (s.commitReq d n).dies = engineStands s.dies := by
  simp [State.commitReq]

@[simp] theorem State.testStop_engineStands (s : State) (d reason : Nat) : engineStands (s.testStop d reason).dies = engineStands s.dies := by
  simp [State.testStop]

@[simp] theorem State.capFinish_engineStands (s : State) (d : Nat) (part : Bool) :
    engineStands (s.capFinish d part).dies = engineStands s.dies := by
  simp [State.capFinish]

@[simp] theorem State.capEndAt_engineStands (s : State) (d : Nat) : engineStands (s.capEndAt d).dies = engineStands s.dies := by
  simp [State.capEndAt, State.capLast, State.capTrigger]

@[simp] theorem State.spareMap_engineStands (s : State) (d n : Nat) : engineStands (s.spareMap d n).dies = engineStands s.dies := by
  unfold State.spareMap
  dsimp only
  split
  · rfl
  · split <;> simp

@[simp] theorem State.spareGo_engineStands (s : State) (d n : Nat) : engineStands (s.spareGo d n).dies = engineStands s.dies := by
  simp [State.spareGo]

@[simp] theorem State.ctxReport_engineStands (s : State) (d n : Nat) : engineStands (s.ctxReport d n).dies = engineStands s.dies := by
  simp [State.ctxReport]

@[simp] theorem State.unbindCtx_engineStands (s : State) (n : Nat) (toOn : Bool) :
    engineStands (s.unbindCtx n toOn).dies = engineStands s.dies := by
  simp [State.unbindCtx]

/-! ## Slots that trip (R99, R126, R150) -/

@[simp] theorem State.enter_engineStands (s : State) (n : Nat) (st : SM) (step : Nat) :
    engineStands (s.enter n st step).dies = engineStands s.dies := by
  simp [State.enter, State.leave, State.gatesIdle]

@[simp] theorem State.lockoutSend_engineStands (s : State) (n : Nat) : engineStands (s.lockoutSend n).dies = engineStands s.dies := by
  simp [State.lockoutSend, State.terrRec]

@[simp] theorem State.snapAssign_engineStands (s : State) (n : Nat) : engineStands (s.snapAssign n).dies = engineStands s.dies := by
  unfold State.snapAssign
  dsimp only
  split <;> simp

@[simp] theorem State.modSnap_engineStands (s : State) (n : Nat) (g : Snap → Snap) :
    engineStands (s.modSnap n g).dies = engineStands s.dies := by
  refine State.modDie_engineStands_of _ _ _ ?_
  split
  · split <;> rfl
  · rfl

@[simp] theorem State.trip_engineStands (s : State) (n : Nat) (hard : Bool) (cause detail abort : Nat) :
    engineStands (s.trip n hard cause detail abort).dies = engineStands s.dies := by
  simp [State.trip, State.tripStart, State.tripSettle]

@[simp] theorem State.serveFit_engineStands (s : State) (n : Nat) : engineStands (s.serveFit n).dies = engineStands s.dies := by
  unfold State.serveFit
  dsimp only
  split
  · rfl
  · split
    · rfl
    · split
      · simp [State.softTrip]
      · simp [apply_ite]

end Sys2Proof.Machine
end

section
/-! PROOFS. Loop periods, DAC writes and overruns, parity errors, and the lane (O44). -/
namespace Sys2Proof.Machine

/-! ## Reading a context -/

/-- A context that is bound stands in its die's table, since one past its end reads as it is made. -/
theorem State.lt_of_bound {s : State} {d n : Nat} (h : (s.ctx d n).bound = true) : n < (s.die d).eng.ctxs.length := by
  by_contra hn
  have hnone : s.ctx d n = {} := List.getD_eq_default _ _ (Nat.not_lt.mp hn)
  rw [hnone] at h
  contradiction

theorem State.ctx_modCtx_self (s : State) {d n : Nat} (g : Ctx → Ctx) (h : n < (s.die d).eng.ctxs.length) :
    (s.modCtx d n g).ctx d n = g (s.ctx d n) := by
  simp [State.ctx, State.modCtx, Die.ctx, h]

theorem State.ctx_of_dies {s t : State} (h : t.dies = s.dies) (d n : Nat) : t.ctx d n = s.ctx d n := by
  unfold State.ctx
  rw [State.die_of_dies h]

/-- A change of a capture leaves the contexts. -/
theorem State.ctx_modCap (s : State) (d n : Nat) (g : Capture → Capture) : (s.modCap d g).ctx d n = s.ctx d n := by
  simp [State.ctx, State.modCap, Die.ctx]

/-! ## What the engine leaves of the slots and the FeRAM -/

@[simp] theorem State.fallBack_frame (s : State) (d n cause : Nat) :
    (s.fallBack d n cause).slots = s.slots ∧ (s.fallBack d n cause).feram = s.feram := by
  simp [State.fallBack]

@[simp] theorem State.ctxFail_frame (s : State) (d n sec word : Nat) :
    (s.ctxFail d n sec word).slots = s.slots ∧ (s.ctxFail d n sec word).feram = s.feram := by
  simp [State.ctxFail]

@[simp] theorem State.capStore_frame (s : State) (d : Nat) (ws : List Int) :
    (s.capStore d ws).slots = s.slots ∧ (s.capStore d ws).feram = s.feram := by
  simp [State.capStore]

@[simp] theorem State.capPeriod_frame (s : State) (d n : Nat) (first inject lim : Bool) (sig : List Int) :
    (s.capPeriod d n first inject lim sig).slots = s.slots ∧ (s.capPeriod d n first inject lim sig).feram = s.feram := by
  simp [State.capPeriod]

@[simp] theorem State.ctxPeriod_frame (s : State) (d n used : Nat) :
    (s.ctxPeriod d n used).1.slots = s.slots ∧ (s.ctxPeriod d n used).1.feram = s.feram := by
  simp [State.ctxPeriod]

@[simp] theorem State.dacWrite_frame (s : State) (d n : Nat) :
    (s.dacWrite d n).slots = s.slots ∧ (s.dacWrite d n).feram = s.feram := by
  cases h : (s.ctx d n).out <;> simp [State.dacWrite, h]

@[simp] theorem State.ctxDue_frame (s : State) (d n used : Nat) (errs : List (Nat × Nat × Nat)) :
    (s.ctxDue d n used errs).1.slots = s.slots ∧ (s.ctxDue d n used errs).1.feram = s.feram := by
  unfold State.ctxDue
  extract_lets pend mine mine' t
  split
  · split <;> simp
  · simp [t]

/-! ## A loop period (R278) -/

/-- The state in which a tick's computations begin: the codes due are written, and CYC_STAT shows the tick before. -/
def State.tickBegins (s : State) (d : Nat) : State :=
  let u := s.each (List.range 18) (fun n s => s.dacWrite d n)
  let v := u.setRf (contB d + 0x48) 10 0 (u.die d).eng.tickLen
  v.setRf (contB d + 0x48) 26 16 (Nat.max (v.rf (contB d + 0x48) 26 16) (u.die d).eng.tickLen)

/-- The contexts whose periods begin with tick m. -/
def State.dueAt (s : State) (d m : Nat) : List Nat := (List.range 18).filter (fun n => (s.ctx d n).bound && m % rateDiv (s.ctx d n).rate == 0)

/-- The computations of tick m: the state, and the cycles spent. -/
def State.tickRuns (s : State) (d m : Nat) (errs : List (Nat × Nat × Nat)) : State × Nat :=
  (s.dueAt d m).foldl (fun a n => a.1.ctxDue d n a.2 errs) (s, 24)

theorem exec_loopPeriod {d : Nat} {s : State} (errs : List (Nat × Nat × Nat)) (hr : s.runs d = true)
    (ht : (s.now - s.pkg.epoch) % 1000 = 0) :
    exec (.loopPeriod d errs) s = done s (((s.tickBegins d).tickRuns d ((s.now - s.pkg.epoch) / 1000) errs).1.modDie d (fun x =>
      { x with eng := { x.eng with tick := (s.now - s.pkg.epoch) / 1000,
                                   tickLen := sat 2047 ((s.tickBegins d).tickRuns d ((s.now - s.pkg.epoch) / 1000) errs).2 } })) := by
  show execLoopPeriod d errs s = _
  simp only [execLoopPeriod, hr, ht, Bool.not_true, bne_self_eq_false, Bool.or_self, Bool.false_eq_true, if_false]
  rfl

theorem State.tickRuns_frame (s : State) (d m : Nat) (errs : List (Nat × Nat × Nat)) :
    (s.tickRuns d m errs).1.slots = s.slots ∧ (s.tickRuns d m errs).1.feram = s.feram := by
  have hfold : ∀ (l : List Nat) (a : State × Nat), (l.foldl (fun a n => a.1.ctxDue d n a.2 errs) a).1.slots = a.1.slots ∧
      (l.foldl (fun a n => a.1.ctxDue d n a.2 errs) a).1.feram = a.1.feram := by
    intro l
    induction l with
    | nil => exact fun a => ⟨rfl, rfl⟩
    | cons n l ih =>
      intro a
      obtain ⟨hslots, hferam⟩ := a.1.ctxDue_frame d n a.2 errs
      obtain ⟨hslots', hferam'⟩ := ih (a.1.ctxDue d n a.2 errs)
      exact ⟨hslots'.trans hslots, hferam'.trans hferam⟩
  exact hfold _ _

theorem State.tickBegins_frame (s : State) (d : Nat) : (s.tickBegins d).slots = s.slots ∧ (s.tickBegins d).feram = s.feram := by
  simp [State.tickBegins]

theorem State.dacWrite_unbound {s : State} {d n : Nat} (h : (s.ctx d n).bound = false) : s.dacWrite d n = s := by
  simp [State.dacWrite, h]

theorem State.unbound_of_not_anyBound {s : State} {d : Nat} (h : s.anyBound d = false) (n : Nat) : (s.ctx d n).bound = false := by
  simp only [State.anyBound, List.any_eq_false] at h
  by_contra hn
  have hb := Bool.eq_true_of_not_eq_false hn
  have hlt := State.lt_of_bound hb
  refine h _ (List.getElem_mem hlt) ?_
  rwa [State.ctx, Die.ctx, List.getD_eq_getElem _ _ hlt] at hb

/-- On a die without a bound context no code is written, and no period begins. -/
theorem State.tickRuns_idle {s : State} {d : Nat} (h : s.anyBound d = false) (m : Nat) (errs : List (Nat × Nat × Nat)) :
    (s.tickBegins d).tickRuns d m errs = (s.tickBegins d, 24) := by
  have hb := State.unbound_of_not_anyBound h
  have hwrites : s.each (List.range 18) (fun n s => s.dacWrite d n) = s :=
    State.each_keeps (P := (· = s)) (fun n _ _ hu => (congrArg (·.dacWrite d n) hu).trans (State.dacWrite_unbound (hb n))) rfl
  have hdies : (s.tickBegins d).dies = s.dies := by simp [State.tickBegins, hwrites]
  have hdue : (s.tickBegins d).dueAt d m = [] := by
    simp [State.dueAt, State.ctx_of_dies hdies, hb]
  simp [State.tickRuns, hdue]

theorem loopPeriod_counts {d : Nat} {s : State} (errs : List (Nat × Nat × Nat)) (hr : s.runs d = true)
    (ht : (s.now - s.pkg.epoch) % 1000 = 0) :
    ∃ t, exec (.loopPeriod d errs) s = .next t ∧ (t.die d).eng.tick = (s.now - s.pkg.epoch) / 1000 ∧ t.slots = s.slots ∧ t.feram = s.feram ∧
      (s.anyBound d = false → (t.die d).eng.tickLen = 24) := by
  rw [exec_loopPeriod errs hr ht]
  generalize (s.now - s.pkg.epoch) / 1000 = m
  obtain ⟨hslots, hferam⟩ := (s.tickBegins d).tickRuns_frame d m errs
  obtain ⟨hslots', hferam'⟩ := s.tickBegins_frame d
  have hidle := fun h => State.tickRuns_idle (s := s) (d := d) h m errs
  generalize (s.tickBegins d).tickRuns d m errs = r at *
  have hd := done_next s (r.1.modDie d (fun x => { x with eng := { x.eng with tick := m, tickLen := sat 2047 r.2 } }))
  obtain ⟨hs, hdies, -, hf, -⟩ := done_fields hd
  refine ⟨_, hd, ?_, (hs.trans hslots).trans hslots', (hf.trans hferam).trans hferam', fun h => ?_⟩
  · rw [State.die_of_dies hdies, State.die_modDie_self]
  · rw [State.die_of_dies hdies, State.die_modDie_self, hidle h]
    rfl

/-! ## The write cycle (R286 to R289) -/

/-- A context whose code goes to the DAC, and to the gate unless another path acts there. -/
def Ctx.written (c : Ctx) (code : Int) (disc : Bool) : Ctx :=
  { c with code := code, applied := if disc then c.applied else code, out := none, consec := 0 }

/-- A context whose code is not ready at its write cycle. -/
def Ctx.overrun (c : Ctx) : Ctx := { c with out := none, consec := c.consec + 1 }

/-- The write cycle of a context outside ASAP: PHASE sixteenths of its period after the period's start (R287). -/
def State.writeAt (s : State) (d n : Nat) : Nat :=
  (s.ctx d n).perAt + (if s.rf (ctxB d n) 15 12 = 0 then 16 else s.rf (ctxB d n) 15 12) * 1000 * rateDiv (s.ctx d n).rate / 16

theorem State.writeAt_eq (s : State) (d n : Nat) :
    s.writeAt d n = (s.ctx d n).perAt +
      (if fld (s.reg (ctxB d n)) 15 12 == 0 then 16 else fld (s.reg (ctxB d n)) 15 12) * 1000 * rateDiv (s.ctx d n).rate / 16 := by
  unfold State.writeAt State.rf
  by_cases h : fld (s.reg (ctxB d n)) 15 12 = 0 <;> simp [h]

/-- The state in which an overrun of a context is counted and reported. -/
def State.overrun (s : State) (d n : Nat) : State :=
  ((s.modCtx d n (·.overrun)).addSat (ctxB d n + 0x24) 31 16 1).evtCont d [1]

theorem State.ctx_overrun {s : State} {d n : Nat} (hb : (s.ctx d n).bound = true) : (s.overrun d n).ctx d n = (s.ctx d n).overrun :=
  (State.ctx_of_dies (by simp [State.overrun]) d n).trans (s.ctx_modCtx_self _ (State.lt_of_bound hb))

/-- The trigger of a capture leaves the contexts. -/
theorem State.ctx_capLast (s : State) (d n : Nat) : (s.capLast d).ctx d n = s.ctx d n := by
  unfold State.capLast State.capTrigger
  exact (State.ctx_of_dies (by simp only [State.evtCont_frame, State.setReg_dies]; rfl) d n).trans (s.ctx_modCap d n _)

theorem State.capLast_keeps_bit (s : State) (d : Nat) {p b : Nat} (h : s.evtBit p b = true) : (s.capLast d).evtBit p b = true := by
  unfold State.capLast State.capTrigger
  exact State.evtBit_evts_kept _ _ _ ((State.evtBit_of_pages (by simp) p b).trans h)

section
variable {s : State} {d n : Nat} {code : Int} (hb : (s.ctx d n).bound = true) (hf : (s.ctx d n).fallback = false)
  (ho : (s.ctx d n).out = some code)
include hb hf ho

theorem State.dacWrite_ready (h : (bit (s.reg (ctxB d n)) 8 = true ∧ (s.ctx d n).outAt < s.now) ∨
      (bit (s.reg (ctxB d n)) 8 = false ∧ (s.ctx d n).outAt ≤ s.now ∧ s.now = s.writeAt d n)) :
    s.dacWrite d n = s.modCtx d n (·.written code (s.disconnected d n)) := by
  unfold State.dacWrite
  rcases h with ⟨hasap, hready⟩ | ⟨hphase, hready, hnow⟩
  · simp [hb, hf, ho, hasap, hready, Ctx.written]
  · have hat := hnow.trans (s.writeAt_eq d n)
    simp only [hb, hf, ho, hphase, hready, ← hat]
    simp [Ctx.written]

/-- A code that is not ready is counted as an overrun, and a capture that waits for it is triggered. -/
theorem State.dacWrite_overrun (hphase : bit (s.reg (ctxB d n)) 8 = false) (hlate : s.now < (s.ctx d n).outAt)
    (hc : (s.ctx d n).consec < 2) (hnow : s.now = s.writeAt d n) :
    s.dacWrite d n = s.overrun d n ∨ s.dacWrite d n = (s.overrun d n).capLast d := by
  have hat := hnow.trans (s.writeAt_eq d n)
  have hfew (u : State) (hu : u.ctx d n = (s.overrun d n).ctx d n) : ¬ 3 ≤ (u.ctx d n).consec := by
    rw [hu, State.ctx_overrun hb]
    show ¬ 3 ≤ (s.ctx d n).consec + 1
    omega
  unfold State.dacWrite
  simp only [hb, hf, ho, hphase, Nat.not_le.mpr hlate, ← hat, Bool.not_true, Bool.or_self, Bool.false_eq_true, if_false, bne_self_eq_false]
  split
  · exact .inr (if_neg (hfew _ ((s.overrun d n).ctx_capLast d n)))
  · exact .inl (if_neg (hfew _ rfl))

end

theorem exec_dacWrite {s : State} {d : Nat} (n : Nat) (hr : s.runs d = true) : exec (.dacWrite d n) s = done s (s.dacWrite d n) := by
  show execDacWrite d n s = _
  simp [execDacWrite, hr]

section
variable {s : State} {d n : Nat} {code : Int} (hr : s.runs d = true) (hb : (s.ctx d n).bound = true) (hf : (s.ctx d n).fallback = false)
  (ho : (s.ctx d n).out = some code)
include hr hb hf ho

theorem dacWrite_writes (h : (bit (s.reg (ctxB d n)) 8 = true ∧ (s.ctx d n).outAt < s.now) ∨
      (bit (s.reg (ctxB d n)) 8 = false ∧ (s.ctx d n).outAt ≤ s.now ∧ s.now = s.writeAt d n)) :
    ∃ t, exec (.dacWrite d n) s = .next t ∧ (t.ctx d n).code = code ∧ (t.ctx d n).out = none ∧ (t.ctx d n).consec = 0 ∧
      (t.ctx d n).applied = (if s.disconnected d n then (s.ctx d n).applied else code) ∧ t.slots = s.slots ∧ t.regs = s.regs := by
  obtain ⟨t, ht, hq⟩ := done_quiet s (s.modCtx d n (·.written code (s.disconnected d n))) (by simp) (by simp) (by simp)
  have hctx := (State.ctx_of_dies hq.dies d n).trans (s.ctx_modCtx_self _ (State.lt_of_bound hb))
  refine ⟨t, ?_, congrArg Ctx.code hctx, congrArg Ctx.out hctx, congrArg Ctx.consec hctx, congrArg Ctx.applied hctx,
    hq.slots.trans (by simp), hq.regs.trans (by simp)⟩
  rw [exec_dacWrite n hr, State.dacWrite_ready hb hf ho h, ht]

theorem dacWrite_overruns (hphase : bit (s.reg (ctxB d n)) 8 = false) (hlate : s.now < (s.ctx d n).outAt)
    (hc : (s.ctx d n).consec < 2) (hnow : s.now = s.writeAt d n) :
    ∃ t, exec (.dacWrite d n) s = .next t ∧ (t.ctx d n).code = (s.ctx d n).code ∧ (t.ctx d n).out = none ∧
      (t.ctx d n).consec = (s.ctx d n).consec + 1 ∧ t.evtBit (pageNo (contB d)) 1 = true ∧ t.slots = s.slots := by
  obtain ⟨hctx, hbit⟩ : (s.dacWrite d n).ctx d n = (s.ctx d n).overrun ∧ (s.dacWrite d n).evtBit (pageNo (contB d)) 1 = true := by
    have hbit : (s.overrun d n).evtBit (pageNo (contB d)) 1 = true := State.evtBit_evt _ _ _ (by decide)
    rcases State.dacWrite_overrun hb hf ho hphase hlate hc hnow with h | h
    · rw [h]
      exact ⟨State.ctx_overrun hb, hbit⟩
    · rw [h]
      exact ⟨(State.ctx_capLast ..).trans (State.ctx_overrun hb), State.capLast_keeps_bit _ d hbit⟩
  have hd := done_next s (s.dacWrite d n)
  obtain ⟨hslots, hdies, -⟩ := done_fields hd
  have hctx' := (State.ctx_of_dies hdies d n).trans hctx
  exact ⟨_, (exec_dacWrite n hr).trans hd, (congrArg Ctx.code hctx' :), (congrArg Ctx.out hctx' :), (congrArg Ctx.consec hctx' :),
    done_keeps_bit hd _ 1 hbit, hslots.trans (s.dacWrite_frame d n).1⟩

end

/-! ## Parity errors (R297) -/

theorem State.swap_keeps_bit (s : State) (kind d inst sub failed spare : Nat) (v : Int) {p b : Nat} (h : s.evtBit p b = true) :
    (s.swap kind d inst sub failed spare v).evtBit p b = true := by
  unfold State.swap State.gazRebuild
  refine State.evtBit_evts_kept _ _ _ (State.evtBit_evts_kept _ _ _ (State.logLead_keeps_bit _ _ _ _ _ ?_))
  exact (State.evtBit_of_pages (by simp) p b).trans h

theorem State.commitNow_keeps_bit (s : State) (d n : Nat) {p b : Nat} (h : s.evtBit p b = true) :
    (s.commitNow d n).evtBit p b = true := by
  obtain ⟨data, hc⟩ := s.commitNow_eq d n
  rw [hc]
  exact State.logAdd_keeps_bit _ _ _ (State.evtBit_evts_kept _ _ _ ((State.evtBit_of_pages (by simp) p b).trans h))

theorem State.commitReq_keeps_bit (s : State) (d n : Nat) {p b : Nat} (h : s.evtBit p b = true) :
    (s.commitReq d n).evtBit p b = true := by
  unfold State.commitReq
  split
  · exact State.evtBit_evts_kept _ _ _ h
  · split
    · exact (State.evtBit_of_pages (by simp) p b).trans h
    · exact s.commitNow_keeps_bit d n h

theorem State.spareMap_keeps_bit (s : State) (d n : Nat) {p b : Nat} (h : s.evtBit p b = true) : (s.spareMap d n).evtBit p b = true := by
  unfold State.spareMap
  dsimp only
  split
  · exact h
  · split
    · exact State.evtBit_evts_kept _ _ _ (State.logLead_keeps_bit _ _ _ _ _ h)
    · refine State.swap_keeps_bit _ _ _ _ _ _ _ _ (State.commitReq_keeps_bit _ _ _ ?_)
      exact (State.evtBit_of_pages (by simp) p b).trans h

theorem State.ctxReport_keeps_bit (s : State) (d n : Nat) {p b : Nat} (h : s.evtBit p b = true) : (s.ctxReport d n).evtBit p b = true := by
  unfold State.ctxReport State.nursReq State.spareGo
  dsimp only
  split
  · split
    · exact h
    · split
      · exact State.evtBit_evts_kept _ _ _ h
      · exact State.logLead_keeps_bit _ _ _ _ _ (State.evtBit_evts_kept _ _ _ h)
  · split
    · exact (State.evtBit_of_pages (by simp) p b).trans h
    · exact State.spareMap_keeps_bit _ d n ((State.evtBit_of_pages (by simp) p b).trans h)

/-- A context that a parity error has failed: that of the bank word at off, or of a word of its states, which are those from 6 on. -/
def Ctx.spoiled (c : Ctx) (off word : Nat) : Ctx :=
  { c with failed := true, bad := if c.bad.contains off || 6 ≤ word then c.bad else c.bad ++ [off] }

/-- The first parity error of an unbound context: it fails, with its event and its record. -/
def State.failUnbound (s : State) (d n sec word : Nat) : State :=
  let u := s.modCtx d n (·.spoiled (0x20 * sec + 4 * word) word)
  (u.evtCont d [6]).log d 14 n 0x0301 [n, u.ctxSlot d n, sec % 8]

theorem State.ctx_of_logOnly {s t : State} (h : LogOnly s t) (d n : Nat) : t.ctx d n = s.ctx d n := by
  obtain ⟨l, hl⟩ := h d
  unfold State.ctx
  rw [hl]
  rfl

section
variable {s : State} {d n : Nat} (sec word : Nat)

theorem State.ctx_failUnbound (hn : n < (s.die d).eng.ctxs.length) :
    (s.failUnbound d n sec word).ctx d n = (s.ctx d n).spoiled (0x20 * sec + 4 * word) word :=
  (State.ctx_of_logOnly (((LogOnly.refl _).evt _ _).logAdd d _) d n).trans (s.ctx_modCtx_self _ hn)

theorem State.failUnbound_evtBit : (s.failUnbound d n sec word).evtBit (pageNo (contB d)) 6 = true :=
  State.logAdd_keeps_bit _ _ _ (State.evtBit_evt _ _ _ (by decide))

/-- An unbound context that fails is reported to the Nursery if it serves a slot, and else makes a new Gazetteer. -/
theorem State.ctxFail_unbound (hn : n < (s.die d).eng.ctxs.length) (hb : (s.ctx d n).bound = false) (hf : (s.ctx d n).failed = false) :
    s.ctxFail d n sec word = (s.failUnbound d n sec word).ctxReport d n ∨ s.ctxFail d n sec word = (s.failUnbound d n sec word).gazRebuild := by
  let u := s.failUnbound d n sec word
  have hfirst : s.ctxFail d n sec word =
      (let v := if (u.ctx d n).bound && !(u.ctx d n).fallback then u.fallBack d n 1 else u
       if (v.die d).eng.map.contains n then v.ctxReport d n else v.gazRebuild) := if_neg (by simp [hf])
  have hub : (u.ctx d n).bound = false := (congrArg Ctx.bound (State.ctx_failUnbound sec word hn)).trans hb
  rw [hfirst, hub]
  simp only [Bool.false_and, Bool.false_eq_true, if_false]
  split
  · exact .inl rfl
  · exact .inr rfl

theorem State.ctxFail_fails (hn : n < (s.die d).eng.ctxs.length) (hb : (s.ctx d n).bound = false) (hf : (s.ctx d n).failed = false) :
    ((s.ctxFail d n sec word).ctx d n).failed = true ∧ (s.ctxFail d n sec word).evtBit (pageNo (contB d)) 6 = true := by
  have hfailed : ((s.failUnbound d n sec word).ctx d n).failed = true := congrArg Ctx.failed (State.ctx_failUnbound sec word hn)
  have hbit := State.failUnbound_evtBit (s := s) (d := d) (n := n) sec word
  rcases State.ctxFail_unbound sec word hn hb hf with h | h
  · rw [h]
    exact ⟨(State.failed_of_engineStands (by simp) d n).trans hfailed, State.ctxReport_keeps_bit _ d n hbit⟩
  · rw [h]
    exact ⟨(congrArg Ctx.failed (State.ctx_of_dies (by simp) d n)).trans hfailed,
      State.evtBit_evts_kept _ _ _ ((State.evtBit_of_pages rfl _ _).trans hbit)⟩

end

section
variable {d n k w : Nat} {s : State} (hr : s.runs d = true) (ht : (s.now - s.pkg.epoch) % 1024000 = 0) (hn : n < 18) (hk : k < 8) (hw : w < 6)
include hr ht hn hk hw

theorem exec_parityScan : exec (.parityScan d [(n, k, w)]) s = done s (if (s.ctx d n).bound then s else s.ctxFail d n k w) := by
  show execParityScan d [(n, k, w)] s = _
  simp [execParityScan, hr, ht, hn, hk, hw, State.each]

theorem parityScan_fails (hlen : (s.die d).eng.ctxs.length = 18) (hb : (s.ctx d n).bound = false) (hf : (s.ctx d n).failed = false) :
    ∃ t, exec (.parityScan d [(n, k, w)]) s = .next t ∧ (t.ctx d n).failed = true ∧ t.evtBit (pageNo (contB d)) 6 = true ∧
      t.slots = s.slots := by
  obtain ⟨hfailed, hbit⟩ := State.ctxFail_fails k w (hlen ▸ hn) hb hf
  have hd := done_next s (s.ctxFail d n k w)
  obtain ⟨hslots, hdies, -⟩ := done_fields hd
  refine ⟨_, ?_, (congrArg Ctx.failed (State.ctx_of_dies hdies d n)).trans hfailed, done_keeps_bit hd _ 6 hbit,
    hslots.trans (s.ctxFail_frame d n k w).1⟩
  rw [exec_parityScan hr ht hn hk hw, hb]
  exact hd

theorem parityScan_skips_bound (hb : (s.ctx d n).bound = true) : ∃ t, exec (.parityScan d [(n, k, w)]) s = .next t ∧ Quiet s t := by
  rw [exec_parityScan hr ht hn hk hw, hb]
  exact done_self s

end

/-! ## The lane (R298) -/

@[simp] theorem State.serveFit_frame (s : State) (n : Nat) :
    (s.serveFit n).frames = s.frames ∧ (s.serveFit n).feram = s.feram ∧ (s.serveFit n).mer = s.mer := by
  unfold State.serveFit
  dsimp only
  split
  · exact ⟨rfl, rfl, rfl⟩
  · split
    · exact ⟨rfl, rfl, rfl⟩
    · simp

/-- The state in which the oldest request has left the lane and is counted. -/
def State.laneTakes (s : State) (d : Nat) (rest : List LaneReq) : State :=
  (s.modDie d (fun x => { x with eng := { x.eng with lane := rest } })).addWrap (contB d + 0x80) 31 16 1

/-- The service of a request: a fit, or a time constant. -/
def State.laneServes (s : State) : LaneReq → State
  | .fit n => s.serveFit n
  | .tau _ _ => s

theorem exec_laneRequestDone {d : Nat} {r : LaneReq} {rest : List LaneReq} {s : State} (hl : (s.die d).eng.lane = r :: rest)
    (hr : s.runs d = true) : exec (.laneRequestDone d) s = done s ((s.laneTakes d rest).laneServes r) := by
  show execLaneRequestDone d s = _
  cases r <;> simp [execLaneRequestDone, hl, hr, State.laneTakes, State.laneServes]

theorem State.laneTakes_lane (s : State) (d : Nat) (rest : List LaneReq) : ((s.laneTakes d rest).die d).eng.lane = rest := by
  have hdie := (State.die_of_dies (t := s.laneTakes d rest) (by simp [State.laneTakes]) d).trans
    (s.die_modDie_self d (fun x => { x with eng := { x.eng with lane := rest } }))
  exact congrArg (fun x => Engine.lane (Die.eng x)) hdie

theorem State.laneServes_keeps (s : State) (r : LaneReq) :
    engineStands (s.laneServes r).dies = engineStands s.dies ∧ (s.laneServes r).frames = s.frames ∧ (s.laneServes r).feram = s.feram ∧
      (s.laneServes r).mer = s.mer ∧ ∀ n, r ≠ .fit n → (s.laneServes r).slot n = s.slot n := by
  cases r with
  | fit m =>
    obtain ⟨hframes, hferam, hmer⟩ := s.serveFit_frame m
    exact ⟨s.serveFit_engineStands m, hframes, hferam, hmer, fun n hn => s.serveFit_other m (fun h => hn (h ▸ rfl))⟩
  | tau _ _ => exact ⟨rfl, rfl, rfl, rfl, fun _ _ => rfl⟩

theorem laneRequestDone_serves {d : Nat} {r : LaneReq} {rest : List LaneReq} {s : State} (hl : (s.die d).eng.lane = r :: rest)
    (hr : s.runs d = true) :
    ∃ t, exec (.laneRequestDone d) s = .next t ∧ (t.die d).eng.lane = rest ∧ t.feram = s.feram ∧ t.frames = s.frames ∧ t.mer = s.mer ∧
      ∀ n, r ≠ .fit n → t.slot n = s.slot n := by
  have hd := done_next s ((s.laneTakes d rest).laneServes r)
  obtain ⟨hslots, hdies, -, hferam, hframes, hmer, -⟩ := done_fields hd
  obtain ⟨hstand, hframes', hferam', hmer', hslot⟩ := (s.laneTakes d rest).laneServes_keeps r
  refine ⟨_, (exec_laneRequestDone hl hr).trans hd, ?_, hferam.trans hferam', hframes.trans hframes', hmer.trans hmer', fun n hn => ?_⟩
  · rw [State.die_of_dies hdies, State.lane_of_engineStands hstand, State.laneTakes_lane]
  · exact (State.slot_of_slots hslots n).trans (hslot n hn)

/-- Settles O44: a tick is `State.tickBegins` and `State.tickRuns`; a write is `Ctx.written` and an overrun `Ctx.overrun`; a context that
fails is `Ctx.spoiled`, and the request that leaves the lane is served by `State.laneServes`. -/
theorem loopDacParityAndLane : Obligations.LoopDacParityAndLane :=
  ⟨fun _ errs _ => loopPeriod_counts errs,
    fun _ _ _ _ hr hb hf ho => ⟨dacWrite_writes hr hb hf ho, fun hphase hlate hc => dacWrite_overruns hr hb hf ho hphase hlate hc⟩,
    fun _ _ _ _ _ hr ht hn hk hw => ⟨parityScan_fails hr ht hn hk hw, parityScan_skips_bound hr ht hn hk hw⟩,
    fun _ _ _ _ => laneRequestDone_serves⟩

end Sys2Proof.Machine
end
